-- ==== Sys2Proof/Word.lean ====
section
/-!
DEFINITION. The word types of the QV7240 model and the sparse table type.
The manual's registers are little-endian words of 8, 16, 32 and 64 bits (00_scope R8).
Counts, indices and TB_0 stamps in nanoseconds are natural numbers.
-/
namespace Sys2Proof

/-- One byte of a register image, a packet or a reply (00_scope R8). -/
abbrev Byte := BitVec 8

/-- A 16-bit free-running count. -/
abbrev W16 := BitVec 16

/-- A 32-bit register or free-running count. -/
abbrev W32 := BitVec 32

/-- A 64-bit register or accumulator. -/
abbrev W64 := BitVec 64

/-- A stamp on TB_0 in nanoseconds since the release of POR_N (12_time R345). -/
abbrev Stamp := Nat

/-- Sparse data by number: a list of entries in rising order of their numbers. -/
abbrev Table (α : Type) := List (Nat × α)

/-- An exact fraction, not reduced; a denominator of 0 stands for no value. -/
structure Frac where
  num : Int
  den : Nat
  deriving DecidableEq, Repr, Inhabited

end Sys2Proof
end

