-- ==== Sys2Proof/Syntax/Common.lean ====
section
/-!
DEFINITION. What every command row carries: the packet header fields of 14_hosts Table 14-4 that the
device acts on, the channel the packet came by, and its two stamps.
-/
namespace Sys2Proof

set_option genSizeOfSpec false
set_option genInjectivity false

/-- The three ways a command packet reaches the device (14_hosts, introduction). -/
inductive Channel where
  | queue
  | inband
  | spi
  deriving DecidableEq, Repr

/-- A command packet as the device takes it (Table 14-4). `recvNs` is the time at which the device
reads it, `doneNs` the time at which the device completes it (R415): the manual bounds the time between
the two and the row says what it was. -/
structure Pkt where
  recvNs : Stamp
  doneNs : Stamp
  part : Nat
  chan : Channel
  tag : Nat
  version : Nat
  paramLen : Nat
  ackPending : Bool
  fence : Bool
  deriving DecidableEq, Repr

/-- TB_0 advances in ticks of 4 ns, and a stamp taken inside the fabric is that of a tick (12_time R345). -/
def tick (t : Stamp) : Stamp := t / 4 * 4

/-- The stamp of a packet's receipt. -/
def Pkt.recv (h : Pkt) : Stamp := tick h.recvNs

/-- The stamp of its completion. -/
def Pkt.done (h : Pkt) : Stamp := tick h.doneNs

/-- The key under which a signature verifies: Nolivik's key of one of the four fused root key hashes, or the key with this SHA-512 (15_security R443). -/
inductive SigKey where
  | root (k : Nat)
  | other (hash : Nat)
  deriving DecidableEq, Repr

/-- The data of a signature: a life-cycle transition, a tamper clearance or a test unlock, each with whether its SERIAL is the device's (15_security R461, R459,
R464). -/
inductive Signed where
  | transition (serialOk : Bool) (src dest lcSeq : Nat)
  | clearance (serialOk : Bool) (seq : Nat)
  | test (serialOk : Bool) (challenge : List Byte)
  deriving DecidableEq, Repr

/-- What 64 bytes of a signature are: the key under which they verify, and the data (DESIGN CHOICE: log entry 180). -/
structure Signature where
  key : SigKey
  data : Signed
  deriving DecidableEq, Repr

end Sys2Proof
end

