-- ==== Sys2Proof/Syntax/AlarmLogic.lean ====
section
/-!
DEFINITION. Operands of the alarm logic rows (09_alarm_logic). Which statements the two controllers execute is no rule
of the manual (R253: neither instruction set is documented), so a row that ends a scan brings, for each controller, its output image, the values that it
assigned and the instances that it called; the arithmetic, the timers and the digest are the model's (R254, R256, R287).
-/
namespace Sys2Proof

set_option genSizeOfSpec false
set_option genInjectivity false

/-- A map entry (Table 09-3): `index` is the stream, comparator, detector, station, slot or item; `chan` and
`group` serve kinds 1 and 2, `chan` also the entry or field within the index; `subst` is the substitute value of a
station entry (R278), and `var` the program variable that the entry binds (R260). -/
structure AlcMapEntry where
  kind : Nat
  index : Nat
  chan : Nat
  group : Nat
  type : Nat
  subst : Nat
  var : Nat
  deriving DecidableEq, Repr

/-- What a forceable point is (R276). Arrays and structures stand in the image element by element, each scalar element a variable of its own; only ALC_PHASOR is one
variable, whose RE and IM are points (R259; log entry 175). -/
inductive PointKind where
  | input (entry : Nat)
  | alarmPin (n : Nat)
  | member (dataset member : Nat)
  | alarmEvent (n : Nat)
  | recTrigger (n : Nat)
  | variable
  | element (var : Nat) (im : Bool)
  deriving DecidableEq, Repr

structure AlcPoint where
  id : Nat
  type : Nat
  kind : PointKind
  deriving DecidableEq, Repr

/-- A variable: Poastade identity, type, initial value, and whether it is retained (R283, R286). -/
structure AlcVar where
  id : Nat
  type : Nat
  init : Nat
  retained : Bool
  deriving DecidableEq, Repr

inductive InstType where
  | ton
  | tof
  | tp
  | rTrig
  | fTrig
  | other (n : Nat)
  deriving DecidableEq, Repr

/-- A function block instance with its preset in ns (R286 to R288); `input` is the variable an edge detector
watches. -/
structure AlcInst where
  id : Nat
  type : InstType
  preset : Nat
  input : Nat
  deriving DecidableEq, Repr

/-- The types of dataset members (R102). -/
inductive DataKind where
  | boolean
  | integer
  | unsigned
  | float32
  | bitString
  | quality
  | dbpos
  | utcTime
  deriving DecidableEq, Repr

/-- The type of a dataset member: a type of R102, or a structure of these one level deep. -/
inductive MemberType where
  | scalar (kind : DataKind)
  | struct (kinds : List DataKind)
  deriving DecidableEq, Repr

/-- What a publication entry sets of its frames (R265): addresses, VLAN and priority, APPID, gocbRef, datSet, goID and confRev, and the members' types. The
references stand as numbers. -/
structure PubHead where
  dstMac : Nat
  dstIp : Nat
  vlan : Nat
  prio : Nat
  appId : Nat
  gocbRef : Nat
  datSet : Nat
  goId : Nat
  confRev : Nat
  types : List MemberType
  deriving DecidableEq, Repr

/-- A publication entry (R265). `safe` holds the members' safe values; `frameLen` the frame's length. -/
structure AlcPub where
  ports : List Nat
  rGoose : Bool
  keySlot : Nat
  tagCode : Nat
  minMs : Nat
  maxMs : Nat
  launchAt : Bool
  offsetUs : Nat
  safe : List Nat
  frameLen : Nat
  head : PubHead
  deriving DecidableEq, Repr

/-- A program image (Table 09-1 and the sections behind it). -/
structure AlcImage where
  magic : Nat
  format : Nat
  flags : Nat
  programId : Nat
  version : Nat
  codeALen : Nat
  codeBLen : Nat
  retainLen : Nat
  workLen : Nat
  retainLayout : Nat
  totalLen : Nat
  errorTask : Nat
  map : List AlcMapEntry
  points : List AlcPoint
  vars : List AlcVar
  insts : List AlcInst
  pubs : List AlcPub
  sites : List Nat
  alInvert : Nat
  alSafe : Nat
  digest : BitVec 512
  deriving DecidableEq, Repr

/-- ALC_LOAD parameters. -/
structure AlcLoad where
  imageLen : Nat
  imageAddr : Nat
  deriving DecidableEq, Repr

/-- What the device read from staging when it verified the image (R258); `sigOk` is the signature check. -/
structure AlcVerify where
  image : AlcImage
  sigOk : Bool
  deriving DecidableEq, Repr

/-- ALC_MODE parameters. -/
structure AlcMode where
  mode : Nat
  restart : Nat
  deriving DecidableEq, Repr

/-- ALC_SCAN_SET parameters (R269). -/
structure AlcScanSet where
  trig : Nat
  group : Nat
  budgetUs : Nat
  periodUs : Nat
  deriving DecidableEq, Repr

/-- ALC_FORCE parameters (R276). -/
structure AlcForce where
  point : Nat
  op : Nat
  type : Nat
  value : Nat
  deriving DecidableEq, Repr

/-- Which set site each controller reaches next in the scan, if any (R275). -/
structure SitesReached where
  a : Option Nat
  b : Option Nat
  deriving DecidableEq, Repr

/-- ALC_BREAK parameters; `next` is what RESUME or STEP runs into. -/
structure AlcBreak where
  op : Nat
  site : Nat
  next : SitesReached
  deriving DecidableEq, Repr

/-- ALC_VAR_READ parameters, with the list of point identities read from LIST_ADDR. -/
structure AlcVarRead where
  count : Nat
  listAddr : Nat
  bufAddr : Nat
  ids : List Nat
  deriving DecidableEq, Repr

/-- How a scan starts: whether both controllers could start the new program or firmware, where a switch or exchange is due
(R285, R511), and what sites they reach. -/
structure ScanStart where
  newCodeOk : Bool
  sites : SitesReached
  deriving DecidableEq, Repr

/-- One controller's output image (R254): alarm pins, dataset members, alarm events with their details, and
recorder triggers. -/
structure OutputImage where
  al : Nat
  members : List (List Nat)
  alarms : Nat
  details : List Nat
  recs : Nat
  deriving DecidableEq, Repr

/-- State of a function block instance (R287, R288). `fresh` marks an edge detector that an exchange brought in, until its first call. -/
structure InstState where
  running : Bool
  start : Stamp
  et : Nat
  q : Bool
  mem : Bool
  fresh : Bool := false
  deriving DecidableEq, Repr

/-- Operations of R256 on integers, and on REAL and LREAL. -/
inductive AlcIntOp where
  | add
  | sub
  | mul
  | div
  | mod
  deriving DecidableEq, Repr

inductive AlcRealOp where
  | add
  | sub
  | mul
  | div
  deriving DecidableEq, Repr

/-- A value that a controller computes: a literal (a constant of the program, or what another function of the library answered), a variable, and the
operations of R256 with the type that they work in. -/
inductive AlcExpr where
  | lit (v : Nat)
  | var (id : Nat)
  | element (var : Nat) (im : Bool)
  | int (op : AlcIntOp) (type : Nat) (a b : AlcExpr)
  | real (op : AlcRealOp) (type : Nat) (a b : AlcExpr)
  | sqrt (type : Nat) (a : AlcExpr)
  | conv (src dst : Nat) (a : AlcExpr)
  deriving DecidableEq, Repr

/-- A call of an instance: a timer or an edge detector with its input, or another block with the state that it leaves. -/
inductive InstCall where
  | input (v : Bool)
  | state (x : InstState)
  deriving DecidableEq, Repr

/-- What one controller has done in a scan: its assignments in order, its calls in order, whether an integer division inside another function of the library
was by zero, and whether its internal self-check has failed (R294). -/
structure CtlResult where
  vars : List (Nat × AlcExpr)
  calls : List (Nat × InstCall)
  arithErr : Bool
  selfFail : Bool
  deriving DecidableEq, Repr

/-- What both controllers answer at the end of a scan. -/
structure ScanResult where
  a : CtlResult
  b : CtlResult
  deriving DecidableEq, Repr

end Sys2Proof
end

