-- ==== Sys2Proof/Syntax/Clusters.lean ====
section
/-!
DEFINITION. Operands of the scheduler rows (11_clusters).
-/
namespace Sys2Proof

set_option genSizeOfSpec false
set_option genInjectivity false

/-- SCH_DRAIN, SCH_RETIRE (flag FORCE) and SCH_REJOIN (flag UNRETIRE) parameters. -/
structure SchCluster where
  cluster : Nat
  flag : Bool
  deriving DecidableEq, Repr

/-- SCH_TRACE_SET parameters, Table 11-6, with the list read from LIST_ADDR. -/
structure SchTraceSet where
  enable : Bool
  kindMask : Nat
  count : Nat
  ringSize : Nat
  ringAddr : Nat
  prodWbAddr : Nat
  listAddr : Nat
  ids : List Nat
  deriving DecidableEq, Repr

/-- SCH_OBS_READ parameters. -/
structure SchObsRead where
  first : Nat
  count : Nat
  clear : Bool
  deriving DecidableEq, Repr

end Sys2Proof
end

