-- ==== Sys2Proof/Syntax/Coherency.lean ====
section
/-!
DEFINITION. Operands of the coherency rows (08_coherency).
-/
namespace Sys2Proof

set_option genSizeOfSpec false
set_option genInjectivity false

/-- COH_SET parameters, Table 08-4. -/
structure CohSet where
  enable : Bool
  exclTu : Bool
  candEvent : Bool
  fnom60 : Bool
  group : Nat
  minBuses : Nat
  winMs : Nat
  persist : Nat
  clearPersist : Nat
  fCoh : BitVec 32
  aCoh : BitVec 32
  fSep : BitVec 32
  fHyst : BitVec 32
  angGrow : BitVec 32
  deriving DecidableEq, Repr

/-- A bus entry, Table 08-5. -/
structure BusEntry where
  stream : Nat
  ch : Nat
  freqCh : Nat
  weight : BitVec 32
  deriving DecidableEq, Repr

/-- COH_BUS_SET parameters. -/
structure CohBusSet where
  first : Nat
  count : Nat
  entries : List BusEntry
  deriving DecidableEq, Repr

/-- COH_BUS_READ parameters. -/
structure CohBusRead where
  first : Nat
  count : Nat
  bufLen : Nat
  bufAddr : Nat
  deriving DecidableEq, Repr

end Sys2Proof
end

