-- ==== Sys2Proof/Syntax/Hosts.lean ====
section
/-!
DEFINITION. Operands of the host rows (14_hosts): partitions, grants, rings, the in-band channel, the
service port and the QV3100 compatibility commands.
-/
namespace Sys2Proof

set_option genSizeOfSpec false
set_option genInjectivity false

/-- HST_PART_CREATE, HST_PART_DELETE, HST_PART_RESET parameters. -/
structure HstPart where
  part : Nat
  force : Bool
  deriving DecidableEq, Repr

/-- HST_GRANT parameters. -/
structure HstGrant where
  kind : Nat
  dest : Nat
  force : Bool
  remove : Bool
  first : Nat
  count : Nat
  deriving DecidableEq, Repr

/-- HST_SHARE_SET parameters (R407). -/
structure HstShareSet where
  part : Nat
  capacity : Nat
  platform : Nat
  sidingsMib : Nat
  poolMib : Nat
  deriving DecidableEq, Repr

/-- HST_PRIV_SET parameters (R408). -/
structure HstPrivSet where
  part : Nat
  priv : Nat
  op : Nat
  deriving DecidableEq, Repr

/-- HST_RO_SHARE parameters (R409). -/
structure HstRoShare where
  kind : Nat
  dest : Nat
  op : Nat
  force : Bool
  first : Nat
  count : Nat
  deriving DecidableEq, Repr

/-- HST_GRANT_QUERY parameters. -/
structure HstGrantQuery where
  part : Nat
  kind : Nat
  first : Nat
  deriving DecidableEq, Repr

/-- HST_EVT_RING_SET parameters (R425). -/
structure HstEvtRingSet where
  ringSize : Nat
  reserve : Nat
  ringAddr : Nat
  deriving DecidableEq, Repr

/-- HST_INBAND_SET parameters (R419). -/
structure HstInbandSet where
  enable : Bool
  keyVerify : Nat
  keyVerifyNext : Nat
  keySign : Nat
  udpPort : Nat
  peerIp : Nat
  deriving DecidableEq, Repr

/-- Q31_STREAM_ADD parameters (R430). -/
structure Q31StreamAdd where
  stream : Nat
  protocol : Nat
  rate : Nat
  channels : Nat
  groupMask : Nat
  timeoutMs : Nat
  deriving DecidableEq, Repr

/-- A message of Table 14-9 as the device receives it. `tagOk` is the outcome of the HMAC-SHA256 check
under the slot that KEY_SEL names, which the device computes from key bytes that no rule shows; `frameOk` says
that magic, version, lengths and reserved bytes have the layout of Table 14-9. For a message of the
service port, `port`, `udpPort`, `srcIp`, `srcPort` and `frameLen` are 0. -/
structure ChannelMsg where
  port : Nat
  udpPort : Nat
  srcIp : Nat
  srcPort : Nat
  frameLen : Nat
  partition : Nat
  keySel : Nat
  seq : Nat
  session : Bool
  frameOk : Bool
  tagOk : Bool
  opcode : Nat
  tag : Nat
  deriving DecidableEq, Repr

/-- What a failed DMA access was serving (R404). -/
inductive DmaTarget where
  | cmdQueue
  | eventRing
  | departureRing (n : Nat)
  | traceRing
  | portRx (port : Nat)
  | portTx (port : Nat)
  | recStream (rec : Nat)
  | buffer (tag : Nat)
  deriving DecidableEq, Repr

end Sys2Proof
end

