-- ==== Sys2Proof/Syntax/Ingest.lean ====
section
/-!
DEFINITION. Operands of the ingest rows (03_ingest): subscriptions, and frames as the port hands them over.
-/
namespace Sys2Proof

set_option genSizeOfSpec false
set_option genInjectivity false

/-- ING_SUB_SET parameters, Table 03-10. Byte strings (svID) are numbers, 0 for all zero. -/
structure IngSubSet where
  stream : Nat
  kind : Nat
  tbSel : Nat
  portMask : Nat
  flags : Nat
  vlan : Nat
  dstMac : Nat
  id : Nat
  srcIp : Nat
  dstIp : Nat
  udpDst : Nat
  udpSrc : Nat
  selfId : Nat
  pmuPort : Nat
  svRate : Nat
  keyCur : Nat
  keyNext : Nat
  rotOverlapMs : Nat
  confRev : Nat
  svId : Nat
  deriving DecidableEq, Repr

/-- ING_SET_LAYOUT parameters. -/
structure IngSetLayout where
  stream : Nat
  count : Nat
  qual : Nat
  types : List Nat
  deriving DecidableEq, Repr

/-- ING_PMU_CMD parameters. -/
structure IngPmuCmd where
  stream : Nat
  cmd : Nat
  deriving DecidableEq, Repr

/-- ING_GET_CONFIG parameters. -/
structure IngGetConfig where
  stream : Nat
  which : Nat
  bufLen : Nat
  bufAddr : Nat
  deriving DecidableEq, Repr

/-- ING_STREAM_STATS parameters. -/
structure IngStreamStats where
  stream : Nat
  clear : Bool
  deriving DecidableEq, Repr

/-- ING_GOOSE_SUB parameters. -/
structure IngGooseSub where
  station : Nat
  kind : Nat
  flags : Nat
  portMask : Nat
  dstMac : Nat
  appId : Nat
  vlan : Nat
  keyCur : Nat
  keyNext : Nat
  srcIp : Nat
  confRev : Nat
  udpDst : Nat
  gocbRef : Nat
  deriving DecidableEq, Repr

/-- The link and network header of a frame, with its arrival stamp (R34, Table 03-1). `vlan` is none for an
untagged or priority-tagged frame; `redSeq` the PRP or HSR sequence number when there is one (R105); `bytes` the frame
without its FCS, which a host may be given (R80). -/
structure FrameHdr where
  port : Nat
  arrival : Stamp
  len : Nat
  dstMac : Nat
  srcMac : Nat
  vlan : Option Nat
  srcIp : Nat
  dstIp : Nat
  udpDst : Nat
  udpSrc : Nat
  redSeq : Option Nat
  bytes : List Byte := []
  deriving DecidableEq, Repr

/-- Session security of an SPDU (R94, R95): whether it is signed, its key ID, its algorithm, its number, and the
outcome of the tag check under the slot with that key ID. -/
structure SpduSec where
  signed : Bool
  keyId : Nat
  alg : Nat
  tagOk : Bool
  number : Nat
  deriving DecidableEq, Repr

/-- A field of a PMU block as received: a 16-bit integer or a binary32 image (Table 03-3). -/
inductive RawField where
  | int16 (v : BitVec 16)
  | float (v : BitVec 32)
  deriving DecidableEq, Repr

/-- How a channel of a layout is sent (Table 03-3, ING_SET_LAYOUT). -/
inductive ChanKind where
  | phasorRect
  | phasorPolar
  | freq
  | rocof
  | analog
  | digital
  deriving DecidableEq, Repr

/-- A channel of a layout: its kind, whether its fields are 16-bit, its scale as a fraction of `scaleNum` by
`scaleDen` in V, A or unit per count, its nominal frequency, and the second part of PHSCALE or ANSCALE, 0 in CFG-2: the angle of a phasor in radians or
the offset of an analogue, as a fraction. -/
structure ChanDef where
  kind : ChanKind
  int16 : Bool
  scaleNum : Int
  scaleDen : Nat
  fnom50 : Bool
  offNum : Int := 0
  offDen : Nat := 1
  deriving DecidableEq, Repr

/-- A layout: the channels of each PMU block, DATA_RATE and CFGCNT (Table 03-3), and the data frame length
that goes with it. -/
structure Layout where
  blocks : List (List ChanDef)
  dataRate : Nat
  cfgCnt : Nat
  frameLen : Nat
  deriving DecidableEq, Repr

/-- One PMU block of a data frame: its STAT word (Table 03-4) and its fields, channel after channel. -/
structure PmuBlock where
  stat : BitVec 16
  fields : List RawField
  deriving DecidableEq, Repr

/-- A further ASDU of an R-SV SPDU (Table 03-8: 1 to 8): what differs from the first. -/
structure RsvAsdu where
  confRev : Nat
  ts : Option Nat
  smpCnt : Nat
  length : Nat
  blocks : List PmuBlock
  deriving DecidableEq, Repr

/-- A C37.118.2 or R-SV data frame. `ts` is its timestamp in ns of grid time, none where no timestamp is carried and
`smpCnt` counts instants; `more` are the ASDUs after the first of an R-SV SPDU. -/
structure DataFrame where
  hdr : FrameHdr
  rsv : Bool
  id : Nat
  svId : Nat
  supported : Bool
  sizeOk : Bool
  chkOk : Bool
  sec : SpduSec
  sim : Bool
  confRev : Nat
  ts : Option Nat
  smpCnt : Nat
  timeQuality : Nat
  length : Nat
  blocks : List PmuBlock
  more : List RsvAsdu := []
  deriving DecidableEq, Repr

/-- A C37.118.2 configuration or header frame: `type` 1 to 3 for CFG-1 to CFG-3, 4 for a header. `contIdx` is CONT_IDX of a CFG-3 frame: 0 for a whole one, else
the place of the fragment, 0xFFFF for the last. `raw` holds the bytes of the frame, those that it adds in a later fragment; `layout` what the whole defines,
which a fragment that is not the last does not tell. -/
structure ConfigFrame where
  hdr : FrameHdr
  id : Nat
  supported : Bool
  sizeOk : Bool
  chkOk : Bool
  type : Nat
  ts : Nat
  layout : Option Layout
  raw : List Byte
  contIdx : Nat := 0
  deriving DecidableEq, Repr

/-- One ASDU of sampled values: its count, confRev, smpRate where it is present, its synchronisation, and eight samples with their quality (Table 03-9). -/
structure SvAsdu where
  smpCnt : Nat
  confRev : Nat
  smpRate : Option Nat
  smpSynch : Nat
  samples : List (Int × BitVec 32)
  deriving DecidableEq, Repr

/-- A sampled-value frame (R99). -/
structure SvFrame where
  hdr : FrameHdr
  appId : Nat
  svId : Nat
  supported : Bool
  formatOk : Bool
  sim : Bool
  second : Nat
  asdus : List SvAsdu
  deriving DecidableEq, Repr

/-- A GOOSE or R-GOOSE frame (R102); `values` are allData's entries as type and value. -/
structure GooseFrame where
  hdr : FrameHdr
  rGoose : Bool
  appId : Nat
  gocbRef : Nat
  supported : Bool
  sec : SpduSec
  sim : Bool
  test : Bool
  dataOk : Bool
  confRev : Nat
  stNum : Nat
  sqNum : Nat
  talMs : Nat
  values : List (Nat × Nat)
  deriving DecidableEq, Repr

end Sys2Proof
end

