-- ==== Sys2Proof/Syntax/Metering.lean ====
section
/-!
DEFINITION. Operands of the metering rows (06_metering).
-/
namespace Sys2Proof

set_option genSizeOfSpec false
set_option genInjectivity false

/-- NRG_POINT_SET parameters, Table 06-7; `ch` holds the six channel indices. -/
structure NrgPointSet where
  mp : Nat
  source : Nat
  wiring : Nat
  unit : Nat
  group : Nat
  enable : Bool
  reverse : Bool
  stream : Nat
  ch : List Nat
  freqStream : Nat
  freqCh : Nat
  sFloor : BitVec 32
  deriving DecidableEq, Repr

/-- NRG_PI_SET parameters. -/
structure NrgPiSet where
  pi : Nat
  form : Nat
  debounce : Nat
  tolPm : Nat
  mp : Nat
  acc : Nat
  checkS : Nat
  weight : Nat
  deriving DecidableEq, Repr

/-- NRG_PO_SET parameters. -/
structure NrgPoSet where
  po : Nat
  enable : Bool
  activeLow : Bool
  mp : Nat
  acc : Nat
  pulseMs : Nat
  gapMs : Nat
  weight : Nat
  deriving DecidableEq, Repr

end Sys2Proof
end

