-- ==== Sys2Proof/Syntax/Oscillation.lean ====
section
/-!
DEFINITION. Operands of the oscillation rows (07_oscillation).
-/
namespace Sys2Proof

set_option genSizeOfSpec false
set_option genInjectivity false

/-- OSC_DET_SET parameters, Table 07-10. -/
structure OscDetSet where
  det : Nat
  src : Nat
  qty : Nat
  group : Nat
  order : Nat
  enable : Bool
  sourceId : Nat
  ch : Nat
  refCh : Nat
  refStream : Nat
  badPm : Nat
  fLow : BitVec 32
  fHigh : BitVec 32
  winMs : Nat
  level : BitVec 32
  hyst : BitVec 32
  persist : Nat
  deriving DecidableEq, Repr

/-- OSC_DET_READ parameters. -/
structure OscDetRead where
  group : Nat
  clear : Bool
  deriving DecidableEq, Repr

/-- OSC_MODAL_SET parameters, Table 07-11. -/
structure OscModalSet where
  band : Nat
  enable : Bool
  refreshEvent : Bool
  tbSel : Nat
  winS : Nat
  modes : Nat
  persistR : Nat
  lagMs : Nat
  zetaMin : BitVec 32
  zetaHyst : BitVec 32
  confMin : BitVec 32
  eMin : BitVec 32
  deriving DecidableEq, Repr

/-- OSC_SIG_SET parameters. -/
structure OscSigSet where
  sig : Nat
  band : Nat
  src : Nat
  qty : Nat
  group : Nat
  sourceId : Nat
  ch : Nat
  refCh : Nat
  refStream : Nat
  deriving DecidableEq, Repr

/-- OSC_MODE_READ parameters, and those of COH_ISLAND_READ. -/
structure BufRead where
  bufLen : Nat
  bufAddr : Nat
  deriving DecidableEq, Repr

/-- A shape entry (Table 07-7). -/
structure ShapeEntry where
  sig : Nat
  ampl : BitVec 32
  phase : Int
  excluded : Bool
  deriving DecidableEq, Repr

/-- A candidate of the identification of one band, as R219 computes it: FREQ, DAMPING, ENERGY and CONFIDENCE in binary32, whether it is a low-frequency
candidate, and its shape. -/
structure ModalCand where
  band : Nat
  freq : BitVec 32
  damping : BitVec 32
  energy : BitVec 32
  confidence : BitVec 32
  lowFreq : Bool
  shape : List ShapeEntry
  deriving DecidableEq, Repr

end Sys2Proof
end

