-- ==== Sys2Proof/Syntax/Platform.lean ====
section
/-!
DEFINITION. Operands of the platform rows (04_platform). An instant is counted in units of 1/1,200 s of its base: every
rate of Table 04-3 divides 1,200, so every instant is exact in this unit (R119).
-/
namespace Sys2Proof

set_option genSizeOfSpec false
set_option genInjectivity false

/-- PLT_GROUP_SET parameters, Table 04-8. -/
structure PltGroupSet where
  group : Nat
  tbSel : Nat
  enable : Bool
  fullHouse : Bool
  delete : Bool
  rate : Nat
  waitUs : Nat
  horizonMs : Nat
  deriving DecidableEq, Repr

/-- PLT_CHAN_POLICY parameters (R131). -/
structure PltChanPolicy where
  stream : Nat
  first : Nat
  count : Nat
  policy : Nat
  holdLimit : Nat
  deriving DecidableEq, Repr

/-- PLT_RING_SET parameters, Table 04-9. -/
structure PltRingSet where
  ring : Nat
  groupMask : Nat
  enable : Bool
  supplements : Bool
  ringSize : Nat
  ringAddr : Nat
  prodWbAddr : Nat
  deriving DecidableEq, Repr

/-- PLT_OUT_SET parameters, Table 04-10. -/
structure PltOutSet where
  out : Nat
  format : Nat
  group : Nat
  port : Nat
  enable : Bool
  answerCmd : Bool
  cfg3 : Bool
  sign : Bool
  delete : Bool
  vlan : Nat
  idCode : Nat
  pcp : Nat
  dscp : Nat
  dstMac : Nat
  udpSrc : Nat
  udpDst : Nat
  key : Nat
  tag : Nat
  dstIp : Nat
  srcIp : Nat
  div : Nat
  deriving DecidableEq, Repr

/-- An entry of an output map: stream, channel, and the image of its binary32 SCALE. -/
structure OutEntry where
  stream : Nat
  ch : Nat
  scale : BitVec 32
  deriving DecidableEq, Repr

/-- PLT_OUT_MAP parameters. -/
structure PltOutMap where
  out : Nat
  block : Nat
  idCode : Nat
  fnom50 : Bool
  stn : Nat
  entries : List OutEntry
  deriving DecidableEq, Repr

/-- PLT_HISTORY_READ parameters; INSTANT is in ns as in the ring records. -/
structure PltHistoryRead where
  group : Nat
  instant : Nat
  bufLen : Nat
  bufAddr : Nat
  deriving DecidableEq, Repr

/-- A command frame received for an output stream (R143). -/
structure OutCommand where
  port : Nat
  srcIp : Nat
  udpDst : Nat
  idCode : Nat
  cmd : Nat
  deriving DecidableEq, Repr

end Sys2Proof
end

