-- ==== Sys2Proof/Syntax/Ports.lean ====
section
/-!
DEFINITION. Operands of the port rows (13_ports).
-/
namespace Sys2Proof

set_option genSizeOfSpec false
set_option genInjectivity false

/-- PRT_MODE_SET parameters, Table 13-11. -/
structure PrtModeSet where
  port : Nat
  mode : Nat
  fec : Nat
  an : Bool
  rxPause : Bool
  txPause : Bool
  half : Bool
  linkSrc : Bool
  inband : Bool
  mgmt : Bool
  maxFrame : Nat
  arrivalTb : Nat
  phyAddr : Nat
  deriving DecidableEq, Repr

/-- PRT_ADDR_SET parameters (R378). -/
structure PrtAddrSet where
  port : Nat
  count : Nat
  mac : Nat
  addrs : List Nat
  deriving DecidableEq, Repr

/-- PRT_FILTER_SET parameters (R390). -/
structure PrtFilterSet where
  port : Nat
  filter : Nat
  enable : Bool
  matchEtype : Bool
  matchDmac : Bool
  matchProto : Bool
  matchUdp : Bool
  etype : Nat
  ipProto : Nat
  udpDst : Nat
  dmac : Nat
  deriving DecidableEq, Repr

/-- PRT_RXRING_SET and PRT_TXRING_SET parameters. -/
structure PrtRingSet where
  port : Nat
  queue : Nat
  enable : Bool
  bufSize : Nat
  entries : Nat
  ringAddr : Nat
  headWbAddr : Nat
  deriving DecidableEq, Repr

/-- PRT_TXQ_SET parameters. -/
structure PrtTxqSet where
  port : Nat
  queue : Nat
  lateMode : Nat
  deriving DecidableEq, Repr

/-- The IP part of a received frame (R379). -/
structure RxIp where
  v6 : Bool
  headerOk : Bool
  udpOk : Bool
  fragment : Bool
  proto : Nat
  src : Nat
  dst : Nat
  udpDst : Nat
  udpSrc : Nat
  deriving DecidableEq, Repr

/-- A frame as it crosses the ball (Table 13-2, Table 13-3). `etype` is the type behind any VLAN or HSR tag, `hsr` whether there is an HSR tag (EtherType 0x892F);
`asks` is the address an ARP request or neighbour solicitation asks for; `pause` the opcode and time of a MAC
control frame; `appId`, `ref` and `idCode` what a subscription matches on; `ptpType` the message type of a frame of EtherType 0x88F7; `bytes` the frame
without its FCS; `damaged` a buffer error or parity mismatch met on its way (R398). -/
structure RxFrame where
  port : Nat
  len : Nat
  fcsOk : Bool
  wholeOctets : Bool
  tagOk : Bool
  vlan : Option Nat
  tagged : Bool
  dst : Nat
  src : Nat
  etype : Nat
  redundant : Bool
  hsr : Bool := false
  asks : Option Nat
  pause : Option (Nat × Nat)
  ip : Option RxIp
  appId : Nat
  ref : Nat
  idCode : Nat
  ptpType : Nat := 0
  bytes : List Byte := []
  damaged : Bool
  deriving DecidableEq, Repr

/-- What the host put into transmit descriptors (Table 13-9): LEN, LAUNCH_NS on TB with LAUNCH, BUF_ADDR, and the bytes that stand there. -/
structure TxDesc where
  len : Nat
  launch : Option (Nat × Nat)
  addr : Nat := 0
  data : List Byte := []
  deriving DecidableEq, Repr

/-- A write of PRT_RX_TAIL: the count, and BUF_ADDR of each descriptor that it posts (Table 13-8). -/
structure RxPost where
  tail : Nat
  bufs : List Nat
  deriving DecidableEq, Repr

end Sys2Proof
end

