-- ==== Sys2Proof/Syntax/Power.lean ====
section
/-!
DEFINITION. Operands of the power, update and configuration rows (17_power_states).
-/
namespace Sys2Proof

set_option genSizeOfSpec false
set_option genInjectivity false

/-- FW_LOAD parameters. -/
structure FwLoad where
  imageLen : Nat
  recovery : Bool
  bank : Nat
  imageAddr : Nat
  deriving DecidableEq, Repr

/-- What the device found when it verified a staged package (R443, R509 step 1). `nolivik` and `owner` are the keys
under which its two signatures over the whole image verify. -/
structure FwVerify where
  formatOk : Bool
  version : Nat
  svn : Nat
  raiseSvn : Bool
  nolivik : Option SigKey
  owner : Option SigKey
  writeOk : Bool
  digest : Nat
  deriving DecidableEq, Repr

/-- CFG_LOAD parameters. -/
structure CfgLoad where
  len : Nat
  addr : Nat
  deriving DecidableEq, Repr

/-- CFG_READ parameters. -/
structure CfgRead where
  which : Nat
  bufLen : Nat
  bufAddr : Nat
  deriving DecidableEq, Repr

/-- A LEVEL condition that a block finds true in start-up (16_safety R492): the ratio of a cluster below rated (FS_40, FS_41), its sentinels apart (FS_42), an alarm
pin off its level (FS_62), a fault of a disciplined base (FS_70). -/
inductive BlockCondition where
  | belowRated (k : Nat)
  | apart (k : Nat)
  | readback (n : Nat)
  | baseFault (tb : Nat)
  deriving DecidableEq, Repr

/-- What the start-up found (15_security R444, R453, 17_power_states R496, R499, R500, Table 17-4). `supplyLost` says that the power-down before it removed VAON
without warning; a bank is good when steps 2 and 3 pass from it; a copy of the bundle is good when its integrity holds, and refused when its
signature or format is; `imageOk` is the outcome of the signature of the ACTIVE image; `keyBad` lists the slots and banks (0 A, 1 B) whose key
records fail, `ckptBad` the sequence numbers of checkpoints that fail. -/
structure StartupReport where
  supplyLost : Bool
  selftestFailed : Nat
  clustersFailed : Nat
  bankAOk : Bool
  bankBOk : Bool
  copyAOk : Bool
  copyBOk : Bool
  copyARefused : Bool
  copyBRefused : Bool
  imageOk : Bool
  keyBad : List (Nat × Nat)
  ckptBad : List Nat
  conditions : List BlockCondition
  deriving DecidableEq, Repr

/-- What the wake found: the parts whose self-test failed, and the slots and banks (0 A, 1 B) whose key records fail as they are reloaded (15_security R438). -/
structure WakeFound where
  selftest : Nat
  keyBad : List (Nat × Nat)
  deriving DecidableEq, Repr

end Sys2Proof
end

