-- ==== Sys2Proof/Syntax/Recorders.lean ====
section
/-!
DEFINITION. Operands of the recorder rows (10_recorders). STATION and NAME are the numbers of their bytes, the first lowest, so 0 for all zero.
-/
namespace Sys2Proof

set_option genSizeOfSpec false
set_option genInjectivity false

/-- REC_SET parameters, Table 10-8. -/
structure RecSet where
  recorder : Nat
  kind : Nat
  autoRearm : Bool
  overwrite : Bool
  streamOut : Bool
  fnom60 : Bool
  avg : Nat
  channels : Nat
  pre : Nat
  post : Nat
  segMib : Nat
  closeMs : Nat
  station : Nat
  deriving DecidableEq, Repr

structure RecChan where
  stream : Nat
  ch : Nat
  comp : Nat
  name : Nat
  deriving DecidableEq, Repr

/-- REC_CHAN_SET parameters. -/
structure RecChanSet where
  recorder : Nat
  first : Nat
  count : Nat
  entries : List RecChan
  deriving DecidableEq, Repr

/-- REC_COND_SET parameters. -/
structure RecCondSet where
  recorder : Nat
  cond : Nat
  edge : Nat
  chan : Nat
  level : BitVec 64
  hyst : BitVec 32
  deriving DecidableEq, Repr

/-- REC_ARM parameters. -/
structure RecArm where
  recorder : Nat
  op : Nat
  deriving DecidableEq, Repr

/-- REC_EXPORT parameters. -/
structure RecExport where
  recorder : Nat
  slot : Nat
  format : Nat
  cfgLen : Nat
  cfgAddr : Nat
  datLen : Nat
  datAddr : Nat
  deriving DecidableEq, Repr

/-- REC_RELEASE parameters. -/
structure RecRelease where
  recorder : Nat
  slot : Nat
  deriving DecidableEq, Repr

/-- REC_STREAM_SET parameters. -/
structure RecStreamSet where
  recorder : Nat
  enable : Bool
  ringSize : Nat
  ringAddr : Nat
  prodWbAddr : Nat
  deriving DecidableEq, Repr

end Sys2Proof
end

