-- ==== Sys2Proof/Syntax/SignalBox.lean ====
section
/-!
DEFINITION. Operands of the signal box rows (16_safety).
-/
namespace Sys2Proof

set_option genSizeOfSpec false
set_option genInjectivity false

/-- FLT_ACK parameters (R479). -/
structure FltAck where
  op : Nat
  cls : Nat
  source : Nat
  clearFirst : Bool
  deriving DecidableEq, Repr

/-- FLT_INJECT parameters (R482). -/
structure FltInject where
  source : Nat
  op : Nat
  react : Bool
  detail : Nat
  deriving DecidableEq, Repr

/-- FLT_HISTORY parameters (R474). -/
structure FltHistory where
  first : Nat
  count : Nat
  deriving DecidableEq, Repr

/-- FLT_SET parameters (R476, R484). -/
structure FltSet where
  errMin : Nat
  ceLimit : Nat
  deriving DecidableEq, Repr

/-- The memory regions of Tables 01-5a and 01-6, over which corrections are counted (R484). -/
inductive MemRegion where
  | platform
  | cluster (n : Nat)
  | waveform
  | detectors
  | metering
  | modal
  | coherency
  | logicPair
  | management
  | security
  | portBuffer (n : Nat)
  | recorderPool
  | sidings
  | history
  | modalHistory
  | traceRings
  | workingStore
  deriving DecidableEq, Repr

/-- What NOR holds that is checked as it is read: a configuration copy (true for B), or the checkpoint of a sequence number (16_safety R470, FS_23). -/
inductive NorItem where
  | copy (b : Bool)
  | checkpoint (seq : Nat)
  deriving DecidableEq, Repr

/-- What the read of a word found. `written` is a write of the word (R485), `integrity` a failed integrity check of NOR data, and `selfCheck` a failed self-check
of the security core (15_security R466). -/
inductive ScrubFinding where
  | clean
  | written
  | corrected
  | uncorrectable
  | integrity (x : NorItem)
  | selfCheck
  deriving DecidableEq, Repr

/-- One word read by the scrub engine or by an access. `unit` names what the word belongs to: the carrier of a slot or siding, a unit, a detector, a point, the
controller (0 ALC_A, 1 ALC_B), the queue of a port (8 for its receive queue), a recorder, a group, a partition's trace ring; `sub` the instant of a slot,
siding or slice, the place in a port's queue, or the record slot (255 for the pre-trigger store); `pts` the channels of the slot or the points of
the record. `scrub` is false for a functional access; `inSlice` says that a checker under self-test met it; `passEnd` that the word is the last of its
pass, whose duration in ms is `passMs`. -/
structure ScrubStep where
  region : MemRegion
  addr : Nat
  unit : Nat
  sub : Nat
  pts : List Nat
  finding : ScrubFinding
  scrub : Bool
  inSlice : Bool
  passEnd : Bool
  passMs : Nat
  deriving DecidableEq, Repr

/-- The blocks whose handshakes are watched (R29, Table 16-2 class 2 and the clusters and ports). -/
inductive StalledBlock where
  | ingest
  | platform
  | engines
  | logicOutput
  | management
  | dma
  | cluster (n : Nat)
  | port (n : Nat)
  deriving DecidableEq, Repr

/-- A stall; `inSlice` says that its monitor's test slice met it (R487). -/
structure Stall where
  block : StalledBlock
  inSlice : Bool
  deriving DecidableEq, Repr

/-- What a supply or temperature monitor reads, in mV or 0.1 °C, and whether in its test slice (R487). -/
structure Reading where
  value : Nat
  inSlice : Bool
  deriving DecidableEq, Repr

/-- Whether the channels of the ERR pair agree, compared in a test slice or not (R480, R487). -/
structure ErrCompare where
  agree : Bool
  inSlice : Bool
  deriving DecidableEq, Repr

end Sys2Proof
end

