-- ==== Sys2Proof/Syntax/Time.lean ====
section
/-!
DEFINITION. Operands of the time rows (12_time). Source times are in ns of the PTP timescale; captures are TB_0 stamps to 1 ns (R345).
-/
namespace Sys2Proof

set_option genSizeOfSpec false
set_option genInjectivity false

/-- TB_REF_SET parameters; the four figures are binary32 images. -/
structure TbRefSet where
  refSel : Nat
  rY : BitVec 32
  rD : BitVec 32
  xY : BitVec 32
  xD : BitVec 32
  deriving DecidableEq, Repr

/-- TB_SET parameters, Table 12-7. -/
structure TbSet where
  base : Nat
  source : Nat
  irigLocal : Bool
  todFromIrig : Bool
  ppsOut : Bool
  disable : Bool
  jumpNs : Nat
  jumpCount : Nat
  acqCount : Nat
  lossS : Nat
  utcOffset : Nat
  srcAccNs : Nat
  deriving DecidableEq, Repr

/-- TB_PTP_SET parameters. -/
structure TbPtpSet where
  base : Nat
  mode : Nat
  profile : Nat
  domain : Nat
  portMask : Nat
  oneStepMask : Nat
  priority1 : Nat
  priority2 : Nat
  vlan : Nat
  pcp : Nat
  deriving DecidableEq, Repr

/-- TB_RESTEP parameters. -/
structure TbRestep where
  base : Nat
  how : Nat
  delta : Int
  deriving DecidableEq, Repr

/-- TB_TOD_SET parameters. -/
structure TbTodSet where
  base : Nat
  leap : Nat
  seconds : Nat
  deriving DecidableEq, Repr

/-- TB_PORT_DELAY_SET parameters. -/
structure TbPortDelaySet where
  port : Nat
  rxNs : Nat
  txNs : Nat
  deriving DecidableEq, Repr

/-- A Sync message: `cap` is its message timestamp point, `origin` its origin timestamp with every correction field
applied; a two-step Sync carries no usable origin. -/
structure PtpSync where
  port : Nat
  domain : Nat
  source : Nat
  seq : Nat
  cap : Stamp
  twoStep : Bool
  origin : Int
  deriving DecidableEq, Repr

/-- A Follow_Up message: the precise origin with every correction field applied. -/
structure PtpFollowUp where
  port : Nat
  domain : Nat
  source : Nat
  seq : Nat
  origin : Int
  deriving DecidableEq, Repr

/-- An Announce message (IEEE 1588-2019); `source` is the sender's port identity, 65,536 times its clockIdentity plus its port number, and `altTlv` the bytes of
an ALTERNATE_TIME_OFFSET_INDICATOR TLV, none without one. -/
structure PtpAnnounce where
  port : Nat
  domain : Nat
  source : Nat
  gmId : Nat
  priority1 : Nat
  clockClass : Nat
  accuracy : Nat
  variance : Nat
  priority2 : Nat
  steps : Nat
  utcValid : Bool
  utcOffset : Nat
  leap61 : Bool
  leap59 : Bool
  altTlv : List Byte
  deriving DecidableEq, Repr

/-- A peer delay message: a request that is answered, or a completed exchange with the round trip between the device's
two stamps and the peer's turnaround, in ns. -/
inductive PtpPdelay where
  | request (port domain : Nat)
  | exchange (port domain : Nat) (roundTrip turnaround : Int) (twoStep : Bool)
  deriving DecidableEq, Repr

/-- An IRIG-B frame (R360): the on-time edge, whether all pulse widths decode, the IEEE 1344 extension with its
parity, time quality, time offset in ns, which added to the coded time gives UTC, and leap bits, and the coded time, in ns since 1970. -/
structure IrigFrame where
  cap : Stamp
  widthsOk : Bool
  hasYear : Bool
  ext1344 : Bool
  parityOk : Bool
  tq : Nat
  utcNs : Nat
  localNs : Int
  leapPending : Bool
  leapDelete : Bool
  dst : Nat
  deriving DecidableEq, Repr

/-- What a PTP_MESSAGE_TRANSMIT sends. -/
inductive PtpKind where
  | sync
  | announce
  | pdelayReq
  deriving DecidableEq, Repr

end Sys2Proof
end

