-- ==== Sys2Proof/Syntax/Timetable.lean ====
section
/-!
DEFINITION. Operands of the timetable rows (02_timetable).
-/
namespace Sys2Proof

set_option genSizeOfSpec false
set_option genInjectivity false

/-- TT_PROPOSE parameters, Table 02-7. `flags` and `rsvd` are carried whole because R534 refuses a bit of
them that is not 0. -/
structure TtPropose where
  stream : Nat
  protocol : Nat
  priority : Nat
  rate : Nat
  channels : Nat
  burst : Nat
  flags : Nat
  portMask : Nat
  deadlineUs : Nat
  groupMask : Nat
  clusterMask : Nat
  timeoutMs : Nat
  outRate : Nat
  outChannels : Nat
  rsvd : Nat
  deriving DecidableEq, Repr

/-- TT_REPLACE parameters. -/
structure TtReplace where
  contract : Nat
  clusterMask : Nat
  deriving DecidableEq, Repr

/-- TT_SET_PROFILE parameters. -/
structure TtSetProfile where
  profile : Nat
  force : Bool
  deriving DecidableEq, Repr

/-- TT_LIST parameters. -/
structure TtList where
  start : Nat
  count : Nat
  filter : Nat
  deriving DecidableEq, Repr

end Sys2Proof
end

