-- ==== Sys2Proof/Syntax/Waveform.lean ====
section
/-!
DEFINITION. Operands of the waveform chain rows (05_waveform_chain).
-/
namespace Sys2Proof

set_option genSizeOfSpec false
set_option genInjectivity false

/-- WCH_UNIT_SET parameters, Table 05-10. -/
structure WchUnitSet where
  unit : Nat
  stream : Nat
  enable : Bool
  undercoatEn : Bool
  clear : Bool
  fnom60 : Bool
  cls : Nat
  phase : Nat
  outSel : Nat
  trackRef : Nat
  gapFill : Nat
  stepLevel : Nat
  trackMin : BitVec 32
  timeCorrNs : Int
  deriving DecidableEq, Repr

/-- WCH_CMP_SET parameters. -/
structure WchCmpSet where
  cmp : Nat
  qty : Nat
  mode : Nat
  level : BitVec 32
  hyst : BitVec 32
  persist : Nat
  finishOnly : Bool
  deriving DecidableEq, Repr

/-- WCH_CMP_READ parameters. -/
structure WchCmpRead where
  group : Nat
  clear : Bool
  deriving DecidableEq, Repr

/-- WCH_HX_SET parameters. -/
structure WchHxSet where
  hx : Nat
  input : Nat
  unit : Nat
  enable : Bool
  deriving DecidableEq, Repr

end Sys2Proof
end

