-- ==== Sys2Proof/Syntax/Bundle.lean ====
section
/-!
DEFINITION. A configuration bundle (17_power_states R500, R501, R513): the settings that start-up applies. Its byte layout is
Poastade's and is given nowhere, so a bundle is the list of the settings it makes, each as the command that would make it.
-/
namespace Sys2Proof

set_option genSizeOfSpec false
set_option genInjectivity false

/-- One setting, as the command that would make it; the TYPEs of a block's channels stand with its map, since start-up has no layouts. -/
inductive Setting where
  | part (p : HstPart)
  | grant (p : HstGrant)
  | share (p : HstShareSet)
  | priv (p : HstPrivSet)
  | roShare (p : HstRoShare)
  | inband (p : HstInbandSet)
  | udpPort (port : Nat)
  | flt (p : FltSet)
  | tamperMode (source mode : Nat)
  | sub (p : IngSubSet)
  | layout (p : IngSetLayout)
  | gooseSub (p : IngGooseSub)
  | forgetMs (ms : Nat)
  | portMode (p : PrtModeSet)
  | portAddr (p : PrtAddrSet)
  | portFilter (p : PrtFilterSet)
  | portTxq (p : PrtTxqSet)
  | ref (p : TbRefSet)
  | base (p : TbSet)
  | ptp (p : TbPtpSet)
  | portDelay (p : TbPortDelaySet)
  | group (p : PltGroupSet)
  | policy (p : PltChanPolicy)
  | out (p : PltOutSet)
  | outMap (p : PltOutMap) (types : List Nat)
  | unit (p : WchUnitSet)
  | cmp (p : WchCmpSet)
  | hx (p : WchHxSet)
  | point (p : NrgPointSet)
  | pulseIn (p : NrgPiSet)
  | pulseOut (p : NrgPoSet)
  | det (p : OscDetSet)
  | modal (p : OscModalSet)
  | sig (p : OscSigSet)
  | coh (p : CohSet)
  | buses (p : CohBusSet)
  | recSet (p : RecSet)
  | recChan (p : RecChanSet)
  | recCond (p : RecCondSet)
  | scan (p : AlcScanSet)
  | startMode (m : Nat)
  | recoverySlot (slot : Nat)
  deriving DecidableEq, Repr

/-- A setting with the partition in whose name it is made. -/
structure BundleSetting where
  part : Nat
  setting : Setting
  deriving DecidableEq, Repr

/-- A bundle: its SEQ, length in bytes, operating profile (0 Fixed, 1 Live, 2 Placement), settings, and the owner public key that it carries, by its SHA-512
(R513). -/
structure Bundle where
  seq : Nat
  len : Nat
  profile : Nat
  settings : List BundleSetting
  ownerKey : Nat := 0
  deriving DecidableEq, Repr

/-- What CFG_LOAD_VERIFIED found in the copy it wrote; `signer` is the key under which its signature verifies. -/
structure CfgVerify where
  bundle : Bundle
  formatOk : Bool
  signer : Option SigKey
  deriving DecidableEq, Repr

end Sys2Proof
end

