-- ==== Sys2Proof/Syntax/Security.lean ====
section
/-!
DEFINITION. Operands of the security rows (15_security).
-/
namespace Sys2Proof

set_option genSizeOfSpec false
set_option genInjectivity false

/-- KEY_IMPORT parameters, Table 15-10. -/
structure KeyImport where
  slot : Nat
  format : Nat
  attr : Nat
  type : Nat
  alg : Nat
  exportable : Bool
  force : Bool
  wrapSlot : Nat
  keyId : Nat
  len : Nat
  key : List Byte
  deriving DecidableEq, Repr

/-- KEY_GENERATE parameters. -/
structure KeyGenerate where
  slot : Nat
  attr : Nat
  type : Nat
  alg : Nat
  exportable : Bool
  force : Bool
  keyId : Nat
  deriving DecidableEq, Repr

/-- KEY_DERIVE parameters (R439). -/
structure KeyDerive where
  src : Nat
  dst : Nat
  attr : Nat
  type : Nat
  alg : Nat
  exportable : Bool
  force : Bool
  bindMask : Nat
  keyId : Nat
  salt : List Byte
  info : List Byte
  deriving DecidableEq, Repr

/-- KEY_WRAP parameters. -/
structure KeyWrap where
  slot : Nat
  wrapSlot : Nat
  deriving DecidableEq, Repr

/-- KEY_DELETE parameters. -/
structure KeyDelete where
  slot : Nat
  force : Bool
  deriving DecidableEq, Repr

/-- ATT_RESPOND parameters (R450). -/
structure AttRespond where
  slot : Nat
  challenge : List Byte
  deriving DecidableEq, Repr

/-- LC_TRANSITION parameters; `sig` is none for 64 bytes that are no signature. -/
structure LcTransition where
  op : Nat
  dest : Nat
  ownerBoot : Bool
  lcSeq : Nat
  sig : Option Signature
  deriving DecidableEq, Repr

/-- TAMPER_CLEAR parameters. -/
structure TamperClear where
  seq : Nat
  sig : Option Signature
  deriving DecidableEq, Repr

/-- LOG_READ parameters. -/
structure LogRead where
  log : Nat
  first : Nat
  bufLen : Nat
  bufAddr : Nat
  deriving DecidableEq, Repr

end Sys2Proof
end

