-- ==== Sys2Proof/Syntax.lean ====
section
/-!
DEFINITION. The commands and events of the QV7240 block: one constructor per row of spec/opcode_table.json.
A host command carries its packet `h` and its parameters; an event carries its TB_0 stamp `t` and what
the outside world brought with it.
-/
namespace Sys2Proof

set_option genSizeOfSpec false
set_option genInjectivity false

/-- One row of the table of operations and events each. -/
inductive Instr where
  /-- DEV_IDENTIFY (R2): Command returning part, grade, stepping, life-cycle state, partition, profile, firmware and uptime. -/
  | devIdentify (h : Pkt)
  /-- HST_PART_CREATE (R405): Command that makes an ABSENT partition CREATED with no resources and zero shares. -/
  | hstPartCreate (h : Pkt) (p : HstPart)
  /-- HST_PART_DELETE (R406): Command that deletes a partition, returning its resources to the owner partition when FORCE is set. -/
  | hstPartDelete (h : Pkt) (p : HstPart)
  /-- HST_PART_RESET (R498): Command that starts a partition reset of a partition. -/
  | hstPartReset (h : Pkt) (p : HstPart)
  /-- HST_GRANT (R406): Command that moves exclusive resources to another partition, resetting any in use when FORCE is set. -/
  | hstGrant (h : Pkt) (p : HstGrant)
  /-- HST_SHARE_SET (R407): Command that sets a partition's capacity, platform, sidings and recorder pool shares. -/
  | hstShareSet (h : Pkt) (p : HstShareSet)
  /-- HST_PRIV_SET (R408): Command that gives or takes OBSERVE_FULL, TIME_OWNER or SAFETY. -/
  | hstPrivSet (h : Pkt) (p : HstPrivSet)
  /-- HST_RO_SHARE (R409): Command that gives or removes a read-only share grant. -/
  | hstRoShare (h : Pkt) (p : HstRoShare)
  /-- HST_GRANT_QUERY (R405): Command returning a partition's shares, privileges and held and shared maps. -/
  | hstGrantQuery (h : Pkt) (p : HstGrantQuery)
  /-- HST_EVT_RING_SET (R425): Command that sets, resets or disables a partition's event ring. -/
  | hstEvtRingSet (h : Pkt) (p : HstEvtRingSet)
  /-- HST_INBAND_SET (R419): Command that sets a partition's in-band channel keys, port and peer, restarting the replay window. -/
  | hstInbandSet (h : Pkt) (p : HstInbandSet)
  /-- DEV_RESET (R497): Command that makes a device reset without a reply. -/
  | devReset (h : Pkt) (kind : Nat)
  /-- HST_STAGE_WRITE (R423): Command that writes data into the partition's staging buffer. -/
  | hstStageWrite (h : Pkt) (offset len : Nat) (data : List Byte)
  /-- HST_STAGE_READ (R423): Command that returns data from the partition's staging buffer. -/
  | hstStageRead (h : Pkt) (offset len : Nat)
  /-- HST_NOP (R418): Command that returns its parameters unchanged. -/
  | hstNop (h : Pkt) (data : List Byte)
  /-- TT_PROPOSE (R56): Command that checks, admits and places a contract or reports the first refusal. -/
  | ttPropose (h : Pkt) (p : TtPropose)
  /-- TT_RELEASE (R51): Command that releases a contract and frees its record and resources. -/
  | ttRelease (h : Pkt) (contract : Nat)
  /-- TT_QUERY (R530): Command returning a contract's state and settings. -/
  | ttQuery (h : Pkt) (contract : Nat)
  /-- TT_REPLACE (R56): Command that places a contract afresh by the admission procedure. -/
  | ttReplace (h : Pkt) (p : TtReplace)
  /-- TT_SET_PROFILE (R69): Command that changes the operating profile under Table 02-6a. -/
  | ttSetProfile (h : Pkt) (p : TtSetProfile)
  /-- TT_CHECK_REMOVAL (R72): Command that reports in advance the outcome of removing a cluster. -/
  | ttCheckRemoval (h : Pkt) (cluster : Nat)
  /-- TT_LIST (R530): Command listing the contracts the caller owns or may see. -/
  | ttList (h : Pkt) (p : TtList)
  /-- ING_SUB_SET (R79): Command that creates or rewrites a stream subscription entry. -/
  | ingSubSet (h : Pkt) (p : IngSubSet)
  /-- ING_SUB_CLEAR (R78): Command that removes a subscription entry and releases its keys. -/
  | ingSubClear (h : Pkt) (stream : Nat)
  /-- ING_SET_LAYOUT (R90): Command that sets the dataset layout of an R-SV stream from T_b. -/
  | ingSetLayout (h : Pkt) (p : IngSetLayout)
  /-- ING_PMU_CMD (R88): Command that queues a C37.118.2 command frame to a PMU. -/
  | ingPmuCmd (h : Pkt) (p : IngPmuCmd)
  /-- ING_GET_CONFIG (R89): Command that copies a stored configuration or header frame to the host. -/
  | ingGetConfig (h : Pkt) (p : IngGetConfig)
  /-- ING_STREAM_STATS (R84): Command returning and optionally clearing a stream's counters in one snapshot. -/
  | ingStreamStats (h : Pkt) (p : IngStreamStats)
  /-- ING_GOOSE_SUB (R104): Command that sets or clears a remote station entry, leaving it WAITING. -/
  | ingGooseSub (h : Pkt) (p : IngGooseSub)
  /-- PLT_GROUP_SET (R120): Command that creates, changes, enables, disables or deletes an output group. -/
  | pltGroupSet (h : Pkt) (p : PltGroupSet)
  /-- PLT_GROUP_QUERY (R118): Command returning an output group's state and settings. -/
  | pltGroupQuery (h : Pkt) (group : Nat)
  /-- PLT_CHAN_POLICY (R131): Command that sets the substitution policy of channels. -/
  | pltChanPolicy (h : Pkt) (p : PltChanPolicy)
  /-- PLT_RING_SET (R139): Command that sets a partition's departure ring. -/
  | pltRingSet (h : Pkt) (p : PltRingSet)
  /-- PLT_OUT_SET (R141): Command that sets an output stream. -/
  | pltOutSet (h : Pkt) (p : PltOutSet)
  /-- PLT_OUT_MAP (R142): Command that sets a block of an output stream's map. -/
  | pltOutMap (h : Pkt) (p : PltOutMap)
  /-- PLT_HISTORY_READ (R43): Command that copies a departed slice from the departure history. -/
  | pltHistoryRead (h : Pkt) (p : PltHistoryRead)
  /-- WCH_UNIT_SET (R163): Command that binds and sets a waveform unit. -/
  | wchUnitSet (h : Pkt) (p : WchUnitSet)
  /-- WCH_UNIT_QUERY (R171): Command returning a waveform unit's state, mode and tracking. -/
  | wchUnitQuery (h : Pkt) (unit : Nat)
  /-- WCH_CMP_SET (R176): Command that sets a threshold comparator and resets it to released. -/
  | wchCmpSet (h : Pkt) (p : WchCmpSet)
  /-- WCH_CMP_READ (R177): Command returning comparator states, changes and stamps, optionally clearing changes. -/
  | wchCmpRead (h : Pkt) (p : WchCmpRead)
  /-- WCH_HX_SET (R174): Command that takes or frees a sideband tap. -/
  | wchHxSet (h : Pkt) (p : WchHxSet)
  /-- NRG_POINT_SET (R183): Command that sets a metering point's source and wiring. -/
  | nrgPointSet (h : Pkt) (p : NrgPointSet)
  /-- NRG_POINT_READ (R192): Command returning a metering point's results and accumulators in one snapshot. -/
  | nrgPointRead (h : Pkt) (mp : Nat)
  /-- NRG_ACC_CLEAR (R192): Command that clears a point's accumulators and restarts accumulation. -/
  | nrgAccClear (h : Pkt) (mp : Nat)
  /-- NRG_PI_SET (R194): Command that sets a pulse input and its cross-check. -/
  | nrgPiSet (h : Pkt) (p : NrgPiSet)
  /-- NRG_PO_SET (R197): Command that sets a pulse output, zeroing spill and pending. -/
  | nrgPoSet (h : Pkt) (p : NrgPoSet)
  /-- OSC_DET_SET (R213): Command that sets or turns off a band-energy detector. -/
  | oscDetSet (h : Pkt) (p : OscDetSet)
  /-- OSC_DET_READ (R208): Command returning detector states, amplitudes and change stamps. -/
  | oscDetRead (h : Pkt) (p : OscDetRead)
  /-- OSC_MODAL_SET (R216): Command that sets one band of the modal engine. -/
  | oscModalSet (h : Pkt) (p : OscModalSet)
  /-- OSC_SIG_SET (R218): Command that sets or clears a modal signal. -/
  | oscSigSet (h : Pkt) (p : OscSigSet)
  /-- OSC_MODE_READ (R223): Command that copies the latest modal refresh to the host. -/
  | oscModeRead (h : Pkt) (p : BufRead)
  /-- COH_SET (R247): Command that sets the coherency engine. -/
  | cohSet (h : Pkt) (p : CohSet)
  /-- COH_BUS_SET (R247): Command that sets or clears coherency buses, whole or not at all. -/
  | cohBusSet (h : Pkt) (p : CohBusSet)
  /-- COH_ISLAND_READ (R245): Command that copies the latest island evaluation to the host. -/
  | cohIslandRead (h : Pkt) (p : BufRead)
  /-- COH_BUS_READ (R245): Command that copies per-bus coherency state to the host. -/
  | cohBusRead (h : Pkt) (p : CohBusRead)
  /-- ALC_LOAD (R258): Command that copies a program image into staging for verification. -/
  | alcLoad (h : Pkt) (p : AlcLoad)
  /-- ALC_EXCHANGE (R285): Command that exchanges the ACTIVE program for the STANDBY image. -/
  | alcExchange (h : Pkt) (dryRun : Bool)
  /-- ALC_MODE (R273): Command that moves the logic pair to STOP or RUN. -/
  | alcMode (h : Pkt) (p : AlcMode)
  /-- ALC_SCAN_SET (R269): Command that sets the scan trigger, group, budget and period. -/
  | alcScanSet (h : Pkt) (p : AlcScanSet)
  /-- ALC_FORCE (R276): Command that sets, clears or clears all forces. -/
  | alcForce (h : Pkt) (p : AlcForce)
  /-- ALC_BREAK (R275): Command that sets or clears breakpoints, or resumes or steps from HOLD. -/
  | alcBreak (h : Pkt) (p : AlcBreak)
  /-- ALC_QUERY (R269): Command returning the logic pair's state and program identities. -/
  | alcQuery (h : Pkt)
  /-- ALC_VAR_READ (R276): Command that copies variable values taken at one scan boundary. -/
  | alcVarRead (h : Pkt) (p : AlcVarRead)
  /-- ALC_CHECKPOINT (R281): Command that requests a checkpoint of retained data. -/
  | alcCheckpoint (h : Pkt)
  /-- REC_SET (R301): Command that sets a recorder's kind, sizes and segment. -/
  | recSet (h : Pkt) (p : RecSet)
  /-- REC_CHAN_SET (R295): Command that sets recorder channels, whole or not at all. -/
  | recChanSet (h : Pkt) (p : RecChanSet)
  /-- REC_COND_SET (R305): Command that sets a recorder trigger condition. -/
  | recCondSet (h : Pkt) (p : RecCondSet)
  /-- REC_ARM (R304): Command that arms, disarms or triggers a recorder. -/
  | recArm (h : Pkt) (p : RecArm)
  /-- REC_QUERY (R304): Command returning a recorder's state and held records. -/
  | recQuery (h : Pkt) (rcd : Nat)
  /-- REC_EXPORT (R312): Command that exports a held record as COMTRADE or raw. -/
  | recExport (h : Pkt) (p : RecExport)
  /-- REC_RELEASE (R304): Command that frees held record slots. -/
  | recRelease (h : Pkt) (p : RecRelease)
  /-- REC_STREAM_SET (R303): Command that sets a recorder's stream ring. -/
  | recStreamSet (h : Pkt) (p : RecStreamSet)
  /-- SCH_DRAIN (R334): Command that drains a cluster after re-placing its contracts. -/
  | schDrain (h : Pkt) (p : SchCluster)
  /-- SCH_REJOIN (R323): Command that reinitialises and self-tests a cluster to rejoin service. -/
  | schRejoin (h : Pkt) (p : SchCluster)
  /-- SCH_RETIRE (R334): Command that removes and retires a cluster. -/
  | schRetire (h : Pkt) (p : SchCluster)
  /-- SCH_TRACE_SET (R337): Command that sets a partition's scheduling trace ring. -/
  | schTraceSet (h : Pkt) (p : SchTraceSet)
  /-- SCH_OBS_READ (R338): Command returning cluster observation entries, optionally clearing maxima. -/
  | schObsRead (h : Pkt) (p : SchObsRead)
  /-- TB_REF_SET (R362): Command that selects the frequency reference and its uncertainty figures. -/
  | tbRefSet (h : Pkt) (p : TbRefSet)
  /-- TB_SET (R353): Command that sets a disciplined base's source and limits. -/
  | tbSet (h : Pkt) (p : TbSet)
  /-- TB_PTP_SET (R358): Command that sets a base's PTP instance. -/
  | tbPtpSet (h : Pkt) (p : TbPtpSet)
  /-- TB_RESTEP (R353): Command that steps a base by a delta or to its next sample. -/
  | tbRestep (h : Pkt) (p : TbRestep)
  /-- TB_TOD_SET (R361): Command that gives a PPS base its time of day or a leap announcement. -/
  | tbTodSet (h : Pkt) (p : TbTodSet)
  /-- TB_PORT_DELAY_SET (R364): Command that sets a port's external receive and transmit delays. -/
  | tbPortDelaySet (h : Pkt) (p : TbPortDelaySet)
  /-- TB_QUERY (R354): Command returning a base's state, error and source information. -/
  | tbQuery (h : Pkt) (base : Nat)
  /-- PRT_MODE_SET (R373): Command that sets a port's mode, FEC, flags and frame size. -/
  | prtModeSet (h : Pkt) (p : PrtModeSet)
  /-- PRT_ADDR_SET (R378): Command that sets a port's MAC and IP addresses. -/
  | prtAddrSet (h : Pkt) (p : PrtAddrSet)
  /-- PRT_FILTER_SET (R390): Command that sets a host filter of a port. -/
  | prtFilterSet (h : Pkt) (p : PrtFilterSet)
  /-- PRT_RXRING_SET (R391): Command that sets a partition's receive ring on a port. -/
  | prtRxringSet (h : Pkt) (p : PrtRingSet)
  /-- PRT_TXRING_SET (R393): Command that sets a partition's transmit ring on a port. -/
  | prtTxringSet (h : Pkt) (p : PrtRingSet)
  /-- PRT_TXQ_SET (R365): Command that sets a transmit queue's late mode. -/
  | prtTxqSet (h : Pkt) (p : PrtTxqSet)
  /-- PRT_QUERY (R372): Command returning a port's mode, link state and speed. -/
  | prtQuery (h : Pkt) (port : Nat)
  /-- PRT_CNT_READ (R395): Command returning a snapshot of a port's counters. -/
  | prtCntRead (h : Pkt) (port : Nat)
  /-- KEY_IMPORT (R452): Command that imports a clear or wrapped key into a slot as a key update. -/
  | keyImport (h : Pkt) (p : KeyImport)
  /-- KEY_GENERATE (R436): Command that generates a random key into a slot. -/
  | keyGenerate (h : Pkt) (p : KeyGenerate)
  /-- KEY_DERIVE (R439): Command that derives a key by HKDF into a slot. -/
  | keyDerive (h : Pkt) (p : KeyDerive)
  /-- KEY_WRAP (R435): Command returning an exportable key wrapped under a WRAP slot. -/
  | keyWrap (h : Pkt) (p : KeyWrap)
  /-- KEY_DELETE (R437): Command that empties a key slot. -/
  | keyDelete (h : Pkt) (p : KeyDelete)
  /-- KEY_QUERY (R454): Command returning a slot's state, clearing an UPDATE_LOST mark. -/
  | keyQuery (h : Pkt) (slot : Nat)
  /-- ATT_QUOTE (R449): Command returning a signed attestation quote. -/
  | attQuote (h : Pkt) (nonce : List Byte)
  /-- ATT_RESPOND (R450): Command returning an HMAC attestation response to a challenge. -/
  | attRespond (h : Pkt) (p : AttRespond)
  /-- LC_TRANSITION (R462): Command that makes a life-cycle transition, issues a test challenge or unlocks test modes. -/
  | lcTransition (h : Pkt) (p : LcTransition)
  /-- TAMPER_CLEAR (R459): Command that clears TAMPER_LATCHED under an owner signature. -/
  | tamperClear (h : Pkt) (p : TamperClear)
  /-- LOG_READ (R460): Command that copies measurement, tamper, life-cycle log entries or the certificate. -/
  | logRead (h : Pkt) (p : LogRead)
  /-- FLT_READ (R475): Command returning a snapshot of the signal box state. -/
  | fltRead (h : Pkt)
  /-- FLT_ACK (R479): Command that acknowledges fault records and may clear FLT_FIRST. -/
  | fltAck (h : Pkt) (p : FltAck)
  /-- FLT_INJECT (R482): Command that sets or clears a fault source's force bit. -/
  | fltInject (h : Pkt) (p : FltInject)
  /-- FLT_HISTORY (R474): Command returning records of the fault history queue. -/
  | fltHistory (h : Pkt) (p : FltHistory)
  /-- FLT_SELFTEST (R486): Command that starts a requested self-test. -/
  | fltSelftest (h : Pkt) (parts : Nat)
  /-- FLT_SET (R476): Command that sets ERR_MIN and CE_LIMIT. -/
  | fltSet (h : Pkt) (p : FltSet)
  /-- PWR_STABLED (R504): Command that starts entry to Stabled. -/
  | pwrStabled (h : Pkt) (force : Bool)
  /-- PWR_WAKE (R506): Command that requests a wake from Stabled. -/
  | pwrWake (h : Pkt)
  /-- PWR_QUERY (R514): Command returning power state, banks and timing. -/
  | pwrQuery (h : Pkt)
  /-- FW_LOAD (R509): Command that writes a firmware package into a bank for verification. -/
  | fwLoad (h : Pkt) (p : FwLoad)
  /-- FW_CLUSTER_UPDATE (R509): Command that loads a drained cluster's firmware from the running bank. -/
  | fwClusterUpdate (h : Pkt) (cluster : Nat)
  /-- FW_SWITCH (R509): Command that restarts management cores, commits, or switches logic pair firmware. -/
  | fwSwitch (h : Pkt) (op : Nat)
  /-- CFG_LOAD (R513): Command that writes a signed configuration bundle into the other copy. -/
  | cfgLoad (h : Pkt) (p : CfgLoad)
  /-- CFG_READ (R513): Command that copies the applied or stored configuration bundle. -/
  | cfgRead (h : Pkt) (p : CfgRead)
  /-- Q31_STREAM_ADD (R430): Command that places and carries a stream in Placement. -/
  | q31StreamAdd (h : Pkt) (p : Q31StreamAdd)
  /-- Q31_STREAM_REMOVE (R430): Command that removes a Placement stream and cancels its items. -/
  | q31StreamRemove (h : Pkt) (stream : Nat)
  /-- Q31_STREAM_QUERY (R430): Command returning a Placement stream's cluster, state and load. -/
  | q31StreamQuery (h : Pkt) (stream : Nat)
  /-- Q31_LOAD_READ (R68): Command returning the measured load of each cluster. -/
  | q31LoadRead (h : Pkt)
  /-- Q31_REBALANCE (R68): Command that re-places every added stream by load. -/
  | q31Rebalance (h : Pkt)
  /-- MALFORMED_PACKET (R416): A packet with excessive length or crossing the ring end stops the queue after a BAD_LENGTH reply. -/
  | malformedPacket (h : Pkt) (opcode : Nat)
  /-- UNKNOWN_OPCODE (R416): A packet with an unknown opcode or refused version receives BAD_OPCODE. -/
  | unknownOpcode (h : Pkt) (opcode : Nat)
  /-- PENDING_REPLY (R414): After 1 ms without completion an ACK_PENDING command receives an interim PENDING reply. -/
  | pendingReply (t part tag : Nat)
  /-- INBAND_MESSAGE (R420): An in-band UDP command message is verified, checked for replay and executed or dropped. -/
  | inbandMessage (t : Nat) (m : ChannelMsg)
  /-- SPI_WRITE_MESSAGE (R422): An SPI instruction 0x01 delivers one command message for partition 0. -/
  | spiWriteMessage (t : Nat) (m : ChannelMsg)
  /-- SPI_READ_REPLY (R422): An SPI instruction 0x02 reads the oldest waiting reply. -/
  | spiReadReply (t : Nat)
  /-- SPI_READ_STATUS (R422): An SPI instruction 0x05 reads the service port status byte. -/
  | spiReadStatus (t : Nat)
  /-- SPI_SESSION_TIMEOUT (R424): A service-port session closes after 60 s without a message. -/
  | spiSessionTimeout (t : Nat)
  /-- EVENT_HOLDOFF_END (R426): At the end of a source's hold-off its pending record becomes writable or the latch goes idle. -/
  | eventHoldoffEnd (t part source : Nat)
  /-- PCIE_FLR (R403): A function level reset of a function makes a partition reset. -/
  | pcieFlr (t part : Nat)
  /-- PCIE_LINK_RESET (R403): A hot reset or link loss stops all host-memory writes until re-enabled. -/
  | pcieLinkReset (t : Nat)
  /-- DMA_COMPLETION_ERROR (R404): A DMA completion error disables the ring, queue or buffer and reports FS_76. -/
  | dmaCompletionError (t part : Nat) (target : DmaTarget)
  /-- DMA_COPY_DONE (R404): A command's copy to host memory completes and its reply is written. -/
  | dmaCopyDone (t part tag : Nat)
  /-- HST_SQ_TAIL_WRITE (R412): A write of HST_SQ_TAIL posts packets, or is ignored when invalid. -/
  | hstSqTailWrite (t part value : Nat)
  /-- HST_RQ_HEAD_WRITE (R413): A write of HST_RQ_HEAD frees reply space, letting waiting commands start. -/
  | hstRqHeadWrite (t part value : Nat)
  /-- HST_EVT_CONS_WRITE (R427): A write of HST_EVT_CONS frees event ring space so held records are written. -/
  | hstEvtConsWrite (t part value : Nat)
  /-- HST_QUEUE_ENABLE (R411): Setting HST_QCTRL.ENABLE checks queue settings and resets the counts. -/
  | hstQueueEnable (t part : Nat)
  /-- HST_QUEUE_DISABLE (R411): Clearing HST_QCTRL.ENABLE lets started commands finish and discards the rest. -/
  | hstQueueDisable (t part : Nat)
  /-- PLT_RING_CONS_WRITE (R140): A write of PLT_RING_CONS_n frees departure ring space. -/
  | pltRingConsWrite (t part ring value : Nat)
  /-- REC_STREAM_CONS_WRITE (R303): A write of REC_STREAM_CONS_n frees stream ring space so held points flow. -/
  | recStreamConsWrite (t part rcd value : Nat)
  /-- SCH_TRACE_CONS_WRITE (R337): A write of SCH_TRACE_CONS frees trace ring space. -/
  | schTraceConsWrite (t part value : Nat)
  /-- PRT_RX_TAIL_WRITE (R391): A write of PRT_RX_TAIL posts receive descriptors. -/
  | prtRxTailWrite (t part port : Nat) (post : RxPost)
  /-- PRT_TX_TAIL_WRITE (R393): A write of PRT_TX_TAIL posts transmit descriptors whose frames are offered to the queue. -/
  | prtTxTailWrite (t part port value : Nat) (descs : List TxDesc)
  /-- PWR_CTRL_WAKE_WRITE (R506): Partition 0's write of PWR_CTRL.WAKE requests a wake. -/
  | pwrCtrlWakeWrite (t part value : Nat)
  /-- LATMON_CLEAR_WRITE (R40): Writing DEV_LATMON_CTRL.CLEAR zeroes every latency maximum. -/
  | latmonClearWrite (t part value : Nat)
  /-- ING_CNT_SNAP_WRITE (R111): A write to ING_CNT_SNAP captures the ingest counters into the partition's shadow. -/
  | ingCntSnapWrite (t part value : Nat)
  /-- PLT_CNT_SNAP_WRITE (R145): A write to PLT_CNT_SNAP captures the platform counters. -/
  | pltCntSnapWrite (t part value : Nat)
  /-- WCH_CNT_SNAP_WRITE (R179): A write to WCH_CNT_SNAP captures the waveform counters. -/
  | wchCntSnapWrite (t part value : Nat)
  /-- NRG_SNAP_WRITE (R199): A write to NRG_SNAP captures the pulse counts. -/
  | nrgSnapWrite (t part value : Nat)
  /-- OSC_CNT_SNAP_WRITE (R225): A write to OSC_CNT_SNAP captures the oscillation counters. -/
  | oscCntSnapWrite (t part value : Nat)
  /-- COH_CNT_SNAP_WRITE (R249): A write to COH_CNT_SNAP captures the coherency counters. -/
  | cohCntSnapWrite (t part value : Nat)
  /-- ALC_CNT_SNAP_WRITE (R292): A write to ALC_CNT_SNAP captures the alarm logic counters. -/
  | alcCntSnapWrite (t part value : Nat)
  /-- REC_CNT_SNAP_WRITE (R315): A write to REC_CNT_SNAP captures the recorder counters. -/
  | recCntSnapWrite (t part value : Nat)
  /-- SCH_CNT_SNAP_WRITE (R340): A write to SCH_CNT_SNAP captures the scheduler counters. -/
  | schCntSnapWrite (t part value : Nat)
  /-- TB_CNT_SNAP_WRITE (R368): A write to TB_CNT_SNAP captures the time counters. -/
  | tbCntSnapWrite (t part value : Nat)
  /-- TB_NOW_SNAP_WRITE (R367): A write to TB_NOW_SNAP captures all four bases at one tick. -/
  | tbNowSnapWrite (t part value : Nat)
  /-- PRT_CNT_SNAP_WRITE (R395): A write to PRT_CNT_SNAP captures a port's counters. -/
  | prtCntSnapWrite (t part port value : Nat)
  /-- KEY_CNT_SNAP_WRITE (R465): A write to KEY_CNT_SNAP captures the security counters. -/
  | keyCntSnapWrite (t part value : Nat)
  /-- TB_NOW_LO_READ (R367): A read of TB_NOW_LO_n latches TB_NOW_HI_n. -/
  | tbNowLoRead (t part tb : Nat)
  /-- REGISTER_WRITE (R15): A write to a register with no row of its own takes effect in permitted RW and W1C fields or is ignored. -/
  | registerWrite (t part offset width value : Nat)
  /-- PORT_RX_FRAME (R376): A received frame is checked, stamped and classified to its destination. -/
  | portRxFrame (t : Nat) (f : RxFrame)
  /-- LINK_UP (R384): A port link comes up and TXQ_0 sends its kept frames. -/
  | linkUp (t port speedMbps : Nat) (full fecLock : Bool)
  /-- LINK_DOWN (R384): A port link goes down and TXQ_1 to TXQ_7 are flushed. -/
  | linkDown (t port : Nat)
  /-- SGMII_CONTROL_WORD (R374): An SGMII control word sets the port speed or holds the link down for half duplex. -/
  | sgmiiControlWord (t port : Nat) (link full : Bool) (speedMbps : Nat)
  /-- MDIO_POLL (R374): Every 10 ms an RMII port reads its PHY registers for link, speed and duplex. -/
  | mdioPoll (t port : Nat) (link full : Bool) (speedMbps : Nat)
  /-- PAUSE_EXPIRY (R385): A received pause runs out and transmission resumes. -/
  | pauseExpiry (t port : Nat)
  /-- XOFF_REPEAT (R387): A sent PAUSE is repeated at half its time while the receive queue stays full. -/
  | xoffRepeat (t port : Nat)
  /-- TX_FRAME_END (R381): A transmitted frame ends and the port chooses the next frame by strict priority. -/
  | txFrameEnd (t port : Nat) (csLost damaged : Bool)
  /-- TX_LAUNCH_TIME (R365): A timed frame reaches its launch time and is sent, or is late, sent or dropped. -/
  | txLaunchTime (t port : Nat)
  /-- TX_COLLISION (R388): A half-duplex collision jams and backs off, abandons or drops the frame. -/
  | txCollision (t port : Nat) (late : Bool)
  /-- BACKOFF_EXPIRY (R388): A half-duplex back-off ends and the frame is retried. -/
  | backoffExpiry (t port : Nat)
  /-- INGEST_DATA_FRAME (R84): Ingest takes a C37.118.2 or R-SV data frame, checks it, maps its instant and emits a work item. -/
  | ingestDataFrame (t : Nat) (f : DataFrame)
  /-- INGEST_CONFIG_FRAME (R90): Ingest takes a configuration or header frame, stores it and accepts or refuses a new layout. -/
  | ingestConfigFrame (t : Nat) (f : ConfigFrame)
  /-- INGEST_SV_FRAME (R99): Ingest takes a sampled-value frame and passes its samples to the waveform chain. -/
  | ingestSvFrame (t : Nat) (f : SvFrame)
  /-- INGEST_GOOSE_FRAME (R103): Ingest takes a GOOSE or R-GOOSE frame for a remote station and decodes new data or repetitions. -/
  | ingestGooseFrame (t : Nat) (f : GooseFrame)
  /-- OUT_COMMAND_FRAME (R143): An output stream receives a C37.118.2 command frame and obeys it or counts it. -/
  | outCommandFrame (t : Nat) (f : OutCommand)
  /-- PMU_CMD_DEFERRED (R88): A waiting automatic command frame is sent once its second has passed. -/
  | pmuCmdDeferred (t stream : Nat)
  /-- PMU_RESTART_REPEAT (R88): Every 10 s in SUSPENDED the restart command pair is sent again. -/
  | pmuRestartRepeat (t stream : Nat)
  /-- SILENCE_CHECK (R108): At each ms tick a contract past its silence limit moves to SUSPENDED. -/
  | silenceCheck (t : Nat)
  /-- KEY_ROTATION_OVERLAP_END (R96): The rotation overlap ends and the next key becomes current. -/
  | keyRotationOverlapEnd (t stream : Nat)
  /-- DUP_ENTRY_FORGET (R106): A sequence number older than FORGET_MS leaves the duplicate table. -/
  | dupEntryForget (t : Nat)
  /-- STATION_TAL_EXPIRY (R103): No frame within timeAllowedtoLive makes a station drop out. -/
  | stationTalExpiry (t station : Nat)
  /-- STATION_WAIT_TIMEOUT (R104): A station with a first frame and no in-order follower returns to WAITING. -/
  | stationWaitTimeout (t station : Nat)
  /-- ITEM_COMPLETE (R327): A lane core finishes an item, which waits at the release gate, freeing the core. -/
  | itemComplete (t stream fsn : Nat)
  /-- ITEM_ABORT (R333): A cancelled dispatched item is aborted at its next yield point. -/
  | itemAbort (t stream fsn : Nat)
  /-- PLATFORM_WRITE (R125): The release gate writes an item's channels into slots, sidings and recorder taps in flow order. -/
  | platformWrite (t stream fsn : Nat)
  /-- DEPARTURE_RELEASE (R126): At its release tick a group builds the slice of an instant, substitutes gaps and hands it to consumers. -/
  | departureRelease (t group instant : Nat)
  /-- SIDINGS_RECORD_FREE (R136): A sidings record is freed at the latest horizon end of its groups. -/
  | sidingsRecordFree (t : Nat)
  /-- DEPARTURE_OVERDUE (R146): A due departure not handed over within 1 ms reports FS_44 or FS_45. -/
  | departureOverdue (t group instant : Nat)
  /-- MODAL_REFRESH (R216): At each 200 ms multiple the modal engine identifies modes in each enabled band. -/
  | modalRefresh (t blocks : Nat)
  /-- MODAL_OVERRUN (R217): A refresh not complete within 100 ms is discarded and marked stale. -/
  | modalOverrun (t : Nat)
  /-- SCAN_TRIGGER_DEPARTURE (R269): S3 completion of a trigger-group departure starts, holds or skips a scan. -/
  | scanTriggerDeparture (t group instant : Nat) (x : ScanStart)
  /-- SCAN_TRIGGER_PERIODIC (R269): A PERIOD_US tick on TB_0 starts, holds or skips a scan. -/
  | scanTriggerPeriodic (t : Nat) (x : ScanStart)
  /-- SCAN_END (R270): Both controllers finish; the compare runs and outputs, datasets, alarm events and recorder triggers are written. -/
  | scanEnd (t : Nat) (r : ScanResult) (x : ScanStart)
  /-- SCAN_WATCHDOG (R271): t_s + 2B passes before both controllers finish; FS_57 and FAULTED. -/
  | scanWatchdog (t : Nat)
  /-- GOOSE_REPEAT (R266): A published dataset's repetition timer sends the next frame. -/
  | gooseRepeat (t dataset : Nat)
  /-- AL_READBACK_MISMATCH (R264): An alarm pin reading back wrong for 100 µs reports FS_62 and FAULTED. -/
  | alReadbackMismatch (t n : Nat)
  /-- CHECKPOINT_PERIODIC (R281): The 10 s mark in RUN starts a checkpoint at the next scan boundary. -/
  | checkpointPeriodic (t : Nat)
  /-- CHECKPOINT_WRITE_DONE (R280): A checkpoint write completes or fails with FS_60. -/
  | checkpointWriteDone (t : Nat) (ok : Bool)
  /-- EXCHANGE_COMMIT_DONE (R290): The new image's checkpoint and bank swap are committed in NOR. -/
  | exchangeCommitDone (t : Nat)
  /-- ALC_LOAD_VERIFIED (R258): Verification of a staged program image completes and it is written to STANDBY or refused. -/
  | alcLoadVerified (t : Nat) (v : AlcVerify)
  /-- REC_POINT_EVALUATE (R300): At CLOSE_MS after its block a stored point is evaluated and trigger conditions tested. -/
  | recPointEvaluate (t rcd : Nat)
  /-- REC_COMPLETE (R310): A record is complete with its measurements and the recorder re-arms or waits. -/
  | recComplete (t rcd : Nat)
  /-- REC_EXPORT_DONE (R312): A record export finishes writing its files. -/
  | recExportDone (t rcd slot : Nat)
  /-- PI_LEVEL_ACCEPTED (R194): A pulse input level stable for DEBOUNCE is accepted and may count a pulse. -/
  | piLevelAccepted (t n : Nat) (level : Bool)
  /-- PI_CROSS_CHECK (R195): Every CHECK_S a pulse input is compared with its accumulator. -/
  | piCrossCheck (t n : Nat)
  /-- PO_PULSE_PHASE_END (R196): A pulse output's active or gap time ends and the next pending pulse starts. -/
  | poPulsePhaseEnd (t n : Nat)
  /-- SENTINEL_READING (R44): Every 50 µs sentinel delay codes are converted to speed ratios. -/
  | sentinelReading (t sentinel ratio : Nat)
  /-- BASIS_RESTORED (R61): After 1 s with every sentinel at or above rated BASIS_LOST clears. -/
  | basisRestored (t : Nat)
  /-- LIVE_EVALUATION (R62): At each 100 ms multiple every cluster's Live limit is recomputed and overcommitment shed. -/
  | liveEvaluation (t : Nat)
  /-- LIVE_URGENT_EVALUATION (R63): A reading showing gross overcommitment triggers an urgent evaluation of that cluster. -/
  | liveUrgentEvaluation (t cluster : Nat)
  /-- CLUSTER_FAULT (R335): A cluster fault removes the cluster, restarts its items elsewhere and may retire it. -/
  | clusterFault (t cluster cause : Nat)
  /-- CLUSTER_DRAINED (R322): The last item in flight on a draining cluster completes and it becomes DRAINED. -/
  | clusterDrained (t cluster : Nat)
  /-- CLUSTER_SELFTEST_DONE (R323): A cluster self-test ends with IN_SERVICE or FAULTED. -/
  | clusterSelftestDone (t cluster result : Nat)
  /-- CLUSTER_FAULT_AGEOUT (R335): A cluster fault leaves the 24 h window count. -/
  | clusterFaultAgeout (t cluster : Nat)
  /-- PTP_SYNC_RECEIVED (R347): A PTP Sync yields an offset sample judged by the base. -/
  | ptpSyncReceived (t : Nat) (m : PtpSync)
  /-- IRIG_FRAME_RECEIVED (R360): An IRIG-B frame is decoded and yields an offset sample or is discarded. -/
  | irigFrameReceived (t : Nat) (m : IrigFrame)
  /-- PPS_IN_EDGE (R361): A PPS_IN rising edge yields an offset sample. -/
  | ppsInEdge (t cap : Nat)
  /-- PTP_ANNOUNCE_RECEIVED (R358): A PTP Announce feeds the BMCA and may change the grandmaster. -/
  | ptpAnnounceReceived (t : Nat) (m : PtpAnnounce)
  /-- PTP_PDELAY_MESSAGE (R358): A peer delay message updates the port's peer delay. -/
  | ptpPdelayMessage (t : Nat) (m : PtpPdelay)
  /-- PTP_ANNOUNCE_TIMEOUT (R358): announceReceiptTimeout expires and the BMCA re-evaluates. -/
  | ptpAnnounceTimeout (t tb port : Nat)
  /-- PTP_MESSAGE_TRANSMIT (R359): Once per second a PTP instance sends Sync, Announce or Pdelay_Req. -/
  | ptpMessageTransmit (t tb port : Nat) (kind : PtpKind)
  /-- TB_SOURCE_LOSS (R352): No usable sample for LOSS_S seconds puts a LOCKED base in HOLDOVER. -/
  | tbSourceLoss (t tb : Nat)
  /-- TB_RESTEP_TIMEOUT (R353): No sample within LOSS_S of a HOW 1 restep ends it without a step. -/
  | tbRestepTimeout (t tb : Nat)
  /-- LEAP_SECOND_APPLY (R356): At the end of the announced UTC day UTC_OFFSET changes. -/
  | leapSecondApply (t tb : Nat)
  /-- LEAP_OCCURRED_EXPIRY (R356): LEAP_OCCURRED clears 24 h after a leap second. -/
  | leapOccurredExpiry (t tb : Nat)
  /-- EXT10M_LOSS (R362): EXT10M stopping or off frequency falls back to REFCLK with FS_70. -/
  | ext10mLoss (t : Nat)
  /-- EXT10M_RESTORE (R362): After 10 s of valid input the PLL returns to EXT10M. -/
  | ext10mRestore (t : Nat)
  /-- REFCLK_LOSS (R370): REFCLK lost moves TB_0 to the on-die oscillator and every base to HOLDOVER. -/
  | refclkLoss (t : Nat)
  /-- PPS_OUT_RISE (R363): PPS_OUT rises at the top of its base's second. -/
  | ppsOutRise (t tb : Nat)
  /-- PPS_OUT_FALL (R363): PPS_OUT falls 100 ms after rising. -/
  | ppsOutFall (t : Nat)
  /-- TAMPER_DETECTED (R457): A tamper source trips; store nonce overwritten, working area stripped, ERR to fault. -/
  | tamperDetected (t code value : Nat)
  /-- KEY_ERASE_DONE (R457): The key records region erase after a tamper completes. -/
  | keyEraseDone (t : Nat)
  /-- KEY_UPDATE_COMMITTED (R452): A key update's record and commit are written to NOR and the reply sent. -/
  | keyUpdateCommitted (t slot : Nat)
  /-- ENTROPY_HEALTH_FAIL (R436): A failing entropy health test is a security core fault. -/
  | entropyHealthFail (t : Nat)
  /-- TEST_CHALLENGE_EXPIRY (R464): A test unlock challenge expires after 10 minutes. -/
  | testChallengeExpiry (t : Nat)
  /-- SUPPLY_OUT_OF_RANGE (R471): A supply leaves its supervised range, recording FS_0 to FS_5. -/
  | supplyOutOfRange (t source : Nat) (low : Bool) (value : Reading)
  /-- TEMPERATURE_LIMIT (R470): The junction crosses a limit, recording FS_6 or FS_7. -/
  | temperatureLimit (t source : Nat) (excess : Bool) (value : Reading)
  /-- HANDSHAKE_STALL (R29): A request unacknowledged for 100 µs is a stall fault of its block. -/
  | handshakeStall (t : Nat) (stall : Stall)
  /-- SCRUB_STEP (R485): The scrub engine reads the next SRAM or DRAM word and completes passes. -/
  | scrubStep (t : Nat) (x : ScrubStep)
  /-- SCRUB_OVERDUE (R485): A scrub pass not complete within 3 s or 90 s activates FS_93. -/
  | scrubOverdue (t : Nat) (dram : Bool)
  /-- CE_HOUR_WINDOW (R484): Corrections leaving the latest hour may end FS_18. -/
  | ceHourWindow (t : Nat) (region : MemRegion)
  /-- ERR_TOGGLE (R480): Every 500 µs in health the ERR pair toggles. -/
  | errToggle (t : Nat)
  /-- ERR_CHANNEL_COMPARE (R480): Every 10 µs channels A and B compare decisions and readback, raising FS_9 or FS_10. -/
  | errChannelCompare (t : Nat) (compare : ErrCompare) (readbackOk : Bool)
  /-- SELFTEST_HOURLY (R486): The hourly self-test starts. -/
  | selftestHourly (t : Nat)
  /-- SELFTEST_SLICE_END (R487): A self-test slice ends and held real errors are evaluated. -/
  | selftestSliceEnd (t : Nat)
  /-- SELFTEST_DONE (R486): A self-test completes, activating or clearing diagnostic sources. -/
  | selftestDone (t failed : Nat)
  /-- SELFTEST_OVERDUE (R470): No periodic self-test within 70 min activates FS_94. -/
  | selftestOverdue (t : Nat)
  /-- POR_N_FALL (R497): POR_N falling makes a cold reset. -/
  | porNFall (t : Nat)
  /-- POR_N_RELEASE (R499): POR_N release starts the cold start-up sequence. -/
  | porNRelease (t : Nat)
  /-- PERST_N_ASSERT (R497): PERST_N low holds a device reset, losing Stabled. -/
  | perstNAssert (t : Nat)
  /-- PERST_N_RELEASE (R497): PERST_N release starts start-up from the SRAM strip step. -/
  | perstNRelease (t : Nat)
  /-- STARTUP_DONE (R499): Start-up completes, releasing the ERR pair and taking command queues. -/
  | startupDone (t : Nat) (r : StartupReport)
  /-- PFW_N_FALL (R494): PFW_N falls; the pair stops, NOR writes stop and the retained image is written. -/
  | pfwNFall (t : Nat)
  /-- PFW_N_RISE (R495): PFW_N rises without a reset and NOR writes resume. -/
  | pfwNRise (t : Nat)
  /-- WAKE_N_FALL (R506): A falling WAKE_N held 10 µs requests a wake. -/
  | wakeNFall (t lowNs : Nat)
  /-- STABLED_ENTRY_DONE (R504): Entry to Stabled completes with the fabric down. -/
  | stabledEntryDone (t : Nat)
  /-- WAKE_DONE (R507): The wake sequence completes and contracts are re-admitted. -/
  | wakeDone (t : Nat) (retentionOk : Bool) (found : WakeFound) (clustersFailed : Nat)
  /-- PARTITION_RESET_DONE (R498): A partition reset ends and the partition returns to CREATED. -/
  | partitionResetDone (t part : Nat)
  /-- MGMT_RESTART_DONE (R510): The management cores finish restarting from the new bank. -/
  | mgmtRestartDone (t : Nat)
  /-- MGMT_RESTART_TIMEOUT (R510): New firmware not running within 250 ms resumes the old bank with FS_100. -/
  | mgmtRestartTimeout (t : Nat)
  /-- FW_LOAD_VERIFIED (R509): A written firmware package is read back and verified. -/
  | fwLoadVerified (t : Nat) (v : FwVerify)
  /-- FW_CLUSTER_LOAD_DONE (R509): A cluster firmware load ends and the cluster returns to DRAINED. -/
  | fwClusterLoadDone (t cluster : Nat) (ok : Bool)
  /-- CFG_LOAD_VERIFIED (R513): A stored configuration bundle copy is verified. -/
  | cfgLoadVerified (t : Nat) (v : CfgVerify)
  /-- SUPPLY_BACK_IN_RANGE (R470): A supervised supply returns within its range, ending the LEVEL condition of FS_0 to FS_5. -/
  | supplyBackInRange (t source : Nat)
  /-- REFCLK_RESTORED (R370): REFCLK returns after a loss, ending the LEVEL condition of FS_68 or FS_69 and the on-die oscillator state. -/
  | refclkRestored (t : Nat)
  /-- TIME_BASE_COUNTER_FAULT (R370): The duplicate check finds a base counter or mapping fault, reloading the base and reporting FS_68, FS_69 or FS_70. -/
  | timeBaseCounterFault (t tb : Nat)
  /-- MGMT_LOCKSTEP_MISMATCH (R472): A management core lockstep mismatch records FS_8 and restarts the management cores, failing commands in flight. -/
  | mgmtLockstepMismatch (t : Nat)
  /-- AL_READBACK_RESTORED (R264): An alarm pin's readback agrees with its driven level again, ending the LEVEL condition of FS_62. -/
  | alReadbackRestored (t n : Nat)
  /-- TAMPER_SOURCE_CLEARED (R459): A tamper input or monitor stops showing tamper, clearing its ACTIVE bit so that TAMPER_CLEAR may succeed. -/
  | tamperSourceCleared (t code : Nat)
  /-- COH_EVALUATION_OVERDUE (R251): A coherency evaluation not complete within 1.0 ms of its release tick is discarded with STALE, EVAL_DISCARDED and FS_52 or FS_53. -/
  | cohEvaluationOverdue (t instant : Nat)
  /-- BOOT_HOLD (R444): Boot verification refuses both firmware banks and the device holds in BOOT_HOLD with only the service port working. -/
  | bootHold (t : Nat)
  /-- PTP_FOLLOW_UP_RECEIVED (R359): A Follow_Up message from a two-step master completes the Sync exchange and yields the offset sample. -/
  | ptpFollowUpReceived (t : Nat) (m : PtpFollowUp)
  /-- TEST_PORT_ACCESS (R518): A TCK edge on the IEEE 1149.1 test port advances the TAP for boundary scan, IDCODE or BYPASS. -/
  | testPortAccess (t : Nat) (trst tms tdi : Bool)
  deriving DecidableEq, Repr

end Sys2Proof
end

