-- ==== Sys2Proof/Config.lean ====
section
/-!
DEFINITION. What the fuses fix and what the manual leaves open. Every constant here is opaque: nothing in
the model or in a proof can see its value, so a statement holds whatever it is.
-/
namespace Sys2Proof.Config

/-- Fused grade bit of DEV_ID (00_scope R2): 0 C, 1 S. -/
opaque grade : BitVec 1
/-- Fused die stepping (DEV_ID). -/
opaque stepping : BitVec 4
/-- Fused serial number (DEV_SERIAL). -/
opaque serial : BitVec 64
/-- Fused sentinel delay code at the rated corner (TT_FUSED_RATED). -/
opaque ratedCode : BitVec 16

/-- SHA-512 of a byte string (FIPS 180-4, 15_security R446). -/
opaque sha512 : List Byte → BitVec 512
/-- The outcome of HMAC-SHA-512 under a key (R435, R450). -/
opaque hmacSha512 : List Byte → List Byte → BitVec 512
/-- HMAC-SHA-256 under a key, truncated to 128 bits (14_hosts Table 14-9). -/
opaque hmacSha256 : List Byte → List Byte → List Byte
/-- HKDF-SHA-512 from IKM, salt and info to a length in bytes (R439). -/
opaque hkdf : List Byte → List Byte → List Byte → Nat → List Byte
/-- AES key wrap with padding (RFC 5649) under a wrapping key (R433 attribute 3). -/
opaque aesWrap : List Byte → List Byte → List Byte
/-- Its inverse; none when the integrity check fails. -/
opaque aesUnwrap : List Byte → List Byte → Option (List Byte)
/-- The n-th byte string of a length drawn from the HMAC_DRBG (R436). -/
opaque random : Nat → Nat → List Byte
/-- The public key of an Ed25519 seed, and its signature over a message (15_security R441, R449). -/
opaque edPublic : List Byte → BitVec 256
opaque edSign : List Byte → List Byte → BitVec 512
/-- The identity certificate for a public key, signed by Nolivik (R451). -/
opaque certificate : BitVec 256 → List Byte
/-- The length of K_FW in bytes (R441: not stated). -/
opaque fwKeyLen : Nat

/-- The argument of a phasor of magnitude zero, in units of 2^-128 rad from −π on: it has none (06_metering Table 06-3). -/
opaque argZero : Nat

/-- Whether a stage that rounds a number, given as numerator and denominator, to its width takes the one above (05_waveform_chain Table 05-4: the widths
are stated, the direction is not). -/
opaque roundUp : Int → Nat → Bool

/-- Tap of the linear-phase anti-aliasing filter of a band's resampler (07_oscillation R215: the taps are not stated), from the band, the source rate and the
distance of a source sample from the resampled instant in ns, in 2^-64. -/
opaque resampleTap : Nat → Nat → Nat → Int
/-- The stochastic subspace identification of a band (R219: its numerics are not stated), over the windows of its included signals with their mean removed
and scaled to unit variance, and what the block recursion carries from earlier blocks, which a number stands for: the poles of a model order as damped frequency in Hz and damping ratio; of a pole at the highest order its share of the
variance, the standard deviation of its damping ratio, and for a signal by its place the peak amplitude in its own unit and its phase in hundredths of a
degree. -/
opaque ssiPoles : Nat → Nat → List (List Frac) → Nat → List (Frac × Frac)
opaque ssiEnergy : Nat → Nat → List (List Frac) → Frac × Frac → BitVec 32
opaque ssiSigma : Nat → Nat → List (List Frac) → Frac × Frac → Nat
opaque ssiAmpl : Nat → Nat → List (List Frac) → Frac × Frac → Nat → BitVec 32
opaque ssiPhase : Nat → Nat → List (List Frac) → Frac × Frac → Nat → Int

/-- The text of a binary64 number in a COMTRADE configuration file, whether a measured phasor is a current, and the unit of an analogue channel, by stream
and channel (10_recorders R312, Table 10-1: none is stated). -/
opaque realText : BitVec 64 → List Byte
opaque phasorAmps : Nat → Nat → Bool
opaque sourceUnit : Nat → Nat → List Byte

/-- Bytes of an R-SV frame before FCS, from its channel count, whether it is tagged, signed and over IPv4 (04_platform R141: the layout is that of IEC
61850-90-5). -/
opaque rsvLength : Nat → Bool → Bool → Bool → Nat

/-! What is not stated of the filters of the waveform chain (05_waveform_chain Table 05-4, R153 to R158). -/

/-- Coefficient of the compensating FIR at an SV_RATE, by its distance from the middle one, in 2^-22. -/
opaque wchComp : Nat → Nat → Int
/-- Where the cutoff of the M-class filter of an OUT_RATE lies between OUT_RATE ÷ 5 and OUT_RATE ÷ 2, in thousandths, and its window at a distance from the
middle, in millionths. -/
opaque wchCut : Nat → Nat
opaque wchWindow : Nat → Nat → Nat → Nat
/-- Coefficient of a minimum-phase filter, in 2^-23: from Fp, FNOM, CLASS and OUT_RATE, oldest first. -/
opaque wchMin : List Nat → Nat → Int
/-- Weights of the symmetric differentiators of frequency and ROCOF by distance, for an Fp and a CLASS (R156). -/
opaque wchDiff : Nat → Nat → Nat → Nat
opaque wchDiff2 : Nat → Nat → Nat → Nat
/-- The frequency estimate that tracking follows, in µHz: from Fp, FNOM, CLASS, the history of f_t and the front-end samples (R155). -/
opaque wchEst : Nat → Nat → Nat → List (Nat × Nat) → List (Nat × List Int) → Nat
/-- Where the gain of the first-order update lies between that of its difference and that of its differential equation, in thousandths. -/
opaque wchGain : Nat → Nat → Nat
/-- One step of the elliptic low-pass of the wideband feed: from Fp, FNOM, its state and an input to the next state and the output (07_oscillation R204),
and the frequency deviation in nHz that goes with the feed, from f_t and the latest feed of TRACK_REF's channels. -/
opaque wchWide : Nat → Nat → List Int → Int → List Int × Int
opaque wchWideFreq : Nat → Nat → Nat → List (List (Int × Int)) → Int
/-- One step of a sideband tap's notch and band limit: from SV_RATE, f_t in µHz, its state and a sample, none for a gap, to the next state and the
output (R174). -/
opaque wchNotch : Nat → Nat → List Int → Option Int → List Int × Int

/-- SHA-512 of an item of a firmware package, by the package's digest and the item: 0 the first stage, 1 the management core, 2 the
clusters, 3 ALC_A, 4 ALC_B, 5 the engines (Table 15-4). -/
opaque fwItem : Nat → Nat → BitVec 512
/-- SHA-512 of a configuration bundle, whose byte layout is not given (Table 15-4 step 5), and its bytes as stored (17_power_states CFG_READ). -/
opaque bundleDigest : Bundle → BitVec 512
opaque bundleBytes : Bundle → List Byte

/-- The clockIdentity of the device in PTP (12_time R358). -/
opaque clockId : Nat

/-- The fused MAC address of a port (13_ports PRT_ADDR_SET). -/
opaque portMac : Nat → Nat

/-- The test port (18_package R518): bits of its instruction register beyond two and what they capture, the code of IDCODE, the codes of boundary scan
instructions, the IDCODE value, and the length of the boundary register. -/
opaque tapIrExtra : Nat
opaque tapIrCapture : List Bool
opaque tapIdcodeIr : List Bool
opaque tapBoundaryIr : List Bool → Bool
opaque tapIdcode : BitVec 31
opaque tapCells : Nat
/-- What the boundary cells capture at the n-th use: levels of pins, many of them inputs. -/
opaque tapPins : Nat → Nat → Bool

/-- A fresh free value of the n-th use: what the manual leaves open at that use. -/
opaque freeNat : Nat → Nat

end Sys2Proof.Config
end

