-- ==== Sys2Proof/Machine/State/Ports.lean ====
section
/-!
DEFINITION. State of the Ethernet ports (13_ports).
-/
namespace Sys2Proof.Machine

set_option genSizeOfSpec false

/-- What a frame is for. An Announce carries the TLV it forwards, a host frame the count of its descriptor and whether it was
posted with LAUNCH, a reply of the in-band channel the address and port it goes to. -/
inductive TxWhat where
  | dataset (n stNum sqNum ttlMs : Nat) (test : Bool) (members : List Nat) (head : PubHead)
  | ptp (tb kind clockClass accuracy : Nat) (tlv : List Byte)
  | output (out : Nat)
  | command (stream cmd dstIp udpDst idCode : Nat)
  | outAnswer (out kind : Nat)
  | arpReply
  | channelReply (ip udpPort : Nat)
  | host (part desc : Nat) (timed : Bool)
  | pause (quanta : Nat)
  deriving DecidableEq, Repr

/-- A frame waiting to be sent: its length, and for a timed frame its base and launch time (R365); `judged` once it has reached the head of its queue
in time; `deferred` once carrier has held its first attempt (R389); `orphan` once the host ring it came from is gone; `scanEnd` the end of the scan that
published it, for the latency monitor of stage S5; `data` the bytes of a host frame, or the message of an in-band reply. -/
structure TxFrame where
  what : TxWhat
  len : Nat
  launch : Option (Nat × Nat)
  collisions : Nat := 0
  judged : Bool := false
  deferred : Bool := false
  orphan : Bool := false
  scanEnd : Option Stamp := none
  data : List Byte := []
  deriving DecidableEq, Repr

/-- An entry of the receive queue (R380); `station` and `stream` are the remote station or the stream whose entry it matches, `tagged` whether it came with a
VLAN tag, a priority tag among them. -/
structure RxEntry where
  arrival : Stamp
  len : Nat
  station : Option Nat
  stream : Option Nat
  tagged : Bool := false
  deriving DecidableEq, Repr

/-- A host ring (R391, R393); `bufs` are the buffers of the posted receive descriptors, `descs` the posted transmit descriptors not yet taken, `done` the transmit
descriptors written back, newest first, as DROPPED and TX_STAMP. -/
structure HostRing where
  enable : Bool := false
  queue : Nat := 4
  bufSize : Nat := 256
  entries : Nat := 0
  addr : Nat := 0
  wbAddr : Nat := 0
  head : W32 := 0
  tail : W32 := 0
  stopped : Bool := false
  bufs : List Nat := []
  descs : List TxDesc := []
  done : List (Bool × Nat) := []
  deriving DecidableEq, Repr

/-- A frame written to a receive ring (Table 13-8), or a run of descriptors handed back with LEN 0 (R392). -/
structure RxDelivery where
  part : Nat
  len : Nat
  tagged : Bool
  unmatched : Bool
  discard : Bool
  first : W32
  count : Nat
  stamp : Nat
  tb : Nat
  deriving DecidableEq, Repr

/-- A port. `oldMode` holds the settings for frames whose first bit crosses the ball by a stamp (R373); `mac` is 0 for the fused address; `startedAt` is the
first bit of the frame being sent, `gapUntil` the end of the inter-packet gap, `retry` a frame that has collided and `backoffUntil` the end of its back-off,
`carrierUntil` the end of the frame last received, `pauseIn` a PAUSE whose reception ends at a stamp (R385), `pauseOwed` a PAUSE to send before any queue, `xoffAt` the last one with a time, and `pubWaits` the frames that
wait in the publisher for the previous one of their dataset to leave (R382). -/
structure PortSt where
  mode : Option PrtModeSet := none
  oldMode : Option (Stamp × Option PrtModeSet) := none
  link : Bool := false
  fullDuplex : Bool := true
  speedMbps : Nat := 0
  fecLock : Bool := false
  mac : Nat := 0
  addrs : List Nat := []
  filters : Table (Nat × PrtFilterSet) := []
  lateMode : Table Nat := []
  rxq : List RxEntry := []
  side : Nat := 0
  txq : Table (List TxFrame) := []
  sending : Option (Nat × TxFrame) := none
  pauseUntil : Option Stamp := none
  pauseNext : Option Nat := none
  pauseIn : Option (Stamp × Nat) := none
  startedAt : Stamp := 0
  gapUntil : Stamp := 0
  retry : Option (Nat × TxFrame) := none
  backoffUntil : Stamp := 0
  carrierUntil : Stamp := 0
  pauseOwed : Option Nat := none
  xoff : Bool := false
  xoffAt : Stamp := 0
  pubWaits : List TxFrame := []
  cnt : Table W32 := []
  rxDropSeen : Bool := false
  ringEmptySeen : Bool := false
  txDropSeen : Bool := false
  linkDownSeen : Bool := false
  lastRxDrop : Table Stamp := []
  lastLate : Table Nat := []
  rxRings : Table HostRing := []
  txRings : Table HostRing := []
  delivered : List RxDelivery := []
  deriving DecidableEq, Repr

/-- A frame that has left a port, with its message timestamp point: what the wire saw. -/
structure SentFrame where
  port : Nat
  frame : TxFrame
  stamp : Stamp
  deriving DecidableEq, Repr

/-- The ports. `ingestQ` are the frames of stopped ports in the ingest queue, oldest first, each with its port (11_clusters R330). -/
structure PortsSt where
  ports : Table PortSt := []
  ingestQ : List (Nat × RxEntry) := []
  sent : List SentFrame := []
  deriving DecidableEq, Repr

end Sys2Proof.Machine
end

