-- ==== Sys2Proof/Machine/State/AlarmLogic.lean ====
section
/-!
DEFINITION. State of the logic pair (09_alarm_logic).
-/
namespace Sys2Proof.Machine

set_option genSizeOfSpec false

/-- Table 09-4. -/
inductive AlcState where
  | noProgram
  | stop
  | run
  | hold
  | faulted
  deriving DecidableEq, Repr

/-- A scan setting (R269). -/
structure ScanSetting where
  trig : Nat
  group : Nat
  periodUs : Nat
  deriving DecidableEq, Repr

/-- A trigger: INSTANT of its departure or its scheduled tick (R265, R269), and for a departure the decisions made
at it (R262, R272). -/
structure Trigger where
  byGroup : Option Nat
  instant : Nat
  snap : List (AlcMapEntry × Nat) := []
  deriving DecidableEq, Repr

/-- A scan in progress: t_s, its trigger, B in µs, the frozen input image (R262, R270), and the set sites that the controllers stand at.
`haltNs` is time halted so far, `haltAt` when the present halt began (R275), `forces` the forced values in effect at t_s, by point (R276). -/
structure Scan where
  ts : Stamp
  trig : Trigger
  budgetUs : Nat
  errTask : Bool
  inputs : List Nat
  sites : SitesReached
  haltNs : Nat
  haltAt : Option Stamp
  forces : Table Nat := []
  deriving DecidableEq, Repr

/-- The decisions that a departure of the trigger group made, for the entries of the map that read them, until its trigger comes (R36, R262). -/
structure Decided where
  inst : Nat
  vals : List (AlcMapEntry × Nat)
  deriving DecidableEq, Repr

/-- A force (R276): the value, the completion stamp after which it takes effect, and the value that it replaces, which is in effect until then. -/
structure Force where
  type : Nat
  value : Nat
  since : Stamp
  old : Option Nat := none
  deriving DecidableEq, Repr

/-- A published dataset (R266): last values, test field, counts, the next repeat and its interval. -/
structure PubState where
  members : List Nat := []
  test : Bool := false
  published : Bool := false
  stNum : W32 := 0
  sqNum : W32 := 0
  nextAt : Stamp := 0
  intervalMs : Nat := 0
  late : Bool := false
  deriving DecidableEq, Repr

/-- A checkpoint (R280). -/
structure Ckpt where
  seq : Nat
  programId : Nat
  retainLayout : Nat
  scans : Nat
  stamp : Stamp
  image : List (Nat × Nat)
  deriving DecidableEq, Repr

/-- A checkpoint write in progress, and why it is made (R281). -/
inductive CkptCause where
  | periodic
  | stop
  | exchange
  | command
  | powerFail
  deriving DecidableEq, Repr

/-- A write to NOR that goes behind a checkpoint in progress (01_architecture R33): the record of a key slot, an entry of the tamper log, the mark of a
RETIRED cluster with what it was. -/
inductive NorWriter where
  | key (slot : Nat)
  | tamper (seq : Nat)
  | mark (cluster : Nat) (was : Bool)
  deriving DecidableEq, Repr

structure CkptWrite where
  ckpt : Ckpt
  cause : CkptCause
  start : Stamp
  deriving DecidableEq, Repr

structure AlcSt where
  state : AlcState := .noProgram
  restartKind : Nat := 0
  setting : Option ScanSetting := none
  budgetUs : Nat := 400
  startMode : Nat := 0
  active : Option AlcImage := none
  standby : Option AlcImage := none
  loading : Option AlcLoad := none
  exchange : Option Stamp := none
  commitDue : Bool := false
  forces : Table Force := []
  breaks : List Nat := []
  scan : Option Scan := none
  heldTrig : Option Trigger := none
  decided : List Decided := []
  holdSite : Option Nat := none
  stopAt : Bool := false
  vars : Table Nat := []
  insts : Table InstState := []
  retained : List (Nat × Nat) := []
  out : OutputImage := { al := 0, members := [], alarms := 0, details := [], recs := 0 }
  prevAlarms : Nat := 0
  prevRecs : Nat := 0
  level : Nat := 0
  readbackErr : Nat := 0
  readbackBad : Nat := 0
  pubs : Table PubState := []
  pubLate : Bool := false
  deriving DecidableEq, Repr

/-- The rest of the pair: checkpoints, the error task, scan figures, marks and counts. -/
structure AlcAux where
  slots : List Ckpt := []
  nextSeq : Nat := 1
  write : Option CkptWrite := none
  behind : List NorWriter := []
  ckptDue : List CkptCause := []
  lastCkpt : Stamp := 0
  pfwCkpt : Bool := false
  errPending : Bool := false
  errStations : Nat := 0
  errShown : Nat := 0
  arithErr : Bool := false
  firstScan : Bool := false
  runStamp : Option Stamp := none
  lastScanNs : Nat := 0
  scans : Nat := 0
  skipRun : Bool := false
  overSeen : Bool := false
  fallbackSeen : Bool := false
  ckptFailSeen : Bool := false
  powerFailStop : Bool := false
  inputs : List Nat := []
  cnt : Table W32 := []
  deriving DecidableEq, Repr

end Sys2Proof.Machine
end

