-- ==== Sys2Proof/Machine/State/Platform.lean ====
section
/-!
DEFINITION. State of the alignment platform (04_platform).
-/
namespace Sys2Proof.Machine

set_option genSizeOfSpec false

/-- PLT_GROUP_QUERY STATE of a group that exists. -/
inductive GroupState where
  | disabled
  | waitTime
  | departing
  deriving DecidableEq, Repr

/-- A channel value with its type, its quality word (Table 04-2), and whether the write is usable (R124). -/
structure ChanVal where
  type : Nat
  value : W64
  qual : W16
  usable : Bool
  deriving DecidableEq, Repr

/-- The slots of one contract for one instant: every channel of one frame (R123), the completion stamp and the
frame's arrival stamp. -/
structure Slot where
  inst : Nat
  vals : List ChanVal
  stamp : Stamp
  arrival : Stamp
  deriving DecidableEq, Repr

/-- An output group (Table 04-3, R120 to R122, R130, R137). `first` is the first instant departed since enabling or leaving
WAIT_TIME, `last` the last one released or skipped, `lastRel` the release tick of the last instant released; `waits` the wait budgets with the
instant each applies from, newest first; `horizons` the H with the arrival stamp after which each applies, newest first; `house` the
stamps at which the house of an instant became full; `released` the instants released with their release ticks and SEQ; `skips` the instants beyond the
next one that a forward step has skipped (R137), `due` the due ticks of instants that were due before their base was set or slewed anew. -/
structure Group where
  set : PltGroupSet
  state : GroupState := .disabled
  first : Option Nat := none
  last : Option Nat := none
  lastRel : Stamp := 0
  waits : List (Nat × Nat) := []
  horizons : List (Stamp × Nat) := []
  house : Table Stamp := []
  seq : Nat := 0
  resumed : Bool := false
  released : List (Nat × Stamp × Nat) := []
  skips : List Nat := []
  due : Table Stamp := []
  deriving DecidableEq, Repr

/-- What the platform keeps for a contract: its slots, and per channel the hold value with its instant. -/
structure ContractSlots where
  slots : List Slot := []
  hold : Table (Nat × ChanVal) := []
  deriving DecidableEq, Repr

/-- A late frame in the sidings (R133, R136). `due` holds the groups whose slice of the instant is still to be handed over, which the supplement
follows (R135). -/
structure Siding where
  contract : Nat
  part : Nat
  slot : Slot
  groups : List Nat
  ends : Stamp
  bytes : Nat
  due : List Nat := []
  deriving DecidableEq, Repr

/-- An entry of a slice (Table 04-6). -/
structure SliceEntry where
  contract : Nat
  stream : Nat
  ch : Nat
  type : Nat
  value : W64
  qual : W16
  arrOfs : Nat
  deriving DecidableEq, Repr

/-- A departed slice or a supplement (Table 04-5). -/
structure Slice where
  group : Nat
  tb : Nat
  supplement : Bool
  inst : Nat
  rel : Stamp
  seq : Nat
  early : Bool
  holdover : Bool
  resumed : Bool
  entries : List SliceEntry
  deriving DecidableEq, Repr

/-- A record in a departure ring: offset, length, GAP count, and what it carries; none for padding (R140). -/
structure RingRec where
  offset : Nat
  len : Nat
  lost : Nat
  slice : Option Slice
  deriving DecidableEq, Repr

structure DepRing where
  set : PltRingSet
  prod : W32 := 0
  cons : W32 := 0
  lost : Nat := 0
  stopped : Bool := false
  records : List RingRec := []
  deriving DecidableEq, Repr

/-- An output stream (R141 to R143). `types` holds the TYPE of each mapped channel as the map was set. -/
structure Out where
  set : PltOutSet
  blocks : Table PltOutMap := []
  types : Table (List Nat) := []
  mapChanged : Bool := false
  cfgCnt : Nat := 0
  on : Bool := true
  lastAnswer : Option Stamp := none
  ignored : Nat := 0
  deriving DecidableEq, Repr

/-- An output frame as it was queued: SOC, FRACSEC, the STAT word of each block, its words in channel order, and for a C37.118.2 frame its bytes as they
stand on the wire, big-endian (R8, R142). The bytes of an R-SV frame are those of its standard and are not formed (log 118). -/
structure OutFrame where
  out : Nat
  inst : Nat
  soc : Nat
  fracsec : Nat
  stats : List (BitVec 16)
  words : List W64
  wire : List Byte
  deriving DecidableEq, Repr

/-- The platform. `slots` is by carrier number, `freed` the slots that contracts held when they were RELEASED, newest first; `policy` by channel key, newest change first with its completion stamp (R131, R132);
`delivered` holds the channel keys that have delivered a value since their latest HOLD_EXPIRED. -/
structure PlatformSt where
  groups : Table Group := []
  slots : Table ContractSlots := []
  freed : List (Stamp × Nat × ContractSlots) := []
  policy : Table (List (Stamp × Nat × Nat)) := []
  delivered : List Nat := []
  sidings : List Siding := []
  history : List Slice := []
  latest : Table Slice := []
  rings : Table DepRing := []
  outs : Table Out := []
  frames : List OutFrame := []
  overrunSeen : List Nat := []
  dupSeen : List Nat := []
  suppSecond : Table Nat := []
  cnt : Table W32 := []
  deriving DecidableEq, Repr

end Sys2Proof.Machine
end

