-- ==== Sys2Proof/Machine/State/Clusters.lean ====
section
/-!
DEFINITION. State of the clusters and the scheduler (11_clusters).
-/
namespace Sys2Proof.Machine

set_option genSizeOfSpec false

/-- Table 11-1. -/
inductive ClusterState where
  | inService
  | draining
  | drained
  | updating
  | faulted
  | retired
  | testing
  deriving DecidableEq, Repr

/-- A work item (R320): the conversion of one frame, or the platform write of one instant of a waveform unit. `contract` is the carrier's
number; `cancelled` marks a dispatched item whose abort is due (R333); `ranOn` the cluster and the lane core that completed it; `emitted` that it has been on
a ready list, from which on `emit` stands; `last` the stamp of its frame's last bit, from which stage S0 is measured (01_architecture Table 01-8). -/
structure Item where
  stream : Nat
  contract : Nat
  fsn : W32
  priority : Nat
  emit : Stamp
  arrival : Stamp
  inst : Nat
  vals : List ChanVal
  cancelled : Bool := false
  restarted : Bool := false
  ranOn : Option (Nat × Nat) := none
  emitted : Bool := false
  last : Option Stamp := none
  deriving DecidableEq, Repr

/-- An item on a lane core, with its dispatch stamp and the longest wait of its priority before it. -/
structure CoreRun where
  item : Item
  start : Stamp
  waitWas : Nat := 0
  deriving DecidableEq, Repr

/-- A wait that ended in the latest 100 ms: priority, dispatch stamp, wait. -/
structure WaitSample where
  priority : Nat
  at_ : Stamp
  ns : Nat
  deriving DecidableEq, Repr

/-- A finished run of a lane core in the latest 100 ms. -/
structure BusySample where
  core : Nat
  start : Stamp
  stop : Stamp
  deriving DecidableEq, Repr

/-- Table 11-4. -/
structure TraceRec where
  kind : Nat
  cluster : Nat
  core : Nat
  priority : Nat
  stream : Nat
  fsn : W32
  len : Nat
  stamp : Stamp
  emit : Stamp
  deriving DecidableEq, Repr

/-- A cluster. `trace` is its scheduling trace ring in DRAM, newest first, `localMem` its local memory of 1 MiB, of which a byte that is not listed reads 0; no
row gives what the lane cores keep there (R319, Tables 01-5a and 01-6; log entry 177). -/
structure Cluster where
  state : ClusterState := .testing
  faults : List Stamp := []
  bank : Nat := 0
  cores : Table CoreRun := []
  lists : Table (List Item) := []
  holds : Table (List Item) := []
  maxDepth : Table Nat := []
  waitMax : Table Nat := []
  waits : List WaitSample := []
  busy : List BusySample := []
  retiredMark : Bool := false
  trace : List TraceRec := []
  localMem : List Host.Cell := []
  deriving DecidableEq, Repr

/-- The flow of one stream (R327 to R329): the number of the next item to be made and to be released, completed or
withdrawn items at the gate, the items that wait for the span of 64, numbered and in order, and the hold
after a gate fault with the number of the first item of the stream's next frame. -/
structure Flow where
  nextEmit : W32 := 0
  nextWrite : W32 := 0
  gate : List Item := []
  gone : List W32 := []
  waiting : List Item := []
  faulted : Bool := false
  resumeAt : Option W32 := none
  deriving DecidableEq, Repr

structure TraceRing where
  set : SchTraceSet
  prod : W32 := 0
  cons : W32 := 0
  lost : Nat := 0
  lastGap : Option Stamp := none
  stopped : Bool := false
  records : List TraceRec := []
  deriving DecidableEq, Repr

structure SchedSt where
  clusters : Table Cluster := []
  flows : Table Flow := []
  traces : Table TraceRing := []
  holdSeen : Bool := false
  restartSeen : Bool := false
  gateFaultSeen : Bool := false
  lastHold : Option Stamp := none
  cnt : Table W32 := []
  deriving DecidableEq, Repr

end Sys2Proof.Machine
end

