-- ==== Sys2Proof/Machine/State/Coherency.lean ====
section
/-!
DEFINITION. State of the coherency engine (08_coherency). Angles are in parts of a radian, and ν′ and δ are kept as binary32 images and exact
fractions as R236 gives them.
-/
namespace Sys2Proof.Machine

set_option genSizeOfSpec false

/-- A usable sample in a bus's window: instant, δ and ν as stored, ν′, and whether it carried TEST. -/
structure BusSample where
  inst : Nat
  delta : BitVec 32
  nu : BitVec 32
  test : Bool
  deriving DecidableEq, Repr

/-- A bus: its entry, the unwrapped angle and the argument at its last usable instant, the instant and argument of the latest phasor that met R232, and its
window, newest first. -/
structure Bus where
  set : BusEntry
  theta : Option Int := some 0
  arg : Int := 0
  lastInst : Option Nat := none
  phasor : Option (Nat × Int) := none
  nuPrime : Frac := { num := 0, den := 1 }
  usable : Bool := false
  ready : Bool := false
  label : Nat := 0xFFFF
  win : List BusSample := []
  deriving DecidableEq, Repr

/-- A followed candidate (R241, R243). -/
structure Candidate where
  label : Nat
  members : List Nat
  count : Nat
  seen : Bool
  fullSaid : Bool
  from_ : Option Nat
  parent : Nat
  deriving DecidableEq, Repr

/-- A boundary entry (R245). -/
structure BoundaryEntry where
  bus : Nat
  outside : Nat
  dist : BitVec 32
  deriving DecidableEq, Repr

/-- A live island (Table 08-7). -/
structure Island where
  id : Nat
  members : List Nat
  parent : Nat := 0
  clearCount : Nat := 0
  noData : Bool := false
  isNew : Bool := true
  absorbed : Bool := false
  splitChild : Bool := false
  rejoined : Bool := false
  test : Bool := false
  held : List Nat := []
  freq : BitVec 32 := 0
  deltaF : BitVec 32 := 0
  angSep : BitVec 32 := 0
  angGrowth : BitVec 32 := 0
  inertia : BitVec 32 := 0
  boundary : List BoundaryEntry := []
  declaredAt : Nat := 0
  criteriaFrom : Nat := 0
  lastVerdict : Nat := 0
  deriving DecidableEq, Repr

/-- The results of an evaluation. -/
structure CohEval where
  inst : Nat := 0
  main : List Nat := []
  mainLabel : Nat := 0
  hasMain : Bool := false
  noMain : Bool := false
  islands : Table Island := []
  cands : List Candidate := []
  ready : Nat := 0
  usable : Nat := 0
  coiFreq : BitVec 32 := 0
  coiTheta : Frac := { num := 0, den := 1 }
  deriving DecidableEq, Repr

/-- Members of M: none where the evaluation has no component (Tables 08-6 and 08-11); `main` keeps the last main component for R239. -/
def CohEval.mainMembers (e : CohEval) : Nat := if e.mainLabel == 0xFFFF then 0 else e.main.length

/-- A bus entry that waits for its release tick (R247), with its command's completion stamp. -/
structure BusChange where
  bus : Nat
  entry : BusEntry
  done : Stamp
  deriving DecidableEq, Repr

/-- The engine. `prev` is the evaluation before the latest, which a discarded evaluation falls back to (R251), and `prevBuses`, `prevFirst`, `prevId` and `prevCnt`
what stood beside it; `next` and `nextBuses` are the changes that wait, in order. -/
structure CohSt where
  set : Option CohSet := none
  next : List (CohSet × Stamp) := []
  buses : Table Bus := []
  nextBuses : List BusChange := []
  eval : CohEval := {}
  prev : CohEval := {}
  prevBuses : Table Bus := []
  prevFirst : Bool := true
  prevId : Nat := 1
  prevCnt : Table W32 := []
  first : Bool := true
  seq : Nat := 0
  stale : Bool := false
  discardSeen : Bool := false
  nextId : Nat := 1
  cnt : Table W32 := []
  deriving DecidableEq, Repr

end Sys2Proof.Machine
end

