-- ==== Sys2Proof/Machine/State/Hosts.lean ====
section
/-!
DEFINITION. State of the host block (14_hosts): partitions, grants, shares, command queues, replies,
events, the in-band channel, the service port and the Placement streams.
Field defaults are the values after a cold reset.
-/
namespace Sys2Proof.Machine

set_option genSizeOfSpec false

/-- A replay window (R95, R420): the highest number accepted and which of the 63 below it were. -/
structure Replay where
  any : Bool := false
  highest : Nat := 0
  mask : W64 := 0
  deriving DecidableEq, Repr

/-- State of a partition (HST_ID.STATE): ABSENT, CREATED, RESETTING. -/
inductive PartState where
  | absent
  | created
  | resetting
  deriving DecidableEq, Repr

/-- One write of the ownership of a range of resources: the newest write that covers an index decides its
holder (R405). -/
structure GrantEntry where
  kind : Nat
  first : Nat
  count : Nat
  dest : Nat
  deriving DecidableEq, Repr

/-- One give or removal of a read-only share grant, or of PORT_HOST; the newest one that covers an index
and reader decides (R409, Table 14-3). `reader` none means every partition. -/
structure ShareEntry where
  kind : Nat
  first : Nat
  count : Nat
  reader : Option Nat
  give : Bool
  deriving DecidableEq, Repr

/-- A record of Table 14-11. -/
structure EvRec where
  source : Nat
  alarm : Bool
  held : Bool
  count : Nat
  detail : Nat
  first : Stamp
  last : Stamp
  deriving DecidableEq, Repr

/-- The latch of one event source for one partition (R426): the end of its hold-off, and the record
pending in it. -/
structure Latch where
  holdEnd : Stamp
  pending : Option EvRec
  deriving DecidableEq, Repr

/-- The queue registers of one partition (Table 14-14) and its queue error stop (R416). -/
structure QueueRegs where
  sqAddr : W64 := 0
  sqSize : W32 := 0
  sqTail : W32 := 0
  sqHead : W32 := 0
  rqAddr : W64 := 0
  rqSize : W32 := 0
  rqTail : W32 := 0
  rqHead : W32 := 0
  wbAddr : W64 := 0
  enable : Bool := false
  stopped : Bool := false
  cmdqErr : Bool := false
  dmaErr : Bool := false
  linkStop : Bool := false
  deriving DecidableEq, Repr

/-- The event ring of one partition (R425 to R429). `tickN` of the records newest in `written` were written in the tick `tickAt`. -/
structure EventRing where
  size : Nat := 0
  reserve : Nat := 64
  addr : Nat := 0
  prod : W32 := 0
  cons : W32 := 0
  holdoffUs : Nat := 1000
  latches : Table Latch := []
  heldEvents : List EvRec := []
  heldAlarms : List EvRec := []
  written : List EvRec := []
  tickAt : Stamp := 0
  tickN : Nat := 0
  route : Table Nat := []
  ringRoute : Table Nat := []
  stopped : Bool := false
  deriving DecidableEq, Repr

/-- In-band settings of one partition (R419, R420). -/
structure Inband where
  enable : Bool := false
  keyVerify : Nat := 0xFF
  keyVerifyNext : Nat := 0xFF
  keySign : Nat := 0xFF
  peerIp : Nat := 0
  replay : Replay := {}
  drop : W32 := 0
  deriving DecidableEq, Repr

/-- One partition: its state, shares (R407), privileges (R408), queues, events, channel, its MSI-X table
and pending bits (Table 14-1). -/
structure Part where
  state : PartState := .absent
  capacity : Nat := 0
  platform : Nat := 0
  sidingsMib : Nat := 0
  poolMib : Nat := 0
  observeFull : Bool := false
  safety : Bool := false
  q : QueueRegs := {}
  ev : EventRing := {}
  ib : Inband := {}
  msixTable : Table W32 := []
  msixPending : W64 := 0
  deriving DecidableEq, Repr

/-- A reply as the device wrote it (Table 14-5). `offset` is its place in the reply queue, in the
free-running count of RQ_TAIL; it is 0 for the other two channels. -/
structure Reply where
  part : Nat
  chan : Channel
  status : Nat
  truncated : Bool
  version : Nat
  tag : Nat
  opcode : Nat
  detail : Nat
  stamp : Stamp
  result : List Byte
  offset : Nat
  deriving DecidableEq, Repr

/-- Why a started command has not yet been answered: Table 14-8, and the resets and tests whose reply
follows their end. -/
inductive WaitFor where
  | exchange
  | checkpoint
  | rejoin (cluster : Nat)
  | restep (tb : Nat) (deadline : Stamp)
  | dmaCopy (addr : Nat) (data res : List Byte)
  | recExport (rec : Nat)
  | alcLoad
  | fwLoad
  | cfgLoad
  | clusterUpdate (cluster : Nat)
  | mgmtRestart (old : Nat)
  | alcSwitch (old : Nat)
  | partReset (target : Nat)
  | selftest (parts : Nat)
  | wake
  | keyCommit (slot : Nat) (res : List Byte)
  | alcStop (old : Nat)
  deriving DecidableEq, Repr

/-- A command in flight (R413, R415). -/
structure Waiting where
  pkt : Pkt
  opcode : Nat
  what : WaitFor
  pendingSent : Bool
  deriving DecidableEq, Repr

/-- A verified request of the in-band channel or the service port whose command has not yet run, with where
its reply goes (R419). -/
structure Request where
  part : Nat
  port : Nat
  ip : Nat
  udpPort : Nat
  seq : Nat
  opcode : Nat
  tag : Nat
  started : Bool := false
  deriving DecidableEq, Repr

/-- A job of the emission of events and fault records (R425, 16_safety R473): an event for a partition, or a
fault of a source with its detail, the partition concerned (0xFF when device-wide), and how it came about. -/
inductive Job where
  | event (part source detail : Nat)
  | fault (source detail part : Nat) (injected real react : Bool)
  deriving DecidableEq, Repr

/-- A stream placed by Q31_STREAM_ADD (R430). -/
structure PlacedStream where
  part : Nat
  protocol : Nat
  rate : Nat
  channels : Nat
  groupMask : Nat
  timeoutMs : Nat
  cluster : Nat
  active : Bool
  seen : Bool
  bytes : Nat
  work : List (Stamp × Nat)
  deriving DecidableEq, Repr

/-- Work that a lane core did for a stream, in lane-ns (R68). -/
structure ClusterWork where
  cluster : Nat
  stream : Nat
  at_ : Stamp
  ns : Nat
  deriving DecidableEq, Repr

/-- The host block. `dma` is what the device has written to host memory: partition, address and bytes of
each write, newest first; `staged` the writes of rings and their counts into staging buffers, newest first, which the buffer's next write takes in (R423). `spiRead` is what the latest read of the service port returned, none when no reply waited, and
`spiStatus` the latest status byte (R422). `shadow` is
by partition and BAR0 offset (R532), `interim` whether the command that runs had its interim reply while it was
held (R414), `loads` the work of the clusters in the latest second (R68), `staging` the staging buffer of each partition (R423), `barValue` what the latest register read that is a row returned,
`lastDone` the latest completion stamp of each partition (R415). -/
structure HostSt where
  parts : Table Part := []
  timeOwner : Nat := 0
  grants : List GrantEntry := []
  shares : List ShareEntry := []
  replies : List Reply := []
  waiting : List Waiting := []
  lastDone : Table Stamp := []
  inbox : List Request := []
  udpPort : Nat := 49470
  dropSecond : Option Nat := none
  spiSession : Option Stamp := none
  spiInbox : List Request := []
  spiReplies : List Reply := []
  spiRead : Option Reply := none
  spiStatus : Nat := 0
  msix : List (Nat × Nat) := []
  dma : List (Nat × Nat × List Byte) := []
  alarmBacklog : Bool := false
  placed : Table PlacedStream := []
  shadow : Table Nat := []
  staging : Table (List Host.Cell) := []
  staged : List (Nat × Nat × List Byte) := []
  interim : Bool := false
  loads : List ClusterWork := []
  barValue : Nat := 0
  deriving DecidableEq, Repr

end Sys2Proof.Machine
end

