-- ==== Sys2Proof/Machine/State/Ingest.lean ====
section
/-!
DEFINITION. State of the ingest unit (03_ingest).
-/
namespace Sys2Proof.Machine

set_option genSizeOfSpec false

/-- A stored configuration or header frame (R89, ING_GET_CONFIG). -/
structure StoredFrame where
  raw : List Byte
  cfgCnt : Nat
  stamp : Stamp
  deriving DecidableEq, Repr

/-- A layout that waits for its T_b; `from` is none where it applies to every frame processed from now on (R90). -/
structure PendingLayout where
  layout : Layout
  from_ : Option Nat
  deriving DecidableEq, Repr

/-- CONFIG_MISMATCH: its reason, the layout refused, and the instant it holds from (R91). -/
structure Mismatch where
  reason : Nat
  refused : Option Layout
  from_ : Option Nat
  deriving DecidableEq, Repr

/-- A CFG-3 frame that is being reassembled (Table 03-2): the CONT_IDX of its next fragment and the bytes so far. -/
structure CfgParts where
  next : Nat
  raw : List Byte
  deriving DecidableEq, Repr

/-- What ingest keeps for one stream beside its subscription. `confRev` is the revision in force where CONF_REV
is 0. `past` holds, newest first, the layouts that others took the place of, each with the T_b up to which it was in force (R90). `refused` says, newest first, from which stamps on the latest data frame was or was not discarded as LAYOUT_ERR or
MISMATCH_DROP; `statGood` says that the latest data frame had STAT [15:14] 0 in every block; `lastStat` and `stats` are the STAT words of its first block and of every
block, `timeQuality` its FRACSEC[31:24] with the leap-second bits, `svQual` the quality words of the latest sample (Tables 03-3, 03-4, 03-9). `keyChanges`
holds, newest first, the stamps of the latest key changes with the key slots in force up to each (R97). -/
structure StreamSt where
  layout : Option Layout := none
  pend : Option PendingLayout := none
  past : List (Nat × Option Layout) := []
  mismatch : Option Mismatch := none
  stored : Table StoredFrame := []
  lastCfg : Option Stamp := none
  parts : Option CfgParts := none
  lastArrival : Option Stamp := none
  lastCmd : Option Stamp := none
  waitCmds : List Nat := []
  restartAt : Option Stamp := none
  onAt : Option Stamp := none
  replay : Replay := {}
  overlapEnd : Option Stamp := none
  keyChanges : List (Stamp × Nat × Nat) := []
  simInUse : Bool := false
  simSeen : Bool := false
  confRev : Option Nat := none
  statGood : Bool := false
  lastStat : BitVec 16 := 0
  stats : List (BitVec 16) := []
  timeQuality : Nat := 0
  svQual : List (BitVec 32) := []
  uncertain : Bool := false
  timeRejected : Bool := false
  refused : List (Stamp × Bool) := []
  cnt : Table W32 := []
  deriving DecidableEq, Repr

/-- A remote station (R102 to R104): WAITING, first frame seen, healthy, or dropped. -/
inductive StationState where
  | waiting
  | firstSeen
  | healthy
  | dropped
  deriving DecidableEq, Repr

/-- A station entry; `keyChanges` as for a stream (R97). -/
structure Station where
  sub : IngGooseSub
  state : StationState := .waiting
  badConfig : Bool := false
  inOrder : Nat := 0
  stNum : Nat := 0
  sqNum : Nat := 0
  deadline : Option Stamp := none
  test : Bool := false
  simInUse : Bool := false
  simSeen : Bool := false
  values : List (Nat × Nat) := []
  replay : Replay := {}
  keyChanges : List (Stamp × Nat × Nat) := []
  discarded : W32 := 0
  sqGaps : W32 := 0
  deriving DecidableEq, Repr

/-- A source of the duplicate table (R106). -/
structure DupSource where
  mac : Nat
  lastUse : Stamp
  seqs : List (Nat × Stamp)
  deriving DecidableEq, Repr

structure IngestSt where
  subs : Table IngSubSet := []
  streams : Table StreamSt := []
  stations : Table Station := []
  dup : List DupSource := []
  unknownToHost : Nat := 0
  authFailSeen : List Nat := []
  forgetMs : Nat := 400
  cnt : Table W32 := []
  deriving DecidableEq, Repr

end Sys2Proof.Machine
end

