-- ==== Sys2Proof/Machine/State/Metering.lean ====
section
/-!
DEFINITION. State of the metering block (06_metering).
-/
namespace Sys2Proof.Machine

set_option genSizeOfSpec false

/-- A results record (Table 06-8): binary32 images. -/
structure NrgResult where
  stamp : Int := 0
  rms : List (BitVec 32) := List.replicate 6 0
  power : List (BitVec 32) := List.replicate 5 0
  angles : List (BitVec 32) := List.replicate 5 0
  questionable : Bool := false
  gap : Bool := false
  freqInvalid : Bool := false
  deriving DecidableEq, Repr

/-- One accumulator: its count, its wraps and its residue in µJ (R189, R191). -/
structure Acc where
  count : W64 := 0
  wraps : Byte := 0
  residue : Nat := 0
  deriving DecidableEq, Repr

/-- A metering point. `gapUnits` counts time not integrated in units of 1/2,400 s, in which every τ is whole; `integrated` says whether the latest update was (R193); `fresh` holds the increments of
the present TB_0 tick, by accumulator, and `freshAt` that tick (R192). -/
structure Meter where
  set : NrgPointSet
  running : Bool := false
  lost : Bool := false
  res : NrgResult := {}
  accs : List Acc := List.replicate 6 {}
  gapUnits : Nat := 0
  integrated : Bool := false
  fresh : List (Nat × Nat) := []
  freshAt : Stamp := 0
  accFault : Bool := false
  startStamp : Stamp := 0
  deriving DecidableEq, Repr

/-- A pulse input: its setting, count, and the start of its present check interval (R194, R195). -/
structure PulseIn where
  set : NrgPiSet
  count : W64 := 0
  closed : Option Bool := none
  checkStart : Stamp := 0
  pulses : Nat := 0
  accStart : Nat := 0
  wrapStart : Nat := 0
  spoilt : Bool := false
  skipped : Nat := 0
  deriving DecidableEq, Repr

/-- What the pin of a pulse output is doing. -/
inductive PoPhase where
  | idle
  | active
  | gap
  deriving DecidableEq, Repr

/-- A pulse output; `phaseAt` is when the present active or gap time began (R196). -/
structure PulseOut where
  set : NrgPoSet
  next : Option NrgPoSet := none
  spill : Nat := 0
  pending : Nat := 0
  lost : Nat := 0
  lostSeen : Bool := false
  backlogSeen : Bool := false
  lostInBacklog : Bool := false
  phase : PoPhase := .idle
  phaseAt : Stamp := 0
  deriving DecidableEq, Repr

/-- The metering block. `piAt` holds when each pulse input line's level was last accepted (R194). -/
structure MeterSt where
  points : Table Meter := []
  piLevel : Nat := 0
  piAt : Table Stamp := []
  pis : Table PulseIn := []
  pos : Table PulseOut := []
  gapSeen : List Nat := []
  mismatchSeen : List Nat := []
  accFaultSeen : List Nat := []
  deriving DecidableEq, Repr

end Sys2Proof.Machine
end

