-- ==== Sys2Proof/Machine/State/Oscillation.lean ====
section
/-!
DEFINITION. State of the oscillation block (07_oscillation).
-/
namespace Sys2Proof.Machine

set_option genSizeOfSpec false

/-- A filter output in a detector's window: the number of its sample from the start of the timescale at the detector's rate, its value as a binary64
image, the running sum of squares after it (R207), whether its input was unusable, and the marks that its input carried. -/
structure DetSample where
  time : Int
  y : BitVec 64
  sum : BitVec 64
  bad : Bool
  qual : W16
  deriving DecidableEq, Repr

/-- A band-energy detector (R205 to R213). `win` has the newest output first; `filt` is the state of its second-order sections; `primeFrom` the
number of the first sample since priming began; `next` the changes that wait, oldest first, with their completion stamps (R213); `timely` whether the
latest decision was not late, `hadVerdict` whether a verdict came since the latest decision without one that was counted (R210, R211). -/
structure Detector where
  set : OscDetSet
  next : List (OscDetSet × Stamp) := []
  filt : List (BitVec 64) := []
  win : List DetSample := []
  primeFrom : Option Int := none
  lastTime : Option Int := none
  lastIn : BitVec 64 := 0
  angle : Int := 0
  lastArg : Option Int := none
  badRun : Nat := 0
  asserted : Bool := false
  changed : Bool := false
  stamp : Int := 0
  test : Bool := false
  runAbove : Nat := 0
  runBelow : Nat := 0
  amp : BitVec 32 := 0
  timely : Bool := false
  hadVerdict : Bool := false
  primed : Bool := false
  deriving DecidableEq, Repr

/-- A source sample of a modal signal: its number, its value, none where it is unusable, its marks, and when it came. -/
structure SigSample where
  time : Int
  v : Option Frac
  qual : W16
  at_ : Stamp
  deriving DecidableEq, Repr

/-- A modal signal: its source samples since it was set, newest first; `angle` and `lastArg` carry the unwrapping of its angle; `excluded` whether the latest
refresh left it out, `wasIn` whether the latest refresh that judged it took it in (R218). -/
structure ModalSig where
  set : OscSigSet
  hist : List SigSample := []
  angle : Int := 0
  lastArg : Option Int := none
  excluded : Bool := false
  wasIn : Bool := false
  deriving DecidableEq, Repr

/-- A mode record (Table 07-6). -/
structure Mode where
  id : Nat
  cand : ModalCand
  refSig : Nat
  stale : Bool
  isNew : Bool
  alarm : Bool
  pair : Option Nat
  fm : BitVec 32
  firstSeen : Int
  winEnd : Int
  missed : Nat
  low : Nat
  recovered : Nat
  deriving DecidableEq, Repr

structure OscSt where
  dets : Table Detector := []
  bands : Table OscModalSet := []
  sigs : Table ModalSig := []
  modes : Table Mode := []
  nextId : Nat := 1
  seq : Nat := 0
  refresh : Int := 0
  bandsDone : Nat := 0
  overrunSeen : Bool := false
  /-- A signal was excluded at the latest refresh (Table 07-12). -/
  excludedAny : Bool := false
  cnt : Table W32 := []
  deriving DecidableEq, Repr

end Sys2Proof.Machine
end

