-- ==== Sys2Proof/Machine/State/Power.lean ====
section
/-!
DEFINITION. State of the power and update block (17_power_states), of the latency monitors
(01_architecture R39) and of the device identity registers.
-/
namespace Sys2Proof.Machine

set_option genSizeOfSpec false

/-- PWR_STATUS.STATE, Table 17-9. -/
inductive PwrState where
  | starting
  | running
  | entering
  | stabled
  | waking
  | halted
  deriving DecidableEq, Repr

/-- A firmware bank (R509). -/
structure Bank where
  verified : Bool := false
  version : Nat := 0
  svn : Nat := 0
  raiseSvn : Bool := false
  digest : Nat := 0
  nolivik : Option SigKey := some (.root 0)
  owner : Option SigKey := none
  deriving DecidableEq, Repr

/-- Power and reset. `wake` is PWR_CTRL.WAKE, `wakeKept` a request that came while entry was in progress, `wakeStamp` t_w, `entryAt` t_c; `startAt` is when the
latest start-up began and `startupAt` when it was done; `pfwIncomplete` says that what was begun under PFW_N was not completed (R496). -/
structure PowerSt where
  state : PwrState := .starting
  pfwLow : Bool := false
  pfwSeen : Bool := false
  pfwIncomplete : Bool := false
  wakeRefused : Bool := false
  cause : Nat := 1
  orderly : Bool := false
  lostSupply : Bool := false
  wake : Bool := false
  wakeKept : Bool := false
  wakeStamp : Option Stamp := none
  entryAt : Stamp := 0
  lastEntry : Stamp := 0
  lastWake : Stamp := 0
  startupMs : Nat := 0
  wakeUs : Nat := 0
  startupDone : Bool := false
  startAt : Stamp := 0
  startupAt : Stamp := 0
  porHeld : Bool := true
  perstHeld : Bool := false
  deriving DecidableEq, Repr

/-- Firmware banks: which one runs, which one start-up reads, which one the logic pair runs, the minimum
security version, a management restart and the bank it goes to, a load in flight, and a switch of the logic pair that waits for a scan
boundary (R509 to R512). -/
structure FirmwareSt where
  running : Nat := 0
  boot : Nat := 0
  alc : Nat := 0
  minSvn : Nat := 0
  bankA : Bank := {}
  bankB : Bank := {}
  mgmtRestart : Bool := false
  mgmtTo : Nat := 0
  loadInFlight : Option FwLoad := none
  alcSwitchAt : Option Stamp := none
  deriving DecidableEq, Repr

/-- The latency monitors (R39, Tables 01-10 and 01-11). -/
structure LatMon where
  enable : Bool := true
  excess : Nat := 0
  max : Table Nat := []
  tick : Stamp := 0
  tickMax : Table Nat := []
  tickOver : Nat := 0
  deriving DecidableEq, Repr

end Sys2Proof.Machine
end

