-- ==== Sys2Proof/Machine/State/Recorders.lean ====
section
/-!
DEFINITION. State of the disturbance recorders (10_recorders).
-/
namespace Sys2Proof.Machine

set_option genSizeOfSpec false

/-- What a block has taken for one channel: the exact sum of the usable samples, how many, the OR of all quality words, for an angle the first sample of
the block in picodegrees, and the grid numbers taken: the first write of each stands. -/
structure PointAcc where
  sum : Frac := { num := 0, den := 1 }
  usable : Nat := 0
  qual : W16 := 0
  first : Option Int := none
  seen : List Nat := []
  deriving DecidableEq, Repr

/-- A channel of an evaluated point (Table 10-2): `value` is the 64-bit sum for KIND 1, the binary64 mean for KIND 2. -/
structure PointEntry where
  value : W64
  qual : W16
  usable : Nat
  deriving DecidableEq, Repr

structure Point where
  k : Nat
  entries : List PointEntry
  deriving DecidableEq, Repr

/-- A trigger condition and its arming (R305). -/
structure Cond where
  set : RecCondSet
  armedRise : Bool := false
  armedFall : Bool := false
  deriving DecidableEq, Repr

/-- Table 10-3. -/
inductive RecState where
  | off
  | disarmed
  | armed
  | filling
  | waitSlot
  deriving DecidableEq, Repr

/-- A measurement entry (Table 10-5): binary64 images and counts. -/
structure Meas where
  min : BitVec 64
  max : BitVec 64
  mean : BitVec 64
  rms : BitVec 64
  ampl : BitVec 64
  period : BitVec 64
  crossings : Nat
  usable : Nat
  minIdx : Nat
  maxIdx : Nat
  deriving DecidableEq, Repr

/-- A record: the settings it was made under (`types` the TYPE of each channel, `words` the channels that are whole digital words), the header fields of Table 10-6, its points in
order, and its measurements once complete. -/
structure Record where
  set : RecSet
  tb : Nat
  rate : Nat
  chans : Table RecChan
  types : Table Nat := []
  words : List Nat := []
  seq : Nat
  slot : Nat
  causeMask : Nat
  firstCond : Nat
  trigK : Nat
  trigTime : Int
  trigFrac : Nat
  shortPre : Bool
  trigLate : Bool
  aborted : Bool := false
  truncated : Bool := false
  damaged : Bool := false
  test : Bool := false
  preActual : Nat
  firstTime : Int
  retriggers : Nat := 0
  retrigFirst : Int := 0
  cross : List (Nat × Int)
  points : List Point
  postLeft : Nat
  complete : Bool := false
  doneStamp : Stamp := 0
  meas : List Meas := []
  exporting : Bool := false
  deriving DecidableEq, Repr

/-- An entry of a stream ring (R303). -/
structure StreamEntry where
  kind : Nat
  offset : Nat
  len : Nat
  points : List Point
  record : Option Record
  deriving DecidableEq, Repr

structure StreamRing where
  set : RecStreamSet
  prod : W32 := 0
  cons : W32 := 0
  stopped : Bool := false
  entries : List StreamEntry := []
  deriving DecidableEq, Repr

/-- An external trigger not yet assigned to a point, at a time in thirds of a ns (R306, R307). -/
structure ExtTrigger where
  cond : Nat
  thirds : Int
  deriving DecidableEq, Repr

/-- An export under way or done (R312, R313): what was asked, and the bytes of the configuration file, none with FORMAT 1, and of the data file. -/
structure ExportLog where
  req : RecExport
  cfg : List Byte
  dat : List Byte
  deriving DecidableEq, Repr

/-- A recorder. Grid sample g of a base is at g ÷ GRID_RATE from the start of its timescale; `origin` is the first grid sample after arming, `open_`
the blocks not yet evaluated, `store` the evaluated points, newest first, `backlog` what a stream ring has not yet taken, `evaluated` the runs of grid samples whose points have been
evaluated, one past their ends, newest first, over all armings, and `lastTime` the time of the point evaluated last. -/
structure Rec where
  set : RecSet
  chans : Table RecChan := []
  conds : Table Cond := []
  state : RecState := .disarmed
  tb : Nat := 0
  rate : Nat := 0
  armStamp : Stamp := 0
  origin : Option Nat := none
  nextK : Nat := 0
  open_ : Table (List PointAcc) := []
  store : List Point := []
  prevY : Table Frac := []
  ext : List ExtTrigger := []
  pmuTrig : Table Bool := []
  record : Option Record := none
  held : Table Record := []
  seq : Nat := 0
  missedSeen : Bool := false
  wasLatePoint : Bool := false
  ring : Option StreamRing := none
  backlog : List StreamEntry := []
  segFull : Bool := false
  types : Table Nat := []
  evaluated : List (Nat × Nat) := []
  lastTime : Option Int := none
  exporting : Option ExportLog := none
  deriving DecidableEq, Repr

structure RecSt where
  recs : Table Rec := []
  exports : List ExportLog := []
  cnt : Table W32 := []
  deriving DecidableEq, Repr

end Sys2Proof.Machine
end

