-- ==== Sys2Proof/Machine/State/Security.lean ====
section
/-!
DEFINITION. State of the security core (15_security).
-/
namespace Sys2Proof.Machine

set_option genSizeOfSpec false

/-- DEV_STATUS.LIFE_CYCLE. -/
inductive LifeCycle where
  | blank
  | personalised
  | deployed
  | returned
  | retired
  deriving DecidableEq, Repr

/-- A key and what it carries (R433, R440). -/
structure Key where
  attr : Nat
  type : Nat
  alg : Nat
  keyId : Nat
  exportable : Bool
  origin : Nat
  bindMask : Nat
  boundDigest : BitVec 512
  bytes : List Byte
  deriving DecidableEq, Repr

/-- One record bank of a slot in NOR (R452): the record written, its counter, and whether its commit
record is present. -/
structure KeyBank where
  key : Option Key := none
  counter : Nat := 0
  committed : Bool := true
  deriving DecidableEq, Repr

/-- A key slot: the working copy, the two record banks, and its marks (R433, R440, R452, R453). -/
structure KeySlot where
  key : Option Key := none
  unusable : Bool := false
  updateLost : Bool := false
  counter : Nat := 0
  changeStamp : Stamp := 0
  bankA : KeyBank := {}
  bankB : KeyBank := {}
  deriving DecidableEq, Repr

/-- LOG 0, Table 15-9. -/
structure MeasEntry where
  reg : Nat
  stage : Nat
  version : Nat
  svn : Nat
  stamp : Stamp
  digest : BitVec 512
  deriving DecidableEq, Repr

/-- LOG 1, Table 15-9. -/
structure TamperEntry where
  seq : Nat
  source : Nat
  state : Nat
  stamp : Stamp
  tb1 : Nat
  value : Nat
  deriving DecidableEq, Repr

/-- LOG 2, Table 15-9. -/
structure LifeEntry where
  seq : Nat
  fromState : Nat
  toState : Nat
  signer : Nat
  tb1 : Nat
  deriving DecidableEq, Repr

/-- The security core. `eraseDue` says that the records of NOR are still to be erased after a tamper (R457); none can be read from
the tamper on, since STORE_NONCE is gone. `revoked` are the revocation fuses of the root key hashes (R447), `rootSecret` is RS, `storeNonce` is none once
overwritten, and `certified` says that the identity certificate is written (R441, R451). -/
structure SecSt where
  slots : Table KeySlot := []
  life : LifeCycle := .deployed
  ownerBoot : Bool := false
  ownerHash : Nat := 0
  revoked : BitVec 4 := 0
  rootSecret : List Byte := List.replicate 32 0
  storeNonce : Option (List Byte) := some (List.replicate 32 0)
  certified : Bool := true
  bmr : Table (BitVec 512) := []
  measLog : List MeasEntry := []
  tamperLog : List TamperEntry := []
  lifeLog : List LifeEntry := []
  eraseDue : Bool := false
  tamperLatched : Bool := false
  tamperHold : Bool := false
  bootHold : Bool := false
  testUnlocked : Bool := false
  challenge : Option (List Byte × Stamp) := none
  quoteSeq : W64 := 0
  tmpMode : Table Nat := []
  tmpActive : List Nat := []
  drbgFailed : Bool := false
  drbgCount : Nat := 0
  fallback : Bool := false
  updateLostSeen : Bool := false
  signMissingSeen : Bool := false
  signMissingRun : List Nat := []
  cnt : Table W64 := []
  recoverySlot : Option Nat := none
  lifeChanged : Option (Nat × Nat) := none
  deriving DecidableEq, Repr

end Sys2Proof.Machine
end

