-- ==== Sys2Proof/Machine/State/SignalBox.lean ====
section
/-!
DEFINITION. State of the signal box (16_safety).
-/
namespace Sys2Proof.Machine

set_option genSizeOfSpec false

/-- A fault record, Table 16-3. -/
structure FaultRec where
  source : Nat
  cls : Nat
  declared : Nat
  effective : Nat
  injected : Bool
  real : Bool
  escalated : Bool
  acked : Bool
  active : Bool
  simultaneous : Bool
  react : Bool
  part : Nat
  seq : W32
  detail : W32
  stamp : Stamp
  ackStamp : Stamp
  deriving DecidableEq, Repr

/-- Corrections in one region (R484): the stamps within the latest hour, and whether FS_18 is active for it. -/
structure RegionCount where
  stamps : List Stamp := []
  excess : Bool := false
  deriving DecidableEq, Repr

/-- A self-test in progress (R486): the parts under test, whether requested, and when it began. -/
structure SelfTest where
  parts : Nat
  requested : Bool
  start : Stamp
  deriving DecidableEq, Repr

/-- An error that a checker met in its test slice (R487): a word, a monitored condition (none in range again) with whether the value lies low, a stall, the
comparison of the ERR pair. -/
inductive HeldError where
  | word (x : ScrubStep)
  | range (src : Nat) (low : Option Bool)
  | stall (b : StalledBlock)
  | pins (agree readbackOk : Bool)
  deriving DecidableEq, Repr

/-- The signal box. `active` holds the LEVEL sources whose condition is true, `forced` the force bits; `unackDisplaced` the unacknowledged records that newer
ones displaced from the history (R474); `regions` is by the regions of Tables 01-5a and 01-6; `badWords` the words found uncorrectable and not written
since (R485); `sramAt` and `dramAt` are when the present scrub passes began, `scrubOver` which are overdue (bit 0 SRAM, bit 1 DRAM); `lastPeriodic` is the end of the latest self-test that was not requested; `heldErrors` what a
checker met in its test slice (R487); `outOfRange` the conditions of FS_0 to FS_7 that hold at the pins and the sensor, with whether the value lies low. -/
structure FaultSt where
  history : List FaultRec := []
  unackDisplaced : List FaultRec := []
  lost : W32 := 0
  seq : W32 := 0
  first : Option FaultRec := none
  active : List Nat := []
  outOfRange : List (Nat × Bool) := []
  forced : List Nat := []
  errMin : Nat := 3
  ceLimit : Nat := 64
  ceSram : W32 := 0
  ceDram : W32 := 0
  regions : Table RegionCount := []
  sramMs : Nat := 0
  dramS : Nat := 0
  sramAt : Stamp := 0
  dramAt : Stamp := 0
  scrubOver : Nat := 0
  badWords : List (Nat × Nat) := []
  selftest : Option SelfTest := none
  lastTest : Stamp := 0
  lastPeriodic : Stamp := 0
  startupTestOk : Bool := false
  heldErrors : List HeldError := []
  errFault : Bool := true
  errP : Bool := false
  errN : Bool := false
  nextToggle : Stamp := 0
  haltSource : Option Nat := none
  deriving DecidableEq, Repr

end Sys2Proof.Machine
end

