-- ==== Sys2Proof/Machine/State/TestPort.lean ====
section
/-!
DEFINITION. State of the test port (18_package R518), an IEEE 1149.1 TAP.
-/
namespace Sys2Proof.Machine

set_option genSizeOfSpec false

inductive TapState where
  | testLogicReset
  | runTestIdle
  | selectDr
  | captureDr
  | shiftDr
  | exit1Dr
  | pauseDr
  | exit2Dr
  | updateDr
  | selectIr
  | captureIr
  | shiftIr
  | exit1Ir
  | pauseIr
  | exit2Ir
  | updateIr
  deriving DecidableEq, Repr

/-- The instruction in force: IDCODE, BYPASS, or a boundary scan instruction by its code. -/
inductive TapInstr where
  | idcode
  | bypass
  | boundary (code : Nat)
  deriving DecidableEq, Repr

/-- The TAP: its controller state, shift registers, instruction and TDO. -/
structure TapSt where
  state : TapState := .testLogicReset
  irShift : List Bool := []
  drShift : List Bool := []
  instr : TapInstr := .idcode
  tdo : Option Bool := none
  pins : List Bool := []
  deriving DecidableEq, Repr

end Sys2Proof.Machine
end

