-- ==== Sys2Proof/Machine/State/Time.lean ====
section
/-!
DEFINITION. State of the time bases (12_time). A base's mapping is exact: readings are in units of 1 ns ÷ (256 × 10^18) and rates in
10^-18 ÷ 256, in which every servo term of R349 is a whole number.
-/
namespace Sys2Proof.Machine

set_option genSizeOfSpec false

/-- Table 12-1. -/
inductive BaseState where
  | disabled
  | unacquired
  | locked
  | holdover
  deriving DecidableEq, Repr

/-- A foreign master of a PTP port: its latest Announce, when, and how many came in a row. -/
structure Foreign where
  ann : PtpAnnounce
  last : Stamp
  count : Nat
  deriving DecidableEq, Repr

/-- A disciplined base. `anchorT` and `anchorR` are a TB_0 stamp and the exact reading at it; `acq` the consecutive samples of R348 as capture
and offset, `run` the outliers of R350, `agree` the samples of R351, `errs` the latest offsets of R354, `eEntry` the E at entry to
HOLDOVER in ns, none when saturated (R370); `acc` the source's stated accuracy in ns; `tod` a TAI second with the capture it belongs to, none for the next edge of PPS_IN (R361); `leap` whether
the announced leap second is a deletion and the reading at which UTC_OFFSET changes; `leaps` the readings at which it has, newest first, and whether by a
deletion. -/
structure Base where
  set : TbSet
  state : BaseState := .disabled
  anchorT : Stamp := 0
  anchorR : Int := 0
  y : Int := 0
  integral : Int := 0
  acq : List (Stamp × Int) := []
  run : List Int := []
  agree : Nat := 0
  refused : Option Int := none
  errs : List Int := []
  eEntry : Option Frac := some { num := 0, den := 1 }
  acc : Frac := { num := 0, den := 1 }
  holdAt : Stamp := 0
  leftAt : Option Stamp := none
  lastSample : Option Stamp := none
  lastServo : Stamp := 0
  offset : Int := 0
  lastStep : Stamp := 0
  restepped : Bool := false
  tod : Option (Nat × Option Stamp) := none
  irigDst : Nat := 0
  irigTq : Option Nat := none
  utcOffset : Nat := 0
  utcGiven : Bool := false
  leap : Option (Bool × Nat) := none
  leapDir : Bool := false
  leapUntil : Option Stamp := none
  leaps : List (Int × Bool) := []
  deriving DecidableEq, Repr

/-- A PTP instance (R358, R359). -/
structure Ptp where
  set : TbPtpSet
  foreign : Table Foreign := []
  slavePort : Option Nat := none
  keptPort : Option Nat := none
  gm : Option PtpAnnounce := none
  awaited : Option (Nat × Nat × Nat × Stamp) := none
  deriving DecidableEq, Repr

structure TimeSt where
  bases : Table Base := []
  ptp : Table Ptp := []
  ref : TbRefSet := { refSel := 0, rY := 0, rD := 0, xY := 0, xD := 0 }
  extInUse : Bool := false
  extPresent : Bool := false
  ondie : Bool := false
  refclkLost : Bool := false
  ppsBase : Option Nat := none
  ppsHigh : Bool := false
  ppsAt : Stamp := 0
  delays : Table (Nat × Nat) := []
  oldDelays : Table (Stamp × Nat × Nat) := []
  pathDelay : Table Int := []
  cnt : Table W32 := []
  deriving DecidableEq, Repr

end Sys2Proof.Machine
end

