-- ==== Sys2Proof/Machine/State/Timetable.lean ====
section
/-!
DEFINITION. State of the timetable (02_timetable): profile, sentinels, contracts.
-/
namespace Sys2Proof.Machine

set_option genSizeOfSpec false

/-- Table 02-10 PROFILE. -/
inductive Profile where
  | fixed
  | live
  | placement
  deriving DecidableEq, Repr

/-- Table 02-2, the states a stored record can have. -/
inductive ContractState where
  | admitted
  | active
  | suspended
  | shed
  deriving DecidableEq, Repr

/-- A contract record (R51 to R56, Table 02-9). `shedDue` is, once the contract is SHED, the due tick from
which instants are shed (R65). -/
structure Contract where
  part : Nat
  stream : Nat
  protocol : Nat
  priority : Nat
  rate : Nat
  channels : Nat
  burst : Nat
  portMask : Nat
  deadlineUs : Nat
  groupMask : Nat
  clusterMask : Nat
  timeoutMs : Nat
  outRate : Nat
  outChannels : Nat
  state : ContractState
  cluster : Nat
  cost : Nat
  bytes : Nat
  admitted : Stamp
  change : Stamp
  reason : Nat
  shedDue : Nat
  deriving DecidableEq, Repr

/-- What a contract was before a change of its record: none where it had none. -/
structure ContractWas where
  stamp : Stamp
  id : Nat
  old : Option Contract
  deriving DecidableEq, Repr

/-- One sentinel pair (R45): consecutive readings beyond and within the bound, and whether the disagreement
holds. -/
structure PairWatch where
  beyond : Nat := 0
  within : Nat := 0
  disagree : Bool := false
  deriving DecidableEq, Repr

/-- The timetable. `ratios` holds each sentinel's latest ratio; `readings`, for each cluster, the cluster ratios of the latest 100 ms that
no later one undercuts, newest first; `evalTick` the latest tick of 100 ms that was evaluated; `ratedSince` the reading since which every sentinel has read at least 1,000; `was` the changes
of contract records in the latest 10 ms and the last one before, newest first. -/
structure TimetableSt where
  profile : Profile := .fixed
  basisLost : Bool := false
  shedSeen : Bool := false
  evalSeq : W16 := 0
  evalTick : Option Stamp := none
  shedTotal : W16 := 0
  ratios : Table Nat := []
  pairs : Table PairWatch := []
  ratedSince : Option Stamp := none
  readings : Table (List (Stamp × Nat)) := []
  liveLimit : Table Nat := []
  nextId : Nat := 0
  contracts : Table Contract := []
  was : List ContractWas := []
  deriving DecidableEq, Repr

end Sys2Proof.Machine
end

