-- ==== Sys2Proof/Machine/State/Waveform.lean ====
section
/-!
DEFINITION. State of the waveform chain (05_waveform_chain). Samples and ticks are numbered from the start of the bound base's timescale:
sample n of a second s is s × SV_RATE + n, and a tick is numbered likewise at Fp.
-/
namespace Sys2Proof.Machine

set_option genSizeOfSpec false

/-- A phasor in the chain's fixed point: 16 fraction bits of the input's least significant bit (Table 05-4). -/
structure Phasor where
  re : Int
  im : Int
  deriving DecidableEq, Repr

/-- One sample of the eight inputs: values, and the marks of Table 05-3 with bit 0 QUESTIONABLE, 1 TEST, 2 TIME_UNCERTAIN,
3 OVERRANGE, 4 gap, 5 filled, 6 derived (Table 03-9). -/
structure SampleRec where
  n : Nat
  arrival : Stamp
  vals : List Int
  marks : List Nat
  deriving DecidableEq, Repr

/-- The integrators and comb delays of one channel, modulo 2^96 (R154). -/
structure Cic where
  integ : List (BitVec 96) := List.replicate 6 0
  comb : List (BitVec 96) := List.replicate 6 0
  deriving DecidableEq, Repr

/-- The values of the eight channels at one tick, and the 48-bit phase of the NCO there. -/
structure TickRec where
  k : Nat
  x : List Int
  nco : Nat := 0
  deriving DecidableEq, Repr

/-- Undercoat estimates of one tick. -/
structure UnderRec where
  k : Nat
  u : List Phasor
  deriving DecidableEq, Repr

inductive UnitState where
  | idle
  | running
  | refused
  deriving DecidableEq, Repr

/-- A bound waveform unit. `queue` has the oldest sample first; every other list has the newest entry first. `exceed` counts the consecutive ticks at
which a channel's undercoat exceeded its step level; `switchN` is the sample number of the switch point t_s'; `waitFine` says that every instant before
T_r is written unusable (R170); `nco` is the NCO's phase at the next tick; `wide` holds the states of the wideband filters, two for each channel, and
`wideOut` their latest outputs (07_oscillation R204). -/
structure WUnit where
  set : WchUnitSet
  state : UnitState := .idle
  reason : Nat := 0
  mode1 : Bool := false
  queue : List SampleRec := []
  samples : List SampleRec := []
  lastN : Option Nat := none
  gapCh : List Bool := List.replicate 8 false
  startN : Option Nat := none
  cic : List Cic := List.replicate 8 {}
  dec : List TickRec := []
  fe : List TickRec := []
  fTrack : Nat := 0
  nco : Nat := 0
  wide : List (List Int) := []
  wideOut : List UnderRec := []
  fHist : List (Nat × Nat) := []
  frozen : Bool := false
  limited : Bool := false
  aboveMin : Nat := 0
  under : List UnderRec := []
  exceed : List Nat := List.replicate 8 0
  switchN : Option Nat := none
  waitFine : Bool := false
  nextInst : Option Nat := none
  lastRocof : BitVec 32 := 0
  switches : Nat := 0
  lastSwitch : Stamp := 0
  deriving DecidableEq, Repr

/-- A threshold comparator (R175 to R177); `next` is the next tick to evaluate. -/
structure Cmp where
  set : WchCmpSet
  asserted : Bool := false
  changed : Bool := false
  stamp : Int := 0
  run : Nat := 0
  next : Option Nat := none
  deriving DecidableEq, Repr

/-- A sideband tap (R174), with the state of its notch and the number of the latest sample it delivered. -/
structure HxTap where
  part : Nat
  unit : Nat
  input : Nat
  z : List Int := []
  last : Option Int := none
  deriving DecidableEq, Repr

structure WaveSt where
  units : Table WUnit := []
  cmps : Table Cmp := []
  taps : Table HxTap := []
  cnt : Table W64 := []
  deriving DecidableEq, Repr

end Sys2Proof.Machine
end

