-- ==== Sys2Proof/Machine/State.lean ====
section
/-!
DEFINITION. The state of the QV7240 block, its faults and refusals, and its reset.
-/
namespace Sys2Proof.Machine

set_option genSizeOfSpec false

/-- A command that has reached the device and cannot start yet (R413, R415, R503, R510), and whether its interim reply has been sent (R414). -/
structure HeldCmd where
  pkt : Pkt
  opcode : Nat
  row : Instr
  pendingSent : Bool := false
  deriving DecidableEq, Repr

/-- Configuration bundles (17_power_states R500, R513): the two copies in NOR, which copy was applied at the latest start-up and which was stored
last. -/
structure CfgSt where
  copyA : Option Bundle := none
  copyB : Option Bundle := none
  applied : Option Bundle := none
  latestIsB : Bool := false
  loading : Option CfgLoad := none
  deriving DecidableEq, Repr

/-- `now` is the stamp of the latest row, `cap` the same to 1 ns (12_time R345). -/
structure State where
  now : Stamp
  cap : Stamp
  pending : List Instr
  held : List HeldCmd
  resuming : Bool
  freeCount : Nat
  hst : HostSt
  tt : TimetableSt
  flt : FaultSt
  pwr : PowerSt
  fw : FirmwareSt
  lat : LatMon
  sec : SecSt
  cfg : CfgSt
  alc : AlcSt
  alcx : AlcAux
  ing : IngestSt
  plt : PlatformSt
  prt : PortsSt
  sch : SchedSt
  tb : TimeSt
  wch : WaveSt
  nrg : MeterSt
  osc : OscSt
  coh : CohSt
  rcd : RecSt
  tap : TapSt
  deriving DecidableEq, Repr

/-- No row of this model ends in a fault of the machine: a failure that the device detects is a record of the
signal box (16_safety R473), which is a next state. -/
inductive Fault where
  /-- Raised by nothing: kept so that the type is inhabited. Safe. -/
  | none
  deriving DecidableEq, Repr

inductive Refusal where
  /-- Raised by `exec` for a row that has no meaning yet. Safe: the machine stops. -/
  | notModelled (mnemonic : String)
  deriving DecidableEq, Repr

/-- The owner partition after a reset: it holds everything (R405, R407, R408, R432). -/
def ownerPart : Part :=
  { state := .created, capacity := 64000000, platform := 65011712, sidingsMib := 1024, poolMib := 4096, observeFull := true }

/-- The machine after a cold reset: partition 0 exists and holds everything (R405, R407, R408, R432), and start-up has not
been done (R497). Firmware bank A holds a verified package, as a part leaves the factory (PRESUMED). -/
def State.reset : State where
  now := 0
  cap := 0
  pending := []
  held := []
  resuming := false
  freeCount := 0
  hst := { parts := [(0, ownerPart)] }
  tt := {}
  flt := {}
  pwr := {}
  fw := { bankA := { verified := true } }
  lat := {}
  sec := {}
  cfg := {}
  alc := {}
  alcx := {}
  ing := {}
  plt := {}
  prt := {}
  sch := {}
  tb := {}
  wch := {}
  nrg := {}
  osc := {}
  coh := {}
  rcd := {}
  tap := {}

end Sys2Proof.Machine
end

