-- ==== Sys2Proof/Machine/Ops.lean ====
section
/-!
DEFINITION. The shared operations of the model: sparse tables, little-endian images, partitions and
their grants, events, fault records, replies, and the running of one command packet.
-/
namespace Sys2Proof.Machine

/-! ## Tables -/

def tget {α : Type} (k : Nat) : Table α → Option α
  | [] => none
  | (j, v) :: r => if k = j then some v else tget k r

def tset {α : Type} (k : Nat) (x : α) : Table α → Table α
  | [] => [(k, x)]
  | (j, v) :: r =>
    if k < j then (k, x) :: (j, v) :: r else if k = j then (k, x) :: r else (j, v) :: tset k x r

def tdel {α : Type} (k : Nat) : Table α → Table α
  | [] => []
  | (j, v) :: r => if k = j then r else (j, v) :: tdel k r

def tgetD {α : Type} (k : Nat) (d : α) (t : Table α) : α := (tget k t).getD d

/-- Change the entry at `k`, starting from `d` where there is none. -/
def tmod {α : Type} (k : Nat) (d : α) (f : α → α) (t : Table α) : Table α := tset k (f (tgetD k d t)) t

/-- Keep the entries that satisfy a test. -/
def tfilter {α : Type} (f : Nat → α → Bool) (t : Table α) : Table α := t.filter (fun e => f e.1 e.2)

/-- Change every entry. -/
def tmap {α : Type} (f : Nat → α → α) (t : Table α) : Table α := t.map (fun e => (e.1, f e.1 e.2))

/-! ## Images -/

/-- The number that bytes give, most significant first. -/
def ofBe (l : List Byte) : Nat := l.foldl (fun a b => 256 * a + b.toNat) 0

/-- The little-endian image of a number in `n` bytes (00_scope R8). -/
def le : Nat → Nat → List Byte
  | 0, _ => []
  | n + 1, v => BitVec.ofNat 8 v :: le n (v / 256)

/-- Reserved bytes of a result, which are 0. -/
def zeros (n : Nat) : List Byte := List.replicate n 0

def b2n (b : Bool) : Nat := if b then 1 else 0

/-- Bits [hi:lo] of a register or detail word. -/
def bits (v hi lo : Nat) : Nat := v / 2 ^ lo % 2 ^ (hi + 1 - lo)

/-- The numbers below `n` whose bit is set in a mask. -/
def maskBits (n mask : Nat) : List Nat := (List.range n).filter (fun i => mask.testBit i)

/-- A number as a two's complement field of `w` bits. -/
def twos (w : Nat) (v : Int) : Nat := (v % (2 ^ w : Nat)).toNat

/-- ⌈a ÷ b⌉ for b > 0. -/
def ceilDiv (a b : Nat) : Nat := (a + b - 1) / b

/-! ## Time -/

/-- The clock of the model never runs backwards: a row stamped earlier than the present is taken at the
present. Its stamp is that of its tick (R345); `cap` keeps it to 1 ns for what is captured so. -/
def State.at (s : State) (t : Stamp) : State := { s with now := Nat.max s.now (tick t), cap := Nat.max s.now t }

/-- What takes effect at the completion stamp of a command, before which the clock of the model goes on for the rows that follow (16_safety R473). -/
def State.during (s : State) (t : Stamp) (f : State → State) : State := { f (s.at t) with now := s.now, cap := s.cap }

/-! ## Partitions and grants (R405 to R410) -/

def State.part (s : State) (n : Nat) : Part := tgetD n {} s.hst.parts

def State.setPart (s : State) (n : Nat) (p : Part) : State :=
  { s with hst := { s.hst with parts := tset n p s.hst.parts } }

def State.modPart (s : State) (n : Nat) (f : Part → Part) : State := s.setPart n (f (s.part n))

/-- The partitions of the device. -/
def allParts : List Nat := List.range 8

def State.created (s : State) (n : Nat) : Bool := (s.part n).state == .created

/-- TT_PROFILE.SAFETY_PRESENT: some partition holds SAFETY. -/
def State.safetyPresent (s : State) : Bool :=
  allParts.any (fun n => (s.part n).safety && (s.part n).state != .absent)

/-- OBSERVE_FULL, which the owner partition always holds (R408). -/
def State.observes (s : State) (n : Nat) : Bool := n == 0 || (s.part n).observeFull

def GrantEntry.covers (g : GrantEntry) (kind idx : Nat) : Bool :=
  g.kind == kind && g.first ≤ idx && idx < g.first + g.count

/-- The partition that holds a resource: the owner partition until a grant moves it (R405). -/
def holderIn (kind idx : Nat) : List GrantEntry → Nat
  | [] => 0
  | g :: r => if g.covers kind idx then g.dest else holderIn kind idx r

def State.holder (s : State) (kind idx : Nat) : Nat := holderIn kind idx s.hst.grants

def ShareEntry.covers (g : ShareEntry) (kind idx reader : Nat) : Bool :=
  g.kind == kind && g.first ≤ idx && idx < g.first + g.count && (g.reader == none || g.reader == some reader)

def shareIn (kind idx reader : Nat) : List ShareEntry → Bool
  | [] => false
  | g :: r => if g.covers kind idx reader then g.give else shareIn kind idx reader r

/-- A read-only share grant (R409), or host access to a port for KIND 14. -/
def State.shared (s : State) (kind idx reader : Nat) : Bool := shareIn kind idx reader s.hst.shares

/-- The resource kinds of Table 14-3. -/
def kindStream : Nat := 1
def kindStation : Nat := 2
def kindOut : Nat := 3
def kindUnit : Nat := 4
def kindDetector : Nat := 5
def kindModal : Nat := 6
def kindCoherency : Nat := 7
def kindLogic : Nat := 8
def kindRecorder : Nat := 9
def kindMeter : Nat := 10
def kindPulseIn : Nat := 11
def kindPulseOut : Nat := 12
def kindKey : Nat := 13
def kindPort : Nat := 14

/-- How many resources each kind has (Table 14-3); 0 for a kind that does not exist. -/
def kindCount (kind : Nat) : Nat :=
  match kind with
  | 1 => 16384 | 2 => 128 | 3 => 64 | 4 => 256 | 5 => 2048 | 6 => 1 | 7 => 1 | 8 => 1
  | 9 => 64 | 10 => 256 | 11 => 16 | 12 => 8 | 13 => 256 | 14 => 24 | _ => 0

/-- Holding a resource, or having host access to a port, which the owner partition always has. -/
def State.holds (s : State) (part kind idx : Nat) : Bool :=
  if kind == 14 then part == 0 || s.shared 14 idx part else s.holder kind idx == part

/-- Holding a resource or having a read-only share grant on it. -/
def State.reads (s : State) (part kind idx : Nat) : Bool :=
  s.holds part kind idx || s.shared kind idx part

/-- DETAIL of NOT_GRANTED (Table 14-6). -/
def grantDetail (kind idx : Nat) : Nat := kind + 256 * idx

/-! ## Status codes (Table 14-6) -/

def stOk : Nat := 0x0000
def stPending : Nat := 0x0001
def stBadOpcode : Nat := 0x0100
def stBadLength : Nat := 0x0101
def stBadParam : Nat := 0x0102
def stZero : Nat := 0x0103
def stNoResource : Nat := 0x0200
def stNotAdmitted : Nat := 0x0201
def stWouldBreak : Nat := 0x0202
def stNotGranted : Nat := 0x0300
def stLocked : Nat := 0x0301
def stWrongState : Nat := 0x0400
def stAuthFail : Nat := 0x0500
def stTampered : Nat := 0x0501
def stBusy : Nat := 0x0600
def stFaulted : Nat := 0x0700

/-! ## Fault sources (Table 16-2 and the tables it names) -/

/-- The class of a source; none for a reserved one. -/
def faultClass (src : Nat) : Option Nat :=
  if src ≤ 10 then some 0
  else if src == 16 || src == 17 || src == 18 || src == 19 || src == 21 || src == 22 || src == 23 then some 1
  else if 32 ≤ src && src ≤ 37 then some 2
  else if src == 40 || src == 41 || src == 42 || src == 44 || src == 45 then some 3
  else if 46 ≤ src && src ≤ 54 then some 4
  else if 56 ≤ src && src ≤ 62 then some 5
  else if 64 ≤ src && src ≤ 67 then some 6
  else if 68 ≤ src && src ≤ 70 then some 7
  else if 72 ≤ src && src ≤ 76 then some 8
  else if 80 ≤ src && src ≤ 83 then some 9
  else if 88 ≤ src && src ≤ 94 then some 10
  else if 96 ≤ src && src ≤ 103 then some 11
  else none

/-- The declared severity of a source, where the first of two applies with a safety partition present (R470). -/
def faultSeverity (src : Nat) (safety : Bool) : Nat :=
  if src ≤ 6 then 3
  else if src == 7 then 1
  else if src == 8 then 2
  else if src == 9 then 4
  else if src == 10 then 3
  else if src == 16 || src == 17 then 0
  else if src == 18 then 1
  else if src == 19 then (if safety then 3 else 1)
  else if src == 21 then 2
  else if src == 22 then 1
  else if src == 23 then 2
  else if 32 ≤ src && src ≤ 35 then (if safety then 3 else 1)
  else if src == 36 || src == 37 then 2
  else if src == 40 || src == 44 || src == 46 || src == 49 || src == 52 then 3
  else if src == 56 || src == 57 || src == 58 || src == 59 || src == 62 then 3
  else if src == 61 then 2
  else if src == 65 || src == 68 || src == 72 then 3
  else if src == 75 then 4
  else if src == 76 then 2
  else if src == 80 then 3
  else if src == 82 || src == 83 then 2
  else if 88 ≤ src && src ≤ 92 then 3
  else if src == 94 then 3
  else if src == 100 || src == 102 || src == 103 then 2
  else 1

/-- LEVEL sources (R470 and the tables that Table 16-2 names). -/
def faultLevel (src : Nat) : Bool :=
  src ≤ 7 || src == 10 || src == 18 || src == 40 || src == 41 || src == 42 || src == 62 ||
  (68 ≤ src && src ≤ 70) || src == 74 || src == 80 || (88 ≤ src && src ≤ 94)

/-- Sources of Table 09-5 row 8. -/
def faultRow8 (src : Nat) : Bool := src == 56 || src == 57 || src == 58 || src == 59 || src == 62

def State.faultActive (s : State) (src : Nat) : Bool :=
  s.flt.active.contains src || (faultLevel src && s.flt.forced.contains src)

def FaultRec.counts (r : FaultRec) : Bool := r.real || r.react

/-- Every unacknowledged record, displaced ones too (R474). -/
def State.unacked (s : State) : List FaultRec :=
  (s.flt.history.filter (fun r => !r.acked)) ++ s.flt.unackDisplaced

/-- R476: what makes the ERR pair signal fault. -/
def State.errHolds (s : State) : Bool :=
  s.unacked.any (fun r => r.counts && s.flt.errMin ≤ r.effective) ||
  s.flt.haltSource.isSome || s.pwr.porHeld || s.pwr.perstHeld || !s.pwr.startupDone ||
  !s.flt.startupTestOk || s.sec.tamperLatched || s.sec.bootHold || s.sec.tamperHold

/-- The next multiple of a period after a stamp (R479: 500 µs). -/
def nextMultiple (t period : Nat) : Nat := (t / period + 1) * period

/-- Judge R476 afresh: into fault the pins go low at once, out of fault they resume at the next multiple of 500 µs
with ERR_P high (R479, Table 16-5). -/
def State.refreshErr (s : State) : State :=
  if s.errHolds then
    { s with flt := { s.flt with errFault := true, errP := false, errN := false } }
  else if s.flt.errFault then
    { s with flt := { s.flt with errFault := false, nextToggle := nextMultiple s.now 500000 } }
  else s

/-! ## Host memory -/

/-- The device writes bytes for a partition: to host memory, or, at an address with bit 63 set, into its staging buffer (R423). -/
def State.hostWrite (s : State) (part addr : Nat) (data : List Byte) : State :=
  if addr < 9223372036854775808 then { s with hst := { s.hst with dma := (part, addr, data) :: s.hst.dma } }
  else { s with hst := { s.hst with staged := (part, addr % 16777216, data) :: s.hst.staged } }

/-- Several writes, in order. -/
def State.hostWrites (s : State) (part : Nat) (l : List (Nat × List Byte)) : State := l.foldl (fun s w => s.hostWrite part w.1 w.2) s

/-- A count of the write-back block: 0 SQ_HEAD, 1 RQ_TAIL, 2 EVT_PROD (R411; log entry 173). -/
def State.writeBack (s : State) (part k : Nat) (v : W32) : State :=
  { s with hst := { s.hst with dma := (part, (s.part part).q.wbAddr.toNat + 4 * k, le 4 v.toNat) :: s.hst.dma } }

/-! ## Events (R425 to R429) -/

/-- Sources of the alarm class: USER_ALARM_0 to USER_ALARM_31 and SAFETY_FAULT. -/
def alarmSource (src : Nat) : Bool := (0x1A0 ≤ src && src ≤ 0x1BF) || src == 0x1FD

/-- Sources whose records are written as alarm records are: the alarm class, and CONTRACT_SHED (R65, R426). -/
def alarmWritten (src : Nat) : Bool := alarmSource src || src == 0x011

def EventRing.free (e : EventRing) : Nat := e.size - (e.prod - e.cons).toNat

/-- Records are written only into an enabled ring, with the link up (R403), outside Stabled (R432). -/
def State.ringOpen (s : State) (e : EventRing) : Bool :=
  e.size != 0 && !e.stopped && s.pwr.state != .stabled && s.pwr.state != .waking

/-- MSI-X: a signalled vector that is masked becomes pending (R429). The mask bit is bit 0 of the entry's fourth
word, set after reset as PCI Express gives it (PRESUMED). -/
def Part.vectorMasked (p : Part) (v : Nat) : Bool := (tgetD (4 * v + 3) 1 p.msixTable).toNat.testBit 0

def State.signal (s : State) (n route : Nat) : State :=
  if route.testBit 7 then
    let v := route % 64
    if (s.part n).vectorMasked v then
      s.modPart n (fun p => { p with msixPending := p.msixPending ||| BitVec.ofNat 64 (2 ^ v) })
    else { s with hst := { s.hst with msix := (n, v) :: s.hst.msix } }
  else s

/-- A ring of one of the classes of Table 14-15 advances: its vector is signalled (R429). -/
def State.ringSignal (s : State) (n cls : Nat) : State := s.signal n (tgetD cls 0 (s.part n).ev.ringRoute)

/-- A record as its ring holds it (Table 14-11). -/
def EvRec.image (r : EvRec) : List Byte :=
  le 2 r.source ++ le 1 (b2n r.alarm) ++ le 1 (b2n r.held) ++ le 4 r.count ++ le 4 r.detail ++ zeros 4 ++ le 8 r.first ++ le 8 r.last

/-- Of two records that become writable in one tick, alarms go before events, then the lower source first (R425); records that were held keep the order in which
they were raised (R427, R428). -/
def EvRec.goesBefore (r x : EvRec) : Bool :=
  !r.held && !x.held && ((r.alarm && !x.alarm) || (r.alarm == x.alarm && decide (r.source < x.source)))

/-- Write a record into the ring of a partition, in its place among those of this tick, with the producer count, and signal its vector (R411, R425, R429). -/
def State.putRecord (s : State) (n : Nat) (r : EvRec) : State :=
  let e := (s.part n).ev
  let now := if e.tickAt == s.now then e.tickN else 0
  let after := (e.written.take now).takeWhile (fun x => r.goesBefore x)
  let s1 := s.modPart n (fun p =>
    { p with ev := { p.ev with prod := p.ev.prod + 32, written := after ++ r :: p.ev.written.drop after.length, tickAt := s.now, tickN := now + 1 } })
  let first := e.prod - BitVec.ofNat 32 (32 * after.length)
  let images := (r :: after.reverse).mapIdx (fun k x => (e.addr + (first + BitVec.ofNat 32 (32 * k)).toNat % e.size, x.image))
  ((s1.hostWrites n images).writeBack n 2 (e.prod + 32)).signal n (tgetD r.source 0 e.route)

/-- Merge one more raise into a record (R426). -/
def EvRec.merge (r : EvRec) (t : Stamp) : EvRec := { r with count := r.count + 1, last := t }

/-- Merge a raise into the held record of its source, if there is one. -/
def mergeHeld (src : Nat) (t : Stamp) : List EvRec → Option (List EvRec)
  | [] => none
  | r :: l => if r.source == src then some (r.merge t :: l) else (mergeHeld src t l).map (r :: ·)

/-- Held event records stand in order of FIRST_STAMP (R427). -/
def insertHeld (r : EvRec) : List EvRec → List EvRec
  | [] => [r]
  | q :: l => if r.first < q.first || (r.first == q.first && r.source < q.source) then r :: q :: l
              else q :: insertHeld r l

/-- An event-class record that has become writable is written, or held for want of room (R427). -/
def State.writeOrHold (s : State) (n : Nat) (r : EvRec) : State :=
  let e := (s.part n).ev
  if s.ringOpen e && e.heldAlarms.isEmpty && 32 * (e.reserve + 1) ≤ e.free then s.putRecord n r
  else s.modPart n (fun p =>
    { p with ev := { p.ev with heldEvents := insertHeld { r with held := true } p.ev.heldEvents } })

/-- A raise of an event-class source on one partition (R426). -/
def State.raiseEvent (s : State) (n src detail : Nat) : State :=
  let p := s.part n
  let t := s.now
  let r : EvRec := { source := src, alarm := false, held := false, count := 1, detail, first := t, last := t }
  if p.state == .absent then s
  else match mergeHeld src t p.ev.heldEvents with
    | some l => s.setPart n { p with ev := { p.ev with heldEvents := l } }
    | none =>
      match tget src p.ev.latches with
      | none =>
        let l : Latch := { holdEnd := t + 1000 * p.ev.holdoffUs, pending := none }
        (s.setPart n { p with ev := { p.ev with latches := tset src l p.ev.latches } }).writeOrHold n r
      | some l =>
        let r' := match l.pending with
          | none => r
          | some q => q.merge t
        s.setPart n { p with ev := { p.ev with latches := tset src { l with pending := some r' } p.ev.latches } }

/-- The held alarm store of one partition (R428). -/
def alarmStore : Nat := 1048576

/-- A record that is written as an alarm record is (R428): at once if any space is free and none is held, else
held in order. Answers what the device must do because of it. -/
def State.raiseAlarm (s : State) (n src detail : Nat) : State × List Job :=
  let p := s.part n
  let t := s.now
  let r : EvRec := { source := src, alarm := alarmSource src, held := false, count := 1, detail, first := t, last := t }
  if p.state == .absent then (s, [])
  else if s.ringOpen p.ev && p.ev.heldAlarms.isEmpty && 32 ≤ p.ev.free then (s.putRecord n r, [])
  else if alarmStore ≤ p.ev.heldAlarms.length then
    (s, if s.flt.haltSource == some 75 then [] else [.fault 75 0 n (s.flt.forced.contains 75) true false])
  else
    let s1 := s.setPart n { p with ev := { p.ev with heldAlarms := p.ev.heldAlarms ++ [{ r with held := true }] } }
    if p.ev.heldAlarms.isEmpty then
      (s1, [.event n 0x003 n] ++ (if n == 0 then [] else [.event 0 0x003 n]) ++ [.fault 74 0 n (s.flt.forced.contains 74) true false])
    else (s1, [])

/-! ## Recording a fault (R470 to R478) -/

/-- The record a detection or an injection makes, escalated by R478. -/
def State.faultRecord (s : State) (src cls detail part : Nat) (injected real react : Bool) : FaultRec :=
  let sev := faultSeverity src s.safetyPresent
  let esc := 1 ≤ sev && s.unacked.any (fun r => r.cls == cls && 1 ≤ r.effective && r.counts
    && (r.stamp != s.now || decide (sev < r.declared) || (r.declared == sev && r.source ≤ src)))
  { source := src, cls, declared := sev, effective := if esc then Nat.min 4 (sev + 1) else sev
    injected, real, escalated := esc, acked := false, active := faultLevel src
    simultaneous := s.flt.history.head?.any (fun r => r.stamp == s.now)
    react, part, seq := s.flt.seq + 1, detail := BitVec.ofNat 32 detail, stamp := s.now, ackStamp := 0 }

/-- Of simultaneous faults, the one of higher declared severity is recorded first, at equal severity that of the lower source (R473, 01_architecture R27). -/
def FaultRec.before (r q : FaultRec) : Bool := decide (q.declared < r.declared) || (r.declared == q.declared && decide (r.source < q.source))

/-- A record that a simultaneous one of its class comes before is escalated by it (R478). -/
def FaultRec.after (q r : FaultRec) : FaultRec :=
  if q.cls == r.cls && !q.escalated && 1 ≤ q.declared && 1 ≤ r.effective && r.counts then
    { q with seq := q.seq + 1, escalated := true, effective := Nat.min 4 (q.declared + 1) }
  else { q with seq := q.seq + 1 }

/-- Put a record into the history, newest first: below the simultaneous ones that it comes before, which take the later numbers (R473). -/
def insertFault (r : FaultRec) : List FaultRec → List FaultRec
  | [] => [r]
  | q :: l => if q.stamp == r.stamp && r.before q then q.after r :: insertFault { r with seq := r.seq - 1 } l else r :: q :: l

/-- Put a record into the history of 32, count what it displaces, and capture FLT_FIRST (R473 to R475). -/
def FaultSt.push (f : FaultSt) (r : FaultRec) : FaultSt :=
  let h := insertFault r (f.history.map (fun q => if q.stamp == r.stamp then { q with simultaneous := true } else q))
  let gone := h.drop 32
  { f with
    history := h.take 32
    unackDisplaced := (gone.filter (fun q => !q.acked)) ++ f.unackDisplaced
    lost := f.lost + BitVec.ofNat 32 gone.length
    seq := r.seq
    first := if f.first.all (fun q => q.stamp == r.stamp) then
        (h.reverse.find? (fun q => q.stamp == r.stamp && 1 ≤ q.effective && q.counts)).or f.first
      else f.first }

/-- Detail of the record events (R491). -/
def FaultRec.eventDetail (r : FaultRec) : Nat :=
  r.source + 256 * r.effective + 2048 * b2n r.injected + 4096 * b2n r.escalated + 8192 * b2n r.real

/-- The events of a record by its effective severity (Table 16-4). -/
def State.faultEvents (s : State) (r : FaultRec) : List Job :=
  if 3 ≤ r.effective then allParts.map (fun n => .event n 0x1FD r.eventDetail)
  else (allParts.filter (fun n => n == 0 || (1 ≤ r.effective && (s.observes n || n == r.part)))).map
    (fun n => .event n 0x1FC r.eventDetail)

/-! ## Who is told (R226, R293, R316 and the like) -/

/-- Raise an event-class source on each partition of a list. -/
def State.evt (s : State) (parts : List Nat) (src detail : Nat) : State :=
  parts.foldl (fun s n => s.raiseEvent n src detail) s

/-- The holder of a resource and the partitions with a share grant on it. -/
def State.readersOf (s : State) (kind idx : Nat) : List Nat :=
  allParts.filter (fun n => s.created n && (s.holder kind idx == n || s.shared kind idx n))

/-- The owner partition and the partitions that hold OBSERVE_FULL. -/
def State.observers (s : State) : List Nat := allParts.filter (fun n => s.created n && s.observes n)

/-! ## Counters -/

/-- The blocks whose 32-bit counters raise COUNTER_HALF on the owner partition. -/
inductive Blk where
  | ing
  | plt
  | osc
  | coh
  | alc
  | rcd
  | sch
  | tb
  deriving DecidableEq, Repr

/-- The COUNTER_HALF source of a block (R111, R145, R225, R249, R292, R315, R340, R368). -/
def Blk.halfEvent : Blk → Nat
  | .ing => 0x08A
  | .plt => 0x0AA
  | .osc => 0x148
  | .coh => 0x16A
  | .alc => 0x191
  | .rcd => 0x1C9
  | .sch => 0x1E4
  | .tb => 0x1F7

def State.cntOf (s : State) : Blk → Table W32
  | .ing => s.ing.cnt
  | .plt => s.plt.cnt
  | .osc => s.osc.cnt
  | .coh => s.coh.cnt
  | .alc => s.alcx.cnt
  | .rcd => s.rcd.cnt
  | .sch => s.sch.cnt
  | .tb => s.tb.cnt

def State.setCnt (s : State) (b : Blk) (t : Table W32) : State :=
  match b with
  | .ing => { s with ing := { s.ing with cnt := t } }
  | .plt => { s with plt := { s.plt with cnt := t } }
  | .osc => { s with osc := { s.osc with cnt := t } }
  | .coh => { s with coh := { s.coh with cnt := t } }
  | .alc => { s with alcx := { s.alcx with cnt := t } }
  | .rcd => { s with rcd := { s.rcd with cnt := t } }
  | .sch => { s with sch := { s.sch with cnt := t } }
  | .tb => { s with tb := { s.tb with cnt := t } }

/-- Add to counter `n` of a block; bit 31 going from 0 to 1 raises COUNTER_HALF with n in the detail. -/
def State.count (s : State) (b : Blk) (n : Nat) (k : Nat := 1) : State :=
  let old := tgetD n 0 (s.cntOf b)
  let new := old + BitVec.ofNat 32 k
  let s1 := s.setCnt b (tset n new (s.cntOf b))
  if !old.getLsbD 31 && new.getLsbD 31 then s1.raiseEvent 0 b.halfEvent n else s1

/-- The 64-bit counters of the waveform chain and the security core, which raise nothing (R179, R465). -/
def State.wchCount (s : State) (n k : Nat) : State :=
  { s with wch := { s.wch with cnt := tmod n 0 (· + BitVec.ofNat 64 k) s.wch.cnt } }

def State.secCount (s : State) (n : Nat) : State :=
  { s with sec := { s.sec with cnt := tmod n 0 (· + 1) s.sec.cnt } }

/-! ## When the blocks run -/

/-- The fabric runs: start-up is done, the device neither halted (R477), in reset, nor asleep (Table 17-5). -/
def State.fabricUp (s : State) : Bool :=
  s.pwr.startupDone && (s.pwr.state == .running || s.pwr.state == .entering) && s.flt.haltSource.isNone

/-- The bases run: in Stabled too (R371). -/
def State.timeUp (s : State) : Bool := s.pwr.startupDone && s.flt.haltSource.isNone

/-- A free value of the manual: the n-th use answers `Config.freeNat n`. -/
def State.free (s : State) : Nat × State := (Config.freeNat s.freeCount, { s with freeCount := s.freeCount + 1 })

/-- An event whose detail word the manual does not state: the detail is a free value. -/
def State.evtFree (s : State) (parts : List Nat) (src : Nat) : State := s.free.2.evt parts src (s.free.1 % 4294967296)

/-- The partitions that exist: those on which an event of every partition is raised. -/
def State.everyone (s : State) : List Nat := allParts.filter (fun n => (s.part n).state != .absent)

/-! ## Readings of the bases (R344, R346) -/

/-- Units of a mapping in one nanosecond: 256 × 10^18. -/
def baseUnit : Nat := 256 * 1000000000000000000

/-- The exact reading of a base at a TB_0 stamp, in base units. -/
def Base.exact (b : Base) (t : Stamp) : Int :=
  b.anchorR + ((t : Int) - (b.anchorT : Int)) * ((baseUnit : Int) + b.y)

/-- A base is valid in LOCKED and HOLDOVER. -/
def Base.valid (b : Base) : Bool := b.state == .locked || b.state == .holdover

/-- A reading in whole ns. -/
def Base.reading (b : Base) (t : Stamp) : Int := b.exact t / (baseUnit : Int)

/-- The reading of TB_n at a TB_0 stamp; none for a base that is not valid. -/
def State.readingAt (s : State) (n : Nat) (t : Stamp) : Option Int :=
  if n == 0 then some t
  else match tget n s.tb.bases with
    | some b => if b.valid then some (b.reading t) else none
    | none => none

def State.reading (s : State) (n : Nat) : Option Int := s.readingAt n s.now

/-! ## Latency monitors (01_architecture R39, R40, Tables 01-8, 01-10 and 01-11) -/

/-- A measured latency of a stage, compared with its bound where one is given. -/
def State.latency (s : State) (stage ns : Nat) (bound : Option Nat) : State :=
  if !s.lat.enable || s.pwr.state == .stabled then s
  else
    let excess := bound.any (fun b => decide (b < ns)) && !s.lat.excess.testBit stage
    let same := s.lat.tick == s.now
    let seen := if same then s.lat.tickOver else 0
    let s1 := { s with lat := { s.lat with
      max := tmod stage 0 (Nat.max (Nat.min ns 0xFFFFFFFF)) s.lat.max
      tickMax := tmod stage 0 (Nat.max (Nat.min ns 0xFFFFFFFF)) (if same then s.lat.tickMax else []), tick := s.now
      tickOver := if bound.any (fun b => decide (b < ns)) && !seen.testBit stage then seen + 2 ^ stage else seen
      excess := if excess then s.lat.excess + 2 ^ stage else s.lat.excess } }
    if excess then s1.evtFree [0] 0x00C else s1

/-! ## Keys as their users see them (R433, R434, R437) -/

def State.slot (s : State) (n : Nat) : KeySlot := tgetD n {} s.sec.slots

def State.setSlot (s : State) (n : Nat) (k : KeySlot) : State := { s with sec := { s.sec with slots := tset n k s.sec.slots } }

/-- The key of a slot, unless the slot is empty, UNUSABLE, or the store cannot be read. -/
def State.key (s : State) (slot : Nat) : Option Key :=
  match tget slot s.sec.slots with
  | some k => if k.unusable then none else k.key
  | none => none

/-- A signer's slot: it signs while the slot holds an ENCRYPT key. -/
def State.signs (s : State) (slot : Nat) : Bool := (s.key slot).any (fun k => k.attr == 1)

/-- A slot signs with a TAG: its key has the ALG of that TAG, which is one more (R434). -/
def State.signsAs (s : State) (slot tag : Nat) : Bool := (s.key slot).any (fun k => k.attr == 1 && k.alg == tag + 1)

/-- A frame that cannot be signed is not sent (R437). -/
def State.signMissing (s : State) (slot : Nat) : State :=
  let s1 := { s.secCount 2 with sec := { (s.secCount 2).sec with signMissingSeen := true } }
  if s.sec.signMissingRun.contains slot then s1
  else
    let s2 := { s1 with sec := { s1.sec with signMissingRun := slot :: s1.sec.signMissingRun } }
    s2.evt (0 :: (if s.holder kindKey slot == 0 then [] else [s.holder kindKey slot])) 0x1FB (3 + 256 * slot)

/-- A frame signed under a slot has been sent. -/
def State.signSent (s : State) (slot : Nat) : State :=
  { s with sec := { s.sec with signMissingRun := s.sec.signMissingRun.filter (· != slot) } }

end Sys2Proof.Machine
end

