-- ==== Sys2Proof/Machine/PortOps.lean ====
section
/-!
DEFINITION. The transmit side of the ports that every block uses (13_ports R381 to R384, 12_time R365 and R366): queues, launch times, and
the start of a frame.
-/
namespace Sys2Proof.Machine

def State.port (s : State) (p : Nat) : PortSt := tgetD p {} s.prt.ports

def State.setPort (s : State) (p : Nat) (x : PortSt) : State :=
  { s with prt := { s.prt with ports := tset p x s.prt.ports } }

def State.modPort (s : State) (p : Nat) (f : PortSt → PortSt) : State := s.setPort p (f (s.port p))

/-- Count n of a port; bit 31 going from 0 to 1 raises STATS_HALF (R395). -/
def State.portCount (s : State) (p n : Nat) : State :=
  let old := tgetD n 0 (s.port p).cnt
  let s1 := s.modPort p (fun x => { x with cnt := tset n (old + 1) x.cnt })
  if !old.getLsbD 31 && (old + 1).getLsbD 31 then s1.raiseEvent 0 (0x021 + 4 * p) (p + 256 * n) else s1

/-- The partition a transmit queue belongs to: the ring's for a host frame, the logic holder for TXQ_0, the stream's for an
output stream, else the owner partition. -/
def State.txOwner (s : State) : TxWhat → Nat
  | .dataset .. => s.holder kindLogic 0
  | .output o => s.holder kindOut o
  | .outAnswer o _ => s.holder kindOut o
  | .command st .. => s.holder kindStream st
  | .host part _ _ => part
  | _ => 0

/-- The partition of the ring that a frame came from; 0, the owner partition, for a frame of no ring. -/
def TxWhat.ringPart : TxWhat → Nat
  | .host part _ _ => part
  | _ => 0

/-- RING events of types 2 to 4 go to the owner partition and to the partition of the ring concerned (Table 13-16). -/
def State.ringEvent (s : State) (p part type : Nat) : State :=
  s.evt (0 :: (if part == 0 then [] else [part])) (0x023 + 4 * p) (p + 256 * type)

/-- Guard before a launch time within which a frame at the head is late (R365). -/
def launchGuard (p : Nat) : Nat := if 20 ≤ p then 5000 else 1000

/-- The late mode of a queue: true drops (Table 13-4). -/
def PortSt.lateDrops (x : PortSt) (q : Nat) : Bool := (q == 2 || 4 ≤ q) && tgetD q 0 x.lateMode == 1

/-- A late frame was met: LAUNCH_LATE is raised for the first in each second on the queue's partition (R365). -/
def State.lateEvent (s : State) (p : Nat) (w : TxWhat) (tb : Nat) (dropped : Bool) (secondOf : Option Stamp) : State :=
  if secondOf == some (s.now / 1000000000) then s
  else s.raiseEvent (s.txOwner w) 0x1F6 (tb + 256 * p + 65536 * b2n dropped)

/-- Bit times at a speed in ns. -/
def bitsNs (bits speedMbps : Nat) : Nat := bits * 1000 / Nat.max speedMbps 1

/-- The external delays of a port for a stamp taken at an instant: those set apply after the completion of `TB_PORT_DELAY_SET` (R364). -/
def State.delayAt (s : State) (p : Nat) (t : Stamp) : Nat × Nat :=
  let set := tgetD p (0, 0) s.tb.delays
  match tget p s.tb.oldDelays with
  | some (u, d) => if t ≤ u then d else set
  | none => set

/-- The stamp of a frame that crosses a port's balls now, with the external delay of the port added (R364). -/
def State.rxStamp (s : State) (p : Nat) : Stamp := s.cap + (s.delayAt p s.cap).1

/-- From the first bit of a frame to its message timestamp point on the line: preamble, start-of-frame delimiter, and the external delay of the port (R364). -/
def State.leadAt (s : State) (p : Nat) (first : Stamp) : Nat :=
  let sfd := bitsNs 64 (s.port p).speedMbps
  sfd + (s.delayAt p (first + sfd)).2

/-- When the next frame of a port can start: its inter-packet gap is kept. -/
def State.firstBit (s : State) (p : Nat) : Stamp := Nat.max s.cap (s.port p).gapUntil

/-- How far before its launch time a timed frame starts: in full duplex its message timestamp point leaves at L; in half duplex it becomes eligible at L
(R365, R366). -/
def State.launchLead (s : State) (p : Nat) : Nat := if (s.port p).fullDuplex then s.leadAt p (s.firstBit p) else 0

/-- The uncertainty of the stamps of a port (Table 12-5). -/
def State.stampNs (s : State) (p : Nat) : Nat :=
  let v := (s.port p).speedMbps
  if p < 16 then (if v == 25000 then 2 else if v == 10000 then 3 else 8)
  else if p < 20 then (if v == 2500 then 4 else if v == 1000 then 8 else if v == 100 then 40 else 400)
  else if v == 100 then 20 else 200

/-- The message timestamp point of the frame that a port is sending. -/
def State.txStamp (s : State) (p : Nat) : Stamp := (s.port p).startedAt + s.leadAt p (s.port p).startedAt

/-- The settings that hold for a frame whose first bit crosses the ball at a stamp (R373). -/
def PortSt.modeAt (x : PortSt) (t : Stamp) : Option PrtModeSet :=
  match x.oldMode with
  | some (u, m) => if t ≤ u then m else x.mode
  | none => x.mode

/-- Largest frame under some settings, in which MAX_FRAME counts the FCS. -/
def frameMax : Option PrtModeSet → Nat
  | some m => if m.maxFrame == 0 then 1522 else m.maxFrame
  | none => 1522

def PortSt.maxFrame (x : PortSt) : Nat := frameMax x.mode

/-- Why a timed frame cannot wait for its launch time (R365): its base is not valid, or it lies more than 10 s ahead. -/
def State.launchRefused (s : State) (tb l : Nat) : Bool :=
  match s.reading tb with
  | none => true
  | some r => decide (r + 10000000000 < (l : Int))

/-- Quanta of 512 bit times in ns, rounded up. -/
def quantaNs (quanta speedMbps : Nat) : Nat := ceilDiv (quanta * 512 * 1000) (Nat.max speedMbps 1)

/-- A PAUSE whose reception has ended takes effect (R385): a time of zero ends a running pause, another one replaces the time that remains, or begins at the end
of the frame in transmission. -/
def PortSt.pauseTaken (x : PortSt) (now : Stamp) : PortSt :=
  match x.pauseIn with
  | none => x
  | some (e, q) =>
    if now < e then x
    else
      let ran := x.pauseUntil.any (fun u => decide (e < u))
      let y : PortSt := { x with pauseIn := none }
      if q == 0 then { y with pauseUntil := none, pauseNext := none, gapUntil := if ran then Nat.max x.gapUntil (e + bitsNs 96 x.speedMbps) else x.gapUntil }
      else if x.sending.isSome && !ran then { y with pauseNext := some q }
      else { y with pauseUntil := some (e + quantaNs q x.speedMbps), pauseNext := none }

/-- What a PAUSE that has been received changes at a port. -/
def State.pauseSettle (s : State) (p : Nat) : State :=
  if (s.port p).pauseIn.any (fun e => decide (e.1 ≤ s.cap)) then s.modPort p (fun x => x.pauseTaken s.cap) else s

/-- A pause in force holds every transmit queue (R385). -/
def State.paused (s : State) (p : Nat) : Bool := ((s.port p).pauseTaken s.cap).pauseUntil.any (fun u => decide (s.cap < u))

/-- A full-duplex port with its link up may send PAUSE: TX_PAUSE_EN is set for frames that leave now. -/
def State.mayPause (s : State) (p : Nat) : Bool :=
  (s.port p).link && (s.port p).fullDuplex && ((s.port p).modeAt s.now).any (·.txPause)

/-- A port that may send PAUSE and holds 3,584 entries owes the link partner one (R387). -/
def State.xoffArm (s : State) (p : Nat) : State :=
  if s.mayPause p && !(s.port p).xoff && 3584 ≤ (s.port p).rxq.length then
    s.modPort p (fun x => { x with xoff := true, pauseOwed := some 0xFFFF, xoffAt := s.now })
  else s

/-- The reading of a base at the first bit of the next frame of a port. -/
def State.readingAtStart (s : State) (p tb : Nat) : Option Int := (s.reading tb).map (· + ((s.firstBit p - s.cap : Nat) : Int))

/-- A timed frame is late: it reached the head of its queue inside the guard before its launch time (R365). Once it was there in time: in half duplex, when its
first bit would leave more than 1 µs after L; in full duplex, when L finds the port sending, or its message timestamp point would leave after L by more than the
uncertainty of Table 12-5. Under a pause in force it waits, and is judged when the pause ends (R366). -/
def State.launchLate (s : State) (p tb l : Nat) (judged busy : Bool) : Bool :=
  match s.readingAtStart p tb with
  | none => true
  | some r =>
    if !judged then decide ((l : Int) < (s.reading tb).getD r + launchGuard p)
    else if !(s.port p).fullDuplex then decide ((l : Int) + 1000 < r)
    else !s.paused p && ((busy && decide ((l : Int) ≤ r + s.launchLead p)) || decide ((l : Int) + s.stampNs p < r + s.launchLead p))

/-- It is time to start a timed frame: its message timestamp point then leaves at its launch time; in half duplex, it is eligible (R366). -/
def State.launchDue (s : State) (p tb l : Nat) : Bool :=
  match s.readingAtStart p tb with
  | none => true
  | some r => decide ((l : Int) ≤ r + s.launchLead p)

/-- Transmission time of a frame with preamble, FCS and inter-packet gap, in ns. -/
def frameNs (len speedMbps : Nat) : Nat := (Nat.max len 60 + 24) * 8 * 1000 / Nat.max speedMbps 1

/-- A port cannot start a frame of its queues now. -/
def State.wireBusy (s : State) (p : Nat) : Bool :=
  (s.port p).sending.isSome || (s.port p).retry.isSome || (s.port p).pauseOwed.isSome || s.paused p

/-! ## Frames that are done with -/

/-- The descriptor of a host frame is written back with DONE, and with DROPPED where it was not sent, and the head count goes to HEAD_WB_ADDR (R393,
Table 13-9). -/
def State.hostDone (s : State) (p : Nat) (f : TxFrame) (dropped : Bool) : State :=
  match f.what with
  | .host part desc timed =>
    if f.orphan then s
    else
      let r := tgetD part {} (s.port p).txRings
      let tb := (((s.port p).modeAt (s.port p).startedAt).map (·.arrivalTb)).getD 0
      let at_ := if dropped then 0 else ((s.readingAt tb (s.txStamp p)).map (fun v => twos 64 v)).getD 0
      let a := r.addr + 32 * (desc % r.entries)
      let s1 := s.modPort p (fun x => { x with txRings := tset part { r with head := r.head + 1, done := (dropped, at_) :: r.done } x.txRings })
      if r.stopped then s1 else (s1.hostWrites part [(a + 10, le 2 (b2n timed + 2 + 4 * b2n dropped)), (a + 24, le 8 at_), (r.wbAddr, le 4 (r.head + 1).toNat)]).ringSignal part 7
  | _ => s

/-- A frame of a dataset. -/
def TxFrame.ofDataset (f : TxFrame) (n : Nat) : Bool :=
  match f.what with
  | .dataset m .. => m == n
  | _ => false

/-- The waiting frame of a dataset enters TXQ_0 once its previous one has left the port (R382). -/
def State.pubNext (s : State) (n p : Nat) : State :=
  let x := s.port p
  match x.pubWaits.find? (·.ofDataset n) with
  | none => s
  | some f => s.modPort p (fun x => { x with pubWaits := x.pubWaits.erase f, txq := tset 0 (tgetD 0 [] x.txq ++ [f]) x.txq })

/-- A frame is done with at a port, sent or lost: the next one of its dataset, its host descriptor. -/
def State.frameGone (s : State) (p : Nat) (f : TxFrame) (lost : Bool) : State :=
  let s1 := s.hostDone p f lost
  match f.what with
  | .dataset n .. => s1.pubNext n p
  | _ => s1

/-- A frame dropped because the link is down (R384). -/
def State.linkDrop (s : State) (p : Nat) (f : TxFrame) : State :=
  (((s.portCount p 53).modPort p (fun x => { x with txDropSeen := true })).ringEvent p f.what.ringPart 3).hostDone p f true

/-! ## Host rings (R383, R393) -/

/-- Entries of a transmit queue (Table 13-4). -/
def txCapacity (q : Nat) : Nat :=
  match q with
  | 0 => 256 | 1 => 64 | 2 => 512 | 3 => 128 | _ => 256

/-- Offer the next frames of the host rings that feed a queue: one of a wrong length is refused, one offered while the link is down is dropped, and one that
finds the queue full stays in its ring. -/
def State.hostFill (fuel : Nat) (s : State) (p q : Nat) : State :=
  match fuel with
  | 0 => s
  | n + 1 =>
    let x := s.port p
    match x.txRings.find? (fun e => e.2.enable && !e.2.stopped && e.2.queue == q && !e.2.descs.isEmpty) with
    | none => s
    | some (part, r) =>
      match r.descs with
      | [] => s
      | d :: rest =>
        let f : TxFrame := { what := .host part (r.tail - BitVec.ofNat 32 (rest.length + 1)).toNat d.launch.isSome, len := d.len, launch := d.launch, data := d.data }
        let s1 := s.modPort p (fun x => { x with txRings := tset part { r with descs := rest } x.txRings })
        if d.len == 0 || frameMax ((s.port p).modeAt s.cap) - 4 < d.len then ((s1.portCount p 54).hostDone p f true).hostFill n p q
        else if !x.link then (s1.linkDrop p f).hostFill n p q
        else if txCapacity q ≤ (tgetD q [] x.txq).length then s
        else (s1.modPort p (fun x => { x with txq := tset q (tgetD q [] x.txq ++ [f]) x.txq })).hostFill n p q

/-- Descriptors posted and not taken. -/
def PortSt.posted (x : PortSt) : Nat := (x.txRings.map (fun e => e.2.descs.length)).sum

def State.hostFills (s : State) (p : Nat) : State := [4, 5, 6, 7].foldl (fun s q => s.hostFill ((s.port p).posted + 1) p q) s

/-! ## Heads of the queues (R365) -/

/-- Judge a timed frame: none where it is dropped; a late frame that is sent is no longer timed. -/
def State.judgeFrame (s : State) (p q : Nat) (f : TxFrame) (busy : Bool) : State × Option TxFrame :=
  match f.launch with
  | none => (s, some f)
  | some (tb, l) =>
    if s.launchRefused tb l then (s.count .tb 5, none)
    else if s.launchLate p tb l f.judged busy then
      let drop := (s.port p).lateDrops q
      let s1 := s.lateEvent p f.what tb drop (tget q (s.port p).lastLate)
      let s2 := s1.modPort p (fun x => { x with lastLate := tset q (s.now / 1000000000) x.lastLate })
      if drop then (s2.count .tb 5, none) else (s2.count .tb 4, some { f with launch := none })
    else (s, some { f with judged := true })

/-- Judge the head of one queue. Answers the state and whether the head was dropped. While the link is down a head is only noted to be there in time: it is
late, if so, once the link returns (R384). -/
def State.judgeHead (s : State) (p q : Nat) : State × Bool :=
  match tgetD q [] (s.port p).txq with
  | [] => (s, false)
  | f :: r =>
    let b := s.judgeFrame p q f (s.wireBusy p)
    match b.2 with
    | some g =>
      if !(s.port p).link && g.launch != f.launch then (s, false)
      else (b.1.modPort p (fun x => { x with txq := tset q (g :: r) x.txq }), false)
    | none =>
      if !(s.port p).link then (s, false)
      else ((b.1.modPort p (fun x => { x with txq := tset q r x.txq })).frameGone p f true, true)

/-- Fill the queues from the host rings and judge their heads, again where one was dropped. -/
def State.settle (fuel : Nat) (s : State) (p : Nat) : State :=
  match fuel with
  | 0 => s
  | n + 1 =>
    let r := (List.range 8).foldl (fun (a : State × Bool) q =>
      let b := a.1.judgeHead p q
      (b.1, a.2 || b.2)) (s.hostFills p, false)
    if r.2 then r.1.settle n p else r.1

/-- Frames of a port that have not started. -/
def PortSt.backlog (x : PortSt) : Nat := (x.txq.map (fun e => e.2.length)).sum + x.posted + x.pubWaits.length

/-! ## Starting a frame -/

/-- No frame starts that would not finish, with its gap, before a frame of another queue must start for its launch time (R365). One whose time has come is
pending no longer: of two with the same launch time the lower queue goes first (R366). -/
def State.keepsWireFree (s : State) (p q : Nat) (f : TxFrame) : Bool :=
  (List.range 8).all (fun j =>
    j == q ||
    match tgetD j [] (s.port p).txq with
    | [] => true
    | g :: _ =>
      match g.launch with
      | none => true
      | some (tb, l) =>
        match s.readingAtStart p tb with
        | none => true
        | some r => s.launchDue p tb l || decide (r + frameNs f.len (s.port p).speedMbps + s.launchLead p ≤ (l : Int)))

/-- The queue whose head starts next: strict priority, a timed head only at its launch time (R381, R366). -/
def State.nextQueue (s : State) (p : Nat) : Option (Nat × TxFrame) :=
  ((List.range 8).filterMap (fun q =>
    match tgetD q [] (s.port p).txq with
    | [] => none
    | f :: _ =>
      let due := match f.launch with
        | none => true
        | some (tb, l) => s.launchDue p tb l
      if due && s.keepsWireFree p q f then some (q, f) else none)).head?

/-- Ports work: the device is started and not halted (R477). -/
def State.portsRun (s : State) : Bool := s.flt.haltSource.isNone && s.pwr.startupDone

/-- Ports that may send and receive: those whose link is up; in Stabled only those kept alive have one (R399). -/
def State.portAlive (s : State) (p : Nat) : Bool := (s.port p).link && s.portsRun

/-- The first bit of a frame leaves, after the inter-packet gap; S5 of a publication ends there (01_architecture Table 01-8). -/
def State.startFrame (s : State) (p q : Nat) (f : TxFrame) : State :=
  let first := s.firstBit p
  let s1 := s.modPort p (fun x => { x with sending := some (q, f), startedAt := first })
  match f.scanEnd with
  | some e => s1.latency 5 (tick first - e) (some 50000)
  | none => s1

/-- Half duplex: carrier is present, or its inter-packet gap has not passed (R388). -/
def State.defers (s : State) (p : Nat) : Bool :=
  !(s.port p).fullDuplex && decide (s.cap < (s.port p).carrierUntil + bitsNs 96 (s.port p).speedMbps)

/-- Start the head of a queue, or note that carrier holds its first attempt. -/
def State.startQueued (s : State) (p : Nat) : State :=
  match s.nextQueue p with
  | none => s
  | some (q, f) =>
    let rest := (tgetD q [] (s.port p).txq).drop 1
    if s.defers p then s.modPort p (fun x => { x with txq := tset q ({ f with deferred := true } :: rest) x.txq })
    else (s.modPort p (fun x => { x with txq := tset q rest x.txq })).startFrame p q f

/-- Start the frame that has collided, once its back-off is over and it keeps the wire free for a pending launch (R365); a timed one may be late by then
(R366). -/
def State.startRetry (s : State) (p q : Nat) (f : TxFrame) : State :=
  if decide (s.cap < (s.port p).backoffUntil) || s.defers p || !s.keepsWireFree p q f then s
  else
    let b := s.judgeFrame p q f false
    let s1 := b.1.modPort p (fun x => { x with retry := none })
    match b.2 with
    | some g => s1.startFrame p q g
    | none => (s1.frameGone p f true).startQueued p

/-- Start the next frame of an idle port: a PAUSE of its own goes ahead of every queue and is not held (R385, R387), then a frame that has collided. -/
def State.startNext (s : State) (p : Nat) : State :=
  let x := s.port p
  if !x.link || x.sending.isSome then s
  else match x.pauseOwed with
    | some q => (s.modPort p (fun x => { x with pauseOwed := none })).startFrame p 8 { what := .pause q, len := 60, launch := none }
    | none =>
      if s.paused p then s
      else match x.retry with
        | some (q, f) => s.startRetry p q f
        | none => s.startQueued p

/-- Serve a port: a PAUSE received or owed, rings into queues, heads judged, the next frame started, and then what that lets in. -/
def State.kick (s : State) (p : Nat) : State :=
  if !s.portsRun then s
  else
    let s0 := (s.pauseSettle p).xoffArm p
    let s1 := s0.settle ((s0.port p).backlog + 1) p
    let s2 := s1.startNext p
    s2.settle ((s2.port p).backlog + 1) p

/-- Offer a frame to a queue (R383, R384). -/
def State.txOffer (s : State) (p q : Nat) (f : TxFrame) : State :=
  let x := s.port p
  let part := f.what.ringPart
  if q != 0 && !x.link then
    ((s.portCount p 53).modPort p (fun x => { x with txDropSeen := true })).ringEvent p part 3
  else if q != 0 && txCapacity q ≤ (tgetD q [] x.txq).length then
    ((s.portCount p 52).modPort p (fun x => { x with txDropSeen := true })).ringEvent p part 2
  else (s.modPort p (fun x => { x with txq := tset q (tgetD q [] x.txq ++ [f]) x.txq })).kick p

end Sys2Proof.Machine
end

