-- ==== Sys2Proof/Machine/LogicOps.lean ====
section
/-!
DEFINITION. The outputs of the logic pair (09_alarm_logic R263 to R267, R273, R274): alarm pins, dataset publication, safe values, and
the change of the pair's state.
-/
namespace Sys2Proof.Machine

/-- Table 09-4 codes. -/
def AlcState.code : AlcState → Nat
  | .noProgram => 0
  | .stop => 1
  | .run => 2
  | .hold => 3
  | .faulted => 4

/-- The partitions told of the pair (R293). -/
def State.logicReaders (s : State) : List Nat := s.readersOf kindLogic 0

/-- The pair is in safety operation while its holder holds SAFETY (R253). -/
def State.safetyOp (s : State) : Bool := (s.part (s.holder kindLogic 0)).safety

/-- FORCE_IND is driven high, and FORCE_ACTIVE set, while at least one force is active (R277). -/
def State.forceInd (s : State) : Bool := !s.alc.forces.isEmpty

/-- One pin vector of eight: output value XOR INVERT (R263). -/
def alLevels (value invert : Nat) : Nat := (value ^^^ invert) % 256

/-- Drive the alarm pins, which a halt holds low (16_safety R477). -/
def State.driveAl (s : State) (level : Nat) : State := { s with alc := { s.alc with level := if s.flt.haltSource.isSome then 0 else level } }

/-- timeAllowedtoLive: twice the interval to the next scheduled frame (R266). -/
def ttlOf (intervalMs : Nat) : Nat := 2 * intervalMs

/-- Hand a dataset's frame to one port, or keep it in the publisher while the previous one has not left (R382). -/
def State.pubToPort (s : State) (n p : Nat) (f : TxFrame) : State :=
  let same : TxFrame → Bool := fun g => g.ofDataset n
  let x := s.port p
  if (tgetD 0 [] x.txq).any same || x.sending.any (fun e => same e.2) || x.retry.any (fun e => same e.2) then
    s.modPort p (fun x => { x with pubWaits := x.pubWaits ++ [f] })
  else s.txOffer p 0 f

/-- Members as a frame carries them: under test every member of quality type has its test bit, bit 11, set (R267). -/
def testMembers (test : Bool) (types : List MemberType) (members : List Nat) : List Nat :=
  members.zipIdx.map (fun e => if test && types[e.2]? == some (.scalar .quality) then e.1 ||| 2048 else e.1)

/-- Send the present frame of a dataset on its ports, if its signature can be made (R265, R437). `launch` is the base and time of LAUNCH 1. -/
def State.pubFrame (s : State) (n : Nat) (e : AlcPub) (launch : Option (Nat × Nat)) (scanEnd : Option Stamp := none) : State :=
  let q := tgetD n {} s.alc.pubs
  if e.rGoose && !s.signsAs e.keySlot e.tagCode then s.signMissing e.keySlot
  else
    let f : TxFrame := { what := .dataset n q.stNum.toNat q.sqNum.toNat (ttlOf q.intervalMs) q.test (testMembers q.test e.head.types q.members) e.head
                         len := e.frameLen, launch, scanEnd }
    let s1 := if e.rGoose then s.signSent e.keySlot else s
    e.ports.foldl (fun s p => s.pubToPort n p f) (s1.count .alc 6)

/-- The next stNum, counted modulo 2^32 with 0 skipped. -/
def nextStNum (v : W32) : W32 := if v + 1 == 0 then 1 else v + 1

/-- The next sqNum of a repeat, wrapping to 1. -/
def nextSqNum (v : W32) : W32 := if v + 1 == 0 then 1 else v + 1

/-- A change of a dataset (R266): a new stNum, sqNum 0, the repeat schedule from MIN_MS, and the frame launched. A launch time already
passed sends the frame at once and counts PUB_LATE (counter 7). -/
def State.publish (s : State) (n : Nat) (e : AlcPub) (members : List Nat) (test : Bool) (launch : Option (Nat × Nat))
    (scanEnd : Option Stamp := none) : State :=
  let q := tgetD n {} s.alc.pubs
  let passed := launch.any (fun x => (s.reading x.1).any (fun r => decide ((x.2 : Int) < r)))
  let q' : PubState := { q with
    members, test, published := true, stNum := nextStNum q.stNum, sqNum := 0
    nextAt := s.now + 1000000 * e.minMs, intervalMs := e.minMs, late := passed }
  let s1 := { s with alc := { s.alc with pubs := tset n q' s.alc.pubs } }
  let s2 := if passed then
      let s3 := s1.count .alc 7
      if s.alc.pubLate then s3
      else ({ s3 with alc := { s3.alc with pubLate := true } }).evtFree s3.logicReaders 0x190
    else if launch.isSome then { s1 with alc := { s1.alc with pubLate := false } } else s1
  s2.pubFrame n e (if passed then none else launch) (if launch.isNone then scanEnd else none)

/-- Numbered publication entries of the active image. -/
def State.pubEntries (s : State) : List (Nat × AlcPub) :=
  match s.alc.active with
  | none => []
  | some im => (List.range im.pubs.length).zip im.pubs

/-- Every output to its safe value: pins at once, each dataset published once as a change (R274). -/
def State.toSafe (s : State) : State :=
  match s.alc.active with
  | none => s.driveAl 0
  | some im =>
    s.pubEntries.foldl (fun s e => s.publish e.1 e.2 e.2.safe s.forceInd none)
      (s.driveAl (alLevels im.alSafe im.alInvert))

/-- Datasets whose test field is not that of the forces are published as changed (R266, R267). -/
def State.testSync (s : State) : State :=
  s.pubEntries.foldl (fun s e =>
    let q := tgetD e.1 {} s.alc.pubs
    if q.published && q.test != s.forceInd then s.publish e.1 e.2 q.members s.forceInd none else s) s

/-- The forces, with FORCE_CHANGED (R276). In RUN the next scan, or a repeat before it, carries the test field; DESIGN CHOICE: in every other state, where no
scan follows, the datasets are published as changed at once (log 74). -/
def State.setForces (s : State) (f : Table Force) : State :=
  let s1 : State := { s with alc := { s.alc with forces := f } }
  let s2 := s1.evt s1.logicReaders 0x184 f.length
  if s2.alc.state == .run || s2.alc.state == .noProgram then s2 else s2.testSync

/-- Every force is cleared, if there are any (R276, R284). -/
def State.dropForces (s : State) : State := if s.alc.forces.isEmpty then s else s.setForces []

/-- Outputs are at their safe values in STOP, in FAULTED, and in HOLD under safety operation (R274). -/
def State.atSafeValues (s : State) : Bool :=
  s.alc.state == .stop || s.alc.state == .faulted || (s.alc.state == .hold && s.safetyOp)

/-- A change of the pair's state by a row of Table 09-5: MODE_CHANGED, and the outputs of the new state (R273). -/
def State.alcTo (s : State) (st : AlcState) (row : Nat) : State :=
  let s1 := { s with alc := { s.alc with state := st } }
  let s2 := s1.evt s1.logicReaders 0x180 (s.alc.state.code + 256 * st.code + 65536 * row)
  if st == .noProgram then s2.driveAl 0
  else if s2.atSafeValues && !s.atSafeValues then s2.toSafe else s2

/-- A trigger skipped and counted (R272): the first skip after a scan raises SCAN_SKIPPED. -/
def State.scanSkip (s : State) : State :=
  let s1 := ({ s with alcx := { s.alcx with skipRun := true } }).count .alc 2
  if s.alcx.skipRun then s1 else s1.evtFree s1.logicReaders 0x182

/-- A scan in progress is abandoned or has ended its pair's RUN: a held trigger is skipped. -/
def State.scanDrop (s : State) : State :=
  let s1 : State := { s with
    alc := { s.alc with scan := none, heldTrig := none, holdSite := none, stopAt := false }
    alcx := { s.alcx with skipRun := s.alcx.skipRun && s.alc.scan.isNone } }
  if s.alc.heldTrig.isSome then s1.scanSkip else s1

/-- A fault of row 8 (Table 09-5): the scan in progress and a held trigger are dropped, and the pair enters FAULTED. A halt has stopped the pair (16_safety R477). -/
def State.alcFault (s : State) : State :=
  if s.flt.haltSource.isSome then s
  else match s.alc.state with
  | .noProgram => s
  | .faulted => s
  | _ => s.scanDrop.alcTo .faulted 8

end Sys2Proof.Machine
end

