-- ==== Sys2Proof/Machine/Emit.lean ====
section
/-!
DEFINITION. Recording a fault with its reactions, and alarm-class events (16_safety R470 to R478, 14_hosts R428).
-/
namespace Sys2Proof.Machine

/-- The halt of R477: pins low, ports stopped, and only the listed commands served. -/
def State.halt (s : State) (src : Nat) : State :=
  if s.flt.haltSource.isSome then s
  else
    let s1 := { s with
      flt := { s.flt with haltSource := some src }
      pwr := { s.pwr with state := .halted }
      prt := { s.prt with ports := tmap (fun _ x => { x with sending := none }) s.prt.ports } }
    s1.driveAl 0

/-- The sources in service in Stabled: supplies, temperature, tamper, and those of the ERR pair (R492). -/
def stabledSource (src : Nat) : Bool := src ≤ 7 || src == 9 || src == 10 || src == 80

/-- The reaction to a record by its effective severity: row 8 of Table 09-5, and the halt (Table 16-4). -/
def State.react (s : State) (r : FaultRec) : State :=
  let s1 := if r.counts && faultRow8 r.source && 3 ≤ r.effective then s.alcFault else s
  if r.counts && r.effective == 4 then s1.halt r.source else s1

/-- Make one record: no record for a LEVEL source that is already active (R470); then the record, its events and its reactions (R473 to
R478, Table 16-4), with those that it escalates. Answers what the events lead to. -/
def State.record (s : State) (src detail part : Nat) (injected real react : Bool) : State × List Job :=
  match faultClass src with
  | none => (s, [])
  | some cls =>
    if real && faultLevel src && s.flt.active.contains src then (s, [])
    else if s.pwr.state == .stabled && !stabledSource src then (s, [])
    else
      let r := s.faultRecord src cls detail part injected real react
      let s1 := { s with flt := s.flt.push r }
      let all := r :: s1.flt.history.filter (fun q => q.stamp == r.stamp && q.escalated
        && s.flt.history.any (fun x => x.seq + 1 == q.seq && x.stamp == q.stamp && !x.escalated && r.before x))
      let s2 := if real && faultLevel src then { s1 with flt := { s1.flt with active := src :: s1.flt.active } } else s1
      let s4 := all.foldl (fun s q => s.react q) s2
      (s4.refreshErr, all.flatMap s4.faultEvents)

/-- Carry out a job and what it leads to. Six levels are enough: a fault leads to alarm records, those to one backlog record and its
events, and those to the records of FS_74 or FS_75. -/
def State.emit (fuel : Nat) (s : State) (j : Job) : State :=
  match fuel with
  | 0 => s
  | n + 1 =>
    let r := match j with
      | .event p src detail => if alarmWritten src then s.raiseAlarm p src detail else (s.raiseEvent p src detail, [])
      | .fault src detail part injected real react => s.record src detail part injected real react
    r.2.foldl (fun s k => s.emit n k) r.1

/-- A real detection of a source: INJECTED as well while its force bit is set (R483). `part` is 0xFF for a device-wide fault. -/
def State.fault (s : State) (src detail part : Nat) : State :=
  s.emit 8 (.fault src detail part (s.flt.forced.contains src) true false)

/-- An alarm-class event, or CONTRACT_SHED, on partitions. -/
def State.alarm (s : State) (parts : List Nat) (src detail : Nat) : State :=
  parts.foldl (fun s p => s.emit 8 (.event p src detail)) s

/-- A LEVEL source's condition has cleared: it is inactive unless forced, its records lose ACTIVE (R470, R474). -/
def State.faultClear (s : State) (src : Nat) : State :=
  let still := s.flt.forced.contains src
  let mark := fun (r : FaultRec) => if r.source == src then { r with active := still } else r
  ({ s with flt := { s.flt with
      active := s.flt.active.filter (· != src)
      history := s.flt.history.map mark
      unackDisplaced := s.flt.unackDisplaced.map mark } }).refreshErr

/-- The source with a safety partition present, or the one without. -/
def State.bySafety (s : State) (withSafety without : Nat) : Nat := if s.safetyPresent then withSafety else without

/-- Every block that reports one of two sources by SAFETY_PRESENT. -/
def State.faultPair (s : State) (withSafety without detail part : Nat) : State :=
  s.fault (s.bySafety withSafety without) detail part

end Sys2Proof.Machine
end

