-- ==== Sys2Proof/Machine/BootOps.lean ====
section
/-!
DEFINITION. Boot measurement and what is bound to it (15_security R440, R442, R446 to R448).
-/
namespace Sys2Proof.Machine

/-- The 64 bytes of a SHA-512 value, first byte first. -/
def digestBytes (d : BitVec 512) : List Byte := (le 64 d.toNat).reverse

/-- DEV_STATUS.LIFE_CYCLE. -/
def LifeCycle.code : LifeCycle → Nat
  | .blank => 0
  | .personalised => 1
  | .deployed => 2
  | .returned => 3
  | .retired => 4

def State.bmr (s : State) (b : Nat) : BitVec 512 := tgetD b 0 s.sec.bmr

/-- Extend a register by a measurement and log it (R446). VERSION and SVN of an item that has none are free values. -/
def State.measure (s : State) (reg stage : Nat) (ver : Option (Nat × Nat)) (m : BitVec 512) : State :=
  let v := ver.getD (s.free.1 % 4294967296, s.free.2.free.1 % 4294967296)
  let s1 := if ver.isSome then s else s.free.2.free.2
  let e : MeasEntry := { reg, stage, version := v.1, svn := v.2, stamp := s.now, digest := m }
  { s1 with sec := { s1.sec with bmr := tset reg (Config.sha512 (digestBytes (s.bmr reg) ++ digestBytes m)) s1.sec.bmr
                                 measLog := s1.sec.measLog ++ [e] } }

/-- The 96-byte fuse record (Table 15-4a). -/
def State.fuseRecord (s : State) : List Byte :=
  le 8 Config.serial.toNat ++ le 1 s.sec.life.code ++ le 1 Config.grade.toNat ++ le 1 Config.stepping.toNat ++ le 1 (b2n s.sec.ownerBoot)
  ++ zeros 4 ++ digestBytes (BitVec.ofNat 512 s.sec.ownerHash) ++ zeros 16

/-- The 16-byte security version record (R447). -/
def State.versionRecord (s : State) : List Byte := le 4 s.fw.minSvn ++ le 1 s.sec.revoked.toNat ++ zeros 11

def State.bank (s : State) (n : Nat) : Bank := if n == 0 then s.fw.bankA else s.fw.bankB

/-- Step 1 of Table 15-4. -/
def State.measureFuses (s : State) : State := s.measure 0 1 none (Config.sha512 s.fuseRecord)

/-- A key of Nolivik: its hash is fused, and its revocation fuse intact (R443). -/
def SecSt.nolivikKey (x : SecSt) : Option SigKey → Bool
  | some (.root k) => decide (k < 4) && !x.revoked.getLsbD k
  | _ => false

/-- The owner key: its hash is the fused one. -/
def SecSt.ownerKey (x : SecSt) (k : Option SigKey) : Bool := k == some (.other x.ownerHash)

/-- The signatures of an image (R443): a key of Nolivik, and with OWNER_BOOT the owner key. -/
def SecSt.imageSigned (x : SecSt) (nolivik owner : Option SigKey) : Bool := x.nolivikKey nolivik && (!x.ownerBoot || x.ownerKey owner)

/-- Steps 2 to 4 from a bank: the items of BMR_1, in their order. -/
def State.measureFirmware (s : State) (n : Nat) : State :=
  let b := s.bank n
  let item := fun (s : State) (x : Nat × Nat) => s.measure 1 x.1 (some (b.version, b.svn)) (Config.fwItem b.digest x.2)
  [(2, 0), (3, 1), (4, 2), (4, 3), (4, 4), (4, 5)].foldl item (s.measure 1 2 none (Config.sha512 s.versionRecord))

/-- SHA-512 of the registers that a mask names (R440). -/
def State.boundValue (s : State) (mask : Nat) : BitVec 512 := Config.sha512 ((maskBits 4 mask).flatMap (fun b => digestBytes (s.bmr b)))

/-- The owner partition, and the holder of a slot where it is another. -/
def State.slotParts (s : State) (n : Nat) : List Nat := 0 :: (if s.holder kindKey n == 0 then [] else [s.holder kindKey n])

/-- A slot whose bound registers have changed becomes UNUSABLE (R440). -/
def State.rebindSlot (s : State) (n : Nat) : State :=
  let x := s.slot n
  if !x.unusable && x.key.any (fun k => k.bindMask != 0 && k.boundDigest != s.boundValue k.bindMask) then
    (s.setSlot n { x with unusable := true }).evt (s.slotParts n) 0x1FB (2 + 256 * n)
  else s

def State.rebind (s : State) : State := (s.sec.slots.map (·.1)).foldl (fun s n => s.rebindSlot n) s

/-- Step 6 at an exchange (R448). -/
def State.measureProgram (s : State) (im : AlcImage) : State := (s.measure 3 6 none im.digest).rebind

/-- BMR_1 recomputed from zero at a management restart, its log entries with it (R448). -/
def State.remeasure (s : State) (n : Nat) : State :=
  let s1 : State := { s with sec := { s.sec with bmr := tset 1 0 s.sec.bmr, measLog := s.sec.measLog.filter (fun e => e.reg != 1) } }
  (s1.measureFirmware n).rebind

end Sys2Proof.Machine
end

