-- ==== Sys2Proof/Machine/Commands.lean ====
section
/-!
DEFINITION. The running of one command packet (14_hosts R411 to R424, 15_security R444, R445, R463, 17_power_states R503): how it is taken,
when it may start, what turns it away, and how it is answered.
-/
namespace Sys2Proof.Machine

/-- What a command's meaning needs to be run: its opcode, the parameter length it takes (none for a variable one), whether it only
reads state (R424), and whether it is served while the device is halted (R477), Stabled (R503), in BOOT_HOLD or TAMPER_HOLD
(R445), BLANK or RETIRED (R463). -/
structure CmdInfo where
  op : Nat
  len : Option Nat
  ro : Bool := false
  halt : Bool := false
  stabled : Bool := false
  boot : Bool := false
  tamper : Bool := false
  blank : Bool := false
  retired : Bool := false
  deriving DecidableEq, Repr

/-- What a command does once it runs: answers, waits, or changes state without an answer (DEV_RESET, a partition that resets itself). -/
inductive CmdOut where
  | reply (s : State) (status detail : Nat) (res : List Byte)
  | wait (s : State) (what : WaitFor)
  | silent (s : State)

/-- A refusal: nothing changes but the reply. -/
def refuse (s : State) (status detail : Nat) : CmdOut := .reply s status detail []

/-- Success with a result. -/
def ok (s : State) (res : List Byte := []) : CmdOut := .reply s stOk 0 res

/-- Bytes of a packet or reply in its ring: 32 and the length rounded up to 32 (R412). -/
def slotBytes (len : Nat) : Nat := 32 + ceilDiv len 32 * 32

/-- Where an entry of `n` bytes starts in a ring of `size` bytes: the free-running count after any padding to the ring's end. -/
def ringPlace (size n count : Nat) : Nat :=
  let off := count % size
  if size < off + n then count + (size - off) else count

/-! ## Taking a packet -/

/-- The queue of a partition takes packets: enabled, not stopped by an error, its link up (R401, R403, R416). -/
def Part.queueRuns (p : Part) : Bool :=
  p.state == .created && p.q.enable && !p.q.stopped && !p.q.linkStop

/-- Take the next packet of a partition's submission queue: SQ_HEAD moves past any padding and past it, and is written back (R411, R412). None when the host has
not posted it. -/
def State.takePacket (s : State) (n len : Nat) : Option State :=
  let p := s.part n
  let posted := (p.q.sqTail - p.q.sqHead).toNat
  let head := p.q.sqHead.toNat
  let start := ringPlace p.q.sqSize.toNat (slotBytes len) head
  let used := start - head + slotBytes len
  if p.queueRuns && used ≤ posted && p.q.sqSize != 0 then
    let sq := p.q.sqHead + BitVec.ofNat 32 used
    some ((s.setPart n { p with q := { p.q with sqHead := sq } }).writeBack n 0 sq)
  else none

/-- A verified message of a channel whose command has not started (R419, R422). -/
def Request.fits (r : Request) (h : Pkt) (op : Nat) : Bool :=
  !r.started && r.part == h.part && r.tag == h.tag && r.opcode == op

def markStarted (h : Pkt) (op : Nat) : List Request → Option (List Request)
  | [] => none
  | r :: l => if r.fits h op then some ({ r with started := true } :: l) else (markStarted h op l).map (r :: ·)

/-- A command arrives by its channel; none when nothing of the kind is there to be taken. -/
def State.arrive (s : State) (h : Pkt) (op : Nat) : Option State :=
  match h.chan with
  | .queue => if h.part < 8 then s.takePacket h.part h.paramLen else none
  | .inband =>
    match markStarted h op s.hst.inbox with
    | some l => if s.created h.part then some { s with hst := { s.hst with inbox := l } } else none
    | none => none
  | .spi =>
    match markStarted h op s.hst.spiInbox with
    | some l => if h.part == 0 then some { s with hst := { s.hst with spiInbox := l } } else none
    | none => none

/-! ## Starting -/

/-- Waiting commands of Table 14-8 release the queue. -/
def WaitFor.releases : WaitFor → Bool
  | .exchange => true
  | .checkpoint => true
  | .rejoin _ => true
  | .restep .. => true
  | .dmaCopy .. => true
  | .recExport _ => true
  | .alcLoad => true
  | .fwLoad => true
  | .cfgLoad => true
  | _ => false

/-- Commands of a partition in flight. -/
def State.inFlight (s : State) (n : Nat) : List Waiting := s.hst.waiting.filter (fun w => w.pkt.part == n)

/-- Free bytes of a partition's reply queue. -/
def QueueRegs.replyFree (q : QueueRegs) : Nat := q.rqSize.toNat - (q.rqTail - q.rqHead).toNat

/-- R413: room for a reply beside the reserve of the commands in flight; the other two channels have no reply queue. -/
def State.replyRoom (s : State) (h : Pkt) : Bool :=
  h.chan != .queue ||
  decide (8192 * ((s.inFlight h.part).filter (fun w => w.pkt.chan == .queue)).length + 8192 ≤ (s.part h.part).q.replyFree)

/-- Commands that change a key slot run one at a time over the whole device (R452). -/
def keyUpdateOp (op : Nat) : Bool := op == 0x0D00 || op == 0x0D01 || op == 0x0D02 || op == 0x0D04

/-- Commands that write to NOR when they take effect, without an update of a key slot: LC_TRANSITION, TAMPER_CLEAR, FW_LOAD, FW_SWITCH and CFG_LOAD. -/
def norOp (op : Nat) : Bool := op == 0x0D08 || op == 0x0D09 || op == 0x0F03 || op == 0x0F05 || op == 0x0F06

/-- A command that has been read may start (R413, R415, R452, R499, R503, R510), a write to NOR behind a checkpoint in progress (01_architecture R33). -/
def State.canStart (s : State) (h : Pkt) (op : Nat) : Bool :=
  let mine := s.inFlight h.part
  !s.fw.mgmtRestart
  && (h.chan != .queue || (s.pwr.startupDone && s.pwr.state != .entering && s.pwr.state != .stabled && s.pwr.state != .waking))
  && s.replyRoom h
  && decide (mine.length < 16)
  && decide (tgetD h.part 0 s.hst.lastDone ≤ s.now)
  && mine.all (fun w => w.what.releases && w.opcode / 256 != op / 256)
  && (!h.fence || mine.isEmpty)
  && (!keyUpdateOp op || s.hst.waiting.all (fun w => match w.what with | .keyCommit .. => false | _ => true))
  && (h.chan != .spi || s.hst.waiting.all (fun w => w.pkt.chan != .spi))
  && (!norOp op || s.alcx.write.isNone)

/-! ## Answering -/

/-- The first entry of a list that fits, and the rest. -/
def pickRequest (h : Pkt) (op : Nat) : List Request → Option (Request × List Request)
  | [] => none
  | r :: l =>
    if r.part == h.part && r.tag == h.tag && r.opcode == op then some (r, l)
    else (pickRequest h op l).map (fun x => (x.1, r :: x.2))

/-- An IPv4 address, which stands IPv4-mapped in the 128 bits of an address (13_ports R378; log entry 16). -/
def isIp4 (ip : Nat) : Bool := ip / 4294967296 == 0xFFFF

/-- IP header length of the form of an address. -/
def ipHeader (ip : Nat) : Nat := if isIp4 ip then 20 else 40

/-- Bytes of the frame of an in-band message before FCS: Ethernet, IP, UDP, message header, packet header, body, tag (Table 14-9). -/
def channelFrame (ip len : Nat) : Nat := 14 + ipHeader ip + 8 + 32 + 32 + len + 16

/-- The header that pads a reply queue to its end (R413). -/
def padReply (version : Nat) : List Byte := zeros 2 ++ le 1 1 ++ le 1 version ++ zeros 28

/-- The header of a reply (Table 14-5). -/
def Reply.header (r : Reply) : List Byte :=
  le 2 r.status ++ le 1 (2 * b2n r.truncated) ++ le 1 r.version ++ le 4 r.tag ++ le 2 r.result.length ++ le 2 r.opcode ++ le 4 r.detail ++ le 8 r.stamp
  ++ zeros 8

/-- A reply as its queue holds it. -/
def Reply.image (r : Reply) : List Byte := r.header ++ r.result

/-- The message of Table 14-9 that carries a reply, with its tag under the signing key. -/
def channelMessage (part seq : Nat) (key : Option (List Byte)) (r : Reply) : List Byte :=
  let body := le 4 0x5354524C ++ le 1 1 ++ le 1 part ++ zeros 2 ++ le 8 seq ++ zeros 16 ++ r.header ++ r.result
  body ++ Config.hmacSha256 (key.getD []) body

/-- A partition's latest completion stamp (R415). -/
def State.doneBy (s : State) (n : Nat) (t : Stamp) : State :=
  if tgetD n 0 s.hst.lastDone < t then { s with hst := { s.hst with lastDone := tset n t s.hst.lastDone } } else s

/-- Put a reply where its command came from: into the reply queue with its placement rules and ring class 0 signalled (R413, R429), as a frame
of TXQ_3 cut to MAX_FRAME (R419, R421), or to the service port. A PENDING reply keeps the request. A queue that a link reset or a DMA error has stopped takes no
reply (R403, R404). -/
def State.putReply (s0 : State) (h : Pkt) (op status detail : Nat) (stamp : Stamp) (res : List Byte) : State :=
  let r : Reply := { part := h.part, chan := h.chan, status, truncated := false, version := h.version, tag := h.tag
                     opcode := op, detail, stamp, result := res, offset := 0 }
  let final := status != stPending
  let s := s0.doneBy h.part (if final then stamp else 0)
  match h.chan with
  | .queue =>
    let p := s.part h.part
    if p.q.linkStop then s else
    let tail := p.q.rqTail.toNat
    let at_ := ringPlace p.q.rqSize.toNat (slotBytes res.length) tail
    let used := at_ - tail + slotBytes res.length
    let rq := p.q.rqTail + BitVec.ofNat 32 used
    let s1 := s.setPart h.part { p with q := { p.q with rqTail := rq } }
    let s2 := { s1 with hst := { s1.hst with replies := { r with offset := at_ % 4294967296 } :: s1.hst.replies } }
    let base := p.q.rqAddr.toNat
    let s3 := if at_ == tail then s2 else s2.hostWrite h.part (base + tail % p.q.rqSize.toNat) (padReply h.version)
    ((s3.hostWrite h.part (base + at_ % p.q.rqSize.toNat) r.image).writeBack h.part 1 rq).ringSignal h.part 0
  | .inband =>
    match pickRequest h op s.hst.inbox with
    | none => s
    | some (q, rest) =>
      let s1 := if final then { s with hst := { s.hst with inbox := rest } } else s
      let slot := (s.part h.part).ib.keySign
      if !s.signsAs slot 1 then s1.signMissing slot
      else
        let room := (s.port q.port).maxFrame - 4 - channelFrame q.ip 0
        let cut := decide (room < res.length)
        let r' := { r with truncated := cut, result := res.take room }
        let s2 := { s1.signSent slot with hst := { (s1.signSent slot).hst with replies := r' :: s1.hst.replies } }
        s2.txOffer q.port 3 { what := .channelReply q.ip q.udpPort, len := channelFrame q.ip r'.result.length, launch := none
                              data := channelMessage h.part q.seq ((s.key slot).map (·.bytes)) r' }
  | .spi =>
    match pickRequest h op s.hst.spiInbox with
    | none => s
    | some (_, rest) =>
      let s1 := if final then { s with hst := { s.hst with spiInbox := rest } } else s
      { s1 with hst := { s1.hst with spiReplies := s1.hst.spiReplies ++ [r] } }

/-- Finish a waiting command: it leaves the list and its final reply is written. It completes no earlier than a command of its partition whose reply is already
written, so that replies stand in the order of their completion stamps (R413; log entry 3). -/
def State.finish (s : State) (w : Waiting) (status detail : Nat) (res : List Byte) : State :=
  { s with hst := { s.hst with waiting := s.hst.waiting.filter (· != w) } }.putReply w.pkt w.opcode status detail
    (Nat.max s.now (tgetD w.pkt.part 0 s.hst.lastDone)) res

/-- Finish every waiting command that a test selects, oldest first. -/
def State.finishAll (s : State) (sel : Waiting → Bool) (status detail : Nat) (res : Waiting → List Byte) : State :=
  (s.hst.waiting.filter sel).foldl (fun s w => s.finish w status detail (res w)) s

/-! ## Running -/

/-- What turns a command away before its own rules are looked at, in the order of the model: a halt (R477), a hold (R444, R445), Stabled (R503),
the life-cycle state (R463), a service-port session (R424), the version and the length (R416). -/
def State.turnedAway (s : State) (c : CmdInfo) (h : Pkt) : Option (Nat × Nat) :=
  if s.flt.haltSource.isSome && !c.halt then some (stFaulted, s.flt.haltSource.getD 0)
  else if s.sec.bootHold && (!c.boot || h.chan != .spi) then some (stLocked, 1)
  else if s.sec.tamperHold && (!c.tamper || h.chan != .spi) then some (stLocked, 1)
  else if (s.pwr.state == .stabled || s.pwr.state == .waking) && !c.stabled then some (stWrongState, 0)
  else if s.sec.life == .blank && (!c.blank || h.chan != .spi) then some (stLocked, 1)
  else if s.sec.life == .retired && !c.retired then some (stLocked, 1)
  else if s.hst.spiSession.isSome && h.chan != .spi && !c.ro then some (stLocked, 2)
  else if h.version != 1 && !(c.op / 256 == 0x7F && h.version == 0) then some (stBadOpcode, 1)
  else match c.len with
    | some n => if h.paramLen == n then none else some (stBadLength, n)
    | none => none

/-- The PENDING reply of a command that is answered at `done`, later than 1 ms after receipt, unless it had one while it was held (R414). -/
def State.pendingFirst (s : State) (c : CmdInfo) (h : Pkt) (done : Stamp) : State :=
  if h.ackPending && !s.hst.interim && decide (h.recv + 1000000 < done) then s.putReply h c.op stPending 0 h.recv [] else s

/-- Run a started command: turned away, or by its body; its reply carries the completion stamp, while the clock stays at its receipt, by which the
command takes its place among the rows (02_timetable R58). -/
def State.runStarted (s : State) (c : CmdInfo) (h : Pkt) (body : State → CmdOut) : State :=
  match s.turnedAway c h with
  | some (st, d) => (s.pendingFirst c h s.now).putReply h c.op st d s.now []
  | none =>
    match body s with
    | .reply s1 st d res => (s1.pendingFirst c h (Nat.max s1.now h.done)).putReply h c.op st d (Nat.max s1.now h.done) res
    | .wait s1 what =>
      { s1 with hst := { s1.hst with
          waiting := s1.hst.waiting ++ [{ pkt := h, opcode := c.op, what, pendingSent := s1.hst.interim }] } }
    | .silent s1 => s1

/-- A command that starts as it is taken has had no interim reply. -/
def State.fresh (s : State) : State := { s with hst := { s.hst with interim := false } }

/-! ## Commands that wait for their start -/

/-- The first held command that may start now, with the rest of the held commands in order. Of each partition only its earliest may (R415). -/
def pickHeld (s : State) (seen : List Nat) : List HeldCmd → Option (HeldCmd × List HeldCmd)
  | [] => none
  | x :: r =>
    if !seen.contains x.pkt.part && s.canStart x.pkt x.opcode then some (x, r)
    else (pickHeld s (x.pkt.part :: seen) r).map (fun y => (y.1, x :: y.2))

/-- An earlier receipt stamp goes first, at equal stamps the lower partition (02_timetable R58), and its submission queue before its other channels (R420). -/
def HeldCmd.before (x y : HeldCmd) : Bool :=
  decide (x.pkt.recv < y.pkt.recv) || (x.pkt.recv == y.pkt.recv
    && (decide (x.pkt.part < y.pkt.part) || (x.pkt.part == y.pkt.part && x.pkt.chan == .queue && y.pkt.chan != .queue)))

/-- Held commands stand in the order in which they take their places (R58), those of one partition in queue order (R415). -/
def insertHeldCmd (x : HeldCmd) : List HeldCmd → List HeldCmd
  | [] => [x]
  | y :: l => if x.before y && (y :: l).all (fun z => z.pkt.part != x.pkt.part || (z.pkt.chan != x.pkt.chan && x.before z)) then x :: y :: l else y :: insertHeldCmd x l

/-- A command that has just been taken may start: nothing bars it, no command of its partition is held, and no held command of another, which was
received before it, may start now (R58). -/
def State.startsNow (s : State) (h : Pkt) (op : Nat) : Bool :=
  s.canStart h op && s.held.all (fun x => x.pkt.part != h.part) && (pickHeld s [] s.held).isNone

/-- A command packet reaches the device: it is taken and started, or held until it may start. A command resumed from `held` has been taken
already. -/
def State.runCmd (s : State) (i : Instr) (c : CmdInfo) (h : Pkt) (body : State → CmdOut) : State :=
  let s0 := s.at h.recv
  if s.resuming then { s0 with resuming := false }.runStarted c h body
  else
    match s0.arrive h c.op with
    | none => s0
    | some s1 =>
      if s1.startsNow h c.op then s1.fresh.runStarted c h body
      else { s1 with held := insertHeldCmd { pkt := h, opcode := c.op, row := i } s1.held }

/-- The meaning of a command row. -/
def cmd (i : Instr) (c : CmdInfo) (h : Pkt) (s : State) (body : State → CmdOut) : Host.Outcome State Fault Refusal :=
  .next (s.runCmd i c h body)

/-- The meaning of an event row: the clock moves to its stamp and the device does what the rules say. -/
def event (t : Stamp) (s : State) (f : State → State) : Host.Outcome State Fault Refusal := .next (f (s.at t))

/-- The completion stamp of a command (R415). -/
def State.doneAt (s : State) (h : Pkt) : Stamp := Nat.max s.now h.done

/-! ## Checks that many commands share -/

/-- NOT_GRANTED when the caller is not the owner partition. -/
def ownerOnly (h : Pkt) : Option (Nat × Nat) := if h.part == 0 then none else some (stNotGranted, 0xF0)

/-- NOT_GRANTED when the caller does not hold a resource. -/
def State.needs (s : State) (h : Pkt) (kind idx : Nat) : Option (Nat × Nat) :=
  if s.holds h.part kind idx then none else some (stNotGranted, grantDetail kind idx)

/-- NOT_GRANTED when the caller neither holds a resource nor has a share grant on it. -/
def State.needsRead (s : State) (h : Pkt) (kind idx : Nat) : Option (Nat × Nat) :=
  if s.reads h.part kind idx then none else some (stNotGranted, grantDetail kind idx)

/-- BAD_PARAM with the offset of the first parameter at fault. -/
def badIf (c : Bool) (off : Nat) : Option (Nat × Nat) := if c then some (stBadParam, off) else none

/-- ZERO_NOT_ALLOWED with the offset of the field. -/
def zeroIf (c : Bool) (off : Nat) : Option (Nat × Nat) := if c then some (stZero, off) else none

/-- Another refusal. -/
def failIf (c : Bool) (status detail : Nat) : Option (Nat × Nat) := if c then some (status, detail) else none

/-- The first check that fails. -/
def firstBad : List (Option (Nat × Nat)) → Option (Nat × Nat)
  | [] => none
  | some x :: _ => some x
  | none :: r => firstBad r

/-- Refuse by the first check that fails, else go on. -/
def check (s : State) (cs : List (Option (Nat × Nat))) (k : Unit → CmdOut) : CmdOut :=
  match firstBad cs with
  | some (st, d) => refuse s st d
  | none => k ()

/-- The key slots that a command names, where the caller holds them all: an UPDATE_LOST mark is reported once and cleared (R454), and a slot that the command
uses is not UNUSABLE (R440). -/
def onSlots (s : State) (h : Pkt) (named used : List Nat) (k : Unit → CmdOut) : CmdOut :=
  if !named.all (fun n => s.holds h.part kindKey n) then k ()
  else match named.find? (fun n => (s.slot n).updateLost) with
    | some n => .reply (s.setSlot n { s.slot n with updateLost := false }) stWrongState (0x10000 + n) []
    | none => if used.any (fun n => (s.slot n).unusable) then refuse s stWrongState 0 else k ()

/-- R494: no new write to NOR starts while PFW_N is low; the command is to be repeated. -/
def norIdle (s : State) : Option (Nat × Nat) := failIf s.pwr.pfwLow stBusy 0

/-- R423: a command of the in-band channel or the service port names host memory only through the staging buffer. -/
def stagingOnly (h : Pkt) (addr : Nat) : Option (Nat × Nat) :=
  failIf (h.chan != .queue && addr < 9223372036854775808) stBadParam 0x80000000

end Sys2Proof.Machine
end

