-- ==== Sys2Proof/Machine/GroupOps.lean ====
section
/-!
DEFINITION. Contracts and output groups as the other blocks see them (02_timetable R46, R54, R65, 04_platform R119 to R122, R130): what carries a
stream, which instants a group takes, when they are due, and when a shed takes effect. An instant is counted in units of 1/1,200 s of its base.
-/
namespace Sys2Proof.Machine

/-! ## Carriers of streams -/

def Profile.code : Profile → Nat
  | .fixed => 0
  | .live => 1
  | .placement => 2

/-- The instants per second a contract writes: OUT_RATE for PROTOCOL 3. -/
def Contract.instRate (c : Contract) : Nat := if c.protocol == 3 then c.outRate else c.rate

/-- The channels a contract writes: OUT_CHANNELS for PROTOCOL 3 (R56). -/
def Contract.chans (c : Contract) : Nat := if c.protocol == 3 then c.outChannels else c.channels

/-- ADMITTED, ACTIVE or SUSPENDED. -/
def Contract.isHeld (c : Contract) : Bool := c.state != .shed

/-- Units of 1/1,200 s between two instants of a rate of Table 04-3. -/
def rateUnits (rate : Nat) : Nat := 1200 / Nat.max rate 1

def State.group (s : State) (g : Nat) : Option Group := tget g s.plt.groups

/-- Number of a placed stream among the carriers, behind every contract number. -/
def placedKey (stream : Nat) : Nat := 65536 + stream

/-- The largest WAIT_US among the groups of a mask (R430). -/
def State.maxWait (s : State) (mask : Nat) : Nat :=
  (maskBits 16 mask).foldl (fun a g => Nat.max a ((s.group g).map (·.set.waitUs) |>.getD 0)) 0

/-- A stream placed in Placement, as the platform and the clusters take it (R430). -/
def State.placedContract (s : State) (stream : Nat) (p : PlacedStream) : Contract :=
  { part := p.part, stream, protocol := p.protocol, priority := 3, rate := p.rate, channels := p.channels, burst := 1
    portMask := 0, deadlineUs := s.maxWait p.groupMask, groupMask := p.groupMask, clusterMask := 0, timeoutMs := p.timeoutMs
    outRate := 0, outChannels := 0, state := if p.active then .active else .suspended, cluster := p.cluster, cost := 0, bytes := p.bytes
    admitted := 0, change := 0, reason := 0, shedDue := 0 }

/-- Everything that carries a stream: the contract records, and behind them the placed streams. -/
def State.carriers (s : State) : Table Contract :=
  s.tt.contracts ++ s.hst.placed.map (fun e => (placedKey e.1, s.placedContract e.1 e.2))

def State.carrier (s : State) (id : Nat) : Option Contract := tget id s.carriers

/-- What carries a stream, with its number: a contract that holds resources or the stream's placement (11_clusters R320), else the record of a contract that
was shed. -/
def State.carrierOf (s : State) (stream : Nat) : Option (Nat × Contract) :=
  (s.carriers.find? (fun e => e.2.stream == stream && e.2.isHeld)).or (s.carriers.find? (fun e => e.2.stream == stream))

/-- The contract record of a stream, if it has one. -/
def State.contractOf (s : State) (stream : Nat) : Option (Nat × Contract) := s.tt.contracts.find? (fun e => e.2.stream == stream)

/-- The stream's contract is ADMITTED, ACTIVE or SUSPENDED. -/
def State.underContract (s : State) (stream : Nat) : Bool := (s.contractOf stream).any (fun e => e.2.isHeld)

/-! ## Instants and due ticks -/

/-- Units between two instants of a group. -/
def Group.step (g : Group) : Nat := rateUnits g.set.rate

/-- The wait budget D of an instant (R120). -/
def Group.wait (g : Group) (inst : Nat) : Nat :=
  match g.waits.find? (fun w => w.1 ≤ inst) with
  | some w => w.2
  | none => g.set.waitUs

/-- The horizon H, in ms, that governs a frame by its arrival stamp (R120). -/
def Group.horizon (g : Group) (arrival : Stamp) : Nat :=
  match g.horizons.find? (fun w => decide (w.1 < arrival)) with
  | some w => w.2
  | none => (g.horizons.getLast?.map (·.2)).getD g.set.horizonMs

/-- T + D in thirds of a ns, which is whole. -/
def dueThirds (inst waitUs : Nat) : Nat := inst * 2500000 + 3000 * waitUs

/-- ⌈a ÷ b⌉ for b > 0, over the integers. -/
def ceilDivInt (a : Int) (b : Nat) : Int := -((-a) / (b : Int))

/-- The first TB_0 tick of 4 ns at which a base reads at least a time given in thirds of a ns. -/
def Base.firstTick (b : Base) (thirds : Int) : Stamp :=
  let slope := ((baseUnit : Int) + b.y).toNat
  let dt := ceilDivInt (thirds * (baseUnit : Int) - 3 * b.anchorR) (3 * Nat.max slope 1)
  ceilDiv ((b.anchorT : Int) + dt).toNat 4 * 4

/-- An instant in ns, halves rounded up (R119). -/
def instNs (inst : Nat) : Nat := (inst * 5000000 + 3) / 6

/-- An instant in thirds of a ns, exact (R119). -/
def instThirds (inst : Nat) : Int := 2500000 * inst

def State.base (s : State) (n : Nat) : Option Base := tget n s.tb.bases

/-- The due tick of an instant: the first TB_0 tick at which the base reads T + D or later; one that has come is kept when the base changes after it. -/
def State.dueTick (s : State) (g : Group) (inst : Nat) : Option Stamp :=
  (tget inst g.due).or ((s.base g.set.tbSel).map (fun b => b.firstTick (dueThirds inst (g.wait inst))))

/-- R504: on the way into Stabled nothing due after t_x, 1 ms after the command's receipt, is departed. -/
def State.pastEntry (s : State) (due : Stamp) : Bool := s.pwr.state == .entering && decide (s.pwr.entryAt + 1000000 < due)

/-- R122: the group takes an instant of a contract bound to it. -/
def Group.takes (g : Group) (inst : Nat) : Bool :=
  g.state == .departing && inst % Nat.max g.step 1 == 0 && g.first.any (fun f => decide (f ≤ inst))

/-- Released, or skipped, which counts as released (R137). -/
def Group.passed (g : Group) (inst : Nat) : Bool := g.last.any (fun l => decide (inst ≤ l)) || g.skips.contains inst

/-- The next instant a departing group releases: no skipped one (R137). -/
def Group.nextInst (g : Group) : Option Nat :=
  (match g.last with
   | some l => some (l + g.step)
   | none => g.first).bind (fun i =>
    ((List.range (g.skips.length + 1)).map (fun k => i + k * g.step)).find? (fun j => !g.skips.contains j))

/-- The tick at which an instant is to depart: its due tick, or an earlier one at which its house became full (R127, R130). -/
def State.tickOf (s : State) (g : Group) (inst : Nat) : Option Stamp :=
  (s.dueTick g inst).map (fun due => Nat.min ((tget inst g.house).getD due) due)

/-- The unreleased instants of a group from its next one up to an instant. -/
def Group.ahead (g : Group) (inst : Nat) : List Nat :=
  match g.nextInst with
  | some i => if inst < i then [] else (List.range ((inst - i) / Nat.max g.step 1 + 1)).map (fun k => i + k * g.step)
  | none => []

/-- The release tick of an instant that its group has not handed over: never before that of an earlier instant (R129). -/
def State.relTick (s : State) (g : Group) (inst : Nat) : Stamp :=
  (g.ahead inst).foldl (fun a j => Nat.max a ((s.tickOf g j).getD 0)) g.lastRel

/-- The first instant of a group whose release tick is not before the present stamp: a write for an earlier one is late, whether or not the slice has been
handed over (R127), where R129 moves release ticks too. At most half a second of instants can be due and not handed over, by R49 and FS_44. -/
def State.openFrom (s : State) (g : Group) : Option Nat :=
  g.nextInst.map (fun i =>
    let end_ := Nat.max (i + 130 * g.step) ((g.skips.getLast?.map (· + g.step)).getD 0)
    (((List.range 130).map (fun k => i + k * g.step)).find? (fun j =>
      (s.tickOf g j).all (fun t => decide (s.now ≤ s.relTick g j) || s.pastEntry t))).getD end_)

/-- A write for an instant with the present stamp is late for a group (R125, R127). -/
def State.lateFor (s : State) (g : Group) (inst : Nat) : Bool := g.passed inst || (s.openFrom g).any (fun i => decide (inst < i))

/-- On the way into Stabled, frames of instants that no group will depart are discarded without being counted (R504). -/
def State.entryDrops (s : State) (c : Contract) (inst : Nat) : Bool :=
  s.pwr.state == .entering && (maskBits 16 c.groupMask).all (fun n =>
    match s.group n with
    | none => true
    | some g => (s.dueTick g inst).all s.pastEntry)

/-- The groups of a contract that take an instant (R122). -/
def State.takers (s : State) (c : Contract) (inst : Nat) : List (Nat × Group) :=
  (maskBits 16 c.groupMask).filterMap (fun n =>
    match s.group n with
    | some g => if g.takes inst then some (n, g) else none
    | none => none)

/-- The departing groups of a contract. -/
def State.departing (s : State) (c : Contract) : List (Nat × Group) :=
  (maskBits 16 c.groupMask).filterMap (fun n =>
    match s.group n with
    | some g => if g.state == .departing then some (n, g) else none
    | none => none)

/-- The least of a list. -/
def least : List Nat → Option Nat
  | [] => none
  | x :: r => match least r with
    | none => some x
    | some y => some (Nat.min x y)

/-- The earliest due tick of an instant among the groups that take it for the contract (R65). -/
def State.earliestDue (s : State) (c : Contract) (inst : Nat) : Option Stamp :=
  least ((s.takers c inst).filterMap (fun e => s.dueTick e.2 inst))

/-- The instants of a contract at or before one, back to 720 units before it: the wait budgets, at most 500 ms (R49), and the steps, at most 100 ms, leave
no need to look further back for an instant that is due late. -/
def Contract.recent (c : Contract) (inst : Nat) : List Nat :=
  let st := Nat.max (rateUnits c.instRate) 1
  (List.range (720 / st + 1)).map (fun i => inst / st * st - i * st)

/-- The shed of a contract takes effect for an instant: it lies at or after the first instant whose earliest due tick, over every group that takes it, is not
before the shed's, so that one instant decides for every group (R65). Without a departing group no instant has a due tick, and the shed holds for every
instant. -/
def State.shedTakes (s : State) (c : Contract) (inst : Nat) : Bool :=
  c.state == .shed &&
  ((s.departing c).isEmpty || (c.recent inst).any (fun t => (s.earliestDue c t).any (fun d => decide (c.shedDue ≤ d))))

/-- served(c, T) of R126. -/
def State.served (s : State) (c : Contract) (inst : Nat) : Bool :=
  c.state == .active || (c.state == .shed && !s.shedTakes c inst)

/-- The members of a group, in contract number order (R126). -/
def State.members (s : State) (g : Nat) : Table Contract := s.carriers.filter (fun e => e.2.groupMask.testBit g)

/-- The contract records as they stood at a stamp: the changes since, newest first, taken back. -/
def contractsBefore (t : Stamp) (now : Table Contract) (was : List ContractWas) : Table Contract :=
  (was.takeWhile (fun x => decide (t < x.stamp))).foldl (fun l x => match x.old with
    | some c => tset x.id c l
    | none => tdel x.id l) now

/-- The members of a group at a release tick (R126). -/
def State.membersAt (s : State) (g : Nat) (rel : Stamp) : Table Contract :=
  (contractsBefore rel s.tt.contracts s.tt.was ++ s.hst.placed.map (fun e => (placedKey e.1, s.placedContract e.1 e.2))).filter
    (fun e => e.2.groupMask.testBit g)

/-- The window of a contract ends here (R122): W instants from the oldest that some group takes and has not released. -/
def State.windowEnd (s : State) (c : Contract) : Option Nat :=
  (least ((s.departing c).filterMap (fun e => s.openFrom e.2))).map
    (fun f => f + c.instRate * c.deadlineUs / 1000000 * rateUnits c.instRate)

/-- The first instant of a group whose due time is more than 1 ms after a stamp (R121), under a wait budget. -/
def Base.firstAfter (b : Base) (t : Stamp) (step waitUs : Nat) : Nat :=
  let r := 3 * b.exact (t + 1000000) - ((3000 * waitUs * baseUnit : Nat) : Int)
  let q := r / ((2500000 * baseUnit : Nat) : Int)
  ((q / (step : Int) + 1) * (step : Int)).toNat

/-- Before a base is set or slewed anew: the due ticks that have come stand (R127, R137). -/
def State.dueNoted (s : State) (tb : Nat) : State :=
  let note := fun (_ : Nat) (g : Group) =>
    if g.set.tbSel != tb || g.state != .departing then g
    else match g.nextInst with
      | none => g
      | some i =>
        let l := ((List.range 130).map (fun k => i + k * g.step)).filter (fun j => !g.skips.contains j)
        let come := l.filterMap (fun j => (s.dueTick g j).bind (fun t => if t ≤ s.now then some (j, t) else none))
        { g with due := come.foldl (fun d e => tset e.1 e.2 d) [] }
  { s with plt := { s.plt with groups := tmap note s.plt.groups } }

/-! ## Slots and the full house -/

def State.slotsOf (s : State) (id : Nat) : ContractSlots := tgetD id {} s.plt.slots

/-- The slots of a contract as a slice of a release tick sees them, one that was RELEASED since among them. -/
def State.heldSlotsAt (s : State) (id : Nat) (rel : Stamp) : ContractSlots :=
  ((s.plt.freed.find? (fun x => x.2.1 == id && decide (rel < x.1))).map (·.2.2)).getD (s.slotsOf id)

def State.setGroup (s : State) (n : Nat) (g : Group) : State :=
  { s with plt := { s.plt with groups := tset n g s.plt.groups } }

/-- Every expected channel of an instant is reported: a slot of as many channels as its contract has, for every ACTIVE member (R130). -/
def State.houseFull (s : State) (g inst : Nat) : Bool :=
  let act := (s.members g).filter (fun e => e.2.state == .active)
  !act.isEmpty && act.all (fun e =>
    (s.slotsOf e.1).slots.any (fun x => x.inst == inst && decide (e.2.chans ≤ x.vals.length)))

/-- The check of R130 for one instant of one group: the first stamp at which the house is full stands. -/
def State.houseCheck (s : State) (n inst : Nat) : State :=
  match s.group n with
  | some g =>
    if g.set.fullHouse && g.takes inst && !g.passed inst && (tget inst g.house).isNone && s.houseFull n inst then
      s.setGroup n { g with house := tset inst s.now g.house }
    else s
  | none => s

/-- The check after a change of contract state: every instant with a slot, for every group. -/
def State.houseCheckAll (s : State) (mask : Nat) : State :=
  let insts := s.plt.slots.flatMap (fun e => e.2.slots.map (·.inst))
  (maskBits 16 mask).foldl (fun s n => insts.foldl (fun s i => s.houseCheck n i) s) s

/-- Free what no departing group still takes (R122). The hold values stay (DESIGN CHOICE: "keeps no slot" does not name them; log entry 168). -/
def State.freeSlots (s : State) : State :=
  { s with plt := { s.plt with slots := s.plt.slots.filterMap (fun e =>
      match s.carrier e.1 with
      | none => none
      | some c =>
        some (e.1, { e.2 with slots := e.2.slots.filter (fun x =>
          (s.takers c x.inst).any (fun g => !g.2.passed x.inst)) })) } }

/-! ## Layouts -/

/-- The layout that was in force for an instant before the present one: that of the earliest change after it. -/
def StreamSt.layoutBefore (x : StreamSt) (inst : Nat) : Option Layout :=
  match (x.past.filter (fun p => decide (inst < p.1))).getLast? with
  | some p => p.2
  | none => x.layout

/-- The layout in force for an instant (R90): a pending one from its T_b on. -/
def StreamSt.layoutAt (x : StreamSt) (inst : Nat) : Option Layout :=
  match x.pend with
  | some p => if p.from_.all (fun f => decide (f ≤ inst)) then some p.layout else x.layoutBefore inst
  | none => x.layoutBefore inst

/-- TYPE of Table 04-1 of a channel kind. -/
def kindType : ChanKind → Nat
  | .phasorRect => 0
  | .phasorPolar => 0
  | .freq => 1
  | .rocof => 2
  | .analog => 3
  | .digital => 4

def State.streamSt (s : State) (n : Nat) : StreamSt := tgetD n {} s.ing.streams

def State.setStream (s : State) (n : Nat) (x : StreamSt) : State :=
  { s with ing := { s.ing with streams := tset n x s.ing.streams } }

def State.modStream (s : State) (n : Nat) (f : StreamSt → StreamSt) : State := s.setStream n (f (s.streamSt n))

/-- The unit bound to a stream (R148). -/
def State.unitOf (s : State) (stream : Nat) : Option (Nat × WUnit) := s.wch.units.find? (fun e => e.2.set.stream == stream)

/-- TYPE of an entry of the output catalogue (Table 05-2). -/
def outType (i : Nat) : Nat := if i ≤ 13 then 0 else if i == 14 then 1 else 2

/-- TYPE of a channel of a stream for an instant (R126); 3 where no layout gives one. -/
def State.chanType (s : State) (c : Contract) (inst ch : Nat) : Nat :=
  if c.protocol == 3 then
    match s.unitOf c.stream with
    | some u => ((maskBits 16 u.2.set.outSel)[ch]?.map outType).getD 3
    | none => 3
  else match (s.streamSt c.stream).layoutAt inst with
    | some l => (l.blocks.flatten[ch]?.map (fun d => kindType d.kind)).getD 3
    | none => 3

end Sys2Proof.Machine
end

