-- ==== Sys2Proof/Machine/SourceOps.lean ====
section
/-!
DEFINITION. What a change of a contract, a unit or a group does to the units and metering points that draw on it (05_waveform_chain R149, R150,
06_metering R184).
-/
namespace Sys2Proof.Machine

/-- Event of a unit: source 0x0C0 + n ÷ 4 on the holder, with the type and the unit's place in its group (R180). -/
def State.unitEvent (s : State) (u type : Nat) : State :=
  s.evt [s.holder kindUnit u] (0x0C0 + u / 4) (type + 256 * (u % 4))

/-- Nominal frequency of a unit, in Hz. -/
def WUnit.fnom (u : WUnit) : Nat := if u.set.fnom60 then 60 else 50

/-- A unit that starts: every processing state afresh, f_t at FNOM, and a channel switch at its first sample (R155, R166). -/
def WUnit.start (u : WUnit) : WUnit :=
  { set := u.set, state := .running, fTrack := 1000000 * u.fnom, switches := u.switches, lastSwitch := u.lastSwitch }

/-- A unit that does not run. -/
def WUnit.stop (u : WUnit) : WUnit := { set := u.set, switches := u.switches, lastSwitch := u.lastSwitch }

/-- OUT_RATE allowed for an SV_RATE (Table 05-1). -/
def outRateAllowed (svRate outRate : Nat) : Bool :=
  if svRate == 4000 || svRate == 12800 then [10, 20, 25, 50, 100, 200].contains outRate
  else [10, 12, 15, 20, 25, 30, 50, 60, 100, 120, 200, 240].contains outRate

/-- Decimation R and processing rate Fp of an SV_RATE (Table 05-1). -/
def decimation (svRate : Nat) : Nat := if svRate == 4000 then 5 else if svRate == 12800 then 16 else if svRate == 4800 then 4 else 12
def procRate (svRate : Nat) : Nat := if svRate == 4000 || svRate == 12800 then 800 else 1200

/-- Rate of a sideband tap (R174). -/
def tapRate (svRate : Nat) : Nat := if svRate == 4000 || svRate == 4800 then svRate else svRate / 4

def popCount (n mask : Nat) : Nat := (maskBits n mask).length

def State.svRate (s : State) (stream : Nat) : Nat := ((tget stream s.ing.subs).map (·.svRate)).getD 0

/-- REFUSE_REASON of a setting under a contract (R150): 1 OUT_RATE, 2 OUT_CHANNELS, 0 none. -/
def refuseReason (svRate outSel : Nat) (c : Contract) : Nat :=
  if !outRateAllowed svRate c.outRate then 1 else if c.outChannels < popCount 16 outSel then 2 else 0

/-- Fp of a unit. -/
def State.unitRate (s : State) (u : WUnit) : Nat := procRate (s.svRate u.set.stream)

def State.setUnit (s : State) (n : Nat) (u : WUnit) : State :=
  { s with wch := { s.wch with units := tset n u s.wch.units } }

/-- Whether the stream of a unit has a contract under which the unit runs. A SHED contract keeps it running until its shed takes effect
(R65). -/
def State.unitContract (s : State) (u : WUnit) : Option Contract :=
  match s.contractOf u.set.stream with
  | some (_, c) =>
    if u.set.enable && c.protocol == 3 && (c.isHeld || (u.state == .running && !(u.nextInst.any (fun t => s.shedTakes c t))))
    then some c else none
  | none => none

/-- R149 and R150: a bound unit starts, is refused, or stops with its contract. -/
def State.unitRefresh (s : State) (n : Nat) : State :=
  match tget n s.wch.units with
  | none => s
  | some u =>
    match s.unitContract u with
    | none => if u.state == .idle then s else s.setUnit n u.stop
    | some c =>
      let r := refuseReason (s.svRate u.set.stream) u.set.outSel c
      if r != 0 then
        if u.state == .refused then s else (s.setUnit n { u.stop with state := .refused, reason := r }).unitEvent n 5
      else if u.state == .running then s else s.setUnit n u.start

/-- The unit of a stream, when the stream's contract changes. -/
def State.streamUnit (s : State) (stream : Nat) : State :=
  match s.unitOf stream with
  | some (n, _) => s.unitRefresh n
  | none => s

/-- The source of a metering point is there (R184). -/
def State.meterSource (s : State) (p : NrgPointSet) : Bool :=
  if p.source == 1 then
    match tget p.unit s.wch.units with
    | some u => s.underContract u.set.stream
    | none => false
  else (s.carrierOf p.stream).isSome && ((s.group p.group).any (fun g => g.state == .departing))

/-- The check intervals of the pulse inputs tied to a point are not checked (R195). -/
def State.spoilChecks (s : State) (mp : Nat) : State :=
  { s with nrg := { s.nrg with pis := tmap (fun _ x => if x.set.mp == mp then { x with spoilt := true } else x) s.nrg.pis } }

/-- R184 for one point: SOURCE_LOST is raised when it is entered. -/
def State.meterRefresh (s : State) (n : Nat) : State :=
  match tget n s.nrg.points with
  | none => s
  | some m =>
    if !m.set.enable || m.lost || s.meterSource m.set then s
    else (({ s with nrg := { s.nrg with points := tset n { m with lost := true, running := false } s.nrg.points } }).spoilChecks n).evt
      [s.holder kindMeter n] 0x100 n

/-- R184 for every point. -/
def State.metersRefresh (s : State) : State := (s.nrg.points.map (·.1)).foldl (fun s n => s.meterRefresh n) s

end Sys2Proof.Machine
end

