-- ==== Sys2Proof/Machine/LayoutOps.lean ====
section
/-!
DEFINITION. Layouts of streams and their checks against contracts (03_ingest R90 to R92, Table 03-6), and the ingest events (R112).
-/
namespace Sys2Proof.Machine

/-- A stream event on the partition that owns the stream; `hi` is the further value of R112. -/
def State.streamEvent (s : State) (stream src : Nat) (hi : Nat := 0) : State :=
  s.evt [s.holder kindStream stream] src (stream + 65536 * hi)

/-- The base a stream is bound to. -/
def State.streamBase (s : State) (stream : Nat) : Nat := ((tget stream s.ing.subs).map (·.tbSel)).getD 0

/-- The first instant of a rate later than a stamp, read on a base; none while the base gives no reading (R90). -/
def State.instantAfter (s : State) (tb rate : Nat) (t : Stamp) : Option Nat :=
  match s.base tb with
  | some b =>
    if b.valid then
      let q := 3 * b.exact t / ((2500000 * baseUnit : Nat) : Int)
      let st : Int := (rateUnits rate : Int)
      some ((q / st + 1) * st).toNat
    else none
  | none => none

/-- The instant a stream's base reads, in units of 1/1,200 s. -/
def State.instNow (s : State) (tb : Nat) : Nat := ((s.reading tb).getD 0).toNat * 1200 / 1000000000

/-- TYPE of a channel of a stream, where its layout or its unit's output catalogue tells it. -/
def State.knownType (s : State) (stream ch : Nat) : Option Nat :=
  match s.unitOf stream with
  | some u => some (((maskBits 16 u.2.set.outSel)[ch]?.map outType).getD 5)
  | none => ((s.streamSt stream).layoutAt (s.instNow (s.streamBase stream))).map
      (fun l => (l.blocks.flatten[ch]?.map (fun d => kindType d.kind)).getD 5)

/-- Channels of a layout (R87). -/
def layoutCount (l : Layout) : Nat := l.blocks.flatten.length

/-- The reason of Table 03-6 for which a contract refuses a layout; 0 when none applies. Reason 5 goes first, then the lowest (R91). -/
def layoutReason (kind : Nat) (c : Contract) (l : Layout) : Nat :=
  if kind == 0 && 256 < layoutCount l then 5
  else if c.channels < layoutCount l then 1
  else if kind == 0 && l.dataRate != c.rate then 2
  else if kind == 0 && c.protocol == 0 && l.blocks.flatten.any (·.int16) then 3
  else 0

/-- A new layout takes the place of a pending one; a pending one whose T_b has come has become the layout in force (R90, R92), and the one before it stays that of
the earlier instants. The latest sixteen are kept, more than the instants that are still to depart can tell apart. -/
def StreamSt.accept (x : StreamSt) (passed : Option Nat) (l : Layout) (from_ : Option Nat) : StreamSt :=
  let done := match x.pend with
    | some p => p.from_.all (fun f => passed.any (fun n => decide (f < n)))
    | none => false
  let cur := if done then x.pend.map (·.layout) else x.layout
  let past := match done, x.pend.bind (·.from_) with
    | true, some t => (t, x.layout) :: x.past.take 15
    | _, _ => x.past
  match from_ with
  | none => { x with layout := some l, pend := none, past := [], mismatch := none }
  | some f => { x with layout := cur, pend := some { layout := l, from_ := some f }, past, mismatch := none }

/-- The layout in force at a stamp, where `next` is the first instant after it; where the base gives no reading, the latest. -/
def StreamSt.inForce (x : StreamSt) (next : Option Nat) : Option Layout :=
  match x.pend, next with
  | some p, some t => if p.from_.all (fun f => decide (f < t)) then some p.layout else x.layout
  | some p, none => some p.layout
  | none, _ => x.layout

/-- Enter CONFIG_MISMATCH (R91). -/
def State.mismatched (s : State) (stream reason : Nat) (l : Option Layout) (from_ : Option Nat) : State :=
  (s.modStream stream (fun x => { x with mismatch := some { reason, refused := l, from_ } })).streamEvent stream 0x081 reason

/-- The layout in force, or the refused one, is checked against a contract that has just been admitted (R90, R92); a layout that waits for its T_b is checked
too, and refused from then on. A sampled-value stream whose contract's rate was wrong is right with a contract of its SV_RATE. -/
def State.layoutOnAdmit (s : State) (c : Contract) : State :=
  let x := s.streamSt c.stream
  let kind := ((tget c.stream s.ing.subs).map (·.kind)).getD 0
  let t := s.instantAfter (s.streamBase c.stream) c.instRate s.now
  match x.mismatch with
  | some m =>
    match m.refused with
    | some l =>
      if layoutReason kind c l == 0 then
        (s.setStream c.stream (x.accept t l t)).streamEvent c.stream 0x080 (layoutCount l)
      else s
    | none =>
      if kind == 2 && m.reason == 2 && c.rate == s.svRate c.stream then s.setStream c.stream { x with mismatch := none } else s
  | none =>
    let r := ((x.inForce t).map (layoutReason kind c)).getD 0
    let rp := (x.pend.map (fun p => layoutReason kind c p.layout)).getD 0
    if r != 0 then s.mismatched c.stream r (x.inForce t) t
    else if rp != 0 then s.mismatched c.stream rp (x.pend.map (·.layout)) (x.pend.bind (·.from_))
    else s

end Sys2Proof.Machine
end

