-- ==== Sys2Proof/Machine/ItemOps.lean ====
section
/-!
DEFINITION. Work items in the clusters (11_clusters R319 to R337): the trace, emission, ready lists and hold buffers, dispatch, cancellation, and the
release gate's count.
-/
namespace Sys2Proof.Machine

def State.cluster (s : State) (k : Nat) : Cluster := tgetD k {} s.sch.clusters

def State.setCluster (s : State) (k : Nat) (c : Cluster) : State :=
  { s with sch := { s.sch with clusters := tset k c s.sch.clusters } }

def State.modCluster (s : State) (k : Nat) (f : Cluster → Cluster) : State := s.setCluster k (f (s.cluster k))

def State.flow (s : State) (st : Nat) : Flow := tgetD st {} s.sch.flows

def State.setFlow (s : State) (st : Nat) (f : Flow) : State := { s with sch := { s.sch with flows := tset st f s.sch.flows } }

def State.modFlow (s : State) (st : Nat) (f : Flow → Flow) : State := s.setFlow st (f (s.flow st))

def State.inService (s : State) (k : Nat) : Bool := (s.cluster k).state == .inService

def allClusters : List Nat := List.range 16

def Cluster.list (c : Cluster) (p : Nat) : List Item := tgetD p [] c.lists

def Cluster.buffer (c : Cluster) (p : Nat) : List Item := tgetD p [] c.holds

/-! ## The trace (R337) -/

def TraceRing.free (r : TraceRing) : Nat := r.set.ringSize - (r.prod - r.cons).toNat

/-- Put one record of 32 bytes into a trace ring. Every record has that length, so none needs padding. -/
def TraceRing.put (r : TraceRing) (x : TraceRec) : TraceRing := { r with prod := r.prod + 32, records := x :: r.records }

/-- The GAP record that carries the number lost. -/
def gapRec (now : Stamp) (lost : Nat) : TraceRec :=
  { kind := 7, cluster := 0, core := 0xFF, priority := 0, stream := 0xFFFF, fsn := BitVec.ofNat 32 lost, len := 32, stamp := now, emit := 0 }

/-- A ring takes the kinds of KIND_MASK of the streams listed, or of every stream. -/
def TraceRing.wants (r : TraceRing) (kind stream : Nat) : Bool :=
  r.set.enable && r.set.ringSize != 0 && !r.stopped && r.set.kindMask.testBit kind && (r.set.count == 0 || r.set.ids.contains stream)

/-- Drop a record: it is counted, and the first gap after 1 s without one raises TRACE_GAP. -/
def State.traceLost (s : State) (p : Nat) (r : TraceRing) : State :=
  let starts := r.lost == 0
  let quiet := r.lastGap.all (fun t => decide (t + 1000000000 ≤ s.now))
  let s1 := { s with sch := { s.sch with traces := tset p { r with lost := r.lost + 1, lastGap := some s.now } s.sch.traces } }
  let s2 := s1.count .sch 5
  if starts && quiet then s2.evtFree [p] 0x1E3 else s2

/-- Table 11-4 as bytes. -/
def TraceRec.image (x : TraceRec) : List Byte :=
  le 1 x.kind ++ le 1 x.cluster ++ le 1 x.core ++ le 1 x.priority ++ le 2 x.stream ++ zeros 2 ++ le 4 x.fsn.toNat ++ le 4 x.len ++ le 8 x.stamp ++ le 8 x.emit

/-- A ring that has changed, and its producer offset, which goes to the address that the ring names for it (R337 by 04_platform R140). -/
def State.setTrace (s : State) (p : Nat) (r : TraceRing) : State :=
  ({ s with sch := { s.sch with traces := tset p r s.sch.traces } }).hostWrite p r.set.prodWbAddr (le 4 r.prod.toNat)

/-- A ring that takes a record: its bytes, the producer offset, and the ring's vector (R140, 14_hosts R429). -/
def State.putTrace (s : State) (p : Nat) (r : TraceRing) (x : TraceRec) : State :=
  ((s.hostWrite p (r.set.ringAddr + r.prod.toNat % r.set.ringSize) x.image).setTrace p (r.put x)).ringSignal p 5

/-- A record reaches the ring of one partition, behind a GAP record for those that were lost before it. -/
def State.traceHost (s : State) (p : Nat) (x : TraceRec) : State :=
  match tget p s.sch.traces with
  | none => s
  | some r =>
    if !r.wants x.kind x.stream then s
    else if r.free < 32 then s.traceLost p r
    else if r.lost == 0 then s.putTrace p r x
    else
      let g := gapRec s.now r.lost
      let r0 : TraceRing := { r with lost := 0, lastGap := some s.now }
      let s1 := s.putTrace p r0 g
      let r1 := r0.put g
      if r1.free < 32 then s1.traceLost p r1 else s1.putTrace p r1 x

/-- Records that the ring of one cluster in DRAM holds: 256 MiB of trace rings for 16 clusters (Table 01-6; DESIGN CHOICE: log entry 143). -/
def traceDepth : Nat := 524288

/-- One happening of an item: in its cluster's ring in DRAM, and in that of the partition that holds its stream. -/
def State.trace (s : State) (kind cluster core : Nat) (x : Item) : State :=
  let rec_ : TraceRec := { kind, cluster, core, priority := x.priority, stream := x.stream, fsn := x.fsn, len := 32, stamp := s.now, emit := x.emit }
  (s.modCluster cluster (fun c => { c with trace := rec_ :: c.trace.take (traceDepth - 1) })).traceHost (s.holder kindStream x.stream) rec_

/-- The DISPATCH record of an item in one tick. -/
def TraceRec.dispatched (x : TraceRec) (k : Nat) (now : Stamp) (i : Item) : Bool :=
  x.kind == 1 && x.cluster == k && x.stamp == now && x.stream == i.stream && x.fsn == i.fsn

/-- The DISPATCH record of an item names the core that its grant gives it (R326). -/
def State.traceCore (s : State) (k core : Nat) (i : Item) : State :=
  let name := fun (l : List TraceRec) => l.map (fun x => if x.dispatched k s.now i then { x with core } else x)
  let s1 := s.modCluster k (fun c => { c with trace := name c.trace })
  { s1 with sch := { s1.sch with traces := tmap (fun _ r => { r with records := name r.records }) s1.sch.traces } }

/-- A dispatch that is not made has no record (R333, R335). -/
def State.traceDrop (s : State) (k : Nat) (i : Item) : State :=
  let keep := fun (l : List TraceRec) => l.filter (fun x => !x.dispatched k s.now i)
  let s1 := s.modCluster k (fun c => { c with trace := keep c.trace })
  s1.sch.traces.foldl (fun s e =>
    let gone := e.2.records.length - (keep e.2.records).length
    if gone == 0 then s
    else s.setTrace e.1 { e.2 with records := keep e.2.records, prod := e.2.prod - BitVec.ofNat 32 (32 * gone) }) s1

/-! ## Joining a list -/

/-- The first hold on a ready list after 100 ms without one is reported (R331). -/
def State.holdStarts (s : State) (k p : Nat) : State :=
  let any := allClusters.any (fun j => (s.cluster j).holds.any (fun e => !e.2.isEmpty))
  let quiet := !any && s.sch.lastHold.all (fun t => decide (t + 100000000 ≤ s.now))
  let s1 := { s with sch := { s.sch with holdSeen := true, lastHold := some s.now } }
  let s2 := s1.count .sch 4
  if quiet then s2.evt s2.observers 0x1E2 (k + 16 * p) else s2

/-- Items enter a ready list: their emission stamp is of that moment, and stage S0 ends there (01_architecture R39). -/
def State.entered (s : State) (l : List Item) : State :=
  l.foldl (fun s x => if x.emitted then s else match x.last with
    | some e => s.latency 0 (s.now - e) (some 20000)
    | none => s) s

/-- An item as it stands on a ready list: one that is moved keeps its emission stamp (R324, R325). -/
def Item.onList (x : Item) (now : Stamp) : Item := if x.emitted then x else { x with emit := now, emitted := true }

/-- An item joins the tail of its list, or its hold buffer when the list is full (R324, R330). -/
def State.join (s : State) (k : Nat) (x : Item) : State :=
  let c := s.cluster k
  let l := c.list x.priority
  let b := c.buffer x.priority
  if b.isEmpty && l.length < 4096 then
    (s.setCluster k { c with
      lists := tset x.priority (l ++ [x.onList s.now]) c.lists
      maxDepth := tmod x.priority 0 (Nat.max (l.length + 1)) c.maxDepth }).entered [x]
  else
    let s1 := if b.isEmpty then s.holdStarts k x.priority else s
    s1.modCluster k (fun c => { c with holds := tset x.priority (b ++ [x]) c.holds })

/-- A hold that was there in `c` and is over: its end stands (R331). -/
def State.holdEnds (s : State) (k : Nat) (c : Cluster) : State :=
  if (List.range 4).any (fun p => !(c.buffer p).isEmpty && ((s.cluster k).buffer p).isEmpty) then
    { s with sch := { s.sch with lastHold := some s.now } }
  else s

/-- Items leave a hold buffer as their list has room. -/
def State.refill (s : State) (k p : Nat) : State :=
  let c := s.cluster k
  let l := c.list p
  let b := c.buffer p
  if b.isEmpty then s
  else
    let n := 4096 - l.length
    let l' := l ++ (b.take n).map (fun x => x.onList s.now)
    ((s.setCluster k { c with
      lists := tset p l' c.lists, holds := tset p (b.drop n) c.holds
      maxDepth := tmod p 0 (Nat.max l'.length) c.maxDepth }).entered (b.take n)).holdEnds k c

/-- An item goes ahead of every waiting item of its list (R335); the list's last item gives way to the hold buffer where the list is full (R324). -/
def State.joinFirst (s : State) (k : Nat) (x : Item) : State :=
  let c := s.cluster k
  let p := x.priority
  let l := x.onList s.now :: c.list p
  let b := c.buffer p
  let s1 := if 4096 < l.length && b.isEmpty then s.holdStarts k p else s
  s1.modCluster k (fun c => { c with
    lists := tset p (l.take 4096) c.lists
    holds := if 4096 < l.length then tset p (l.drop 4096 ++ b) c.holds else c.holds
    maxDepth := tmod p 0 (Nat.max (l.take 4096).length) c.maxDepth })

/-! ## Dispatch (R324, R326) -/

/-- Older items first. -/
def itemBefore (a b : Item) : Bool :=
  if a.emit != b.emit then decide (a.emit < b.emit) else if a.stream != b.stream then decide (a.stream < b.stream) else decide (a.fsn.toNat < b.fsn.toNat)

def insertBy {α : Type} (before : α → α → Bool) (x : α) : List α → List α
  | [] => [x]
  | y :: r => if before x y then x :: y :: r else y :: insertBy before x r

/-- Insertion sort. -/
def sortBy {α : Type} (before : α → α → Bool) (l : List α) : List α := l.foldl (fun a x => insertBy before x a) []

/-- The highest-priority list of a cluster that is not empty. -/
def Cluster.headList (c : Cluster) : Option (Nat × Item × List Item) :=
  (List.range 4).findSome? (fun p => match c.list p with
    | [] => none
    | x :: r => some (p, x, r))

/-- A free lane core takes the head of the highest-priority list that is not empty. -/
def State.dispatchCore (s : State) (k core : Nat) : State :=
  let c := s.cluster k
  if c.state != .inService || (tget core c.cores).isSome then s
  else match c.headList with
    | none => s
    | some (p, x, r) =>
      let w := s.now - x.emit
      let keep := c.waits.filter (fun q => decide (s.now < q.at_ + 100000000))
      let s1 := s.setCluster k { c with
        lists := tset p r c.lists
        cores := tset core { item := x, start := s.now, waitWas := tgetD p 0 c.waitMax } c.cores
        waitMax := tmod p 0 (Nat.max w) c.waitMax
        waits := { priority := p, at_ := s.now, ns := w } :: keep }
      ((s1.count .sch 0).trace 1 k core x).refill k p

/-- The cores that the grant of one tick has served. -/
def Cluster.granted (c : Cluster) (now : Stamp) : List (Nat × CoreRun) := c.cores.filter (fun e => e.2.start == now)

/-- The items of one grant, which is the dispatches of one tick, stand on its cores with the older ones on the lower indices (R326). -/
def State.regrant (s : State) (k : Nat) : State :=
  let c := s.cluster k
  let g := c.granted s.now
  let order := (g.map (·.1)).zip (sortBy (fun a b => itemBefore a.item b.item) (g.map (·.2)))
  if order == g then s
  else order.foldl (fun s e => s.traceCore k e.1 e.2.item)
    (s.setCluster k { c with cores := order.foldl (fun t e => tset e.1 e.2 t) c.cores })

/-- Every free core of a cluster takes an item. -/
def State.dispatch (s : State) (k : Nat) : State :=
  if s.fabricUp then ((List.range 4).foldl (fun s core => s.dispatchCore k core) s).regrant k else s

/-- A dispatch in whose own grant the cluster closes or the item is cancelled is not made (R333, R335): nothing of it stays. -/
def State.recall (s : State) (k core : Nat) (r : CoreRun) : State :=
  let p := r.item.priority
  let s1 := s.modCluster k (fun c =>
    let rest := tdel core c.cores
    let mine := (c.granted s.now).filter (fun e => e.2.item.priority == p)
    let base := (mine.map (·.2.waitWas)).foldl Nat.min r.waitWas
    { c with
      cores := rest
      waitMax := tset p (((mine.filter (fun e => e.1 != core)).map (fun e => s.now - e.2.item.emit)).foldl Nat.max base) c.waitMax
      waits := c.waits.erase { priority := p, at_ := s.now, ns := s.now - r.item.emit } })
  (s1.setCnt .sch (tmod 0 0 (· - 1) (s1.cntOf .sch))).traceDrop k r.item

/-- A cluster leaves IN_SERVICE: a dispatch of that very tick does not proceed, and its item waits at the head of its list again (R335). -/
def State.recallAll (s : State) (k : Nat) : State :=
  let g := (s.cluster k).granted s.now
  ((sortBy (fun a b => itemBefore b.2.item a.2.item) g).map (·.2.item)).foldl (fun s x => s.joinFirst k x)
    (g.foldl (fun s e => s.recall k e.1 e.2) s)

/-! ## Emission and the span of 64 (R327, R328) -/

/-- Items of a stream that are numbered and not released, but for the withdrawn ones and those that ingest holds by their stream. -/
def Flow.span (f : Flow) : Nat := (f.nextEmit - f.nextWrite).toNat - f.gone.length - f.waiting.length

/-- Items of a stream that ingest holds in hold buffers: they have not been emitted (R330). -/
def State.buffered (s : State) (st : Nat) : Nat :=
  (allClusters.map (fun k => ((s.cluster k).holds.map (fun e => (e.2.filter (fun x => x.stream == st && !x.emitted)).length)).sum)).sum

/-- Items of a stream between emission and release (R328). -/
def State.span (s : State) (st : Nat) : Nat := (s.flow st).span - s.buffered st

/-- The gate steps past what was withdrawn. -/
def Flow.advance : Nat → Flow → Flow
  | 0, f => f
  | n + 1, f =>
    if f.gone.contains f.nextWrite then
      Flow.advance n { f with gone := f.gone.filter (· != f.nextWrite), nextWrite := f.nextWrite + 1 }
    else f

/-- Cost rates committed on a cluster (R46). -/
def State.commit (s : State) (k : Nat) : Nat :=
  ((s.tt.contracts.filter (fun e => e.2.isHeld && e.2.cluster == k)).map (·.2.cost)).sum

/-- The in-service cluster of least committed cost rate in a set, the lower index at equal figures. -/
def State.leastCommitted (s : State) (set : List Nat) : Option Nat :=
  set.foldl (fun a k =>
    if !s.inService k then a
    else match a with
      | none => some k
      | some b => if s.commit k < s.commit b then some k else a) none

/-- The clusters of a CLUSTER_MASK: all sixteen when it is zero. -/
def clusterSet (mask : Nat) : List Nat := if mask == 0 then allClusters else maskBits 16 mask

/-- Where the items of a contract without a cluster go (R531). -/
def State.refuge (s : State) (c : Contract) : Option Nat :=
  (s.leastCommitted (clusterSet c.clusterMask)).or (s.leastCommitted allClusters)

/-- The cluster that takes an item of a carrier. -/
def State.itemCluster (s : State) (id : Nat) : Option Nat :=
  match s.carrier id with
  | none => none
  | some c => if c.cluster < 16 && s.inService c.cluster then some c.cluster else s.refuge c

/-- Withdraw an FSN: the gate treats it as released with no write (R333). -/
def State.withdraw (s : State) (st : Nat) (fsn : W32) : State :=
  s.modFlow st (fun f => Flow.advance (f.gone.length + 1) { f with gone := fsn :: f.gone })

/-- Hand an item to its cluster. DESIGN CHOICE: with no cluster in service at all it is withdrawn and counted under CANCELLED (log entry 166). -/
def State.emitNow (s : State) (x : Item) : State :=
  let y := { x with emit := s.now }
  match s.itemCluster x.contract with
  | some k => (s.join k y).dispatch k
  | none => (s.count .sch 1).withdraw x.stream y.fsn

/-- The hold buffer that an item of this carrier would join is full (R330). -/
def State.listFull (s : State) (id prio : Nat) : Bool :=
  match s.itemCluster id with
  | some k => decide (256 ≤ ((s.cluster k).buffer prio).length)
  | none => false

/-- WORK_ITEM_EMIT: ingest numbers an item and emits it, or holds it while its stream has 64 in flight or
the hold buffer of its list is full (R327, R328, R330). -/
def State.emitItem (s : State) (x : Item) : State :=
  let f := s.flow x.stream
  let y := { x with fsn := f.nextEmit }
  let g : Flow := { f with
    nextEmit := f.nextEmit + 1, resumeAt := if f.faulted && f.resumeAt.isNone then some f.nextEmit else f.resumeAt }
  let held := s.setFlow x.stream { g with waiting := f.waiting ++ [y] }
  if !f.waiting.isEmpty || 64 ≤ s.span x.stream then held.count .sch 4
  else if s.listFull x.contract x.priority then held
  else (s.setFlow x.stream g).emitNow y

/-- Ingest can take no frame that would produce an item of this carrier: its stream waits, or the hold buffer is full (R328, R330). -/
def State.ingestHeld (s : State) (stream id prio : Nat) : Bool := !(s.flow stream).waiting.isEmpty || s.listFull id prio

/-- Up to so many of the items that a stream's ingest holds are emitted while there is room. -/
def State.emitHeld (st : Nat) : Nat → State → State
  | 0, s => s
  | n + 1, s =>
    match (s.flow st).waiting with
    | x :: r => if s.span st < 64 && !s.listFull x.contract x.priority then ((s.setFlow st { s.flow st with waiting := r }).emitNow x).emitHeld st n else s
    | [] => s

/-- The items that ingest holds are emitted once there is room. -/
def State.emitWaiting (s : State) (st : Nat) : State := State.emitHeld st (s.flow st).waiting.length s

/-- Those of every stream, when a list has moved on. -/
def State.emitAll (s : State) : State := (s.sch.flows.map (·.1)).foldl (fun s st => s.emitWaiting st) s

/-! ## Cancellation (R332, R333) -/

/-- Cancel waiting items: they never reach a core. -/
def State.cancelList (s : State) (k : Nat) (l : List Item) : State :=
  l.foldl (fun s x => ((s.count .sch 1).trace 4 k 0xFF x).withdraw x.stream x.fsn) s

/-- Cancel on one cluster: waiting items go, those that the grant of this tick has dispatched with them, since the cancel wins; the others on a core are marked
for their next yield point (R333). -/
def State.cancelCluster (s : State) (sel : Item → Bool) (k : Nat) : State :=
  let c := s.cluster k
  let fresh := (c.granted s.now).filter (fun e => sel e.2.item)
  let doomed := fresh.map (·.2.item) ++ ((List.range 4).flatMap (fun p => c.list p ++ c.buffer p)).filter sel
  let run := c.cores.any (fun e => sel e.2.item)
  if doomed.isEmpty && !run then s
  else
    let keep := fun (l : List Item) => l.filter (fun x => !sel x)
    let s1 := (fresh.foldl (fun s e => s.recall k e.1 e.2) s).modCluster k (fun c => { c with
      lists := tmap (fun _ l => keep l) c.lists
      holds := tmap (fun _ l => keep l) c.holds
      cores := tmap (fun _ r => if sel r.item then { r with item := { r.item with cancelled := true } } else r) c.cores })
    let s2 := ((List.range 4).foldl (fun s p => s.refill k p) (s1.cancelList k doomed)).holdEnds k c
    if fresh.isEmpty then s2 else s2.dispatch k

/-- Items that wait at the gate yield before their write, so a cancel aborts them there; those that ingest holds have not been dispatched. -/
def State.cancelGate (s : State) (sel : Item → Bool) (st : Nat) : State :=
  let f := s.flow st
  let doomed := f.gate.filter sel
  let held := f.waiting.filter sel
  let s1 := s.setFlow st { f with gate := f.gate.filter (fun x => !sel x), waiting := f.waiting.filter (fun x => !sel x) }
  let s2 := held.foldl (fun s x => s.cancelList ((s.itemCluster x.contract).getD 0) [x]) s1
  doomed.foldl (fun s x => let c := x.ranOn.getD (0, 0xFF); ((s.count .sch 2).trace 5 c.1 c.2 x).withdraw x.stream x.fsn) s2

/-- ITEM_CANCEL: cancel every item that a test selects. -/
def State.cancelItems (s : State) (sel : Item → Bool) : State :=
  let s1 := allClusters.foldl (fun s k => s.cancelCluster sel k) s
  let s2 := (s1.sch.flows.map (·.1)).foldl (fun s st => s.cancelGate sel st) s1
  s2.emitAll

end Sys2Proof.Machine
end

