-- ==== Sys2Proof/Machine/ContractOps.lean ====
section
/-!
DEFINITION. Contracts (02_timetable R46 to R75): costs, admission, the change of a contract's state, shedding, and the removal of a cluster
(R71, R72, 11_clusters R325, R334, R335, R531).
-/
namespace Sys2Proof.Machine

/-! ## Costs and demands -/

/-- Cost rate in lane-µs/s, rounded up once (R46, Table 02-1). -/
def costRate (protocol rate channels outRate outChannels : Nat) : Nat :=
  match protocol with
  | 0 => ceilDiv ((400 + 60 * channels) * rate) 100
  | 1 => ceilDiv ((400 + 75 * channels) * rate) 100
  | 2 => ceilDiv ((480 + 60 * channels) * rate) 100
  | _ => ceilDiv (160 * rate + (200 + 60 * outChannels) * outRate) 100

/-- Platform demand in bytes (R54). -/
def platformDemand (channels rate deadlineUs : Nat) : Nat := channels * 16 * (rate * deadlineUs / 1000000 + 2) + 64

/-- Table 02-2. -/
def ContractState.code : ContractState → Nat
  | .admitted => 1
  | .active => 2
  | .suspended => 3
  | .shed => 4

/-- The contracts that hold resources. -/
def State.heldContracts (s : State) : Table Contract := s.tt.contracts.filter (fun e => e.2.isHeld)

/-- share_used(p). -/
def State.shareUsed (s : State) (p : Nat) : Nat := ((s.heldContracts.filter (fun e => e.2.part == p)).map (·.2.cost)).sum

/-- Platform bytes committed to contracts: plt_commit of R56 and TT_PLT_COMMIT (Table 02-13). -/
def State.contractBytes (s : State) : Nat := (s.heldContracts.map (·.2.bytes)).sum

/-- What is committed to contracts, and what placed streams take (R430). -/
def State.pltCommit (s : State) : Nat := s.contractBytes + (s.hst.placed.map (·.2.bytes)).sum

/-- plt_used(p). -/
def State.pltUsed (s : State) (p : Nat) : Nat := ((s.heldContracts.filter (fun e => e.2.part == p)).map (·.2.bytes)).sum

/-- ch_commit of R56. -/
def State.chCommit (s : State) : Nat := (s.heldContracts.map (·.2.chans)).sum + (s.hst.placed.map (·.2.channels)).sum

/-- portq_used(q). -/
def State.portqUsed (s : State) (q : Nat) : Nat :=
  ((s.heldContracts.filter (fun e => e.2.portMask.testBit q)).map (fun e => e.2.burst + 1)).sum

/-- ingest_used. -/
def State.ingestUsed (s : State) : Nat := (s.heldContracts.map (fun e => e.2.burst + 1)).sum

/-- The admission limit of a cluster (Table 02-3, R59, R62, R68). -/
def State.limit (s : State) (k : Nat) : Nat :=
  if !s.inService k then 0
  else match s.tt.profile with
    | .fixed => 3400000
    | .live => tgetD k 0 s.tt.liveLimit
    | .placement => 0

/-- The cluster of R56: the least committed after adding, the lower index at equality, among those within their limits. -/
def State.chooseCluster (s : State) (cost mask : Nat) (commit : Nat → Nat) (shut : List Nat) : Option (Nat × Nat) :=
  (clusterSet mask).foldl (fun a k =>
    let after := commit k + cost
    if !s.inService k || shut.contains k || s.limit k < after then a
    else match a with
      | none => some (k, after)
      | some b => if after < b.2 then some (k, after) else a) none

/-- What admit of R56 answers: a reason of Table 02-6 with its port, or the cluster with its commitment after. -/
inductive Admission where
  | refused (reason port : Nat)
  | fits (cluster after : Nat)
  deriving DecidableEq, Repr

/-- The conditions of R56, in their order. -/
def State.admission (s : State) (c : Contract) : Admission :=
  if s.tt.basisLost then .refused 7 0
  else if (s.part c.part).capacity < s.shareUsed c.part + c.cost then .refused 5 0
  else match s.chooseCluster c.cost c.clusterMask s.commit [] with
    | none => .refused 1 0
    | some (k, after) =>
      if 65011712 < s.pltCommit + c.bytes then .refused 2 0
      else if 262144 < s.chCommit + c.chans then .refused 8 0
      else if (s.part c.part).platform < s.pltUsed c.part + c.bytes then .refused 6 0
      else match (maskBits 24 c.portMask).find? (fun q => decide (3840 < s.portqUsed q + c.burst + 1)) with
        | some q => .refused 3 q
        | none => if 61440 < s.ingestUsed + c.burst + 1 then .refused 4 0 else .fits k after

/-! ## Changes of state -/

/-- The changes that a slice still to be handed over may have to look behind (04_platform R126), with a new one. -/
def State.contractWas (s : State) (id : Nat) : List ContractWas :=
  { stamp := s.now, id, old := tget id s.tt.contracts } :: s.tt.was.takeWhile (fun x => decide (s.now ≤ x.stamp + 10000000))

def State.setContract (s : State) (id : Nat) (c : Contract) : State :=
  { s with tt := { s.tt with contracts := tset id c s.tt.contracts, was := s.contractWas id } }

/-- Detail of CONTRACT_STATE and CONTRACT_SHED (R77). -/
def contractDetail (id code reason : Nat) : Nat := id + 65536 * code + 16777216 * reason

/-- What a change of a contract's state leads to in other blocks: full house (R130), its waveform unit (R149), metering points (R184). -/
def State.contractChanged (s : State) (c : Contract) : State :=
  ((s.streamUnit c.stream).metersRefresh).houseCheckAll c.groupMask

/-- A contract changes state (Table 02-2); CONTRACT_STATE unless the owning partition's own command did it (R52). -/
def State.contractTo (s : State) (id : Nat) (st : ContractState) (reason : Nat) (told : Bool) : State :=
  match tget id s.tt.contracts with
  | none => s
  | some c =>
    let c' := { c with state := st, reason, change := s.now }
    let s1 := s.setContract id c'
    let s2 := if told then s1.evt [c.part] 0x010 (contractDetail id st.code reason) else s1
    s2.contractChanged c'

/-- CONTRACT_SHED: the contract is SHED, and its items of the instants it takes effect for are cancelled (R64, R65, R332). The shed is due 1 ms
after the record is in the owning partition's ring, or 2 ms after the evaluation when the record is held. -/
def State.shedContract (s : State) (id reason : Nat) : State :=
  match tget id s.tt.contracts with
  | none => s
  | some c =>
    let before := (s.part c.part).ev.prod
    let s1 := s.alarm [c.part] 0x011 (contractDetail id 4 reason)
    let s2 := if c.part == 0 then s1 else s1.alarm [0] 0x011 (contractDetail id 4 reason)
    let written := (s1.part c.part).ev.prod != before
    let c' := { c with state := .shed, reason, change := s.now, shedDue := s.now + (if written then 1000000 else 2000000) }
    let s3 := s2.setContract id c'
    let s4 := { s3 with tt := { s3.tt with shedSeen := true, shedTotal := s3.tt.shedTotal + 1 } }
    (s4.contractChanged c').cancelItems (fun x => x.contract == id && s4.shedTakes c' x.inst)

/-- The record of a shed that was held is written within 1 ms of the evaluation: the shed is then due 1 ms after that (R65). -/
def State.shedReported (s : State) (n : Nat) (r : EvRec) : State :=
  match tget (r.detail % 65536) s.tt.contracts with
  | none => s
  | some c =>
    if r.source == 0x011 && c.state == .shed && c.part == n && c.change == r.first && s.now ≤ c.change + 1000000 then
      let c' := { c with shedDue := s.now + 1000000 }
      let s1 := s.setContract (r.detail % 65536) c'
      s1.cancelItems (fun x => x.contract == r.detail % 65536 && s1.shedTakes c' x.inst)
    else s

/-- A contract is RELEASED: its items are cancelled, its slots freed, its record gone (Table 02-2, R332). -/
def State.freeContract (s : State) (id : Nat) : State :=
  match tget id s.tt.contracts with
  | none => s
  | some c =>
    let s1 := s.cancelItems (fun x => x.contract == id)
    let s2 := { s1 with
      tt := { s1.tt with contracts := tdel id s1.tt.contracts, was := s1.contractWas id }
      plt := { s1.plt with
        slots := tdel id s1.plt.slots
        freed := (s1.now, id, s1.slotsOf id) :: s1.plt.freed.takeWhile (fun x => decide (s1.now ≤ x.1 + 10000000)) } }
    s2.contractChanged c

/-- The number after the last one issued that no record holds, from 65,534 back to 0 (R51). -/
def State.freeId (s : State) : Nat → Nat → Nat
  | 0, n => n
  | f + 1, n => if (tget n s.tt.contracts).isSome then s.freeId f ((n + 1) % 65535) else n

/-- The shedding order of R64: lowest priority, then youngest, then higher number. -/
def shedBefore (a b : Nat × Contract) : Bool :=
  if a.2.priority != b.2.priority then decide (b.2.priority < a.2.priority)
  else if a.2.admitted != b.2.admitted then decide (b.2.admitted < a.2.admitted)
  else decide (b.1 < a.1)

/-- The order of re-placement (R71): priority 0 first, then oldest. -/
def placeBefore (a b : Nat × Contract) : Bool := shedBefore b a

/-- The contracts on a cluster in shedding order. -/
def State.shedOrder (s : State) (k : Nat) : List (Nat × Contract) :=
  sortBy shedBefore (s.heldContracts.filter (fun e => e.2.cluster == k))

/-- R64: shed on one cluster until its commitment is at or below a limit. Answers the number shed. -/
def State.shedDown (s : State) (k limit reason : Nat) : State × Nat :=
  (s.shedOrder k).foldl (fun a e =>
    if a.1.commit k ≤ limit then a else (a.1.shedContract e.1 reason, a.2 + 1)) (s, 0)

/-! ## Placement by load (R68) -/

/-- Measured load of a placed stream over the latest second, in lane-µs/s; `work` holds lane-ns. -/
def State.streamLoad (s : State) (p : PlacedStream) : Nat :=
  ((p.work.filter (fun w => decide (s.now < w.1 + 1000000000))).map (·.2)).sum / 1000

/-- Measured load of a cluster: the work that its cores did in the preceding second, for whichever stream. -/
def State.load (s : State) (k : Nat) : Nat :=
  ((s.hst.loads.filter (fun w => w.cluster == k && decide (s.now < w.at_ + 1000000000))).map (·.ns)).sum / 1000

/-- The in-service cluster of least load, the lower index at equal load. -/
def State.leastLoaded (s : State) (shut : List Nat) : Option Nat :=
  allClusters.foldl (fun a k =>
    if !s.inService k || shut.contains k then a
    else match a with
      | none => some k
      | some b => if s.load k < s.load b then some k else a) none

/-! ## Moving items -/

/-- Take the waiting items that a test selects off a cluster, in order. -/
def State.takeWaiting (s : State) (k : Nat) (sel : Item → Bool) : State × List Item :=
  let c := s.cluster k
  let out := (List.range 4).flatMap (fun p => (c.list p ++ c.buffer p).filter sel)
  let keep := fun (l : List Item) => l.filter (fun x => !sel x)
  if out.isEmpty then (s, [])
  else ((s.setCluster k { c with lists := tmap (fun _ l => keep l) c.lists, holds := tmap (fun _ l => keep l) c.holds }).holdEnds k c, out)

/-- Items go to the tail of their list on the cluster that takes them now, in their own order (R325, R531). -/
def State.rejoinItems (s : State) (l : List Item) : State :=
  l.foldl (fun s x =>
    match s.itemCluster x.contract with
    | some k => (s.join k x).dispatch k
    | none => (s.count .sch 1).withdraw x.stream x.fsn) s

/-- The waiting items of a carrier that has been re-placed from a cluster move with it (R325). -/
def State.moveItems (s : State) (k id : Nat) : State :=
  let r := s.takeWaiting k (fun x => x.contract == id)
  (((List.range 4).foldl (fun s p => s.refill k p) (r.1.rejoinItems r.2)).dispatch k).emitAll

/-- An item goes ahead of every waiting item of its priority on the cluster that takes it now. -/
def State.requeueFirst (s : State) (x : Item) : State :=
  match s.itemCluster x.contract with
  | some j => s.joinFirst j { x with restarted := true, ranOn := none }
  | none => (s.count .sch 1).withdraw x.stream x.fsn

/-- The items in flight on a cluster, with the core that has or had them: on its cores, or completed there and not yet released. -/
def State.inFlightOn (s : State) (k : Nat) : List (Nat × Item) :=
  (s.cluster k).cores.map (fun e => (e.1, e.2.item))
  ++ s.sch.flows.flatMap (fun e => e.2.gate.filterMap (fun x => match x.ranOn with
      | some c => if c.1 == k then some (c.2, x) else none
      | none => none))

/-- Items in flight on a faulted cluster are restarted ahead of every waiting item of their priority, those already cancelled aborted (R335). The cores were busy
until now (R338). -/
def State.restartItems (s : State) (k : Nat) : State :=
  let run := s.inFlightOn k
  let s1 := s.modCluster k (fun c => { c with
    cores := []
    busy := c.cores.map (fun e => { core := e.1, start := e.2.start, stop := s.now }) ++ c.busy.filter (fun b => decide (s.now < b.stop + 100000000)) })
  let s1 : State := { s1 with sch := { s1.sch with flows := tmap (fun _ f =>
    { f with gate := f.gate.filter (fun x => !x.ranOn.any (fun c => c.1 == k)) }) s1.sch.flows } }
  let dead := run.filter (fun e => e.2.cancelled)
  let live := run.filter (fun e => !e.2.cancelled)
  let s2 := dead.foldl (fun s e => ((s.count .sch 2).trace 5 k e.1 e.2).withdraw e.2.stream e.2.fsn) s1
  if live.isEmpty then s2
  else
    let s3 := live.foldl (fun s e => (s.trace 6 k e.1 e.2).count .sch 3) s2
    let order := (sortBy (fun a b => itemBefore b.2 a.2) live).map (·.2)
    let s4 := order.foldl (fun s x => s.requeueFirst x) s3
    let s5 := allClusters.foldl (fun s j => s.dispatch j) s4
    ({ s5 with sch := { s5.sch with restartSeen := true } }).evt s5.observers 0x1E1 (live.length % 65536)

/-! ## Removing a cluster -/

/-- Re-place a list of contracts without committing: each with the cluster it would take; none when one does not fit (R71). -/
def State.trialPlace (s : State) (k : Nat) : List (Nat × Contract) → (Nat → Nat) → Option (List (Nat × Contract × Nat))
  | [], _ => some []
  | e :: r, commit =>
    match s.chooseCluster e.2.cost e.2.clusterMask commit [k] with
    | none => none
    | some (j, after) => (s.trialPlace k r (fun i => if i == j then after else commit i)).map ((e.1, e.2, j) :: ·)

/-- R72: shed one after another until the rest can be re-placed. Answers the moves and the sheds. -/
def State.planRemoval (s : State) (k : Nat) : Nat → List (Nat × Contract) → List (Nat × Contract) →
    List (Nat × Contract × Nat) × List (Nat × Contract)
  | 0, _, shed => ([], shed.reverse)
  | f + 1, affected, shed =>
    match s.trialPlace k (sortBy placeBefore affected) s.commit with
    | some moves => (moves, shed.reverse)
    | none =>
      match sortBy shedBefore affected with
      | [] => ([], shed.reverse)
      | e :: _ => s.planRemoval k f (affected.filter (fun x => x.1 != e.1)) (e :: shed)

/-- The outcome of a removal, in advance: moves and sheds. -/
def State.removalPlan (s : State) (k : Nat) : List (Nat × Contract × Nat) × List (Nat × Contract) :=
  let aff := s.heldContracts.filter (fun e => e.2.cluster == k)
  s.planRemoval k (aff.length + 1) aff []

/-- Re-place one contract (R71): state, stamp and identity kept, CONTRACT_STATE with reason 8. -/
def State.replaceContract (s : State) (id : Nat) (c : Contract) (k : Nat) : State :=
  (s.setContract id { c with cluster := k, reason := 8, change := s.now }).evt [c.part] 0x010 (contractDetail id c.state.code 8)

/-- The placed streams of a cluster take others by load, in increasing STREAM_ID (R334). -/
def State.replacePlaced (s : State) (k : Nat) : State × Nat :=
  (s.hst.placed.filter (fun e => e.2.cluster == k)).foldl (fun a e =>
    match a.1.leastLoaded [k] with
    | some j => ({ a.1 with hst := { a.1.hst with placed := tmod e.1 e.2 (fun p => { p with cluster := j }) a.1.hst.placed } }, a.2 + 1)
    | none => a) (s, 0)

/-- remove_cluster of R72 and R334, with the moves of waiting items (R325, R531) and CAPACITY_CHANGED (R74). The cluster has left the admission set
already. Answers how many contracts were moved and shed. -/
def State.removeCluster (s : State) (k reason : Nat) : State × Nat × Nat :=
  let plan := s.removalPlan k
  let s1 := plan.2.foldl (fun s e =>
    let s' := s.shedContract e.1 reason
    match tget e.1 s'.tt.contracts with
    | some c => s'.setContract e.1 { c with cluster := 0xFF }
    | none => s') s
  let s2 := plan.1.foldl (fun s m => s.replaceContract m.1 m.2.1 m.2.2) s1
  let s3 := s2.replacePlaced k
  let w := s3.1.takeWaiting k (fun _ => true)
  let s4 := w.1.rejoinItems w.2
  (s4.evtFree s4.observers 0x012, plan.1.length + s3.2, plan.2.length)

/-- Codes of Table 11-1. -/
def ClusterState.code : ClusterState → Nat
  | .inService => 0
  | .draining => 1
  | .drained => 2
  | .updating => 3
  | .faulted => 4
  | .retired => 5
  | .testing => 6

/-- A write to NOR that begins while a checkpoint is being written goes behind it (01_architecture R33). -/
def State.norBegin (s : State) (w : NorWriter) : State :=
  if s.alcx.write.isSome then { s with alcx := { s.alcx with behind := w :: s.alcx.behind } } else s

/-- It has not been made yet. -/
def State.norHeld (s : State) (w : NorWriter) : Bool := s.alcx.write.isSome && s.alcx.behind.contains w

/-- The mark of a RETIRED cluster as it stands in NOR: the one before the first change that still goes behind a checkpoint (01_architecture R33). -/
def State.markInNor (s : State) (k : Nat) : Bool :=
  let waits := if s.alcx.write.isSome then s.alcx.behind.filterMap (fun w => match w with
    | .mark n was => if n == k then some was else none
    | _ => none) else []
  waits.getLast?.getD (s.cluster k).retiredMark

/-- Set the mark of a RETIRED cluster, or take it away. -/
def State.setMark (s : State) (k : Nat) (on : Bool) : State :=
  let was := (s.cluster k).retiredMark
  if was == on then s else (s.modCluster k (fun c => { c with retiredMark := on })).norBegin (.mark k was)

/-- A cluster changes state (Table 11-2): CLUSTER_STATE on every partition (R322). Leaving IN_SERVICE takes back the dispatches of that tick (R335). -/
def State.clusterTo (s : State) (k : Nat) (st : ClusterState) (row : Nat) : State :=
  let old := (s.cluster k).state
  let s0 := if old == .inService && st != .inService then s.recallAll k else s
  let s1 := (if st == .retired then s0.setMark k true else s0).modCluster k (fun c => { c with state := st })
  s1.evt s1.everyone 0x1E0 (k + 256 * old.code + 4096 * st.code + 65536 * row)

/-- Items in flight on a cluster: on its cores, or completed there and not yet released. -/
def State.clusterBusy (s : State) (k : Nat) : Nat := (s.inFlightOn k).length

end Sys2Proof.Machine
end

