-- ==== Sys2Proof/Machine/PortRxOps.lean ====
section
/-!
DEFINITION. The receive side of the ports (13_ports R376 to R380, R384 to R392, 03_ingest R78 to R80): matching, host rings, PAUSE, links, and what ingest
takes from the receive queues.
-/
namespace Sys2Proof.Machine

def allPorts : List Nat := List.range 24

/-! ## Match keys (03_ingest Table 03-1) -/

/-- VLAN of a key: 0 untagged frames only, 0xFFFF any. -/
def vlanFits (key : Nat) (vlan : Option Nat) : Bool :=
  key == 0xFFFF || (match vlan with
    | none => key == 0
    | some v => if v == 0 then key == 0 else key == v)

/-- A field of a key where zero means any. -/
def anyFits (key v : Nat) : Bool := key == 0 || key == v

/-- A multicast IP address: IPv6 FF00::/8, or IPv4 224.0.0.0/4. -/
def ipMulticast (a : Nat) : Bool := a / 2 ^ 120 == 0xFF || (isIp4 a && a / 2 ^ 28 % 16 == 14)

/-- No address of a port: zero or a multicast one (Table 13-9). -/
def ipBad (a : Nat) : Bool := a == 0 || ipMulticast a

/-- The IP addresses of the device: those of its ports (13_ports R378). -/
def State.deviceIps (s : State) : List Nat := s.prt.ports.flatMap (·.2.addrs)

/-- DST_IP of a key, where zero means any address of the device (Table 03-10). -/
def dstFits (mine : List Nat) (key v : Nat) : Bool := if key == 0 then mine.contains v else key == v

/-- The link and network part of a subscription's key, on a device with these addresses. -/
def subHdrFits (mine : List Nat) (e : IngSubSet) (h : FrameHdr) : Bool :=
  e.portMask.testBit h.port && vlanFits e.vlan h.vlan && anyFits e.dstMac h.dstMac &&
  (e.kind == 2 || (anyFits e.srcIp h.srcIp && dstFits mine e.dstIp h.dstIp && e.udpDst == h.udpDst && anyFits e.udpSrc h.udpSrc))

/-- The subscription of a frame of a kind. -/
def State.subOf (s : State) (kind : Nat) (h : FrameHdr) (id svId : Nat) : Option (Nat × IngSubSet) :=
  s.ing.subs.find? (fun e =>
    e.2.kind == kind && subHdrFits s.deviceIps e.2 h && (if kind == 0 then e.2.id == id else anyFits e.2.id id && anyFits e.2.svId svId))

/-- The remote station entry of a frame; `udp` for R-GOOSE. A zero DST_MAC or SRC_IP means any, a zero APPID is matched as it stands (DESIGN CHOICE: log
entry 111). -/
def State.stationOf (s : State) (h : FrameHdr) (udp : Bool) (appId ref : Nat) : Option (Nat × Station) :=
  s.ing.stations.find? (fun e =>
    let p := e.2.sub
    p.kind == (if udp then 1 else 0) && p.portMask.testBit h.port && vlanFits p.vlan h.vlan && anyFits p.dstMac h.dstMac
    && (!udp || (anyFits p.srcIp h.srcIp && p.udpDst == h.udpDst)) && p.appId == appId && p.gocbRef == ref)

/-- The header of a received frame. -/
def rxHdr (f : RxFrame) (t : Stamp) : FrameHdr :=
  { port := f.port, arrival := t, len := f.len, dstMac := f.dst, srcMac := f.src, vlan := f.vlan
    srcIp := (f.ip.map (·.src)).getD 0, dstIp := (f.ip.map (·.dst)).getD 0
    udpDst := (f.ip.map (·.udpDst)).getD 0, udpSrc := (f.ip.map (·.udpSrc)).getD 0, redSeq := none, bytes := f.bytes }

/-- The stream a received frame belongs to, if it matches a subscription. -/
def State.rxStream (s : State) (f : RxFrame) (t : Stamp) : Option Nat :=
  let h := rxHdr f t
  if f.etype == 0x88BA then (s.subOf 2 h f.appId f.ref).map (·.1)
  else if f.ip.any (fun i => i.proto == 17) then ((s.subOf 0 h f.idCode f.ref).or (s.subOf 1 h f.appId f.ref)).map (·.1)
  else none

/-! ## Counters (R394) -/

def sizeBin (len : Nat) : Nat :=
  if len ≤ 64 then 0 else if len ≤ 127 then 1 else if len ≤ 255 then 2 else if len ≤ 511 then 3 else if len ≤ 1023 then 4
  else if len ≤ 1518 then 5 else 6

/-- Bit 40 of an address, the group bit. -/
def macGroup (mac : Nat) : Bool := mac.testBit 40
def macBroadcast : Nat := 0xFFFFFFFFFFFF

/-- The type counters of a received frame, from 7 on. -/
def State.rxTypes (s : State) (f : RxFrame) (t : Stamp) : List Nat :=
  let h := rxHdr f t
  let udp := f.ip.any (fun i => i.proto == 17)
  (if f.dst == macBroadcast then [9] else if macGroup f.dst then [8] else [7])
  ++ (if f.tagged then [10] else [])
  ++ (if f.etype == 0x8808 && f.pause.any (fun p => p.1 == 1) then [11] else [])
  ++ (if f.etype == 0x88B8 || (udp && (s.stationOf h true f.appId f.ref).isSome) then [12] else [])
  ++ (if f.etype == 0x88BA then [13] else [])
  ++ (if f.etype == 0x88F7 then [14] else [])
  ++ (if udp && (s.subOf 0 h f.idCode f.ref).isSome then [15] else [])
  ++ (if udp && (s.subOf 1 h f.appId f.ref).isSome then [16] else [])

def State.portCounts (s : State) (p : Nat) (l : List Nat) : State := l.foldl (fun s n => s.portCount p n) s

/-- The type counters of a host frame, by its own bytes: its destination address, its tag, and its EtherType (R394). -/
def hostTypes (b : List Byte) : List Nat :=
  let dst := ofBe (b.take 6)
  let tagged := ofBe ((b.drop 12).take 2) == 0x8100
  let rest := b.drop (if tagged then 16 else 12)
  let etype := ofBe (rest.take 2)
  (if dst == macBroadcast then [26] else if macGroup dst then [25] else [24])
  ++ (if tagged then [27] else [])
  ++ (if etype == 0x8808 && ofBe ((rest.drop 2).take 2) == 1 then [28] else [])
  ++ (if etype == 0x88B8 then [29] else []) ++ (if etype == 0x88BA then [30] else []) ++ (if etype == 0x88F7 then [31] else [])

/-- The type counters of a sent frame, from 24 on. A publication and an output stream are counted by their destination and tag, a host
frame by its bytes; a PTP message is multicast. -/
def State.txTypes (s : State) (w : TxWhat) (data : List Byte) : List Nat :=
  match w with
  | .dataset _ _ _ _ _ _ head =>
    (if head.dstMac == macBroadcast then [26] else if macGroup head.dstMac || ipMulticast head.dstIp then [25] else [24])
      ++ (if head.vlan == 0 then [] else [27]) ++ [29]
  | .ptp tb .. => [25, 31] ++ (if (tget tb s.tb.ptp).any (fun e => e.set.vlan != 0) then [27] else [])
  | .output o =>
    match tget o s.plt.outs with
    | some x => (if x.set.dstMac == macBroadcast then [26] else if macGroup x.set.dstMac then [25] else [24])
        ++ (if x.set.vlan == 0 then [] else [27]) ++ [if x.set.format == 2 then 33 else 32]
    | none => []
  | .outAnswer _ _ => [24, 32]
  | .command .. => [24]
  | .arpReply => [24]
  | .channelReply .. => [24]
  | .host .. => hostTypes data
  | .pause _ => [25, 28]

/-- Partitions told of a link (Table 13-16). -/
def State.portReaders (s : State) (p : Nat) : List Nat := allParts.filter (fun n => s.created n && (n == 0 || s.shared kindPort p n))

/-- RX_DROP at the first drop after 1 s without one. -/
def State.rxDrop (s : State) (p n : Nat) : State :=
  let x := s.port p
  let quiet := (tget n x.lastRxDrop).all (fun t => decide (t + 1000000000 ≤ s.now))
  let s1 := (s.portCount p n).modPort p (fun x => { x with rxDropSeen := true, lastRxDrop := tset n s.now x.lastRxDrop })
  if quiet then s1.evt s1.observers (0x022 + 4 * p) (p + 256 * n) else s1

/-! ## Host rings (R390 to R392) -/

/-- What the device writes of the k-th descriptor of a delivery, from LEN on (Table 13-8). -/
def RxDelivery.image (d : RxDelivery) (bufSize k : Nat) : List Byte :=
  if d.discard then zeros 2 ++ le 2 33 ++ zeros 20
  else
    let sof := k == 0
    le 2 (Nat.min bufSize (d.len - k * bufSize))
    ++ le 2 (1 + 2 * b2n sof + 4 * b2n (k + 1 == d.count) + 8 * b2n d.tagged + 16 * b2n d.unmatched)
    ++ (if sof then le 4 d.len ++ le 8 d.stamp else zeros 12) ++ le 1 d.tb ++ zeros 7

/-- A frame goes into the buffers of its descriptors, without its FCS; they are written back, the head moves past them, and its count goes to HEAD_WB_ADDR (R391). -/
def State.rxPut (s : State) (p : Nat) (r : HostRing) (d : RxDelivery) (data : List Byte) : State :=
  let head := r.head + BitVec.ofNat 32 d.count
  let s1 := s.modPort p (fun x => { x with rxRings := tset d.part { r with head, bufs := r.bufs.drop d.count } x.rxRings, delivered := d :: x.delivered })
  let descs := (List.range d.count).map (fun k =>
    (r.addr + 32 * ((r.head.toNat + k) % r.entries) + 8, d.image r.bufSize k))
  let parts := if d.discard then [] else (r.bufs.take d.count).mapIdx (fun k a => (a, (data.drop (k * r.bufSize)).take r.bufSize))
  (s1.hostWrites d.part (parts ++ descs ++ [(r.wbAddr, le 4 head.toNat)])).ringSignal d.part 6

/-- HOST_RX_DELIVER: a frame into a partition's receive ring, or dropped when the posted descriptors run out. Its stamp is on the ARRIVAL_TB in force at its
arrival, when its first bit crossed the ball (R373), 0 while that base gives no reading (R377). -/
def State.hostDeliver (s : State) (p part len : Nat) (tagged unmatched : Bool) (arrival : Stamp) (data : List Byte) : State :=
  let x := s.port p
  let r := tgetD part {} x.rxRings
  let n := len - 4
  let tb := ((x.modeAt (arrival - (s.delayAt p arrival).1 - bitsNs 64 x.speedMbps)).map (·.arrivalTb)).getD 0
  let stamp := ((s.readingAt tb arrival).map (twos 64)).getD 0
  let posted := if r.enable && !r.stopped then (r.tail - r.head).toNat else 0
  let need := ceilDiv n (Nat.max r.bufSize 1)
  let d : RxDelivery := { part, len := n, tagged, unmatched, discard := false, first := r.head, count := need, stamp, tb }
  if 0 < posted && need ≤ posted then s.rxPut p r d (data.take n)
  else
    let s1 := if posted == 0 then s else s.rxPut p r { d with len := 0, discard := true, count := posted, stamp := 0 } []
    let s2 := (s1.portCount p 44).modPort p (fun x => { x with ringEmptySeen := true })
    s2.evt [part] (0x023 + 4 * p) (p + 256)

/-! ## Links (R373, R374, R384) -/

/-- The frames of a transmit queue are dropped. -/
def State.flushQueue (s : State) (p q : Nat) : State :=
  (tgetD q [] (s.port p).txq).foldl (fun s f => s.linkDrop p f) (s.modPort p (fun x => { x with txq := tset q [] x.txq }))

/-- The link goes down: TXQ_1 to TXQ_7 are flushed, the frames of the host rings are offered and dropped, TXQ_0 keeps its frames (R384). -/
def State.linkDownOp (s : State) (p reason : Nat) : State :=
  let x := s.port p
  if !x.link then (if reason == 3 then s.evt (s.portReaders p) (0x020 + 4 * p) (p + 256 * 3) else s)
  else
    let s1 := s.modPort p (fun x => { x with
      link := false, speedMbps := 0, fecLock := false, sending := none, pauseUntil := none, pauseNext := none, pauseIn := none, xoff := false, retry := none, pauseOwed := none
      linkDownSeen := true })
    let s2 := match x.sending.or x.retry with
      | some (0, f) => s1.modPort p (fun x => { x with txq := tset 0 (f :: tgetD 0 [] x.txq) x.txq })
      | some (8, _) => s1
      | some (_, f) => s1.linkDrop p f
      | none => s1
    let s3 := (((List.range 7).map (· + 1)).foldl (fun s q => s.flushQueue p q) s2).hostFills p
    s3.evt (s3.portReaders p) (0x020 + 4 * p) (p + 256 * reason)

/-- The link comes up: TXQ_0 sends what it kept. A change of duplex takes an up link down first (R373). -/
def State.linkUpOp (s0 : State) (p speed : Nat) (full fec : Bool) : State :=
  let s := if (s0.port p).link && (s0.port p).fullDuplex != full then s0.linkDownOp p 2 else s0
  let x := s.port p
  if x.mode.all (fun m => m.mode == 0) then s
  else if x.link then s.modPort p (fun x => { x with speedMbps := speed, fullDuplex := full, fecLock := fec })
  else
    let s1 := s.modPort p (fun x => { x with link := true, speedMbps := speed, fullDuplex := full, fecLock := fec })
    (s1.evt (s1.portReaders p) (0x020 + 4 * p) (p + 256)).kick p

/-! ## PAUSE (R385 to R387) -/

/-- The MAC address of a port: the one set, or the fused one (R378). -/
def State.portMac (s : State) (p : Nat) : Nat := if (s.port p).mac == 0 then Config.portMac p else (s.port p).mac

/-- The first bit of the frame whose message timestamp point crosses a port's ball now. -/
def State.rxFirstBit (s : State) (p : Nat) : Stamp := s.cap - bitsNs 64 (s.port p).speedMbps

/-- A PAUSE to the reserved address or the port's own. -/
def State.pauseForUs (s : State) (f : RxFrame) : Bool := f.dst == 0x0180C2000001 || f.dst == s.portMac f.port

def State.pauseReceived (s : State) (f : RxFrame) (quanta : Nat) : State :=
  let p := f.port
  let x := s.port p
  if !x.fullDuplex || !((x.modeAt (s.rxFirstBit p)).any (·.rxPause)) || !s.pauseForUs f then s.portCount p 45
  else (s.pauseSettle p).modPort p (fun x => { x with pauseIn := some (x.carrierUntil, quanta) })

/-- A port whose link is up sends a PAUSE, between frames and ahead of every queue (R387). -/
def State.sendPause (s : State) (p quanta : Nat) : State :=
  if (s.port p).link then (s.modPort p (fun x => { x with pauseOwed := some quanta, xoffAt := s.now })).kick p else s

/-- The receive queue has grown to 3,584 entries or fallen below 2,048 (R387). -/
def State.xoffCheck (s : State) (p : Nat) : State :=
  let x := s.port p
  if s.mayPause p && !x.xoff && 3584 ≤ x.rxq.length then s.kick p
  else if x.xoff && x.rxq.length < 2048 then
    let s1 := s.modPort p (fun x => { x with xoff := false })
    if s.mayPause p then s1.sendPause p 0 else s1
  else s

/-! ## The receive queue (R380) -/

def dropEntry (arrival : Stamp) : List RxEntry → List RxEntry
  | [] => []
  | e :: l => if e.arrival == arrival then l else e :: dropEntry arrival l

/-- The frames of a port that ingest has not taken, oldest first: in the ingest queue, then in the receive queue. -/
def State.portFrames (s : State) (p : Nat) : List RxEntry := (s.prt.ingestQ.filter (fun e => e.1 == p)).map (·.2) ++ (s.port p).rxq

/-- Some frame that ingest has not taken meets a test of its port and itself. -/
def State.anyFrame (s : State) (test : Nat → RxEntry → Bool) : Bool :=
  s.prt.ingestQ.any (fun e => test e.1 e.2) || s.prt.ports.any (fun p => p.2.rxq.any (test p.1))

/-- The frame of an ingest row has crossed its port and waits for ingest (01_architecture R19). -/
def State.rxWaits (s : State) (h : FrameHdr) : Bool := (s.portFrames h.port).any (fun e => e.arrival == h.arrival)

/-- An entry of port `q` that is handled before a frame: by arrival stamp, at equal stamps the lower port (03_ingest R81, R106). -/
def RxEntry.ahead (e : RxEntry) (q : Nat) (h : FrameHdr) : Bool :=
  decide (e.arrival < h.arrival) || (e.arrival == h.arrival && decide (q < h.port))

/-- A frame may be handled: it waits, and no frame that the test selects is to be handled before it. -/
def State.rxTurn (s : State) (h : FrameHdr) (mine : RxEntry → Bool) : Bool :=
  s.rxWaits h && !s.anyFrame (fun p e => mine e && e.ahead p h)

/-! ## Back-pressure on ports (11_clusters R330) -/

/-- The next frame of a port that ingest does not take past a held one: GOOSE frames of a remote station go past. -/
def State.nextFrame (s : State) (p : Nat) : Option RxEntry := (s.portFrames p).find? (fun e => e.station.isNone)

/-- A frame would produce an item for a list whose hold buffer is full. -/
def State.frameHeld (s : State) (e : RxEntry) : Bool :=
  e.stream.any (fun st => (s.carrierOf st).any (fun c => s.listFull c.1 c.2.priority))

/-- Ingest takes no frame from a port whose next frame is held; a row's own frame is held only where it would produce an item. -/
def State.portStops (s : State) (h : FrameHdr) (item : Bool) : Bool :=
  (s.nextFrame h.port).any (fun e => (item || e.arrival != h.arrival) && s.frameHeld e)

/-- Up to so many of the frames that may wait in the ingest queue, and what stays. -/
def toIngest : Nat → List RxEntry → List RxEntry × List RxEntry
  | _, [] => ([], [])
  | room, e :: l =>
    if e.station.isSome then
      let r := toIngest room l
      (r.1, e :: r.2)
    else match room with
      | 0 => ([], e :: l)
      | n + 1 =>
        let r := toIngest n l
        (e :: r.1, r.2)

/-- The frames of a stopped port go to the ingest queue while it has room outside the reserve of the alarm path (Table 02-3). -/
def State.ingestPull (s : State) (p : Nat) : State :=
  if (s.nextFrame p).any s.frameHeld then
    let x := toIngest (61440 - s.prt.ingestQ.length) (s.port p).rxq
    let s1 := s.modPort p (fun y => { y with rxq := x.2 })
    ({ s1 with prt := { s1.prt with ingestQ := s1.prt.ingestQ ++ x.1.map (fun e => (p, e)) } }).xoffCheck p
  else s

/-- Every stopped port, the lowest first. -/
def State.ingestPulls (s : State) : State := allPorts.foldl (fun s p => s.ingestPull p) s

/-- Take the entry of a port with an arrival stamp out of the ingest queue. -/
def dropQueued (p : Nat) (arrival : Stamp) : List (Nat × RxEntry) → List (Nat × RxEntry)
  | [] => []
  | e :: l => if e.1 == p && e.2.arrival == arrival then l else e :: dropQueued p arrival l

/-- Ingest takes a frame, from the ingest queue or from its port's receive queue. -/
def State.rxTake (s : State) (h : FrameHdr) : State :=
  if s.prt.ingestQ.any (fun e => e.1 == h.port && e.2.arrival == h.arrival) then
    ({ s with prt := { s.prt with ingestQ := dropQueued h.port h.arrival s.prt.ingestQ } }).ingestPulls
  else (s.modPort h.port (fun x => { x with rxq := dropEntry h.arrival x.rxq })).xoffCheck h.port

/-- A frame of row 4 enters the receive queue; of a stopped port the frames go on to the ingest queue. -/
def State.rxEnqueue (s0 : State) (p len : Nat) (station : Option Nat) (stream : Option Nat) (tagged : Bool) : State :=
  let s := s0.ingestPulls
  let x := s.port p
  if (if station.isSome then 4096 else 3840) ≤ x.rxq.length then s.rxDrop p 42
  else ((s.modPort p (fun x => { x with rxq := x.rxq ++ [{ arrival := s.rxStamp p, len, station, stream, tagged }] })).xoffCheck p).ingestPull p

/-- A frame passes the side queue to a block that takes it later. -/
def State.sideEnqueue (s : State) (p : Nat) : State :=
  if 64 ≤ (s.port p).side then s.rxDrop p 43 else s.modPort p (fun x => { x with side := x.side + 1 })

/-- A frame passes the side queue to something that takes it at once (R380). -/
def State.sideThrough (s : State) (p : Nat) (next : State → State) : State := if 64 ≤ (s.port p).side then s.rxDrop p 43 else next s

def State.sideTake (s : State) (p : Nat) : State := s.modPort p (fun x => { x with side := x.side - 1 })

/-- A port datapath fault (R398). -/
def State.portFaultAt (s : State) (p part detail : Nat) : State := (s.ringEvent p part 4).faultPair 72 73 detail 0xFF

def State.portFault (s : State) (p part : Nat) : State := s.portFaultAt p part p

end Sys2Proof.Machine
end

