-- ==== Sys2Proof/Machine/ReplayOps.lean ====
section
/-!
DEFINITION. Replay windows (03_ingest R95, 14_hosts R420).
-/
namespace Sys2Proof.Machine

/-- Take a number into a replay window of 64, by serial-number arithmetic modulo 2^w; none for a replay. Bit i of the mask stands for the
number i below the highest. -/
def Replay.accept (r : Replay) (w n : Nat) : Option Replay :=
  let top := 2 ^ w
  let v := n % top
  if !r.any then some { any := true, highest := v, mask := 1 }
  else
    let ahead := (v + top - r.highest) % top
    let behind := (r.highest + top - v) % top
    if ahead == 0 then none
    else if ahead < top / 2 then some { any := true, highest := v, mask := (if ahead < 64 then r.mask <<< ahead else 0) ||| 1 }
    else if behind ≤ 63 && !r.mask.getLsbD behind then some { r with mask := r.mask ||| BitVec.ofNat 64 (2 ^ behind) }
    else none

/-- The window of an authenticated stream, over SPDU numbers of 32 bits (R95). -/
def Replay.take (r : Replay) (n : Nat) : Option Replay := r.accept 32 n

end Sys2Proof.Machine
end

