-- ==== Sys2Proof/Machine/Operands.lean ====
section
/-!
DEFINITION. Values as they travel (03_ingest Table 03-3, 04_platform Table 04-1): binary32 and binary64 images as exact numbers and back with
rounding to nearest even, exact fractions, integer square roots, and the conversion of received fields.
-/
namespace Sys2Proof.Machine

/-! ## Exact fractions -/

def frac (n : Int) (d : Nat := 1) : Frac := { num := n, den := d }

def fAdd (a b : Frac) : Frac := { num := a.num * b.den + b.num * a.den, den := a.den * b.den }

def fSub (a b : Frac) : Frac := { num := a.num * b.den - b.num * a.den, den := a.den * b.den }

def fMul (a b : Frac) : Frac := { num := a.num * b.num, den := a.den * b.den }

/-- The quotient by a fraction that is not 0. -/
def fDiv (a b : Frac) : Frac :=
  if b.num < 0 then { num := -(a.num * b.den), den := a.den * (-b.num).toNat } else { num := a.num * b.den, den := a.den * b.num.toNat }

def fNeg (a : Frac) : Frac := { num := -a.num, den := a.den }

def fAbs (a : Frac) : Frac := { num := (a.num.natAbs : Int), den := a.den }

def fLt (a b : Frac) : Bool := decide (a.num * b.den < b.num * a.den)

def fLe (a b : Frac) : Bool := decide (a.num * b.den ≤ b.num * a.den)

def fIsZero (a : Frac) : Bool := a.num == 0

def fSum (l : List Frac) : Frac := l.foldl fAdd (frac 0)

/-- In lowest terms. -/
def fReduce (a : Frac) : Frac :=
  let g := Nat.gcd a.num.natAbs a.den
  if g ≤ 1 then a else { num := a.num / (g : Int), den := a.den / g }

/-- The whole part, rounded to nearest with halves up. -/
def fRound (a : Frac) : Int := (2 * a.num + (a.den : Int)) / (2 * (a.den : Int))

/-! ## Images -/

/-- What a floating-point image stands for. -/
inductive FloatVal where
  | nan
  | inf (neg : Bool)
  | fin (v : Frac)
  deriving DecidableEq, Repr

/-- The quantum exponent offset of a format with `m` fraction bits and `e` exponent bits: 149 for binary32, 1,074 for binary64. -/
def floatBias (m e : Nat) : Nat := 2 ^ (e - 1) - 2 + m

def floatVal (m e v : Nat) : FloatVal :=
  let f := v % 2 ^ m
  let x := v / 2 ^ m % 2 ^ e
  let neg := v / 2 ^ (m + e) % 2 == 1
  if x == 2 ^ e - 1 then (if f == 0 then .inf neg else .nan)
  else
    let sig := if x == 0 then f else f + 2 ^ m
    let ex := Nat.max x 1 - 1
    let b := floatBias m e
    let k : Int := if neg then -(sig : Int) else (sig : Int)
    if b ≤ ex then .fin (frac (k * ((2 ^ (ex - b) : Nat) : Int))) else .fin (frac k (2 ^ (b - ex)))

/-- n ÷ d rounded to nearest, ties to even. -/
def roundEven (n d : Nat) : Nat :=
  let q := n / d
  let r := n % d
  if 2 * r < d then q else if d < 2 * r then q + 1 else if q % 2 == 0 then q else q + 1

/-- The image nearest to a fraction, ties to even; beyond the largest finite number an infinity. -/
def floatOf (m e : Nat) (a : Frac) : Nat :=
  let n := a.num.natAbs
  let sign := if a.num < 0 then 2 ^ (m + e) else 0
  if n == 0 || a.den == 0 then sign
  else
    let b := floatBias m e
    -- 2^x ≤ n/d < 2^(x+1), with x shifted by the bias and the fraction bits
    let x0 : Int := (n.log2 : Int) - (a.den.log2 : Int)
    let below : Bool := if 0 ≤ x0 then decide (n < a.den * 2 ^ x0.toNat) else decide (n * 2 ^ (-x0).toNat < a.den)
    let x := if below then x0 - 1 else x0
    let ex := (x - (m : Int) + (b : Int)).toNat
    let sig := if b ≤ ex then roundEven n (a.den * 2 ^ (ex - b)) else roundEven (n * 2 ^ (b - ex)) a.den
    sign + Nat.min (ex * 2 ^ m + sig) ((2 ^ e - 1) * 2 ^ m)

def f32Val (v : BitVec 32) : FloatVal := floatVal 23 8 v.toNat
def f32Of (a : Frac) : BitVec 32 := BitVec.ofNat 32 (floatOf 23 8 a)
def f64Val (v : BitVec 64) : FloatVal := floatVal 52 11 v.toNat
def f64Of (a : Frac) : BitVec 64 := BitVec.ofNat 64 (floatOf 52 11 a)

/-- The quiet NaN of Table 04-1. -/
def nan32 : BitVec 32 := 0x7FC00000

def f32Nan (v : BitVec 32) : Bool := f32Val v == .nan

def f32Inf (v : BitVec 32) : Bool := match f32Val v with
  | .inf _ => true
  | _ => false

/-- The number of an image; none for a NaN or an infinity. -/
def f32Num (v : BitVec 32) : Option Frac := match f32Val v with
  | .fin a => some a
  | _ => none

def f64Num (v : BitVec 64) : Option Frac := match f64Val v with
  | .fin a => some a
  | _ => none

/-- A number of an image that a setting has checked to be one. -/
def f32D (v : BitVec 32) : Frac := (f32Num v).getD (frac 0)

def f64D (v : BitVec 64) : Frac := (f64Num v).getD (frac 0)

/-! ## Square roots -/

/-- ⌊√n⌋, one bit at a time. -/
def isqrtBits : Nat → Nat → Nat → Nat
  | 0, _, r => r
  | k + 1, n, r =>
    let t := r + 2 ^ k
    isqrtBits k n (if t * t ≤ n then t else r)

def isqrt (n : Nat) : Nat := isqrtBits (n.log2 / 2 + 1) n 0

/-- The square root of a non-negative fraction with 40 bits beyond the 24 of binary32, rounded to binary32. -/
def sqrt32 (a : Frac) : BitVec 32 :=
  if a.num ≤ 0 || a.den == 0 then 0
  else
    let n := a.num.toNat
    -- scale so that the quotient has at least 128 bits
    let k := 128 + a.den.log2
    let e := k + k % 2
    let q := n * 2 ^ e / a.den
    f32Of (frac (2 * isqrt q + b2nat (isqrt q * isqrt q != q || n * 2 ^ e % a.den != 0)) (2 * 2 ^ (e / 2)))
where b2nat (b : Bool) : Int := if b then 1 else 0

/-- The square root of a non-negative fraction with 40 bits beyond the 53 of binary64, rounded to binary64. -/
def sqrt64 (a : Frac) : BitVec 64 :=
  if a.num ≤ 0 || a.den == 0 then 0
  else
    let n := a.num.toNat
    let k := 192 + a.den.log2
    let e := k + k % 2
    let q := n * 2 ^ e / a.den
    let r := isqrt q
    let odd : Int := if r * r != q || n * 2 ^ e % a.den != 0 then 1 else 0
    f64Of (frac (2 * r + odd) (2 * 2 ^ (e / 2)))

/-! ## Numbers with NaN and infinities: a denominator of 0 stands for a NaN or, with a sign, an infinity -/

def extOf : FloatVal → Frac
  | .nan => { num := 0, den := 0 }
  | .inf n => { num := if n then -1 else 1, den := 0 }
  | .fin a => a

def extFinite (a : Frac) : Bool := a.den != 0

/-- The sum, in lowest terms where it is finite. -/
def extAdd (a b : Frac) : Frac :=
  if a.den != 0 && b.den != 0 then fReduce (fAdd a b)
  else if a.den != 0 then b
  else if b.den != 0 then a
  else { num := if a.num == b.num then a.num else 0, den := 0 }

/-- The square of a number that may be an infinity or a NaN. -/
def extSquare (a : Frac) : Frac := if extFinite a then fMul a a else { num := a.num * a.num, den := 0 }

/-- The quotient by a count. -/
def extDiv (a : Frac) (n : Nat) : Frac := if extFinite a then fDiv a (frac n) else a

/-- The difference of two such numbers. -/
def extSub (a b : Frac) : Frac := extAdd a (fNeg b)

/-- a ≤ b, false where either is a NaN. -/
def extLe (a b : Frac) : Bool :=
  if a.den != 0 && b.den != 0 then fLe a b
  else if (a.den == 0 && a.num == 0) || (b.den == 0 && b.num == 0) then false
  else if a.den == 0 then decide (a.num < 0) || (b.den == 0 && decide (0 < b.num))
  else decide (0 < b.num)

/-- a < b, false where either is a NaN. -/
def extLt (a b : Frac) : Bool := extLe a b && !extLe b a

/-- BAD_PARAM for a binary32 field that must be a number no less than 0. -/
def negOrNan (v : BitVec 32) : Bool := f32Nan v || extLt (extOf (f32Val v)) (frac 0)

def nan64 : BitVec 64 := 0x7FF8000000000000

/-- The binary64 image of such a number. -/
def extF64 (a : Frac) : BitVec 64 :=
  if a.den != 0 then f64Of a else if a.num == 0 then nan64 else if a.num < 0 then 0xFFF0000000000000 else 0x7FF0000000000000

/-- A binary32 image of an extended number. -/
def extF32 (a : Frac) : BitVec 32 :=
  if a.den != 0 then f32Of a else if a.num == 0 then nan32 else if a.num < 0 then 0xFF800000 else 0x7F800000

/-! ## Channel values (Table 04-1) -/

/-- The 8 bytes of a phasor: real part low, imaginary part high. -/
def phasorWord (re im : BitVec 32) : W64 := im ++ re

/-- The 8 bytes of a binary32 channel. -/
def floatWord (v : BitVec 32) : W64 := v.zeroExtend 64

def wordRe (v : W64) : BitVec 32 := v.extractLsb' 0 32
def wordIm (v : W64) : BitVec 32 := v.extractLsb' 32 32

/-- The substitute NaN value of a TYPE; 0 for a digital word. -/
def nanWord (type : Nat) : W64 := if type == 0 then phasorWord nan32 nan32 else if type ≤ 3 then floatWord nan32 else 0

/-- Some part of a value is an infinity. -/
def wordInf (type : Nat) (v : W64) : Bool :=
  if type == 0 then f32Inf (wordRe v) || f32Inf (wordIm v) else type ≤ 3 && f32Inf (wordRe v)

end Sys2Proof.Machine
end

