-- ==== Sys2Proof/Machine/Flags.lean ====
section
/-!
DEFINITION. The quality word (04_platform Table 04-2) and what sets its bits (03_ingest R85, Tables 03-3 and 03-4), and the substitutes
(R115, R131, R133).
-/
namespace Sys2Proof.Machine

/-! ## Bits of Table 04-2 -/

def qInvalid : W16 := 0x0001
def qQuestionable : W16 := 0x0002
def qTest : W16 := 0x0004
def qTimeUncertain : W16 := 0x0008
def qModified : W16 := 0x0010
def qTrigger : W16 := 0x0020
def qOffGrid : W16 := 0x0040
def qUndercoat : W16 := 0x0080
def qHoldExpired : W16 := 0x1000
def qLate : W16 := 0x2000
def qDerived : W16 := 0x4000
def qOverrange : W16 := 0x8000

/-- A bit when a condition holds. -/
def qIf (c : Bool) (q : W16) : W16 := if c then q else 0

/-- Some bit of a mask is set. -/
def qHas (q mask : W16) : Bool := q &&& mask != 0

/-- SUBST and MISS_CAUSE. -/
def qSubst (subst cause : Nat) : W16 := BitVec.ofNat 16 (256 * subst + 1024 * cause)

/-- SUBST of a quality word. -/
def substOf (q : W16) : Nat := bits q.toNat 9 8
where bits (v hi lo : Nat) : Nat := v / 2 ^ lo % 2 ^ (hi + 1 - lo)

/-- The bits a held value keeps: [7:0], [14] and [15] (R131). -/
def qHeldMask : W16 := 0xC0FF

/-! ## STAT (Table 03-4) -/

/-- STAT bits [15:14]. -/
def statError (v : W16) : Nat := v.toNat / 16384

/-- The block's data are unusable. -/
def statUnusable (v : W16) : Bool := statError v == 3

/-- The quality a STAT word gives its channels. -/
def statQual (v : W16) : W16 :=
  qIf (statError v == 1) qInvalid ||| qIf (statError v == 2) qTest ||| qIf (v.getLsbD 13) qTimeUncertain
  ||| qIf (v.getLsbD 11) qTrigger ||| qIf (v.getLsbD 9) qModified
  ||| qIf (decide (6 ≤ v.toNat / 64 % 8) || v.toNat / 16 % 4 == 3) qTimeUncertain

/-! ## Substitutes -/

/-- The NaN value of a TYPE with its cause. -/
def nanVal (type cause : Nat) (expired : Bool) : ChanVal :=
  { type, value := nanWord type, qual := qSubst 2 cause ||| qIf expired qHoldExpired, usable := false }

/-- The zero value of a TYPE with its cause. -/
def zeroVal (type cause : Nat) : ChanVal := { type, value := 0, qual := qSubst 3 cause, usable := false }

/-- A held value (R131). -/
def heldVal (v : ChanVal) (cause : Nat) : ChanVal := { v with qual := (v.qual &&& qHeldMask) ||| qSubst 1 cause }

/-- A converted channel with its quality; an infinity carries OVERRANGE. -/
def chanVal (type : Nat) (v : W64) (q : W16) (usable : Bool) : ChanVal :=
  { type, value := v, qual := q ||| qIf (wordInf type v) qOverrange, usable }

end Sys2Proof.Machine
end

