-- ==== Sys2Proof/Machine/Trig.lean ====
section
/-!
DEFINITION. Sines, cosines and arguments as the formulas of 05_waveform_chain, 06_metering Table 06-3, 07_oscillation and 10_recorders use them, to 128
fraction bits, and the rounding of a stage whose direction the manual leaves open. An angle is given in turns.
-/
namespace Sys2Proof.Machine

/-- One in the fixed point of this file. -/
def fixOne : Nat := 2 ^ 128

/-- π, √2 and √3. -/
def piFix : Nat := 1069028584064966747859680373161870783301
def root2Fix : Nat := isqrt (2 * fixOne * fixOne)
def root3Fix : Nat := isqrt (3 * fixOne * fixOne)

/-- Terms of the series of sine and cosine: from a term of power k, each next is −x²/((k+1)(k+2)) of the one before. -/
def trigSeries : Nat → Int → Int → Nat → Int → Int
  | 0, _, _, _, acc => acc
  | f + 1, x2, term, k, acc =>
    let t := -(term * x2 / (fixOne : Int)) / (((k + 1) * (k + 2) : Nat) : Int)
    trigSeries f x2 t (k + 2) (acc + t)

/-- An angle in turns as radians in (−π, π]. -/
def turnFix (t : Frac) : Int :=
  let d : Int := (Nat.max t.den 1 : Nat)
  let n := t.num % d
  (if d < 2 * n then n - d else n) * (2 * piFix : Nat) / d

def sinFix (t : Frac) : Int :=
  let x := turnFix t
  trigSeries 34 (x * x / (fixOne : Int)) x 1 x

def cosFix (t : Frac) : Int :=
  let x := turnFix t
  trigSeries 34 (x * x / (fixOne : Int)) fixOne 0 fixOne

/-- An angle in radians as one in (−π, π]. -/
def radFix (a : Frac) : Int :=
  let full : Int := (2 * piFix : Nat)
  let n := a.num * (fixOne : Int) / (Nat.max a.den 1 : Nat) % full
  if full < 2 * n then n - full else n

/-- Cosine and sine of an angle in radians. -/
def cosRad (a : Frac) : Frac :=
  let x := radFix a
  frac (trigSeries 34 (x * x / (fixOne : Int)) fixOne 0 fixOne) fixOne

def sinRad (a : Frac) : Frac :=
  let x := radFix a
  frac (trigSeries 34 (x * x / (fixOne : Int)) x 1 x) fixOne

def sinOf (t : Frac) : Frac := frac (sinFix t) fixOne
def cosOf (t : Frac) : Frac := frac (cosFix t) fixOne

/-- Terms of the arctangent's series: x^n ÷ n with signs in turn. -/
def atanSeries : Nat → Int → Int → Nat → Int → Int
  | 0, _, _, _, acc => acc
  | f + 1, x2, pow, n, acc =>
    let p := -(pow * x2 / (fixOne : Int))
    atanSeries f x2 p (n + 2) (acc + p / ((n + 2 : Nat) : Int))

/-- The tangent of half an angle from its tangent. -/
def halfTan (t : Int) : Int :=
  t * (fixOne : Int) / ((fixOne + isqrt (fixOne * fixOne + t.toNat * t.toNat) : Nat) : Int)

/-- The arctangent of a number in [0, 1]. -/
def atanFix (t : Int) : Int :=
  let x := halfTan (halfTan t)
  4 * atanSeries 34 (x * x / (fixOne : Int)) x 1 x

/-- The argument of a phasor in (−π, π]; that of zero is open, within its range. -/
def argFix (re im : Frac) : Int :=
  let a := re.num * im.den
  let b := im.num * re.den
  let x := a.natAbs
  let y := b.natAbs
  if x == 0 && y == 0 then ((Config.argZero % (2 * piFix) + 1 : Nat) : Int) - (piFix : Int)
  else
    let base : Int := if y ≤ x then atanFix ((y * fixOne / x : Nat) : Int) else (piFix : Int) / 2 - atanFix ((x * fixOne / y : Nat) : Int)
    let half := if a < 0 then (piFix : Int) - base else base
    if b < 0 then -half else half

/-- Parts of a radian and of a degree in which angles are held, far below the last place of binary64. -/
def angleUnit : Nat := 10 ^ 24

/-- The argument in those parts, to the nearest. -/
def argRad (re im : Frac) : Int := fRound (frac (argFix re im * (angleUnit : Int)) fixOne)
def argDeg (re im : Frac) : Int := fRound (frac (argFix re im * ((180 * angleUnit : Nat) : Int)) piFix)

/-- The argument in turns. -/
def argTurn (re im : Frac) : Frac := frac (argFix re im) (2 * piFix)

/-- An angle in turns wrapped into (−½, ½]. -/
def wrapTurn (t : Frac) : Frac :=
  let d : Int := (t.den : Int)
  let n := t.num % (Nat.max t.den 1 : Nat)
  { t with num := if d < 2 * n then n - d else n }

/-- A whole number on either side of a fraction, where it is not one itself: a stage of Table 05-4 rounds to its width, in a direction that is not stated. -/
def fixRound (a : Frac) : Int :=
  let d : Int := (Nat.max a.den 1 : Nat)
  let lo := a.num / d
  if a.num % d == 0 then lo else if Config.roundUp a.num a.den then lo + 1 else lo

end Sys2Proof.Machine
end

