-- ==== Sys2Proof/Machine/RecorderOps.lean ====
section
/-!
DEFINITION. What recorders do with samples, points and triggers (10_recorders R295 to R311). A time of a recorder is counted in units of
1/512 of its grid interval from the start of its base's timescale.
-/
namespace Sys2Proof.Machine

def State.recorder (s : State) (n : Nat) : Option Rec := tget n s.rcd.recs

def State.setRec (s : State) (n : Nat) (r : Rec) : State := { s with rcd := { s.rcd with recs := tset n r s.rcd.recs } }

/-- Lock or unlock a held record. -/
def Rec.lock (r : Rec) (slot : Nat) (on : Bool) : Rec :=
  { r with held := tmap (fun i x => if i == slot then { x with exporting := on } else x) r.held }

/-- An export is given up: its record is unlocked. -/
def State.exportDrop (s : State) (n : Nat) : State :=
  match s.recorder n with
  | none => s
  | some r => s.setRec n (match r.exporting with
    | some l => { r.lock l.req.slot false with exporting := none }
    | none => r)

/-- A recorder event (R316) on its readers; `slot` is 0xFF where there is none. -/
def State.recEvent (s : State) (n src slot : Nat) : State := s.evt (s.readersOf kindRecorder n) src (n + 256 * slot)

/-- Bytes of a stored point. -/
def Rec.pointBytes (r : Rec) : Nat := 12 * r.set.channels

/-- S_rec (R301). -/
def recBytes (x : RecSet) : Nat := ceilDiv (4096 + 12 * x.channels * (x.pre + x.post)) 4096 * 4096

/-- Record slots of a setting (R301). -/
def recSlots (x : RecSet) : Nat := if x.streamOut then 0 else Nat.min 255 (x.segMib * 1048576 / recBytes x)

/-- Points that a circular segment holds (R302). -/
def recCapacity (x : RecSet) : Nat := x.segMib * 1048576 / Nat.max (12 * x.channels) 1

/-! ## Time on the grid -/

/-- Time of stored point k, in units of 1/512 grid interval (R298). -/
def Rec.pointTime (r : Rec) (k : Int) : Int :=
  512 * ((r.origin.getD 0 : Int) + k * r.set.avg) + 256 * ((r.set.avg : Int) - 1)

/-- The stored interval, in the same units. -/
def Rec.interval (r : Rec) : Int := 512 * (r.set.avg : Int)

/-- A time in ns, rounded to nearest with halves up. -/
def Rec.toNs (r : Rec) (x : Int) : Int := fRound (frac (x * 1000000000) (512 * Nat.max r.rate 1))

/-- A time in thirds of a ns as such a time, exact as a fraction. -/
def Rec.ofThirds (r : Rec) (t : Int) : Frac := frac (t * 512 * (r.rate : Int)) 3000000000

/-- First grid sample later than a reading of the base, given in base units. -/
def firstGridAfter (rate : Nat) (exact : Int) : Nat :=
  (exact * (rate : Int) / ((1000000000 * baseUnit : Nat) : Int) + 1).toNat

/-- Base and grid rate of a channel's source; none where it has none. -/
def State.recGrid (s : State) (kind : Nat) (c : RecChan) : Option (Nat × Nat) :=
  if kind == 1 then
    match tget c.stream s.ing.subs with
    | some e => if e.kind == 2 then some (e.tbSel, e.svRate) else none
    | none => none
  else (s.carrierOf c.stream).map (fun e => (s.streamBase c.stream, e.2.instRate))

/-- The point of a grid sample has been evaluated, in this arming or an earlier one. -/
def Rec.evaluatedAt (r : Rec) (g : Nat) : Bool := r.evaluated.any (fun e => decide (e.1 ≤ g) && decide (g < e.2))

/-- Channels set on a grid: what was evaluated on another one is no point of this. -/
def Rec.onGrid (r : Rec) (tb rate : Nat) : Rec :=
  let same := r.tb == tb && r.rate == rate
  { r with tb, rate, evaluated := if same then r.evaluated else [], lastTime := if same then r.lastTime else none }

/-- Enter ARMED with an empty pre-trigger store (R298, R304), where an external trigger that still waits for its point goes on waiting (R307): blocks count from the first grid sample after the stamp, or, while the base gives no
reading, from the first sample taken. -/
def State.recArmed (s : State) (n : Nat) (r0 : Rec) (stamp : Stamp) : State :=
  let grid := if r0.rate == 0 then r0.chans.head?.bind (fun e => s.recGrid r0.set.kind e.2) else none
  let r := r0.onGrid ((grid.map (·.1)).getD r0.tb) ((grid.map (·.2)).getD r0.rate)
  let o := match s.base r.tb with
    | some b => if b.valid then some (firstGridAfter r.rate (b.exact stamp)) else none
    | none => none
  s.setRec n { r with
    state := .armed, armStamp := stamp, origin := o, nextK := 0, open_ := [], store := [], prevY := [], record := none
    conds := tmap (fun _ c => { c with armedRise := false, armedFall := false }) r.conds }

/-! ## Samples (R296 to R300) -/

def Rec.storing (r : Rec) : Bool := r.state == .armed || r.state == .filling

/-- The tick of evaluation of the next point has come: the base reads its last sample's time plus CLOSE_MS (R300). -/
def State.pointDue (s : State) (r : Rec) : Bool :=
  match r.origin, s.base r.tb with
  | some o, some b =>
    b.valid && decide (((o + r.nextK * r.set.avg + r.set.avg - 1 : Nat) : Int) * 1000000000 * baseUnit
      + (r.set.closeMs * 1000000 * r.rate * baseUnit : Nat) ≤ b.exact s.now * r.rate)
  | _, _ => false

/-- Component of a channel value (Table 10-1). An angle is in picodegrees. -/
def component (comp : Nat) (v : ChanVal) : Frac :=
  if v.type == 0 then
    match comp, f32Num (wordRe v.value), f32Num (wordIm v.value) with
    | 0, some a, some b => f64D (sqrt64 (fAdd (fMul a a) (fMul b b)))
    | 1, some a, some b => frac (argDeg a b)
    | 2, _, _ => extOf (f32Val (wordRe v.value))
    | 3, _, _ => extOf (f32Val (wordIm v.value))
    | _, _, _ => if wordInf 0 v.value && comp == 0 then { num := 1, den := 0 } else { num := 0, den := 0 }
  else if v.type == 4 then
    if 16 ≤ comp then frac (bits v.value.toNat (comp - 16) (comp - 16)) else frac (v.value.toNat % 65536)
  else extOf (f32Val (wordRe v.value))

/-- A whole turn in picodegrees. -/
def turnDeg : Int := ((360 * angleUnit : Nat) : Int)

/-- An angle wrapped into (−180, +180] degrees. -/
def wrapDeg (x : Int) : Int := turnDeg / 2 - (turnDeg / 2 - x) % turnDeg

/-- An angle in (−180, +180] of a reference. -/
def unwrapDeg (ref x : Int) : Int := ref + wrapDeg (x - ref)

/-- The channel stores an angle. -/
def Rec.isAngle (r : Rec) (ci : Nat) : Bool := r.set.kind == 2 && (tget ci r.chans).any (fun c => c.comp == 1)

/-- The sample of grid number g of one channel added to its block; the first of a grid number stands (R124). -/
def PointAcc.add (p : PointAcc) (g : Nat) (angle : Bool) (v : Frac) (usable : Bool) (q : W16) : PointAcc :=
  if p.seen.contains g then p
  else if !usable then { p with qual := p.qual ||| q, seen := g :: p.seen }
  else if angle && extFinite v then
    let a := v.num / (Nat.max v.den 1 : Int)
    let ref := p.first.getD a
    { sum := extAdd p.sum (frac (unwrapDeg ref a)), usable := p.usable + 1, qual := p.qual ||| q, first := some ref, seen := g :: p.seen }
  else { p with sum := extAdd p.sum v, usable := p.usable + 1, qual := p.qual ||| q, seen := g :: p.seen }

/-- A sample of one channel of a recorder: its index, value, whether it is usable, and its quality. -/
structure RecSample where
  chan : Nat
  val : Frac
  usable : Bool
  qual : W16
  deriving DecidableEq, Repr

/-- A write of grid number g that carries channels of a recorder: into their block, or, where its point has been evaluated, dropped and counted once (R300). -/
def State.recTake (s : State) (n g : Nat) (l : List RecSample) : State :=
  match s.recorder n with
  | none => s
  | some r0 =>
    if l.isEmpty then s
    else if r0.evaluatedAt g then
      let s1 := (s.setRec n { r0 with wasLatePoint := true }).count .rcd 2
      if r0.wasLatePoint then s1 else s1.recEvent n 0x1C6 0xFF
    else if !r0.storing then s
    else
      let r : Rec := if r0.origin.isNone then { r0 with origin := some g } else r0
      let o := r.origin.getD 0
      if g < o then s
      else
        let k := (g - o) / Nat.max r.set.avg 1
        let b := l.foldl (fun b e => b.modify e.chan (fun p => p.add g (r.isAngle e.chan) e.val e.usable e.qual))
          (tgetD k (List.replicate r.set.channels {}) r.open_)
        s.setRec n { r with open_ := tset k b r.open_, wasLatePoint := false }

/-! ## Triggers (R304 to R309) -/

/-- A trigger met where none can start a record. -/
def State.recMissed (s : State) (n : Nat) (r : Rec) : State := (s.setRec n { r with missedSeen := true }).count .rcd 6

/-- An external trigger of condition 8, 9 or 10 at a time on the recorder's base, in thirds of a ns: an instant is exact there (04_platform R119). -/
def State.recTriggerAt (s : State) (n cond : Nat) (thirds : Int) : State :=
  match s.recorder n with
  | none => s
  | some r =>
    if r.storing then s.setRec n { r with ext := r.ext ++ [{ cond, thirds }] }
    else if r.state == .off then s else s.recMissed n r

/-- One at a time in ns. -/
def State.recTrigger (s : State) (n cond : Nat) (time : Int) : State := s.recTriggerAt n cond (3 * time)

/-- Trigger fraction of an exact fraction of the stored interval: 1/256 steps, ties up, 1 to 256 (R306). -/
def trigFrac (f : Frac) : Nat := Nat.max 1 (Nat.min 256 (fRound (fMul f (frac 256))).toNat)

/-- A condition that has fired, with its TRIG_FRAC. -/
structure Fired where
  cond : Nat
  frac : Nat
  late : Bool
  deriving DecidableEq, Repr

/-- Fraction of a crossing of conditions 0 to 7; none where the spec's quotient has no value. -/
def crossing (level prev y : Frac) : Option Nat :=
  if !extFinite prev then none
  else if !extFinite y then some 1
  else
    let d := fSub y prev
    if fIsZero d then none else some (trigFrac (fDiv (fSub level prev) d))

/-- The value of a channel of a point, in physical units (R299); none when unusable. -/
def Rec.physical (r : Rec) (ci : Nat) (e : PointEntry) : Option Frac :=
  if e.usable == 0 then none
  else if r.set.kind == 1 then
    let scale := if ((tget ci r.chans).map (·.ch)).getD 0 < 4 then 1000 else 100
    some (frac e.value.toInt (e.usable * scale))
  else some (extOf (f64Val e.value))

/-- One condition judged on a point: armings, and whether it fires with which fraction (R305). -/
def Cond.judge (c : Cond) (prev y : Option Frac) : Cond × Option (Option Nat) :=
  let rise := c.set.edge == 1 || c.set.edge == 3
  let fall := c.set.edge == 2 || c.set.edge == 3
  match y with
  | none => ({ c with armedRise := false, armedFall := false }, none)
  | some v =>
    let level := f64D c.set.level
    let hyst := f32D c.set.hyst
    let up := rise && c.armedRise && extLe level v
    let down := fall && c.armedFall && extLe v level
    let c' : Cond := { c with
      armedRise := rise && !up && (c.armedRise || extLe v (fSub level hyst))
      armedFall := fall && !down && (c.armedFall || extLe (fAdd level hyst) v) }
    if up || down then (c', some (crossing level (prev.getD { num := 0, den := 0 }) v)) else (c', none)

/-- One condition judged at a point (R305, R306). -/
def judgeCond (p : Point) (a : State × Rec × List Fired) (ix : Nat) : State × Rec × List Fired :=
  match tget ix a.2.1.conds with
  | none => a
  | some c =>
    let y := (p.entries[c.set.chan]?).bind (fun e => a.2.1.physical c.set.chan e)
    let x := c.judge (tget c.set.chan a.2.1.prevY) y
    let r' : Rec := { a.2.1 with conds := tset ix x.1 a.2.1.conds }
    match x.2 with
    | none => (a.1, r', a.2.2)
    | some (some f) => (a.1, r', a.2.2 ++ [{ cond := ix, frac := f, late := false }])
    | some none => (a.1.free.2, r', a.2.2 ++ [{ cond := ix, frac := 1 + a.1.free.1 % 256, late := false }])

/-- Conditions 0 to 7 of a recorder on a point. A fraction without a value is a free value. -/
def State.judgeConds (s : State) (r : Rec) (p : Point) : State × Rec × List Fired := (List.range 8).foldl (judgeCond p) (s, r, [])

/-- External triggers that fall to point k, in condition order (R306); one at or before a point already evaluated, in this arming or an earlier one, is late
(R307). -/
def Rec.extFired (r : Rec) (k : Nat) : List Fired :=
  let prev := r.pointTime ((k : Int) - 1)
  let mine := r.ext.filter (fun e => fLe (r.ofThirds e.thirds) (frac (r.pointTime k)))
  let one := fun (e : ExtTrigger) =>
    let d := fSub (r.ofThirds e.thirds) (frac prev)
    if r.lastTime.any (fun l => fLe (r.ofThirds e.thirds) (frac l)) then ({ cond := e.cond, frac := 256, late := true } : Fired)
    else { cond := e.cond, frac := trigFrac (fDiv d (frac r.interval)), late := false }
  [8, 9, 10].flatMap (fun c => (mine.filter (fun e => e.cond == c)).map one)

/-- Trigger time of a fired condition at point k. -/
def Rec.firedTime (r : Rec) (k : Nat) (f : Fired) : Int := r.pointTime ((k : Int) - 1) + r.interval * (f.frac : Int) / 256

/-- The earliest of the fired conditions, the lower index at equal times (R308). -/
def earliestFired : List Fired → Option Fired
  | [] => none
  | f :: r => match earliestFired r with
    | none => some f
    | some g => if f.frac < g.frac || (f.frac == g.frac && f.cond ≤ g.cond) then some f else some g

/-! ## The record header (Table 10-6) -/

def Record.flags (x : Record) : Nat :=
  b2n x.shortPre + 2 * b2n x.trigLate + 4 * b2n x.aborted + 8 * b2n x.truncated + 16 * b2n x.damaged + 32 * b2n x.test

/-- Table 10-5. -/
def Meas.image (m : Meas) : List Byte :=
  le 8 m.min.toNat ++ le 8 m.max.toNat ++ le 8 m.mean.toNat ++ le 8 m.rms.toNat ++ le 8 m.ampl.toNat ++ le 8 m.period.toNat
  ++ le 4 m.crossings ++ le 4 m.usable ++ le 4 m.minIdx ++ le 4 m.maxIdx

def Record.header (x : Record) (n : Nat) : List Byte :=
  le 1 n ++ le 1 x.slot ++ le 2 x.flags ++ le 2 x.causeMask ++ le 1 x.firstCond ++ le 1 x.set.channels ++ le 8 x.seq ++ le 4 x.rate
  ++ le 2 x.set.avg ++ le 1 x.set.kind ++ le 1 x.tb ++ le 4 x.preActual ++ le 4 (x.points.length - x.preActual)
  ++ le 8 (twos 64 x.firstTime) ++ le 8 (twos 64 x.trigTime) ++ le 2 x.trigFrac ++ le 2 x.retriggers ++ zeros 4
  ++ le 8 (twos 64 x.retrigFirst) ++ le 8 x.doneStamp
  ++ (List.range 11).flatMap (fun c => le 8 (twos 64 (((x.cross.find? (fun e => e.1 == c)).map (·.2)).getD 0))) ++ zeros 352
  ++ x.meas.flatMap Meas.image ++ zeros (64 * (32 - x.meas.length)) ++ zeros 1536

/-- Table 10-2. -/
def Point.image (p : Point) : List Byte := p.entries.flatMap (fun e => le 8 e.value.toNat ++ le 2 e.qual.toNat ++ le 2 e.usable)

/-! ## Stream rings (R303) -/

/-- Length of a stream entry: a header of 64 bytes and its payload, a multiple of 16 as the ring rules of R140 have it. -/
def streamLen (payload : Nat) : Nat := 64 + ceilDiv payload 16 * 16

def StreamRing.free (q : StreamRing) : Nat := q.set.ringSize - (q.prod - q.cons).toNat

/-- The bytes of an entry of recorder n: the header with KIND at offset 0 and RECORD_LEN at offset 4, as in a ring record of R140, and the payload: the record
header (START, END), stored points (POINTS), nothing (padding). -/
def StreamEntry.image (e : StreamEntry) (n : Nat) : List Byte :=
  let body := if e.kind == 2 then e.points.flatMap Point.image else (e.record.map (fun x => x.header n)).getD []
  ((le 1 e.kind ++ zeros 3 ++ le 4 e.len ++ zeros 56 ++ body) ++ zeros (e.len - 64 - body.length)).take e.len

/-- Put entries into the ring while they fit. Answers the ring, what is left, and what is written to host memory, newest first: each entry, and after it the
producer offset. -/
def StreamRing.fill (n : Nat) : StreamRing → List (Nat × List Byte) → List StreamEntry → StreamRing × List StreamEntry × List (Nat × List Byte)
  | q, w, [] => (q, [], w)
  | q, w, e :: l =>
    let start := ringPlace q.set.ringSize e.len q.prod.toNat
    let pad := start - q.prod.toNat
    if q.set.enable && q.set.ringSize != 0 && !q.stopped && pad + e.len ≤ q.free then
      let padding : List StreamEntry :=
        if pad == 0 then [] else [{ kind := 4, offset := q.prod.toNat % q.set.ringSize, len := pad, points := [], record := none }]
      let put := { e with offset := start % q.set.ringSize } :: padding
      let prod := q.prod + BitVec.ofNat 32 (pad + e.len)
      StreamRing.fill n { q with prod, entries := put ++ q.entries }
        ((q.set.prodWbAddr, le 4 prod.toNat) :: put.map (fun x => (q.set.ringAddr + x.offset, x.image n)) ++ w) l
    else (q, e :: l, w)

/-- Move what the ring takes out of the segment, to the holder's host memory, and signal its vector (R302, R303, 14_hosts R429). -/
def State.recDrain (s : State) (n : Nat) : State :=
  match s.recorder n with
  | none => s
  | some r =>
    match r.ring with
    | none => s
    | some q =>
      let x := q.fill n [] r.backlog
      let s1 := s.setRec n { r with ring := some x.1, backlog := x.2.1 }
      let dst := s.holder kindRecorder n
      let s2 := s1.hostWrites dst x.2.2.reverse
      if x.2.2.isEmpty then s2 else s2.ringSignal dst 8

/-- Points that the circular segment holds. -/
def Rec.inSegment (r : Rec) : Nat := r.store.length + (r.backlog.map (fun e => e.points.length)).sum

/-- Pre-trigger points that the segment has room for: with STREAM_OUT, beside the points that the ring has not yet taken (R302). -/
def Rec.preRoom (r : Rec) : Nat :=
  if r.set.streamOut then Nat.min r.set.pre (recCapacity r.set - (r.backlog.map (fun e => e.points.length)).sum) else r.set.pre

def Rec.push (r : Rec) (e : StreamEntry) : Rec := { r with backlog := r.backlog ++ [e] }

def Rec.entry (r : Rec) (kind : Nat) (pts : List Point) (x : Option Record) : StreamEntry :=
  { kind, offset := 0, len := streamLen (if kind == 2 then r.pointBytes * pts.length else 4096), points := pts, record := x }

/-! ## Records (R308 to R311) -/

/-- The lowest free record slot. -/
def Rec.freeSlot (r : Rec) : Option Nat := (List.range (recSlots r.set)).find? (fun i => (tget i r.held).isNone)

/-- TYPE of each channel of a KIND 2 recorder: that of the layout, or where none tells it that of the latest write. -/
def State.recTypes (s : State) (r : Rec) : Table Nat :=
  if r.set.kind != 2 then []
  else r.chans.filterMap (fun e => ((s.knownType e.2.stream e.2.ch).orElse (fun _ => tget e.1 r.types)).map (fun t => (e.1, t)))

/-- The record of a trigger at point k (R308, R310), with the points of the pre-trigger store. -/
def Rec.recordAt (r : Rec) (types : Table Nat) (k : Nat) (fired : List Fired) (first : Fired) : Record :=
  let pre := (r.store.take r.set.pre).reverse
  { set := r.set, tb := r.tb, rate := r.rate, chans := r.chans, types
    words := (List.range r.set.channels).filter (fun ci => (tget ci r.chans).any (fun c => c.comp == 0) && tget ci types == some 4)
    seq := r.seq, slot := if r.set.streamOut then 0xFF else r.freeSlot.getD 0xFF
    causeMask := fired.foldl (fun m f => m ||| 2 ^ f.cond) 0, firstCond := first.cond, trigK := k
    trigTime := r.toNs (r.firedTime k first), trigFrac := first.frac
    shortPre := decide (pre.length < r.set.pre), trigLate := fired.any (·.late), preActual := pre.length
    firstTime := r.toNs (r.pointTime ((k : Int) - (pre.length : Int)))
    cross := (List.range 11).filterMap (fun c => (fired.find? (fun f => f.cond == c)).map (fun f => (c, r.toNs (r.firedTime k f))))
    points := pre, postLeft := r.set.post }

/-- A point of a record under way is stored, where the segment has room. -/
def State.recStore (s : State) (n : Nat) (p : Point) : State :=
  match s.recorder n with
  | none => s
  | some r =>
    match r.record with
    | none => s
    | some x =>
      if x.postLeft == 0 || (r.set.streamOut && decide (recCapacity r.set ≤ r.inSegment)) then s
      else
        let r1 : Rec := { r with record := some { x with points := x.points ++ [p], postLeft := x.postLeft - 1 } }
        if r.set.streamOut then (s.setRec n (r1.push (r1.entry 2 [p] none))).recDrain n else s.setRec n r1

/-- Start a record at point k: with STREAM_OUT its START entry and pre-trigger points go to the ring first (R302). -/
def State.recStart (s : State) (n : Nat) (r : Rec) (k : Nat) (p : Point) (fired : List Fired) (first : Fired) : State :=
  let x := r.recordAt (s.recTypes r) k fired first
  let r1 : Rec := { r with state := .filling, record := some x, seq := r.seq + 1 }
  let s1 := if r.set.streamOut then
      (s.setRec n (x.points.foldl (fun (q : Rec) y => q.push (q.entry 2 [y] none)) ({ r1 with store := [] }.push (r1.entry 1 [] (some x))))).recDrain n
    else s.setRec n r1
  s1.recStore n p

/-- The stored point of a block (R299). -/
def Rec.pointOf (r : Rec) (k : Nat) : Point :=
  let l := tgetD k (List.replicate r.set.channels {}) r.open_
  { k, entries := l.map (fun a =>
      { value := if a.usable == 0 then 0
                 else if r.set.kind == 1 then BitVec.ofInt 64 a.sum.num
                 else if a.first.isSome then
                   extF64 (if extFinite a.sum then fDiv (wrapFrac (fDiv a.sum (frac a.usable))) (frac angleUnit) else a.sum)
                 else extF64 (if extFinite a.sum then fDiv a.sum (frac a.usable) else a.sum)
        qual := a.qual, usable := a.usable }) }
where
  /-- A mean angle in parts of a degree wrapped into (−180, +180]. -/
  wrapFrac (a : Frac) : Frac :=
    let d : Int := Nat.max a.den 1
    { num := turnDeg / 2 * d - (turnDeg / 2 * d - a.num) % (turnDeg * d), den := Nat.max a.den 1 }

/-- The segment of a recorder with STREAM_OUT is full: the record ends at the last point stored (R302). -/
def State.recTruncate (s : State) (n : Nat) : State :=
  match s.recorder n with
  | none => s
  | some r =>
    match r.record with
    | none => s
    | some x =>
      if r.set.streamOut && x.postLeft != 0 && recCapacity r.set ≤ r.inSegment then
        ((s.setRec n { r with record := some { x with postLeft := 0, truncated := true }, segFull := true }).count .rcd 5).recEvent n 0x1C4 0xFF
      else s

/-- The oldest held record that no export is reading. -/
def Rec.oldest (r : Rec) : Option Nat :=
  let l := r.held.filter (fun e => !e.2.exporting)
  (l.find? (fun e => l.all (fun f => decide (e.2.seq ≤ f.2.seq)))).map (·.1)

/-- Make room for a record: a free slot, or with OVERWRITE that of the oldest held record; none where there is no room (R304). A recorder with
STREAM_OUT needs no slot. -/
def State.recRoom (s : State) (n : Nat) : Option State :=
  match s.recorder n with
  | none => none
  | some r =>
    if r.set.streamOut || r.freeSlot.isSome then some s
    else if r.set.overwrite then
      r.oldest.map (fun o => ((s.setRec n { r with held := tdel o r.held }).count .rcd 4).recEvent n 0x1C3 o)
    else none

/-- The runs of grid samples evaluated, with those of the next point. -/
def Rec.evaluatedNext (r : Rec) : List (Nat × Nat) :=
  let g := r.origin.getD 0 + r.nextK * r.set.avg
  match r.evaluated with
  | e :: l => if e.2 == g then (e.1, g + r.set.avg) :: l else (g, g + r.set.avg) :: e :: l
  | [] => [(g, g + r.set.avg)]

/-- Evaluation of the next stored point (R300, R305 to R310). -/
def State.recEvaluate (s : State) (n : Nat) (r : Rec) : State :=
  let k := r.nextK
  let p := r.pointOf k
  let x := s.judgeConds r p
  let r1 := x.2.1
  let ext := r1.extFired k
  let fired := x.2.2 ++ ext
  let ys := (List.range r.set.channels).filterMap (fun ci =>
    ((p.entries[ci]?).bind (fun e => r.physical ci e)).map (fun y => (ci, y)))
  let r2 : Rec := { r1 with
    nextK := k + 1, open_ := tdel k r1.open_, prevY := ys, lastTime := some (r1.pointTime k), evaluated := r1.evaluatedNext
    ext := r1.ext.filter (fun e => !fLe (r1.ofThirds e.thirds) (frac (r1.pointTime k))) }
  let late := (ext.filter (·.late)).length
  let s1 := if late == 0 then x.1 else (x.1.count .rcd 3 late).recEvent n 0x1C5 0xFF
  match r2.record with
  | some y =>
    let m := fired.length
    let y1 : Record := { y with
      retriggers := Nat.min 65535 (y.retriggers + m), trigLate := y.trigLate || late != 0
      retrigFirst := if y.retriggers == 0 then ((earliestFired fired).map (fun f => r2.toNs (r2.firedTime k f))).getD 0 else y.retrigFirst }
    let s2 := if m == 0 then s1 else s1.count .rcd 1 m
    ((s2.setRec n { r2 with record := some y1 }).recStore n p).recTruncate n
  | none =>
    let r4 : Rec := { r2 with store := (p :: r2.store).take r2.preRoom }
    match earliestFired fired with
    | some f =>
      match (s1.setRec n r2).recRoom n with
      | some s2 =>
        let s3 := s2.recStart n ((s2.recorder n).getD r2) k p fired f
        (s3.recEvent n 0x1C0 (((s3.recorder n).bind (·.record)).map (·.slot) |>.getD 0xFF)).recTruncate n
      | none => s1.recMissed n r4
    | none => s1.setRec n r4

/-! ## Platform taps (R297, R125) -/

/-- Grid number of an instant counted in units of 1/1,200 s. -/
def gridOf (rate inst : Nat) : Nat := inst * rate / 1200

/-- What a platform write carries for a channel of a recorder (R297). -/
def tapSample (i : Nat) (ch : RecChan) (vals : List ChanVal) (late : Bool) : Option RecSample :=
  (vals[ch.ch]?).map (fun v =>
    { chan := i, val := component ch.comp v, usable := !qHas v.qual (qInvalid ||| 0x0300) && v.usable, qual := v.qual ||| qIf late qLate })

/-- A recorder may take a stream: its partition holds the stream or has a share grant on it (07_oscillation R205, 14_hosts R405). -/
def State.recReads (s : State) (n stream : Nat) : Bool := s.reads (s.holder kindRecorder n) kindStream stream

/-- A platform write reaches one recorder: its channels, and condition 10. -/
def State.recTapOne (s : State) (n stream inst : Nat) (vals : List ChanVal) (late : Bool) : State :=
  match s.recorder n with
  | none => s
  | some r =>
    if r.set.kind != 2 || !s.recReads n stream then s
    else
      let mine := r.chans.filter (fun e => e.2.stream == stream)
      let s1 := s.recTake n (gridOf r.rate inst) (mine.filterMap (fun e => tapSample e.1 e.2 vals late))
      let rises := mine.any (fun e => (vals[e.2.ch]?).any (fun v => qHas v.qual qTrigger && !tgetD e.1 false r.pmuTrig))
      let marks := mine.foldl (fun t e => match vals[e.2.ch]? with
        | none => t
        | some v => tset e.1 (qHas v.qual qTrigger) t) r.pmuTrig
      match s1.recorder n with
      | none => s1
      | some r1 =>
        let types := mine.foldl (fun t e => match vals[e.2.ch]? with
          | none => t
          | some v => tset e.1 v.type t) r1.types
        let s2 := s1.setRec n { r1 with pmuTrig := marks, types }
        if rises && (tget 10 r.conds).any (fun c => c.set.edge == 1) then s2.recTriggerAt n 10 (instThirds inst) else s2

/-- RECORDER_TAP: a write of a frame's channels, to every recorder. -/
def State.recTap (s : State) (stream inst : Nat) (vals : List ChanVal) (late : Bool) : State :=
  (s.rcd.recs.map (·.1)).foldl (fun s n => s.recTapOne n stream inst vals late) s

end Sys2Proof.Machine
end

