-- ==== Sys2Proof/Machine/MeterOps.lean ====
section
/-!
DEFINITION. Metering updates (06_metering R185 to R197): energy increments into accumulators, pulse outputs, and the quantities of a point fed by
slices.
-/
namespace Sys2Proof.Machine

/-- A point whose settings are freed. -/
def offPoint (n : Nat) : NrgPointSet :=
  { mp := n, source := 0, wiring := 0, unit := 0, group := 0, enable := false, reverse := false, stream := 0, ch := [], freqStream := 0xFFFF
    freqCh := 0, sFloor := 0 }

def State.meter (s : State) (n : Nat) : Meter := tgetD n { set := offPoint n } s.nrg.points

def State.setMeter (s : State) (n : Nat) (m : Meter) : State := { s with nrg := { s.nrg with points := tset n m s.nrg.points } }

def State.setPo (s : State) (n : Nat) (o : PulseOut) : State := { s with nrg := { s.nrg with pos := tset n o s.nrg.pos } }

def State.setPi (s : State) (n : Nat) (x : PulseIn) : State := { s with nrg := { s.nrg with pis := tset n x s.nrg.pis } }

/-- A metering event on the holder of the point, input or output (R200). -/
def State.nrgEvent (s : State) (kind n src : Nat) : State := s.evt [s.holder kind n] src n

/-! ## Pulse outputs (R196) -/

/-- The pin driver takes the next pending pulse when it is idle. -/
def PulseOut.drive (o : PulseOut) (now : Stamp) : PulseOut :=
  if o.phase == .idle && 0 < o.pending then
    let left := o.pending - 1
    { o with pending := left, phase := .active, phaseAt := now
             backlogSeen := o.backlogSeen && left != 0, lostInBacklog := o.lostInBacklog && left != 0 }
  else o

/-- An increase of d whole units reaches one output: as many pulses as the spill holds, pending up to 65,535, the rest lost. -/
def State.poIncrease (s : State) (n : Nat) (o : PulseOut) (d : Nat) : State :=
  let w := Nat.max o.set.weight 1
  let made := (o.spill + d) / w
  let room := Nat.min made (65535 - o.pending)
  let lost := made - room
  let pend := o.pending + room
  let back := !o.backlogSeen && 256 < pend
  let gone := 0 < lost && !o.lostInBacklog
  let o1 : PulseOut := { o with
    spill := (o.spill + d) % w, pending := pend, lost := o.lost + lost, lostSeen := o.lostSeen || 0 < lost
    backlogSeen := o.backlogSeen || back, lostInBacklog := o.lostInBacklog || gone }
  let s1 := s.setPo n (o1.drive s.now)
  let s2 := if back then s1.nrgEvent kindPulseOut n 0x106 else s1
  if gone then s2.nrgEvent kindPulseOut n 0x107 else s2

/-- An increase of accumulator a of point mp. -/
def State.accIncrease (s : State) (mp a d : Nat) : State :=
  if d == 0 then s
  else s.nrg.pos.foldl (fun s e =>
    if e.2.set.enable && e.2.set.mp == mp && e.2.set.acc == a then s.poIncrease e.1 e.2 d else s) s

/-! ## Accumulators (R189, R191) -/

/-- Microjoules in 1 mWh. -/
def mwhMicro : Nat := 3600000

/-- Add an increment in µJ: the accumulator, and the whole units and passes through 2^64 it made. -/
def Acc.add (a : Acc) (e : Nat) : Acc × Nat × Nat :=
  let d := (a.residue + e) / mwhMicro
  let w := (a.count.toNat + d) / 2 ^ 64
  ({ count := a.count + BitVec.ofNat 64 d, wraps := a.wraps + BitVec.ofNat 8 w, residue := (a.residue + e) % mwhMicro }, d, w)

/-- An increment for accumulator a of point n, with one event for each pass through 2^64. -/
def State.accAdd (s : State) (n a e : Nat) : State :=
  match tget n s.nrg.points with
  | none => s
  | some m =>
    let x := (m.accs[a]?.getD {}).add e
    let s1 := s.setMeter n { m with
      accs := m.accs.set a x.1, freshAt := s.now, fresh := if m.freshAt == s.now then (a, e) :: m.fresh else [(a, e)] }
    let s2 := (List.range x.2.2).foldl (fun s _ => s.nrgEvent kindMeter n 0x102) s1
    s2.accIncrease n a x.2.1

/-- Set the accumulators of a point to 0; an increment of the same TB_0 tick is applied after the clear (R192). -/
def Meter.cleared (m : Meter) (now : Stamp) : Meter :=
  let accs := (if m.freshAt == now then m.fresh.reverse else []).foldl
    (fun (l : List Acc) e => l.set e.1 ((l[e.1]?.getD {}).add e.2).1) (List.replicate 6 {})
  { m with accs, gapUnits := 0, accFault := false, startStamp := now }

/-! ## Updates -/

/-- Sign of a power by Table 06-5: its accumulators take values at or above 0, or below 0; a NaN takes none. -/
def extNonNeg (a : Frac) : Bool := extLe (frac 0) a
def extNeg (a : Frac) : Bool := !extNonNeg a && extLe a (frac 0)

/-- An energy increment in µJ from a power in W over `units` of 1/2,400 s, rounded to the nearest; a free value for an infinite power. -/
def State.increment (s : State) (p : Frac) (units : Nat) : Nat × State :=
  if extFinite p then ((fRound (fMul (fAbs p) (frac (units * 1250) 3))).toNat, s) else s.free

/-- The reactive accumulator of an update. -/
def reactiveAcc (p q : Frac) : Option Nat :=
  if extNonNeg p && extNonNeg q then some 2
  else if extNeg p && extNonNeg q then some 3
  else if extNeg p && extNeg q then some 4
  else if extNonNeg p && extNeg q then some 5
  else none

/-- An update of a running point (R189, R193): its record, and its energy, or its gap. `units` counts its τ in 1/2,400 s. -/
def State.meterUpdate (s : State) (n : Nat) (res : NrgResult) (p q : Frac) (units : Nat) (usable : Bool) : State :=
  match tget n s.nrg.points with
  | none => s
  | some m =>
    let m1 : Meter := { m with running := true, lost := false, res := { res with gap := !usable } }
    if usable then
      let s0 := s.setMeter n { m1 with integrated := true }
      let a := s0.increment p units
      let s1 := if extNonNeg p then a.2.accAdd n 0 a.1 else if extNeg p then a.2.accAdd n 1 a.1 else a.2
      match reactiveAcc p q with
      | some r =>
        let b := s1.increment q units
        b.2.accAdd n r b.1
      | none => s1
    else
      let s1 := (s.setMeter n { m1 with integrated := false, gapUnits := m1.gapUnits + units }).spoilChecks n
      if !m.integrated then s1
      else
        let part := s.holder kindMeter n
        { s1 with nrg := { s1.nrg with gapSeen := part :: s1.nrg.gapSeen.filter (· != part) } }.nrgEvent kindMeter n 0x101

/-! ## Quantities from phasors (R187) -/

def extMul (a b : Frac) : Frac :=
  if a.den != 0 && b.den != 0 then fMul a b
  else { num := a.num.sign * b.num.sign, den := 0 }

def extNegate (a : Frac) : Frac := { a with num := -a.num }

/-- A phasor with extended parts. -/
structure ExtPhasor where
  re : Frac
  im : Frac
  deriving DecidableEq, Repr

def ExtPhasor.neg (a : ExtPhasor) : ExtPhasor := { re := extNegate a.re, im := extNegate a.im }

/-- a · conj(b). -/
def ExtPhasor.mulConj (a b : ExtPhasor) : ExtPhasor :=
  { re := extAdd (extMul a.re b.re) (extMul a.im b.im), im := extAdd (extMul a.im b.re) (extNegate (extMul a.re b.im)) }

/-- The phasor of a channel value; NaN for a value of another TYPE. -/
def phasorOf (v : ChanVal) : ExtPhasor :=
  if v.type == 0 then { re := extOf (f32Val (wordRe v.value)), im := extOf (f32Val (wordIm v.value)) }
  else { re := { num := 0, den := 0 }, im := { num := 0, den := 0 } }

/-- √(a² + b²), with 40 bits beyond binary64, as an extended number. -/
def extHypot (a b : Frac) : Frac :=
  let q := extAdd (extMul a a) (extMul b b)
  if extFinite q then f64D (sqrt64 q) else q

/-- arg in degrees as binary32. -/
def argImage (a : ExtPhasor) : BitVec 32 :=
  if extFinite a.re && extFinite a.im then f32Of (frac (argDeg a.re a.im) angleUnit) else nan32

/-- PF: P ÷ S, or 0 where S is at or below S_FLOOR (Table 06-3). -/
def powerFactor (p sVA : Frac) (floor : BitVec 32) : BitVec 32 :=
  if extLe sVA (extOf (f32Val floor)) then 0
  else if extFinite p && extFinite sVA && !fIsZero sVA then f32Of (fDiv p sVA)
  else nan32

/-- `n` binary32 words that the manual leaves open. -/
def State.freeWords (s : State) : Nat → List (BitVec 32) × State
  | 0 => ([], s)
  | n + 1 =>
    let a := s.free
    let r := a.2.freeWords n
    (BitVec.ofNat 32 a.1 :: r.1, r.2)

/-- The entry of a slice for a channel of a stream. -/
def Slice.find (x : Slice) (stream ch : Nat) : Option SliceEntry := x.entries.find? (fun e => e.stream == stream && e.ch == ch)

def SliceEntry.val (e : SliceEntry) : ChanVal := { type := e.type, value := e.value, qual := e.qual, usable := true }

/-- An entry that keeps an update from being integrated (R193). -/
def SliceEntry.unusable (e : SliceEntry) : Bool := substOf e.qual != 0 || qHas e.qual (qInvalid ||| qTest)

/-- FNOM of a channel of a stream: its unit's, or its layout's. -/
def State.chanFnom (s : State) (stream ch inst : Nat) : Int :=
  match s.unitOf stream with
  | some u => (u.2.fnom : Int)
  | none => match (s.streamSt stream).layoutAt inst with
    | some l => if (l.blocks.flatten[ch]?.map (·.fnom50)).getD false then 50 else 60
    | none => 60

/-- Frequency of a SOURCE 2 point and whether its channel was usable; NaN with none named. -/
def State.meterFreq (s : State) (p : NrgPointSet) (x : Slice) : BitVec 32 × Bool :=
  if p.freqStream == 0xFFFF then (nan32, true)
  else match x.find p.freqStream p.freqCh with
    | none => (nan32, false)
    | some e =>
      match e.type, f32Num (wordRe e.value) with
      | 1, some f => (f32Of (fAdd (frac (s.chanFnom p.freqStream p.freqCh x.inst)) (fDiv f (frac 1000))), !e.unusable)
      | _, _ => (nan32, !e.unusable)

/-- Update of a SOURCE 2 point from a released slice. -/
def State.meterSlice (s : State) (n : Nat) (m : Meter) (x : Slice) : State :=
  let p := m.set
  let used := if p.wiring == 2 then [0, 3] else [0, 1, 2, 3, 4, 5]
  let es := used.map (fun i => x.find p.stream ((p.ch[i]?).getD 0xFF))
  let ph := es.map (fun e => match e with
    | some e => phasorOf e.val
    | none => { re := { num := 0, den := 0 }, im := { num := 0, den := 0 } })
  let at_ := fun (i : Nat) => (ph[i]?).getD { re := frac 0, im := frac 0 }
  let half := used.length / 2
  let vs := (List.range half).map at_
  let is := (List.range half).map (fun i => if p.reverse then (at_ (half + i)).neg else at_ (half + i))
  let prod := (vs.zip is).map (fun e => e.1.mulConj e.2)
  let gain : Frac := if p.wiring == 2 then frac 3 else frac 1
  let pw := extMul gain (prod.foldl (fun a e => extAdd a e.re) (frac 0))
  let qw := extMul gain (prod.foldl (fun a e => extAdd a e.im) (frac 0))
  let sv := extHypot pw qw
  let fr := s.meterFreq p x
  let mag := fun (a : ExtPhasor) => extF32 (extHypot a.re a.im)
  let va := (vs[0]?).getD { re := frac 0, im := frac 0 }
  let lag := (vs.zip is).map (fun e => argImage (e.1.mulConj e.2))
  let fw := if p.wiring == 2 then s.freeWords 8 else ([], s)
  let free := fun (i : Nat) => (fw.1[i]?).getD 0
  let rms := if p.wiring == 2 then
      [mag va, free 0, free 1, (is[0]?.map mag).getD 0, free 2, free 3] else (vs ++ is).map mag
  let angles := if p.wiring == 2 then [free 4, free 5] ++ lag ++ [free 6, free 7]
    else (vs.drop 1).map (fun v => argImage (v.mulConj va)) ++ lag
  let res : NrgResult := {
    stamp := (instNs x.inst : Int), rms, power := [extF32 pw, extF32 qw, extF32 sv, powerFactor pw sv p.sFloor, fr.1], angles
    questionable := es.any (fun e => e.any (fun y => qHas y.qual qQuestionable)), freqInvalid := !fr.2 }
  let usable := fr.2 && es.all (fun e => e.any (fun y => !y.unusable && y.type == 0))
  fw.2.meterUpdate n res pw qw (2400 / Nat.max ((s.group x.group).map (·.set.rate) |>.getD 1) 1) usable

/-- A released slice reaches the metering points of its group (R187). -/
def State.metersSlice (s : State) (x : Slice) : State :=
  s.nrg.points.foldl (fun s e =>
    if e.2.set.enable && e.2.set.source == 2 && e.2.set.group == x.group && s.meterSource e.2.set then s.meterSlice e.1 e.2 x else s) s

end Sys2Proof.Machine
end

