-- ==== Sys2Proof/Machine/OscOps.lean ====
section
/-!
DEFINITION. Detectors and modal signals as samples and departures reach them (07_oscillation R205 to R213, R218). A sample is numbered from the
start of its base's timescale at its own rate.
-/
namespace Sys2Proof.Machine

def State.setDet (s : State) (n : Nat) (d : Detector) : State := { s with osc := { s.osc with dets := tset n d s.osc.dets } }

/-- An event of a detector (R226): Table 07-18 type, index in its group of 64, and the command flag. -/
def State.detEvent (s : State) (n type : Nat) (byCmd : Bool := false) : State :=
  s.evt [s.holder kindDetector n] (0x120 + n / 64) (type + 256 * (n % 64) + 65536 * b2n byCmd)

/-- Partitions told of the modal engine (R226). -/
def State.modalReaders (s : State) : List Nat := s.readersOf kindModal 0

/-! ## Rates and windows -/

/-- Sample rate of a source of Table 07-2. -/
def State.srcRate (s : State) (src group id : Nat) : Nat :=
  if src == 0 then ((s.group group).map (·.set.rate)).getD 0
  else if src == 1 then ((tget id s.wch.units).map s.unitRate).getD 0
  else match tget id s.wch.taps with
    | some x => ((tget x.unit s.wch.units).map (fun u => tapRate (s.svRate u.set.stream))).getD 0
    | none => 0

/-- Nw of R207. -/
def detWindow (winMs rate : Nat) : Nat := (2 * winMs * rate + 1000) / 2000

/-- Priming samples of R212. -/
def detPrime (p : OscDetSet) (rate : Nat) : Nat :=
  let d := fSub (f32D p.fHigh) (f32D p.fLow)
  detWindow p.winMs rate + (if d.num ≤ 0 then 0 else ceilDiv (3 * rate * d.den) d.num.toNat)

/-- A whole turn in parts of a radian. -/
def turnRad : Int := 6283185307179586476925287

/-- An angle wrapped into (−π, π]. -/
def wrapRad (x : Int) : Int := turnRad / 2 - (turnRad / 2 - x) % turnRad

/-! ## Grants and completeness of a source (R205, R210, R214) -/

/-- A partition may take a source: what it holds, or a contract that it may read. -/
def State.srcMay (s : State) (part src id : Nat) : Bool :=
  if src == 0 then s.reads part kindStream id
  else if src == 1 then s.holds part kindUnit id
  else (tget id s.wch.taps).any (fun t => t.part == part && s.holds part kindUnit t.unit)

/-- What is added to the time of a sample by its number, in ns: TIME_CORR_NS of its unit (05_waveform_chain Table 05-10), and for the wideband feed the delay
τ_WB, which is compensated in its timestamps (R204). -/
def State.srcOffset (s : State) (src id : Nat) : Int :=
  let corr := fun (n : Nat) => ((tget n s.wch.units).map (·.set.timeCorrNs)).getD 0
  if src == 1 then corr id - 4000000 else if src == 2 then ((tget id s.wch.taps).map (fun t => corr t.unit)).getD 0 else 0

/-- The number of the latest sample whose time is at or before an instant (R207, R210). -/
def lastIndex (inst rate : Nat) (offset : Int) : Int :=
  (((inst * rate * 1000000000 : Nat) : Int) - offset * ((rate * 1200 : Nat) : Int)) / 1200000000000

/-- The number of the latest sample that a source of SRC 1 or SRC 2 has completed. -/
def State.srcLast (s : State) (src id : Nat) : Option Int :=
  if src == 1 then (tget id s.wch.units).bind (fun u => u.wideOut.head?.map (fun x => (x.k : Int)))
  else (tget id s.wch.taps).bind (·.last)

/-! ## Inputs (Table 07-2) -/

/-- What a sample gives a detector: nothing usable, a value, or an angle to be unwrapped, in parts of a radian (`angleUnit`). -/
inductive DetIn where
  | bad
  | value (v : Frac)
  | angle (a : Int)
  deriving DecidableEq, Repr

def argOf (v : ExtPhasor) : DetIn :=
  if extFinite v.re && extFinite v.im then .angle (argRad v.re v.im) else .bad

/-- A quantity of phasors: QTY 0 to 2. -/
def phasorIn (qty : Nat) (v ref : ExtPhasor) : DetIn :=
  if qty == 0 then .value (extHypot v.re v.im)
  else if qty == 1 then argOf v
  else match argOf v, argOf ref with
    | .angle a, .angle b => .angle (a - b)
    | _, _ => .bad

/-- An entry that a detector cannot use (R211). -/
def SliceEntry.detBad (e : SliceEntry) : Bool := substOf e.qual != 0 || qHas e.qual (qInvalid ||| qOverrange)

/-- The sample of SRC 0 from a slice, with the quality it carries. -/
def sliceIn (x : Slice) (qty stream ch refStream refCh : Nat) : DetIn × W16 :=
  match x.find stream ch with
  | none => (.bad, 0)
  | some e =>
    if e.detBad then (.bad, e.qual)
    else if qty == 3 then
      (if e.type == 1 || e.type == 2 || e.type == 3 then .value (extOf (f32Val (wordRe e.value))) else .bad, e.qual)
    else if e.type != 0 then (.bad, e.qual)
    else if qty == 2 then
      match x.find refStream refCh with
      | none => (.bad, e.qual)
      | some r =>
        (if r.detBad || r.type != 0 then .bad else phasorIn 2 (phasorOf e.val) (phasorOf r.val), e.qual ||| r.qual)
    else (phasorIn qty (phasorOf e.val) (phasorOf e.val), e.qual)

/-! ## The Butterworth band-pass (R206) -/

def f64Add (a b : BitVec 64) : BitVec 64 := extF64 (extAdd (extOf (f64Val a)) (extOf (f64Val b)))
def f64Neg (a : BitVec 64) : BitVec 64 := a ^^^ (1 <<< 63)
def f64Sub (a b : BitVec 64) : BitVec 64 := f64Add a (f64Neg b)
def f64Mul (a b : BitVec 64) : BitVec 64 := extF64 (extMul (extOf (f64Val a)) (extOf (f64Val b)))

/-- The quotient of two extended numbers. -/
def extQuot (a b : Frac) : Frac :=
  if extFinite a && extFinite b then (if b.num == 0 then { num := a.num.sign, den := 0 } else fReduce (fDiv a b))
  else if extFinite a then (if b.num == 0 then b else frac 0)
  else if extFinite b then (if b.num < 0 then extNegate a else a)
  else { num := 0, den := 0 }

def f64Div (a b : BitVec 64) : BitVec 64 := extF64 (extQuot (extOf (f64Val a)) (extOf (f64Val b)))

/-- A binary64 number stored in binary32. -/
def f32Of64 (v : BitVec 64) : BitVec 32 := extF32 (extOf (f64Val v))

/-- A square root of a binary64 number; negative rounding residues count as 0. -/
def f64Sqrt (a : BitVec 64) : BitVec 64 :=
  let x := extOf (f64Val a)
  if extFinite x then sqrt64 x else a

/-- The product of two numbers of `Trig`'s fixed point. -/
def fixMul (a b : Int) : Int := a * b / (fixOne : Int)

/-- A prewarped edge, tan(π F ÷ rate), in that fixed point. -/
def prewarp (f : BitVec 32) (rate : Nat) : Int :=
  let t := fMul (f32D f) (frac 1 (2 * Nat.max rate 1))
  let c := cosFix t
  if c == 0 then 0 else sinFix t * (fixOne : Int) / c

/-- The square root of a complex number of that fixed point with the real part not below 0. -/
def complexSqrt (re im : Int) : Int × Int :=
  let r := isqrt (re * re + im * im).toNat
  let a := isqrt ((((r : Int) + re) * (fixOne : Int) / 2).toNat)
  let b := isqrt ((((r : Int) - re) * (fixOne : Int) / 2).toNat)
  ((a : Int), if im < 0 then -(b : Int) else (b : Int))

/-- The analogue sections s² + a₁s + a₀ of a band-pass with `n` prototype poles e^(jπ(2k+n+1)/(2n)), from the width B of the band and ω₀²: a conjugate pair of
prototype poles gives two sections, a real one gives one. -/
def bandSections (n : Nat) (b w2 : Int) : List (Int × Int) :=
  (List.range ((n + 1) / 2)).flatMap (fun k =>
    let t := frac (2 * k + n + 1 : Nat) (4 * Nat.max n 1)
    if 2 * k + 1 == n then [(b, w2)]
    else
      -- roots of s² − pBs + ω₀²
      let pr := fixMul (cosFix t) b
      let pi := fixMul (sinFix t) b
      let d := complexSqrt (fixMul pr pr - fixMul pi pi - 4 * w2) (2 * fixMul pr pi)
      [((pr + d.1) / 2, (pi + d.2) / 2), ((pr - d.1) / 2, (pi - d.2) / 2)].map (fun q => (-(2 * q.1), fixMul q.1 q.1 + fixMul q.2 q.2)))

/-- A digital section by the bilinear transform: b₀ = −b₂ = B ÷ d, b₁ = 0, and a₁, a₂, with d = 1 + a₁ + a₀ of the analogue one. -/
structure Section where
  b0 : BitVec 64
  a1 : BitVec 64
  a2 : BitVec 64
  deriving DecidableEq, Repr

/-- The ORDER ÷ 2 second-order sections of a detector (R206), each coefficient rounded to binary64 once. -/
def detSections (order rate : Nat) (fLow fHigh : BitVec 32) : List Section :=
  let w1 := prewarp fLow rate
  let wh := prewarp fHigh rate
  let b := wh - w1
  (bandSections (order / 2) b (fixMul w1 wh)).map (fun e =>
    let one : Int := fixOne
    let d := (one + e.1 + e.2).toNat
    { b0 := f64Of (frac b d), a1 := f64Of (frac (2 * e.2 - 2 * one) d), a2 := f64Of (frac (one - e.1 + e.2) d) })

/-- One step through the sections in transposed direct form II, each operation in binary64; the state holds two numbers for each section. -/
def detStep : List Section → List (BitVec 64) → BitVec 64 → BitVec 64 × List (BitVec 64)
  | [], _, x => (x, [])
  | c :: r, z, x =>
    let z1 := (z[0]?).getD 0
    let z2 := (z[1]?).getD 0
    let u := f64Mul c.b0 x
    let y := f64Add u z1
    let n := detStep r (z.drop 2) y
    (n.1, f64Sub z2 (f64Mul c.a1 y) :: f64Sub (f64Neg u) (f64Mul c.a2 y) :: n.2)

/-! ## Feeding a detector (R207, R211, R212) -/

/-- The filter and the window afresh: priming begins. -/
def Detector.reset (d : Detector) : Detector := { d with filt := [], win := [], primeFrom := none, badRun := 0, primed := false }

/-- The value of a sample, with the unwrapping of an angle carried on: the angle so far and the argument last seen. -/
def unwrapIn (angle : Int) (lastArg : Option Int) (x : DetIn) : Option Frac × Int × Option Int :=
  match x with
  | .bad => (none, angle, lastArg)
  | .value v => (some v, angle, lastArg)
  | .angle a =>
    let acc := match lastArg with
      | some l => angle + wrapRad (a - l)
      | none => wrapRad a
    (some (frac acc angleUnit), acc, some a)

/-- The input image of a sample. -/
def Detector.input (d : Detector) (x : DetIn) : Option (BitVec 64) × Detector :=
  let r := unwrapIn d.angle d.lastArg x
  (r.1.map extF64, { d with angle := r.2.1, lastArg := r.2.2 })

/-- The running sum of squares over the latest `nw` outputs after a new one: the square that leaves is taken off, and once every `nw` samples the sum is formed
again from the stored outputs (R207). `count` numbers the new output since priming began. -/
def runningSum (nw : Nat) (count : Int) (win : List DetSample) (y : BitVec 64) : BitVec 64 :=
  if count % (Nat.max nw 1 : Nat) == 0 then
    ((win.take (nw - 1)).reverse.map (·.y) ++ [y]).foldl (fun a v => f64Add a (f64Mul v v)) 0
  else
    let s := f64Add ((win.head?.map (·.sum)).getD 0) (f64Mul y y)
    match win[nw - 1]? with
    | some o => f64Sub s (f64Mul o.y o.y)
    | none => s

/-- One sample, numbered `time`. Answers whether the filter was reset, which a run of unusable samples does once, at the first beyond Nw (R211). -/
def Detector.feed (d : Detector) (rate : Nat) (time : Int) (x : DetIn) (qual : W16) : Detector × Bool :=
  let i := d.input x
  let bad := i.1.isNone
  let img := i.1.getD d.lastIn
  let run := if bad then i.2.badRun + 1 else 0
  let nw := detWindow d.set.winMs rate
  let excess := run == nw + 1
  let d1 : Detector := { (if excess then i.2.reset else i.2) with badRun := run }
  let f := detStep (detSections d.set.order rate d.set.fLow d.set.fHigh) d1.filt img
  let from_ := d1.primeFrom.getD time
  ({ d1 with
      filt := f.2, lastIn := img, lastTime := some time, primeFrom := some from_
      win := { time, y := f.1, sum := runningSum nw (time - from_ + 1) d1.win f.1, bad, qual } :: d1.win.take (nw + rate) }, excess)

/-- The time of a sample in ns, to the nearest. -/
def sampleNs (time : Int) (rate : Nat) : Int := fRound (frac (time * 1000000000) (Nat.max rate 1))

/-- A change of state, stamped with T and said. -/
def State.detTo (s : State) (n : Nat) (d : Detector) (on : Bool) (stamp : Int) (byCmd : Bool) : State :=
  (s.setDet n { d with asserted := on, changed := true, stamp, runAbove := 0, runBelow := 0 }).detEvent n (if on then 1 else 2) byCmd

/-- Feed a detector in the state. A filter reset is counted, and an asserted detector releases there, as it is released while it primes (R208, R212). -/
def State.detFeed (s : State) (n rate : Nat) (time : Int) (x : DetIn) (qual : W16) : State :=
  match tget n s.osc.dets with
  | none => s
  | some d =>
    let r := d.feed rate time x qual
    let at_ := sampleNs time rate + s.srcOffset d.set.src d.set.sourceId
    let s1 := if r.2 && d.asserted then s.detTo n r.1 false at_ false else s.setDet n r.1
    if r.2 then s1.count .osc 2 else s1

/-- Feed the instants that were skipped between the latest sample and this one as unusable, one by one (R211). -/
def State.detSkipped (s : State) (n rate : Nat) (time : Int) : State :=
  match (tget n s.osc.dets).bind (·.lastTime) with
  | none => s
  | some l => (List.range (time - l - 1).toNat).foldl (fun s (i : Nat) => s.detFeed n rate (l + 1 + (i : Int)) .bad 0) s

/-! ## Decisions (R208, R210 to R213) -/

/-- One verdict against level and hysteresis. -/
inductive Verdict where
  | above
  | below
  | between
  deriving DecidableEq, Repr

/-- A of R207 from the running sum over `nw` outputs. -/
def bandAmplitude (sum : BitVec 64) (nw : Nat) : BitVec 64 :=
  f64Sqrt (extF64 (extDiv (extOf (f64Val sum)) (Nat.max nw 1)))

/-- A against LEVEL and LEVEL − HYST (R208); nothing where it is not a number. -/
def Detector.verdict (d : Detector) (amp : BitVec 64) : Verdict :=
  let a := extOf (f64Val amp)
  let lv := extOf (f32Val d.set.level)
  if extLt lv a then .above
  else if extLt a (extAdd lv (extNegate (extOf (f32Val d.set.hyst)))) then .below
  else .between

/-- A timely decision without a verdict: the persistence count restarts. -/
def Detector.noVerdict (d : Detector) : Detector := { d with runAbove := 0, runBelow := 0, timely := true }

/-- A detector after a verdict on A: its runs above and below (R209, R210). -/
def Detector.judged (d : Detector) (amp : BitVec 64) : Detector :=
  let v := d.verdict amp
  { d with
    timely := true, hadVerdict := true, primed := true
    amp := extF32 (extOf (f64Val amp))
    runAbove := if v == .above then d.runAbove + 1 else 0
    runBelow := if v == .below then d.runBelow + 1 else 0 }

/-- What a judged detector leads to: primed, asserted or released. -/
def State.detChange (s : State) (n : Nat) (primed : Bool) (d : Detector) (stamp : Int) : State :=
  let s1 := if primed then s.setDet n d else (s.setDet n d).detEvent n 5
  if !d.asserted && d.set.persist + 1 ≤ d.runAbove then s1.detTo n d true stamp false
  else if d.asserted && d.set.persist + 1 ≤ d.runBelow then s1.detTo n d false stamp false
  else s1

/-- The samples of a detector up to number `idx` have all come (R210): those of SRC 0 come with the slice. -/
def State.detComplete (s : State) (d : Detector) (idx : Int) : Bool :=
  d.set.src == 0 || (s.srcLast d.set.src d.set.sourceId).any (fun l => decide (idx ≤ l))

/-- A decision for instant T. `idx` is the number of the latest sample at or before T. -/
def State.detDecide (s : State) (n rate : Nat) (idx : Int) (stamp : Int) : State :=
  match tget n s.osc.dets with
  | none => s
  | some d =>
    let nw := detWindow d.set.winMs rate
    if !s.detComplete d idx then
      let s1 := (s.setDet n { d with timely := false }).count .osc 0
      if d.timely then s1.detEvent n 3 else s1
    else
      let w := (d.win.filter (fun x => decide (x.time ≤ idx))).take nw
      let test := w.any (fun x => qHas x.qual qTest)
      let d0 : Detector := { d with test }
      if d.primeFrom.all (fun f => decide (idx - f < (detPrime d.set rate : Int))) then
        s.setDet n d0.noVerdict
      else if nw * d.set.badPm < 1000 * (w.filter (·.bad)).length then
        let s1 := (s.setDet n { d0.noVerdict with hadVerdict := false }).count .osc 1
        if d.hadVerdict then s1.detEvent n 4 else s1
      else
        s.detChange n d.primed (d0.judged (bandAmplitude ((w.head?.map (·.sum)).getD 0) nw)) stamp

/-- A change by OSC_DET_SET takes effect (R213): it primes, and an asserted detector releases at this decision. A detector that is turned off keeps only its
CHANGED bit and the stamp of its last change. -/
def State.detApply (s : State) (n : Nat) (d : Detector) (p : OscDetSet) (stamp : Int) : State :=
  let d1 : Detector := { set := { p with enable := p.enable && p.src != 0xFF }, changed := d.changed, stamp := d.stamp, next := d.next.drop 1 }
  if d.asserted then s.detTo n d1 false stamp true else s.setDet n d1

/-- How many of a detector's waiting changes apply at a release: those that completed before its tick, all of them where it is the release of the detector's
present group, else those up to the last that moves it to this one. A setting that turns it off names no group. -/
def Detector.changesDue (d : Detector) (x : Slice) : Nat :=
  let done := d.next.filter (fun e => decide (e.2 < x.rel))
  if d.set.enable && d.set.group == x.group then done.length
  else
    let hit := fun (e : OscDetSet × Stamp) => if e.1.src == 0xFF then !d.set.enable else e.1.group == x.group
    done.length - (done.reverse.findIdx? hit).getD done.length

/-- The changes of a detector that completed before this release apply to it, one after the other (R213). -/
def State.detChanges (k : Nat) (s : State) (n : Nat) (x : Slice) : State :=
  match k, tget n s.osc.dets with
  | k + 1, some d =>
    match d.next with
    | (p, _) :: _ => (s.detApply n d p (instNs x.inst : Int)).detChanges k n x
    | [] => s
  | _, _ => s

/-- A release of group g reaches one detector (R208 to R213). -/
def State.detRelease (s : State) (n : Nat) (x : Slice) : State :=
  let s1 := s.detChanges (((tget n s.osc.dets).map (·.changesDue x)).getD 0) n x
  match tget n s1.osc.dets with
  | none => s1
  | some d =>
    if !d.set.enable || d.set.group != x.group then s1
    else
      let part := s1.holder kindDetector n
      let rate := s1.srcRate d.set.src d.set.group d.set.sourceId
      let idx := lastIndex x.inst rate (s1.srcOffset d.set.src d.set.sourceId)
      let s2 := if d.set.src == 0 then
          let may := s1.srcMay part 0 d.set.sourceId && (d.set.qty != 2 || s1.srcMay part 0 d.set.refStream)
          let i := if may then sliceIn x d.set.qty d.set.sourceId d.set.ch d.set.refStream d.set.refCh else (.bad, 0)
          (s1.detSkipped n rate idx).detFeed n rate idx i.1 i.2
        else s1
      s2.detDecide n rate idx (instNs x.inst : Int)

/-! ## Modal signals (R216, R218) -/

/-- One source sample of a signal. -/
def State.sigFeed (s : State) (n rate : Nat) (time : Int) (x : DetIn) (qual : W16) : State :=
  match tget n s.osc.sigs with
  | none => s
  | some g =>
    let r := unwrapIn g.angle g.lastArg x
    let y : SigSample := { time, v := r.1.filter extFinite, qual, at_ := s.now }
    { s with osc := { s.osc with sigs := tset n { g with angle := r.2.1, lastArg := r.2.2, hist := y :: g.hist.take (66 * rate) } s.osc.sigs } }

/-- A released slice reaches the signals on its group whose source the engine's holder may take (R214). -/
def State.sigsSlice (s : State) (x : Slice) : State :=
  s.osc.sigs.foldl (fun s e =>
    let p := e.2.set
    if p.src == 0 && p.group == x.group then
      let rate := s.srcRate 0 x.group 0
      let part := s.holder kindModal 0
      let may := s.srcMay part 0 p.sourceId && (p.qty != 2 || s.srcMay part 0 p.refStream)
      let y := if may then sliceIn x p.qty p.sourceId p.ch p.refStream p.refCh else (.bad, 0)
      s.sigFeed e.1 rate (lastIndex x.inst rate 0) y.1 y.2
    else s) s

/-- DETECTOR_DECISION: a released slice reaches the detectors of its group and the modal signals. -/
def State.oscSlice (s : State) (x : Slice) : State :=
  ((s.osc.dets.map (·.1)).foldl (fun s n => s.detRelease n x) s).sigsSlice x

/-- Samples of a waveform source, SRC 1 or SRC 2, reach the detectors and signals whose partition may take it (R205, R214). `get` gives the sample of a channel
for a quantity, with the quality it carries. -/
def State.oscFeed (s : State) (src id : Nat) (rate : Nat) (time : Int) (get : Nat → Nat → DetIn × W16) : State :=
  let s1 := s.osc.dets.foldl (fun s e =>
    if e.2.set.enable && e.2.set.src == src && e.2.set.sourceId == id && s.srcMay (s.holder kindDetector e.1) src id then
      let i := get e.2.set.qty e.2.set.ch
      (s.detSkipped e.1 rate time).detFeed e.1 rate time i.1 i.2
    else s) s
  s1.osc.sigs.foldl (fun s e =>
    if e.2.set.src == src && e.2.set.sourceId == id && s.srcMay (s.holder kindModal 0) src id then
      let y := get e.2.set.qty e.2.set.ch
      s.sigFeed e.1 rate time y.1 y.2
    else s) s1

end Sys2Proof.Machine
end

