-- ==== Sys2Proof/Machine/CohOps.lean ====
section
/-!
DEFINITION. The evaluation of the coherency engine (08_coherency R231 to R247). Angles are in parts of a radian (`angleUnit`); the centre
reference is formed in binary64, other means are exact; an instant is in units of 1/1,200 s.
-/
namespace Sys2Proof.Machine

/-- The partitions told of the engine (R250). -/
def State.cohReaders (s : State) : List Nat := s.readersOf kindCoherency 0

def State.setEval (s : State) (e : CohEval) : State := { s with coh := { s.coh with eval := e } }

/-- Nw of R231. -/
def cohWindow (winMs rate : Nat) : Nat := (2 * winMs * rate + 1000) / 2000

/-- Units between instants, and the window, of an evaluation. -/
structure CohFrame where
  set : CohSet
  inst : Nat
  rate : Nat
  deriving DecidableEq, Repr

def CohFrame.step (f : CohFrame) : Nat := rateUnits f.rate
def CohFrame.nw (f : CohFrame) : Nat := cohWindow f.set.winMs f.rate
def CohFrame.half (f : CohFrame) : Nat := ceilDiv f.nw 2
def CohFrame.start (f : CohFrame) : Int := (f.inst : Int) - ((f.nw - 1) * f.step : Nat)
def CohFrame.fnom (f : CohFrame) : Int := if f.set.fnom60 then 60 else 50

/-! ## Means -/

/-- The weight of a bus; a weight of +∞ is one too (Table 08-5 refuses only a negative one and a NaN). -/
def Bus.weight (b : Bus) : Frac := extOf (f32Val b.set.weight)

/-- Inertia-weighted mean, unweighted where the weights sum to 0; none of nothing. -/
def wmean (l : List (Frac × Frac)) : Option Frac :=
  if l.isEmpty then none
  else
    let w := l.foldl (fun a x => extAdd a x.1) (frac 0)
    if extFinite w && fIsZero w then some (extDiv (l.foldl (fun a x => extAdd a x.2) (frac 0)) l.length)
    else some (extQuot (l.foldl (fun a x => extAdd a (extMul x.1 x.2)) (frac 0)) w)

/-- The same mean formed in binary64, bus by bus (R236). -/
def wmean64 (l : List (BitVec 64 × BitVec 64)) : Option (BitVec 64) :=
  if l.isEmpty then none
  else
    let w := l.foldl (fun a x => f64Add a x.1) 0
    if extFinite (extOf (f64Val w)) && fIsZero (extOf (f64Val w)) then some (f64Div (l.foldl (fun a x => f64Add a x.2) 0) (f64Of (frac l.length)))
    else some (f64Div (l.foldl (fun a x => f64Add a (f64Mul x.1 x.2)) 0) w)

/-- The binary64 images of a bus's weight, θ and ν′. -/
def Bus.weight64 (b : Bus) : BitVec 64 := extF64 b.weight
def Bus.theta64 (b : Bus) : BitVec 64 := match b.theta with
  | some a => f64Of (frac a angleUnit)
  | none => nan64
def Bus.nu64 (b : Bus) : BitVec 64 := f64Of b.nuPrime

/-! ## Samples (R232 to R236) -/

/-- An entry that meets R232. -/
def cohOk (p : CohSet) (e : SliceEntry) : Bool :=
  substOf e.qual == 0 && !qHas e.qual (qInvalid ||| qOverrange) && !(p.exclTu && qHas e.qual qTimeUncertain)

/-- What a bus sees at an instant: the argument of its phasor, its ν′ where usable, whether it restarts, and TEST. -/
structure BusIn where
  arg : Option Int
  nu : Option Frac
  restart : Bool
  test : Bool
  deriving DecidableEq, Repr

/-- The input of a bus from a slice: nothing of a stream that the engine's holder may not use (R230). -/
def CohFrame.busIn (f : CohFrame) (may : Nat → Bool) (b : Bus) (x0 : Slice) : BusIn :=
  let x : Slice := if may b.set.stream then x0 else { x0 with entries := [] }
  let ph := match x.find b.set.stream b.set.ch with
    | some e => if cohOk f.set e && e.type == 0 then
        (match argOf (phasorOf e.val) with
          | .angle a => some a
          | _ => none) else none
    | none => none
  let named := b.set.freqCh != 0xFF
  let fq := x.find b.set.stream b.set.freqCh
  let nu := match ph with
    | none => none
    | some a =>
      if named then (match fq with
        | some e => if cohOk f.set e && e.type == 1 then f32Num (wordRe e.value) else none
        | none => none)
      else match b.phasor with
        | some (t, p) => if t + f.step == f.inst then some (frac (1000 * (f.rate : Int) * wrapRad (a - p)) turnRad.toNat) else none
        | none => none
  let tested := fun (e : Option SliceEntry) => e.any (fun y => qHas y.qual qTest)
  { arg := ph, nu
    restart := b.lastInst.all (fun t => decide (t + 120 < f.inst))
    test := tested (x.find b.set.stream b.set.ch) || (named && tested fq) }

/-- The unwrapped angle at a usable instant of a bus that does not restart (R233); none is a NaN. -/
def Bus.unwrap (b : Bus) (a : Int) : Option Int := b.theta.map (· + wrapRad (a - b.arg))

/-- The angle of a bus that restarts: next to the centre reference, where one is formed (R233). -/
def restartAngle (coi : Option (BitVec 64)) (a : Int) : Option Int :=
  match coi with
  | none => some a
  | some v => (f64Num v).map (fun c => fRound (fMul c (frac angleUnit)) + wrapRad (a - fRound (fMul c (frac angleUnit))))

/-- Samples of an instant: every bus with its input. -/
def CohFrame.sample (f : CohFrame) (may : Nat → Bool) (buses : Table Bus) (x : Slice) : Table Bus × BitVec 64 × BitVec 64 :=
  let ins := buses.map (fun e => (e.1, e.2, f.busIn may e.2 x))
  let steady := ins.filterMap (fun e => match e.2.2.arg, e.2.2.nu with
    | some a, some _ => if e.2.2.restart then none else some (e.2.1.weight64, ({ e.2.1 with theta := e.2.1.unwrap a } : Bus).theta64)
    | _, _ => none)
  let coi0 := wmean64 steady
  let placed := ins.map (fun e =>
    let b := e.2.1
    let i := e.2.2
    let ph := i.arg.map (fun a => (f.inst, a))
    match i.arg, i.nu with
    | some a, some v =>
      let th := if i.restart then restartAngle coi0 a else b.unwrap a
      let win := if i.restart then [] else b.win
      (e.1, ({ b with theta := th, arg := a, lastInst := some f.inst, phasor := ph, nuPrime := v, usable := true, win } : Bus), i.test)
    | _, _ => (e.1, ({ b with phasor := ph, usable := false } : Bus), i.test))
  let use := placed.filter (fun e => e.2.1.usable)
  let coi := (wmean64 (use.map (fun e => (e.2.1.weight64, e.2.1.theta64)))).getD 0
  let cof := (wmean64 (use.map (fun e => (e.2.1.weight64, e.2.1.nu64)))).getD 0
  (placed.map (fun e =>
    let b := e.2.1
    let old := b.win.filter (fun w => decide (f.start ≤ (w.inst : Int)))
    let win := if b.usable then
        ({ inst := f.inst, delta := f32Of64 (f64Sub b.theta64 coi), nu := f32Of64 (f64Sub b.nu64 cof), test := e.2.2 } : BusSample) :: old
      else old
    (e.1, { b with win, ready := b.usable && decide (f.half ≤ win.length), label := 0xFFFF })), coi, cof)

/-! ## Distances and components (R237, R238) -/

def BusSample.d (x : BusSample) : Frac := extOf (f32Val x.delta)
def BusSample.f (x : BusSample) : Frac := extOf (f32Val x.nu)

/-- A limit of COH_SET, which may be +∞. -/
def cohLimit (v : BitVec 32) : Frac := extOf (f32Val v)

/-- Both numbers of a sample are finite. -/
def BusSample.finite (x : BusSample) : Bool := extFinite x.d && extFinite x.f

/-- The two terms of the distance: the mean square of the frequency term, and the angle term; none with no common instant, and where a stored number
makes the distance a NaN. -/
def CohFrame.terms (f : CohFrame) (a b : Bus) : Option (Nat × Frac × Frac) :=
  let both := a.win.filterMap (fun x => (b.win.find? (fun y => y.inst == x.inst)).map (fun y => (x, y)))
  match both.head?, both.getLast? with
  | some h, some l =>
    if !both.all (fun e => e.1.finite && e.2.finite) then none
    else
      let sq := both.foldl (fun acc e =>
        let d := extQuot (fSub e.1.f e.2.f) (cohLimit f.set.fCoh)
        fReduce (fAdd acc (fMul d d))) (frac 0)
      let ang := fAbs (fSub (fSub h.1.d h.2.d) (fSub l.1.d l.2.d))
      some (both.length, fDiv sq (frac both.length), extQuot ang (cohLimit f.set.aCoh))
  | _, _ => none

/-- d(i, j) ≤ 1, exactly: B ≤ 1 and A ≤ (1 − B)². -/
def CohFrame.coherent (f : CohFrame) (a b : Bus) : Bool :=
  match f.terms a b with
  | none => false
  | some (n, sq, ang) =>
    let r := fSub (frac 1) ang
    decide (f.half ≤ n) && fLe ang (frac 1) && fLe sq (fMul r r)

/-- d(i, j), its root to binary64. -/
def CohFrame.dist (f : CohFrame) (a b : Bus) : Option Frac :=
  (f.terms a b).map (fun t => fReduce (fAdd (f64D (sqrt64 t.2.1)) t.2.2))

/-- A component: its label and its members in rising order. -/
structure Comp where
  label : Nat
  members : List Nat
  deriving DecidableEq, Repr

def insertNat (x : Nat) : List Nat → List Nat
  | [] => [x]
  | y :: l => if x < y then x :: y :: l else if x == y then y :: l else y :: insertNat x l

def sortNat (l : List Nat) : List Nat := l.foldl (fun a x => insertNat x a) []

def compOf (l : List Nat) : Comp := { label := l.headD 0xFFFF, members := l }

/-- Join a bus to the components that it is coherent with. -/
def joinComp (coh : Nat → Nat → Bool) (cs : List (List Nat)) (i : Nat) : List (List Nat) :=
  let touch := cs.filter (fun c => c.any (coh i))
  let rest := cs.filter (fun c => !c.any (coh i))
  rest ++ [sortNat (i :: touch.flatten)]

def components (coh : Nat → Nat → Bool) (ready : List Nat) : List Comp :=
  let cs := ready.foldl (joinComp coh) []
  (sortNat (cs.map (fun c => c.headD 0xFFFF))).filterMap (fun lb => (cs.find? (fun c => c.headD 0xFFFF == lb)).map compOf)

def common (a b : List Nat) : Nat := (a.filter b.contains).length

/-! ## The main component (R239) -/

/-- The element that a strict order puts first; the earlier of equals. -/
def pickBest {α : Type} (better : α → α → Bool) : List α → Option α
  | [] => none
  | x :: l => match pickBest better l with
    | none => some x
    | some y => if better y x then some y else some x

def weightOf (buses : Table Bus) (c : List Nat) : Frac :=
  c.foldl (fun a i => match tget i buses with
    | some b => extAdd a b.weight
    | none => a) (frac 0)

/-- M, and whether rule 2 chose it. -/
def chooseMain (buses : Table Bus) (prev ready : List Nat) (first : Bool) (cs : List Comp) : Option Comp × Bool :=
  let alive := prev.filter ready.contains
  let r1 := if first then none else cs.find? (fun c => decide (alive.length < 2 * common c.members alive))
  match r1 with
  | some c => (some c, false)
  | none =>
    (pickBest (fun a b =>
      let wa := weightOf buses a.members
      let wb := weightOf buses b.members
      extLt wb wa || (extLe wb wa && decide (b.members.length < a.members.length))) cs, true)

/-! ## Set quantities (Table 08-1) -/

/-- F(C). -/
def setFreq (buses : Table Bus) (c : List Nat) : Option Frac :=
  wmean (c.filterMap (fun i => match tget i buses with
    | some b => if b.usable then some (b.weight, b.nuPrime) else none
    | none => none))

/-- Θ_C at T and at T_s, over the members usable at both. -/
def CohFrame.setAngle (f : CohFrame) (buses : Table Bus) (c : List Nat) : Option (Frac × Frac) :=
  let both := c.filterMap (fun i => match tget i buses with
    | some b =>
      match b.win.find? (fun w => w.inst == f.inst), b.win.find? (fun w => (w.inst : Int) == f.start) with
      | some x, some y => some (b.weight, x.d, y.d)
      | _, _ => none
    | none => none)
  match wmean (both.map (fun e => (e.1, e.2.1))), wmean (both.map (fun e => (e.1, e.2.2))) with
  | some a, some b => some (a, b)
  | _, _ => none

/-- Δf_C. -/
def deltaF (buses : Table Bus) (c m : List Nat) : Option Frac :=
  match setFreq buses c, setFreq buses m with
  | some a, some b => some (extSub a b)
  | _, _ => none

/-- ANG_SEP and G_C. -/
def CohFrame.angles (f : CohFrame) (buses : Table Bus) (c m : List Nat) : Option (Frac × Frac) :=
  match f.setAngle buses c, f.setAngle buses m, deltaF buses c m with
  | some a, some b, some d =>
    let now := extSub a.1 b.1
    let g := extSub now (extSub a.2 b.2)
    some (now, extMul (if extFinite d then frac d.num.sign else d) g)
  | _, _, _ => none

/-- The island criteria (R240). -/
def CohFrame.criteria (f : CohFrame) (buses : Table Bus) (m : List Nat) (c : List Nat) : Bool :=
  decide (f.set.minBuses ≤ c.length) &&
  (deltaF buses c m).any (fun d => extLt (cohLimit f.set.fSep) (fAbs d)) &&
  (f.angles buses c m).any (fun a => extLe (cohLimit f.set.angGrow) a.2)

/-! ## Tracking (R241 to R244) -/

/-- An evaluation under way: the islands with slot, what of them was merged, declared or retired now, and the candidates. -/
structure Track where
  islands : Table Island
  cands : List Candidate := []
  fresh : List Nat := []
  retired : List Nat := []
  deriving DecidableEq, Repr

/-- Islands in order of declaration, then of identity. -/
def insertIsland (x : Nat × Island) : List (Nat × Island) → List (Nat × Island)
  | [] => [x]
  | y :: l =>
    if x.2.declaredAt < y.2.declaredAt || (x.2.declaredAt == y.2.declaredAt && x.2.id < y.2.id) then x :: y :: l
    else y :: insertIsland x l

def islandOrder (t : Table Island) : List (Nat × Island) := t.foldl (fun a x => insertIsland x a) []

/-- S(I): the component holding most of the ready members. -/
def islandComp (cs : List Comp) (ready : List Nat) (i : Island) : Option Comp :=
  let m := i.members.filter ready.contains
  if m.isEmpty then none
  else pickBest (fun a b => decide (common b.members m < common a.members m)) cs

/-- Held members: those not ready. -/
def heldOf (ready : List Nat) (i : Island) : List Nat := i.members.filter (fun x => !ready.contains x)

/-- Merge every further island of a component into the first (R241). -/
def State.cohMerge (s : State) (k : Track) (cs : List Comp) (ready : List Nat) (mLabel : Nat) (c : Comp) : State × Track :=
  if c.label == mLabel then (s, k)
  else
    let mine := (islandOrder k.islands).filter (fun e => (islandComp cs ready e.2).any (fun d => d.label == c.label))
    match mine with
    | j :: o :: rest =>
      let gone := o :: rest
      let held := (j :: gone).flatMap (fun e => heldOf ready e.2)
      let j' : Island := { j.2 with members := sortNat (c.members ++ held), clearCount := 0, absorbed := true }
      let t := gone.foldl (fun t e => tdel e.1 t) (tset j.1 j' k.islands)
      let s1 := gone.foldl (fun s e => s.evt s.cohReaders 0x162 (e.2.id + 65536 * j.2.id)) s
      (s1, { k with islands := t, fresh := j.2.id :: k.fresh, retired := gone.map (·.2.id) ++ k.retired })
    | _ => (s, k)

/-- The next identity (R242): rising from the last one issued, past 0 and every one in use or retired just now. -/
def nextIslandId (inUse : List Nat) : Nat → Nat → Nat
  | 0, n => n
  | f + 1, n => let v := if n == 0 || 65535 < n then 1 else n
    if inUse.contains v then nextIslandId inUse f (v + 1) else v

/-- Declare a component as an island in the lowest free slot; none when all 32 are occupied. -/
def State.cohDeclare (s : State) (k : Track) (c : Comp) (parent inst from_ : Nat) : Option (State × Track) :=
  match (List.range 32).find? (fun i => (tget i k.islands).isNone) with
  | none => none
  | some slot =>
    let id := nextIslandId (k.retired ++ k.islands.map (·.2.id)) 70 s.coh.nextId
    let i : Island := { id, members := c.members, parent, splitChild := parent != 0, declaredAt := inst, criteriaFrom := from_, lastVerdict := inst }
    let s1 := { s with coh := { s.coh with nextId := id + 1 } }
    let s2 := if parent != 0 then s1.evt s1.cohReaders 0x163 (id + 65536 * parent) else s1
    some ((s2.evt s2.cohReaders 0x160 (id + 65536 * slot)).count .coh 3, { k with islands := tset slot i k.islands, fresh := id :: k.fresh })

/-- The island of the previous evaluation that contributed most buses of a component, if it holds enough of them (R241). -/
def splitParent (prev : Table Island) (minBuses : Nat) (c : Comp) : Option Nat :=
  let all := c.members.filter (fun b => prev.any (fun e => e.2.members.contains b))
  if all.length < minBuses then none
  else (pickBest (fun (a b : Nat × Island) =>
      let na := common c.members a.2.members
      let nb := common c.members b.2.members
      decide (nb < na) || (na == nb && decide (a.2.id < b.2.id))) prev).map (fun e => e.2.id)

/-- A component that an island shed (R241). -/
def State.cohSplit (s : State) (k : Track) (f : CohFrame) (buses : Table Bus) (m : List Nat) (c : Comp) (p : Nat) : State × Track :=
  let asCand := fun (s : State) =>
    (s.evt s.cohReaders 0x163 (65536 * p),
      ({ k with cands := k.cands ++ [{ label := c.label, members := c.members, count := 0, seen := false, fullSaid := false, from_ := none, parent := p }] } : Track))
  if f.criteria buses m c.members then (s.cohDeclare k c p f.inst f.inst).getD (asCand s) else asCand s

/-- The candidate whose count a component inherits (R241). -/
def inherits (prev : List Candidate) (cs : List Comp) (c : Comp) : Option Candidate :=
  (pickBest (fun (a b : Candidate) =>
      let na := common c.members a.members
      let nb := common c.members b.members
      decide (nb < na) || (na == nb && decide (a.label < b.label))) (prev.filter (fun q => common c.members q.members != 0))).filter (fun q =>
    decide (q.members.length < 2 * common c.members q.members)
    && cs.all (fun d => decide (common d.members q.members ≤ common c.members q.members)))

/-- A remaining component: counted, said, declared (R241, R243). A count that has reached PERSIST + 1 without a free slot is kept. -/
def State.cohCandidate (s : State) (k : Track) (f : CohFrame) (buses : Table Bus) (m : List Nat) (prev : List Candidate) (cs : List Comp)
    (c : Comp) : State × Track :=
  let q := inherits prev cs c
  let holds := f.criteria buses m c.members
  let old := (q.map (·.count)).getD 0
  let waits := decide (f.set.persist + 1 ≤ old)
  let n := if holds then old + 1 else if waits then old else 0
  let from_ := if n != 0 then some (((q.filter (fun x => x.count != 0)).bind (·.from_)).getD f.inst) else none
  let seen := q.any (·.seen)
  let s1 := if holds && !seen && f.set.candEvent then s.evt s.cohReaders 0x165 c.label else s
  let x : Candidate := { label := c.label, members := c.members, count := n, seen := seen || holds, fullSaid := q.any (·.fullSaid), from_
                         parent := (q.map (·.parent)).getD 0 }
  if n < f.set.persist + 1 || !holds then (s1, { k with cands := k.cands ++ [x] })
  else match s1.cohDeclare k c x.parent f.inst (from_.getD f.inst) with
    | some r => r
    | none =>
      let y : Candidate := { x with count := Nat.min n (f.set.persist + 1), fullSaid := true }
      (if x.fullSaid then s1 else s1.evtFree s1.cohReaders 0x168, { k with cands := k.cands ++ [y] })

/-- Keep the 64 candidates of most members; the lower label stays at equal size (R243). -/
def trimCands (n : Nat) (l : List Candidate) : List Candidate :=
  match n with
  | 0 => l
  | n + 1 =>
    if l.length ≤ 64 then l
    else match pickBest (fun (a b : Candidate) =>
        decide (a.members.length < b.members.length) || (a.members.length == b.members.length && decide (b.label < a.label))) l with
      | some x => trimCands n (l.filter (fun y => y.label != x.label))
      | none => l

/-- The clearance rule for one island (R244). -/
def State.cohClear (s : State) (k : Track) (f : CohFrame) (buses : Table Bus) (m : Comp) (ready : List Nat) (cs : List Comp)
    (e : Nat × Island) : State × Track :=
  if e.2.noData || k.fresh.contains e.2.id then (s, k)
  else
    let inMain := (islandComp cs ready e.2).any (fun c => c.label == m.label)
    let mine := e.2.members.filter ready.contains
    let calm := (deltaF buses mine m.members).any (fun d => extLe (fAbs d) (extSub (cohLimit f.set.fSep) (cohLimit f.set.fHyst)))
    let n := if inMain || calm then e.2.clearCount + 1 else 0
    if f.set.clearPersist + 1 ≤ n then
      ((s.evt s.cohReaders 0x161 e.2.id).count .coh 4, { k with islands := tdel e.1 k.islands })
    else (s, { k with islands := tset e.1 { e.2 with clearCount := n, lastVerdict := f.inst } k.islands })

/-! ## Records (R245, Table 08-7) -/

def insertBoundary (x : BoundaryEntry × Frac) : List (BoundaryEntry × Frac) → List (BoundaryEntry × Frac)
  | [] => [x]
  | y :: l => if fLt x.2 y.2 || (fLe x.2 y.2 && decide (x.1.bus < y.1.bus)) then x :: y :: l else y :: insertBoundary x l

/-- The boundary list of an island. -/
def CohFrame.boundary (f : CohFrame) (buses : Table Bus) (mine main : List Nat) : List BoundaryEntry :=
  let near := mine.filterMap (fun i => match tget i buses with
    | none => none
    | some b =>
      (pickBest (fun (x y : Nat × Frac) => fLt x.2 y.2)
        (main.filterMap (fun j => if j == i then none else match tget j buses with
          | some c => (f.dist b c).map (fun d => (j, d))
          | none => none))).map (fun x => (({ bus := i, outside := x.1, dist := f32Of x.2 } : BoundaryEntry), x.2)))
  ((near.foldl (fun a x => insertBoundary x a) []).take 16).map (·.1)

/-- The figures of an island with ready members. ANG_SEP has no value where no member is usable at both ends of the window. -/
def State.cohFigures (s : State) (f : CohFrame) (buses : Table Bus) (m : List Nat) (ready : List Nat) (cs : List Comp) (mLabel : Nat)
    (i : Island) : State × Island :=
  let mine := i.members.filter ready.contains
  let fr := setFreq buses mine
  let ang := f.angles buses mine m
  let x := s.free
  (if ang.isSome then s else x.2,
    { i with
      held := heldOf ready i
      rejoined := (islandComp cs ready i).any (fun c => c.label == mLabel)
      test := i.members.any (fun b => (tget b buses).any (fun b => b.win.any (·.test)))
      freq := extF32 (extAdd (frac f.fnom) (extDiv (fr.getD (frac 0)) 1000))
      deltaF := extF32 ((deltaF buses mine m).getD (frac 0))
      angSep := (ang.map (fun a => extF32 a.1)).getD (BitVec.ofNat 32 x.1)
      angGrowth := (ang.map (fun a => extF32 a.2)).getD nan32
      inertia := extF32 (weightOf buses i.members)
      boundary := f.boundary buses mine m })

/-! ## The evaluation -/

/-- Counts restart (R239, R247, R251). -/
def CohEval.restart (e : CohEval) : CohEval :=
  { e with islands := tmap (fun _ i => { i with clearCount := 0 }) e.islands, cands := e.cands.map (fun c => { c with count := 0, from_ := none }) }

/-- Islands as an evaluation leaves them: the figures of those with ready members, over a main component `m`. -/
def State.cohShow (s : State) (f : CohFrame) (buses : Table Bus) (m ready : List Nat) (cs : List Comp) (mLabel : Nat) (t : Table Island) : State × Table Island :=
  t.foldl (fun (a : State × Table Island) e =>
    if (islandComp cs ready e.2).isNone then
      (a.1, tset e.1 { e.2 with held := heldOf ready e.2, boundary := []
                                test := e.2.members.any (fun b => (tget b buses).any (fun b => b.win.any (·.test))) } a.2)
    else
      let x := a.1.cohFigures f buses m ready cs mLabel e.2
      (x.1, tset e.1 x.2 a.2)) (s, [])

/-- Fold with the state over a list. -/
def cohFold {α : Type} (f : State → Track → α → State × Track) (l : List α) (a : State × Track) : State × Track :=
  l.foldl (fun a x => f a.1 a.2 x) a

/-- Track candidates and islands with a main component (R241). -/
def State.cohTrack (s : State) (f : CohFrame) (buses : Table Bus) (ready : List Nat) (cs : List Comp) (m : Comp) (old : CohEval) : State × CohEval :=
  let start := tmap (fun _ i => { i with isNew := false, absorbed := false, rejoined := false }) old.islands
  let silent := fun (i : Island) => (islandComp cs ready i).isNone
  let s1 := (islandOrder start).foldl (fun s e => if silent e.2 && !e.2.noData then s.evt s.cohReaders 0x164 e.2.id else s) s
  let k0 : Track := { islands := tmap (fun _ i => if silent i then { i with noData := true, clearCount := 0 } else { i with noData := false }) start }
  let r1 := cohFold (fun s k c => s.cohMerge k cs ready m.label c) cs (s1, k0)
  let follow : Table Island := tmap (fun _ i =>
    match islandComp cs ready i with
    | some c => if c.label == m.label || r1.2.fresh.contains i.id then i else { i with members := sortNat (c.members ++ heldOf ready i) }
    | none => i) r1.2.islands
  let taken := r1.2.islands.filterMap (fun e => (islandComp cs ready e.2).map (·.label))
  let others := cs.filter (fun c => c.label != m.label && !taken.contains c.label)
  let splits := others.filterMap (fun c => (splitParent old.islands f.set.minBuses c).map (fun p => (c, p)))
  let r2 := cohFold (fun s k x => s.cohSplit k f buses m.members x.1 x.2) splits (r1.1, { r1.2 with islands := follow })
  let rest := others.filter (fun c => decide (f.set.minBuses ≤ c.members.length) && splits.all (fun x => x.1.label != c.label))
  let r3 := cohFold (fun s k c => s.cohCandidate k f buses m.members old.cands cs c) rest r2
  let kept := trimCands r3.2.cands.length r3.2.cands
  let s3 := if kept.length < r3.2.cands.length then r3.1.count .coh 5 (r3.2.cands.length - kept.length) else r3.1
  let r4 := cohFold (fun s k e => s.cohClear k f buses m ready cs e) (islandOrder r3.2.islands) (s3, { r3.2 with cands := kept })
  let fin := r4.1.cohShow f buses m.members ready cs m.label r4.2.islands
  (fin.1, { old with islands := fin.2, cands := r4.2.cands })

/-- An evaluation that is NO_MAIN: no island is tracked and every count restarts (R239); what the islands show is that of this instant, over the members of M,
of which there may be none (R245, Table 08-7). -/
def State.cohNoMain (s : State) (f : CohFrame) (buses : Table Bus) (ready : List Nat) (cs : List Comp) (m : Option Comp) (old : CohEval) : State × CohEval :=
  let e := old.restart
  let start := tmap (fun _ i => { i with isNew := false, absorbed := false, rejoined := false }) e.islands
  let r := s.cohShow f buses ((m.map (·.members)).getD []) ready cs old.mainLabel start
  (r.1, { e with islands := r.2 })

/-- One evaluation on a released slice (R246). -/
def State.cohEvaluate (s : State) (f : CohFrame) (x : Slice) : State :=
  let smp := f.sample (s.srcMay (s.holder kindCoherency 0) 0) s.coh.buses x
  let ready := (smp.1.filter (fun e => e.2.ready)).map (·.1)
  let coh := fun (i j : Nat) => match tget i smp.1, tget j smp.1 with
    | some a, some b => f.coherent a b
    | _, _ => false
  let cs := components coh ready
  let buses : Table Bus := tmap (fun i b =>
    { b with label := ((cs.find? (fun c => c.members.contains i)).map (·.label)).getD 0xFFFF }) smp.1
  let old := s.coh.eval
  let mm := chooseMain buses old.main ready s.coh.first cs
  let s1 := (s.count .coh 0)
  let notReady := (buses.filter (fun e => !e.2.ready)).length
  let s2 := if notReady == 0 then s1 else s1.count .coh 2 notReady
  let s3 := if mm.2 && mm.1.isSome && !s.coh.first then s2.evtFree s2.cohReaders 0x166 else s2
  let noMain := mm.1.all (fun c => decide (c.members.length < f.set.minBuses))
  let base : CohEval := { old with
    inst := f.inst, main := (mm.1.map (·.members)).getD old.main, mainLabel := (mm.1.map (·.label)).getD 0xFFFF
    hasMain := !noMain, noMain, ready := ready.length, usable := (buses.filter (fun e => e.2.usable)).length
    coiFreq := extF32 (extAdd (frac f.fnom) (extDiv (extOf (f64Val smp.2.2)) 1000)), coiTheta := extOf (f64Val smp.2.1) }
  let s4 : State := { s3 with coh := { s3.coh with
    buses, prevBuses := if s.coh.stale then s.coh.prevBuses else s.coh.buses, prev := old, prevFirst := s.coh.first, prevId := s.coh.nextId, prevCnt := s.coh.cnt, first := false, seq := s3.coh.seq + 1, stale := false } }
  let r := match mm.1 with
    | some m => if noMain then (if old.hasMain then s4.evtFree s4.cohReaders 0x167 else s4).cohNoMain f buses ready cs (some m) base
                else s4.cohTrack f buses ready cs m { base with cands := old.cands }
    | none => (if old.hasMain then s4.evtFree s4.cohReaders 0x167 else s4).cohNoMain f buses ready cs none base
  r.1.setEval r.2

/-! ## Changes of settings (R247) -/

/-- Retire every island because a command changed what they rest on, and drop every candidate. -/
def State.cohRetire (s : State) (told : Bool) : State :=
  let s1 := if told then s.coh.eval.islands.foldl (fun s e => (s.evt s.cohReaders 0x161 (e.2.id + 16777216)).count .coh 4) s else s
  { s1 with coh := { s1.coh with eval := { s1.coh.eval with islands := [], cands := [] }, prev := { s1.coh.prev with islands := [], cands := [] } } }

/-- A bus set afresh: it restarts. -/
def freshBus (e : BusEntry) : Bus := { set := e }

/-- Put a setting in force. -/
def State.cohApply (s : State) (p : CohSet) : State :=
  let deep := s.coh.set.any (fun o => o.group != p.group || o.winMs != p.winMs || o.fnom60 != p.fnom60)
  let s1 := if deep then
      let s0 := s.cohRetire true
      { s0 with coh := { s0.coh with buses := tmap (fun _ b => { b with win := [] }) s0.coh.buses } }
    else if s.coh.set == some p then s else s.setEval s.coh.eval.restart
  let s2 : State := { s1 with coh := { s1.coh with set := some p } }
  if p.enable && !s.coh.set.any (·.enable) then
    { s2 with coh := { s2.coh with
        first := true, seq := 0, buses := tmap (fun _ b => freshBus b.set) s2.coh.buses, eval := { s2.coh.eval with main := [] } } }
  else s2

/-- Bus entries in the order in which they were set. -/
def setBuses (l : List BusChange) (t : Table Bus) : Table Bus :=
  l.foldl (fun t e => if e.entry.stream == 0xFFFF then tdel e.bus t else tset e.bus (freshBus e.entry) t) t

/-- Settings and buses whose completion stamps lie before a release tick come into force in their order; a later one waits (R247). -/
def State.cohPending (s : State) (g : Nat) (rel : Stamp) : State :=
  let due := s.coh.next.filter (fun x => decide (x.2 < rel))
  let s1 : State :=
    if due.any (fun x => x.1.group == g) || s.coh.set.all (fun o => !o.enable || o.group == g) then
      let s0 : State := { s with coh := { s.coh with next := s.coh.next.filter (fun x => !decide (x.2 < rel)) } }
      due.foldl (fun s x => s.cohApply x.1) s0
    else s
  if s1.coh.set.any (fun p => p.enable && p.group == g) then
    { s1 with coh := { s1.coh with buses := setBuses (s1.coh.nextBuses.filter (fun e => decide (e.done < rel))) s1.coh.buses
                                   nextBuses := s1.coh.nextBuses.filter (fun e => !decide (e.done < rel)) } }
  else s1

/-- COHERENCY_EVALUATION: a released slice reaches the engine. -/
def State.cohSlice (s : State) (x : Slice) : State :=
  let s1 := s.cohPending x.group x.rel
  match s1.coh.set with
  | some p =>
    if p.enable && p.group == x.group then
      s1.cohEvaluate { set := p, inst := x.inst, rate := ((s1.group x.group).map (·.set.rate)).getD 10 } x
    else s1
  | none => s1

end Sys2Proof.Machine
end

