-- ==== Sys2Proof/Machine/TimeOps.lean ====
section
/-!
DEFINITION. The quality of a base as its users see it (12_time R354 to R356, Table 12-2).
-/
namespace Sys2Proof.Machine

/-- The time source's figures of the reference in use: Y in ppb and D in ppb/h, with the defaults of TB_REF_SET. -/
def State.refFigures (s : State) : Frac × Frac :=
  let pick := fun (v : BitVec 32) (n d : Nat) => if fIsZero (f32D v) then frac n d else f32D v
  if s.tb.extInUse then (pick s.tb.ref.xY 1 10, pick s.tb.ref.xD 4 1000) else (pick s.tb.ref.rY 10 1, pick s.tb.ref.rD 30 1)

/-- E in LOCKED (R354): mean of |o|, twice the standard deviation, and the source's stated accuracy. -/
def Base.errLocked (b : Base) : Frac :=
  let n := b.errs.length
  if n == 0 then b.acc
  else
    let mean := frac ((b.errs.map (fun o => (o.natAbs : Int))).sum) n
    let mu := frac b.errs.sum n
    let var := fDiv (b.errs.foldl (fun a o => fReduce (fAdd a (fMul (fSub (frac o) mu) (fSub (frac o) mu)))) (frac 0)) (frac n)
    fReduce (fAdd (fAdd mean (fMul (frac 2) (f64D (sqrt64 var)))) b.acc)

/-- E in HOLDOVER after t ns; none when it is saturated (R354, R370). -/
def State.errHoldover (s : State) (b : Base) : Option Frac :=
  let f := s.refFigures
  let t := s.now - b.holdAt
  b.eEntry.map (fun e => fReduce (fAdd
    (fAdd e (frac ((b.refused.map Int.natAbs).getD 0 : Nat)))
    (fAdd (fMul f.1 (frac t 1000000000)) (fMul f.2 (frac ((t : Int) * t) (2 * 3600 * 1000000000 * 1000000000))))))

/-- E of a valid base in ns; none when it is saturated, or of a base that is not valid. -/
def State.baseErr (s : State) (b : Base) : Option Frac :=
  match b.state with
  | .locked => some b.errLocked
  | .holdover => s.errHoldover b
  | _ => none

/-- E saturating at 0xFFFF_FFFF, rounded to the nearest ns. -/
def State.errNs (s : State) (b : Base) : Nat :=
  match s.baseErr b with
  | some e => Nat.min 0xFFFFFFFF (fRound e).toNat
  | none => 0xFFFFFFFF

/-- E exceeds 10 s, or the base gives no E. -/
def State.baseBad (s : State) (b : Base) : Bool :=
  match s.baseErr b with
  | some e => fLt (frac 10000000000) e
  | none => true

/-- ⌈log10⌉ of a fraction, no less than 0. -/
def ceilLog10 (e : Frac) : Nat := ((List.range 20).find? (fun n => fLe e (frac (10 ^ n)))).getD 20

/-- Message time quality code (Table 12-2). -/
def State.timeCode (s : State) (b : Base) : Nat :=
  if s.baseBad b then 15
  else
    let e := (s.baseErr b).getD (frac 0)
    if b.state == .locked && fLe e (frac 1000) then 0 else Nat.max 1 (1 + ceilLog10 e)

/-- STAT [8:6] (Table 12-2). -/
def State.statQuality (s : State) (b : Base) : Nat :=
  if s.baseBad b then 7
  else
    let e := (s.baseErr b).getD (frac 0)
    (([(100, 1), (1000, 2), (10000, 3), (100000, 4), (1000000, 5), (10000000, 6)].find? (fun x => fLe e (frac x.1))).map (·.2)).getD 7

/-- Nanoseconds since the base left LOCKED; 0 in LOCKED. -/
def State.unlockNs (s : State) (b : Base) : Nat :=
  if b.state == .locked then 0 else s.now - b.leftAt.getD s.now

/-- STAT [5:4] (Table 12-2). -/
def State.statUnlock (s : State) (b : Base) : Nat :=
  if s.baseBad b then 3
  else
    let t := s.unlockNs b
    if t < 10000000000 then 0 else if t < 100000000000 then 1 else if t ≤ 1000000000000 then 2 else 3

/-- UTC_OFFSET for a reading of a base: a leap second applies from its own reading on (R356), an announced one and those that have been applied. -/
def Base.offsetAt (b : Base) (ns : Nat) : Nat :=
  let before := b.leaps.foldl (fun o l => if (ns : Int) < l.1 then (if l.2 then o + 1 else o - 1) else o) b.utcOffset
  match b.leap with
  | some (del, at_) => if ns < at_ then before else if del then b.utcOffset - 1 else b.utcOffset + 1
  | none => before

/-- FRACSEC [31:24] of an output frame for a reading: the leap second has occurred from its own reading on (R356). -/
def State.fracsecByte (s : State) (b : Base) (ns : Nat) : Nat :=
  let past := b.leap.any (fun l => decide (l.2 ≤ ns)) || (b.leapUntil.any (fun u => decide (s.now < u)) && (b.leaps.head?).any (fun l => decide (l.1 ≤ (ns : Int))))
  s.timeCode b + 16 * b2n (b.leap.any (fun l => decide (ns < l.2))) + 32 * b2n past + 64 * b2n b.leapDir

end Sys2Proof.Machine
end

