-- ==== Sys2Proof/Machine/PlatformOps.lean ====
section
/-!
DEFINITION. Writes into the platform, releases, supplements, departure rings and output streams (04_platform R123 to R143).
-/
namespace Sys2Proof.Machine

/-- A platform event of a stream, whose detail the manual leaves open, on its partition. -/
def State.pltStreamEvent (s : State) (stream src : Nat) : State := s.evtFree [s.holder kindStream stream] src

def State.setSlots (s : State) (id : Nat) (x : ContractSlots) : State := { s with plt := { s.plt with slots := tset id x s.plt.slots } }

/-- A base's departures are marked HOLDOVER (R138). -/
def State.baseHolds (s : State) (tb : Nat) : Bool := (s.base tb).any (fun b => b.state == .holdover || b.refused.isSome)

/-! ## Departure rings (R139, R140) -/

/-- Key of ring n of a partition. -/
def ringKey (part n : Nat) : Nat := 4 * part + n

def DepRing.free (r : DepRing) : Nat := r.set.ringSize - (r.prod - r.cons).toNat

/-- Channels of a slice that a partition sees: of its own contracts and of streams shared with it, as they stand now: a record of the history too shows none of a
contract RELEASED since (DESIGN CHOICE: R139 does not say; log entry 170). -/
def State.seen (s : State) (part : Nat) (x : Slice) : Slice :=
  { x with entries := x.entries.filter (fun e => (s.carrier e.contract).any (fun c => c.part == part) || s.shared kindStream e.stream part) }

/-- Length of a record. -/
def recordLen (x : Slice) : Nat := 64 + 16 * x.entries.length

/-- Write a record, padded to the ring's end where it does not fit before it; none when too little space is free. -/
def DepRing.put (r : DepRing) (x : Slice) : Option DepRing :=
  let n := recordLen x
  let start := ringPlace r.set.ringSize n r.prod.toNat
  let pad := start - r.prod.toNat
  if r.free < pad + n then none
  else
    let padding : List RingRec := if pad == 0 then [] else [{ offset := r.prod.toNat % r.set.ringSize, len := pad, lost := 0, slice := none }]
    some { r with
      prod := r.prod + BitVec.ofNat 32 (pad + n), lost := 0
      records := { offset := start % r.set.ringSize, len := n, lost := r.lost, slice := some x } :: padding ++ r.records }

/-- A record as it stands in a ring (Tables 04-5 and 04-6). -/
def sliceImage (x : Slice) (lost : Nat) : List Byte :=
  le 1 (if x.supplement then 2 else 1)
  ++ le 1 (b2n x.early + 2 * b2n (lost != 0) + 4 * b2n x.holdover + 8 * b2n x.resumed)
  ++ le 1 x.group ++ le 1 x.tb ++ le 4 (recordLen x) ++ le 8 (instNs x.inst) ++ le 8 x.rel ++ le 8 x.seq ++ le 4 x.entries.length
  ++ le 4 lost ++ le 4 (x.entries.filter (fun e => substOf e.qual != 0)).length ++ zeros 20
  ++ x.entries.flatMap (fun e =>
      le 8 e.value.toNat ++ le 2 e.qual.toNat ++ le 2 e.stream ++ le 1 e.ch ++ le 1 e.type ++ le 2 e.arrOfs)

/-- A record of a ring as its bytes: a slice or supplement, or the header of padding, cut to the space that it takes (R140). -/
def RingRec.image (x : RingRec) : List Byte :=
  match x.slice with
  | some y => sliceImage y x.lost
  | none => (le 1 3 ++ zeros 3 ++ le 4 x.len ++ zeros 56).take x.len

/-- RING_RECORD_WRITE: a slice or supplement reaches one ring: its bytes, padding before it, and the producer offset, as the four bytes of PLT_RING_PROD_n, go to
the addresses that the ring names, and the vector of the ring is signalled (R140, 14_hosts R429). -/
def State.ringWrite (s : State) (part n : Nat) (x : Slice) : State :=
  match tget (ringKey part n) s.plt.rings with
  | none => s
  | some r =>
    let y := s.seen part x
    if !r.set.enable || r.set.ringSize == 0 || r.stopped || !r.set.groupMask.testBit x.group || (x.supplement && !r.set.supplements)
       || y.entries.isEmpty then s
    else match r.put y with
      | some r' =>
        let s1 : State := { s with plt := { s.plt with rings := tset (ringKey part n) r' s.plt.rings } }
        let new := (r'.records.take (r'.records.length - r.records.length)).reverse
        (s1.hostWrites part (new.map (fun x => (r.set.ringAddr + x.offset, x.image)) ++ [(r.set.prodWbAddr, le 4 r'.prod.toNat)])).ringSignal part (1 + n)
      | none =>
        let s1 : State := { s with plt := { s.plt with
          rings := tset (ringKey part n) { r with lost := r.lost + 1 } s.plt.rings
          overrunSeen := part :: s.plt.overrunSeen.filter (· != part) } }
        (s1.count .plt 6).evt [part] 0x0A6 (n + 256 * x.group + 65536 * b2n x.supplement)

/-- Every ring of every partition. -/
def State.ringsWrite (s : State) (x : Slice) : State :=
  allParts.foldl (fun s p => (List.range 4).foldl (fun s n => s.ringWrite p n x) s) s

/-! ## Entries -/

/-- ARR_OFS: arrival after T in units of 10 µs, 0xFFFF beyond range; free where the arrival reads before T. -/
def State.arrOfs (s : State) (tb inst : Nat) (arrival : Stamp) : Nat × State :=
  match s.base tb with
  | none => s.free
  | some b =>
    let d := fSub (frac (3 * b.exact arrival)) (frac ((inst * 2500000 * baseUnit : Nat) : Int))
    if d.num < 0 then (s.free.1 % 65536, s.free.2)
    else (Nat.min 0xFFFF (d.num.toNat / (30000 * baseUnit)), s)

/-! ## Supplements and sidings (R133 to R136) -/

/-- Release tick and SEQ of an instant that a group has released. -/
def Group.releaseOf (g : Group) (inst : Nat) : Option (Stamp × Nat) := (g.released.find? (fun e => e.1 == inst)).map (·.2)

/-- The release tick of an instant that a write is late for: of its slice, or of the slice still to be handed over; none for a skipped instant (R137). -/
def State.lateTick (s : State) (g : Group) (inst : Nat) : Option Stamp :=
  match g.releaseOf inst with
  | some e => some e.1
  | none => if g.passed inst then none else some (s.relTick g inst)

/-- The end of the horizon of an instant for a frame (R133); none beyond it, for a skipped instant, and with a horizon of 0. -/
def State.horizonEnd (s : State) (g : Group) (inst : Nat) (arrival : Stamp) : Option Stamp :=
  (s.lateTick g inst).bind (fun rel =>
    let ends := rel + 1000000 * g.horizon arrival
    if g.horizon arrival == 0 || ends < arrival then none else some ends)

/-- Entries of a supplement. -/
def State.suppEntries (s : State) (id : Nat) (c : Contract) (tb inst : Nat) (arrival : Stamp) (vals : List ChanVal) : List SliceEntry × State :=
  let a := s.arrOfs tb inst arrival
  ((List.range vals.length).filterMap (fun ch => (vals[ch]?).map (fun v =>
    let w := if v.usable then v else nanVal v.type 2 false
    { contract := id, stream := c.stream, ch, type := v.type, value := w.value, qual := w.qual ||| qLate
      arrOfs := if v.usable then a.1 else 0xFFFF })), a.2)

/-- The supplement of a late write for one group, whose release stamp is the write's: counted, said once a second, into the rings. The seconds are those of
TB_0 (DESIGN CHOICE: R134 names no base; log entry 167). -/
def State.supplement (s : State) (id : Nat) (c : Contract) (n : Nat) (g : Group) (slot : Slot) : State :=
  let inst := slot.inst
  let e := s.suppEntries id c g.set.tbSel inst slot.arrival slot.vals
  let x : Slice := {
    group := n, tb := g.set.tbSel, supplement := true, inst, rel := slot.stamp, seq := ((g.releaseOf inst).map (·.2)).getD 0, early := false
    holdover := s.baseHolds g.set.tbSel, resumed := false, entries := e.1 }
  let s1 := e.2.count .plt 0
  let sec := s.now / 1000000000
  let s2 := if tget c.part s1.plt.suppSecond == some sec then s1
    else ({ s1 with plt := { s1.plt with suppSecond := tset c.part sec s1.plt.suppSecond } }).evtFree [c.part] 0x0A0
  s2.ringsWrite x

/-- Bytes that a sidings record takes. -/
def sidingBytes (vals : List ChanVal) : Nat := 64 + 16 * vals.length

def State.sidingsUsed (s : State) (part : Nat) : Nat := ((s.plt.sidings.filter (fun x => x.part == part)).map (·.bytes)).sum

/-- A conflict of R124. -/
def State.dupConflict (s : State) (c : Contract) : State :=
  let s1 : State := { s with plt := { s.plt with dupSeen := c.part :: s.plt.dupSeen.filter (· != c.part) } }
  (s1.count .plt 4).pltStreamEvent c.stream 0x0A4

/-- A supplement waits for its slice in a group, which will still hand it over: later ones of the group wait behind it (R135). -/
def Siding.holdsBack (x : Siding) (n : Nat) (g : Group) : Bool := x.due.contains n && g.takes x.slot.inst && !g.passed x.slot.inst

/-- SIDINGS_STORE: the sidings rule for the groups that a write is late for. The supplement of a group whose slice is still to be handed over follows the
slice, and one of a later write goes behind it (R135). -/
def State.sidingsRule (s : State) (id : Nat) (c : Contract) (slot : Slot) (late : List (Nat × Group)) (pending : Bool) : State :=
  let within := late.filterMap (fun e => (s.horizonEnd e.2 slot.inst slot.arrival).map (fun x => (e.1, e.2, x)))
  if within.isEmpty then
    if pending then s else (s.count .plt 1).pltStreamEvent c.stream 0x0A1
  else match s.plt.sidings.find? (fun x => x.contract == id && x.slot.inst == slot.inst) with
    | some x => if x.slot.vals == slot.vals then s else s.dupConflict c
    | none =>
      let b := sidingBytes slot.vals
      if (s.part c.part).sidingsMib * 1048576 < s.sidingsUsed c.part + b || 1024 * 1048576 < (s.plt.sidings.map (·.bytes)).sum + b then
        (s.count .plt 2).pltStreamEvent c.stream 0x0A2
      else
        let goes := fun (e : Nat × Group × Stamp) => (e.2.1.releaseOf slot.inst).isSome && !s.plt.sidings.any (fun x => x.holdsBack e.1 e.2.1)
        let now := within.filter goes
        let x : Siding := { contract := id, part := c.part, slot, groups := within.map (·.1), bytes := b
                            ends := within.foldl (fun a e => Nat.max a e.2.2) 0
                            due := (within.filter (fun e => !goes e)).map (·.1) }
        now.foldl (fun s e => s.supplement id c e.1 e.2.1 slot)
          { s with plt := { s.plt with sidings := s.plt.sidings ++ [x] } }

/-! ## A write (R122 to R125, R130) -/

/-- The first write to a slot stands (R124). -/
def State.slotWrite (s : State) (id : Nat) (c : Contract) (slot : Slot) : State :=
  let x := s.slotsOf id
  match x.slots.find? (fun y => y.inst == slot.inst) with
  | some y => if y.vals == slot.vals then s else s.dupConflict c
  | none => s.setSlots id { x with slots := slot :: x.slots }

/-- A frame's channels are written for an instant with the present stamp, which decides for each group whether they are late (R125, R127). A write that differs
from both its slot and its siding is two DUP_CONFLICTs (DESIGN CHOICE: R124 does not say whether it is one; log entry 169). -/
def State.pltWrite (s : State) (id : Nat) (c : Contract) (inst : Nat) (arrival : Stamp) (vals : List ChanVal) : State :=
  let takers := s.takers c inst
  if takers.isEmpty then s.recTap c.stream inst vals false
  else if (s.windowEnd c).any (fun e => decide (e < inst)) then (s.count .plt 3).pltStreamEvent c.stream 0x0A3
  else
    let pending := takers.filter (fun e => !s.lateFor e.2 inst)
    let late := takers.filter (fun e => s.lateFor e.2 inst)
    let slot : Slot := { inst, vals, stamp := s.now, arrival }
    let s1 := if pending.isEmpty then s else s.slotWrite id c slot
    let s2 := pending.foldl (fun s e => s.houseCheck e.1 inst) s1
    let s3 := if late.isEmpty then s2 else s2.sidingsRule id c slot late (!pending.isEmpty)
    s3.recTap c.stream inst vals (!late.isEmpty)

/-! ## Substitution (R131, R132) -/

def chanKey (stream ch : Nat) : Nat := 256 * stream + ch

/-- Policy and hold limit of a channel at a release. -/
def State.policyAt (s : State) (stream ch : Nat) (rel : Stamp) : Nat × Nat :=
  match (tgetD (chanKey stream ch) [] s.plt.policy).find? (fun e => decide (e.1 < rel)) with
  | some e => e.2
  | none => (0, 0)

/-- The usable write of a channel with the latest instant before T, the hold slot among them, whatever the stamp of its write (DESIGN CHOICE: log entry 168). -/
def heldBefore (x : ContractSlots) (ch inst : Nat) (rel : Stamp) : Option (Nat × ChanVal) :=
  let ws := x.slots.filterMap (fun y =>
    if y.inst < inst && y.stamp ≤ rel then (match y.vals[ch]? with
      | some v => if v.usable then some (y.inst, v) else none
      | none => none) else none)
  let hs := match tget ch x.hold with
    | some h => if h.1 < inst then [h] else []
    | none => []
  pickBest (fun a b => decide (b.1 < a.1)) (ws ++ hs)

/-- What a channel carries in a slice, and whether its hold has expired. -/
structure Filled where
  val : ChanVal
  expired : Bool := false
  deriving DecidableEq, Repr

/-- substitute(c, k, T, t_rel, cause). The channel carries the TYPE of the layout in force for T, a held value too (R126). -/
def State.substitute (s : State) (id : Nat) (c : Contract) (ch inst : Nat) (rel : Stamp) (cause type : Nat) : Filled :=
  let p := s.policyAt c.stream ch rel
  if p.1 == 1 then
    match heldBefore (s.heldSlotsAt id rel) ch inst rel with
    | some (t, v) =>
      if (inst - t) * c.instRate ≤ p.2 * 1200 then { val := { heldVal v cause with type } } else { val := nanVal type cause true, expired := true }
    | none => { val := nanVal type cause true, expired := true }
  else if p.1 == 0 then { val := nanVal type cause false }
  else { val := zeroVal type cause }

/-- The latest data frame of a stream before a tick was refused by ingest (R126). -/
def StreamSt.refusedAt (x : StreamSt) (rel : Stamp) : Bool := ((x.refused.find? (fun e => decide (e.1 < rel))).map (·.2)).getD false

/-- One channel at a release (R126). -/
def State.fill (s : State) (id : Nat) (c : Contract) (slot : Option Slot) (ch inst : Nat) (rel : Stamp) : Filled :=
  let type := s.chanType c inst ch
  match slot.bind (fun x => x.vals[ch]?) with
  | some v => if v.usable then { val := v } else s.substitute id c ch inst rel 2 type
  | none =>
    if s.served c inst then s.substitute id c ch inst rel (if (s.streamSt c.stream).refusedAt rel then 3 else 0) type
    else { val := nanVal type 1 false }

/-! ## Output streams (R141, R142) -/

/-- STAT of an output block from its channels' quality words (Table 04-7). -/
def blockStat (qs : List W16) (quality unlock : Nat) : BitVec 16 :=
  let any := fun (m : W16) => qs.any (fun q => qHas q m)
  let err := if qs.all (fun q => 2 ≤ substOf q) then 3 else if any qInvalid then 1 else if any qTest then 2 else 0
  BitVec.ofNat 16 (16384 * err + 8192 * b2n (any qTimeUncertain) + 2048 * b2n (any qTrigger)
    + 512 * b2n (qs.any (fun q => qHas q qModified || substOf q != 0)) + 64 * quality + 16 * unlock)

/-- A value scaled to 16 bits: the counts on either side where it is not whole, saturated; free for what is no number. -/
def State.toInt16 (s : State) (v : BitVec 32) (scale : BitVec 32) : Nat × State :=
  let x := extMul (extOf (f32Val v)) (extOf (f32Val scale))
  if !extFinite x then
    (if x.num == 0 then (s.free.1 % 65536, s.free.2) else (if x.num < 0 then 0x8000 else 0x7FFF, s))
  else
    let lo := x.num / (Nat.max x.den 1 : Int)
    let whole := x.num % (Nat.max x.den 1 : Int) == 0
    let k := if whole then lo else lo + (s.free.1 % 2 : Nat)
    (twos 16 (if k < -32768 then -32768 else if 32767 < k then 32767 else k), if whole then s else s.free.2)

/-- A frequency deviation in mHz as the frequency in Hz that C37.118.2 sends in binary32 (Table 03-3). -/
def wireFreq (fnom50 : Bool) (v : BitVec 32) : BitVec 32 :=
  extF32 (extAdd (frac (if fnom50 then 50 else 60)) (extMul (extOf (f32Val v)) (frac 1 1000)))

/-- One entry of a map in a frame: its word and its quality. DESIGN CHOICE: a channel whose TYPE in the slice differs from its TYPE as the map was set is sent
as the NaN value with SUBST 2 and MISS_CAUSE 1, as an entry without a contract is; R142 does not say what is sent then (log 119). -/
def State.outEntry (s : State) (o : PltOutSet) (fnom50 : Bool) (e : OutEntry) (type : Nat) (x : Slice) : W64 × W16 × State :=
  let v : ChanVal := match x.find e.stream e.ch with
    | some y => if y.type == type then y.val else nanVal type 1 false
    | none => nanVal type 1 false
  if o.format == 1 && type != 4 then
    let a := s.toInt16 (wordRe v.value) e.scale
    if type == 0 then
      let b := a.2.toInt16 (wordIm v.value) e.scale
      (BitVec.ofNat 64 (a.1 + 65536 * b.1), v.qual, b.2)
    else (BitVec.ofNat 64 a.1, v.qual, a.2)
  else if o.format == 0 && type == 1 then ((wireFreq fnom50 (wordRe v.value)).setWidth 64, v.qual, s)
  else (v.value, v.qual, s)

/-- Bytes of a channel on the wire. -/
def outBytes (format type : Nat) : Nat :=
  if type == 4 then 2 else if format == 1 then (if type == 0 then 4 else 2) else if type == 0 then 8 else 4

/-- Bytes of the frame of an output stream before FCS. -/
def Out.frameLen (o : Out) : Nat :=
  let types := o.types.map (·.2)
  let v4 := isIp4 o.set.dstIp
  if o.set.format == 2 then Config.rsvLength types.flatten.length (o.set.vlan != 0) o.set.sign v4
  else 14 + (if o.set.vlan == 0 then 0 else 4) + ipHeader o.set.dstIp + 8 + 16
       + (types.map (fun l => 2 + (l.map (outBytes o.set.format)).sum)).sum

/-- Big-endian bytes, as fields stand on the wire (R8). -/
def be (n v : Nat) : List Byte := (le n v).reverse

/-- A channel's bytes in a C37.118.2 data frame, real part before imaginary part. -/
def wireVal (format type : Nat) (w : W64) : List Byte :=
  let n := if type == 4 || format == 1 then 2 else 4
  let b := 8 * n
  if type == 0 then be n (w.toNat % 2 ^ b) ++ be n (w.toNat / 2 ^ b % 2 ^ b) else be n (w.toNat % 2 ^ b)

/-- CHK of a C37.118.2 frame: CRC-CCITT with polynomial 0x1021 and initial value 0xFFFF (Table 03-3). -/
def crcCcitt (l : List Byte) : Nat :=
  l.foldl (fun c b => (List.range 8).foldl (fun c _ =>
    if c / 32768 % 2 == 1 then (2 * c % 65536) ^^^ 0x1021 else 2 * c % 65536) (c ^^^ (256 * b.toNat))) 0xFFFF

/-- A C37.118.2 data frame, big-endian: SYNC of a data frame, FRAMESIZE, IDCODE, SOC, FRACSEC, the blocks and CHK. -/
def dataFrameWire (idCode soc fracsec : Nat) (body : List Byte) : List Byte :=
  let f := be 2 0xAA01 ++ be 2 (16 + body.length) ++ be 2 idCode ++ be 4 soc ++ be 4 fracsec ++ body
  f ++ be 2 (crcCcitt f)

/-- FRACSEC [23:0] of an instant with TIME_BASE 1,000,000, to the nearest microsecond (R142). -/
def fracMicros (inst : Nat) : Nat := (inst % 1200 * 5000 + 3) / 6

/-- The STAT word, the words and the bytes of one block of an output frame. -/
def State.outBlock (s : State) (o : Out) (n : Nat) (m : PltOutMap) (quality unlock : Nat) (x : Slice) : State × BitVec 16 × List W64 × List Byte :=
  let types := tgetD n [] o.types
  let es := (m.entries.zip types).foldl (fun (c : State × List W64 × List W16) e =>
    let y := c.1.outEntry o.set m.fnom50 e.1 e.2 x
    (y.2.2, c.2.1 ++ [y.1], c.2.2 ++ [y.2.1])) (s, [], [])
  let stat := blockStat es.2.2 quality unlock
  (es.1, stat, es.2.1, be 2 stat.toNat ++ (types.zip es.2.1).flatMap (fun e => wireVal o.set.format e.1 e.2))

/-- OUTPUT_STREAM_FRAME: one frame of a released slice. -/
def State.outFrame (s : State) (n : Nat) (o : Out) (x : Slice) : State :=
  let idx := x.inst % 1200 / rateUnits (((s.group x.group).map (·.set.rate)).getD 1)
  if !o.set.enable || !o.on || o.set.group != x.group || idx % Nat.max o.set.div 1 != 0 then s
  else if o.set.format == 2 && o.set.sign && !s.signsAs o.set.key o.set.tag then s.signMissing o.set.key
  else
    let s0 := if o.set.format == 2 && o.set.sign then s.signSent o.set.key else s
    let q := match s0.base x.tb with
      | some b => (s0.statQuality b, s0.statUnlock b, s0.fracsecByte b (instNs x.inst), b.offsetAt (instNs x.inst))
      | none => (7, 3, 15, 0)
    let r := o.blocks.foldl (fun (a : State × List (BitVec 16) × List W64 × List Byte) b =>
      let y := a.1.outBlock o b.1 b.2 q.1 q.2.1 x
      (y.1, a.2.1 ++ [y.2.1], a.2.2.1 ++ y.2.2.1, a.2.2.2 ++ y.2.2.2)) (s0, [], [], [])
    let soc := x.inst / 1200 - q.2.2.2
    let fracsec := fracMicros x.inst + 16777216 * q.2.2.1
    let f : OutFrame := { out := n, inst := x.inst, soc, fracsec, stats := r.2.1, words := r.2.2.1
                          wire := if o.set.format == 2 then [] else dataFrameWire o.set.idCode soc fracsec r.2.2.2 }
    ({ r.1 with plt := { r.1.plt with frames := f :: r.1.plt.frames } }).txOffer o.set.port 2 { what := .output n, len := o.frameLen, launch := none }

/-! ## The departure history -/

/-- Slices that fit in 1,024 MiB, newest first. -/
def fitHistory : Nat → List Slice → List Slice
  | _, [] => []
  | room, x :: l => if recordLen x ≤ room then x :: fitHistory (room - recordLen x) l else []

/-! ## A release (R126 to R130, R125) -/

/-- t_rel of an instant that may be handed over now; none while it may not (R128 to R130). A hand-over follows t_rel: at that tick itself writes still reach
the slice, whatever the order of the rows (R127; log entry 172). -/
def State.releaseTick (s : State) (g : Group) (inst : Nat) : Option (Stamp × Bool) :=
  match s.dueTick g inst with
  | none => none
  | some due =>
    let house := (tget inst g.house).filter (fun h => decide (h < due))
    let t := Nat.max (house.getD due) g.lastRel
    if t < s.now then some (t, house.isSome) else none

/-- A group of a lower number hands an instant over at the same release tick first (R128). -/
def State.lowerFirst (s : State) (n : Nat) (rel : Stamp) : Bool :=
  s.plt.groups.any (fun e => decide (e.1 < n) && e.2.state == .departing
    && e.2.nextInst.any (fun i => (s.releaseTick e.2 i).any (fun r => r.1 == rel && !s.pastEntry rel)))

/-- ARR_OFS of a slot that an entry is built from; 0xFFFF without one. -/
def State.slotArr (s : State) (tb inst : Nat) (slot : Option Slot) : Nat × State :=
  match slot with
  | some x => s.arrOfs tb inst x.arrival
  | none => (0xFFFF, s)

/-- The entries of a slice, of the contracts as they stood at its release tick, with the channels whose hold expired and those delivered as received. -/
def State.buildEntries (s : State) (n : Nat) (tb inst : Nat) (rel : Stamp) : State × List SliceEntry × List (Nat × Bool) :=
  (s.membersAt n rel).foldl (fun (a : State × List SliceEntry × List (Nat × Bool)) m =>
    let slot := (s.heldSlotsAt m.1 rel).slots.find? (fun x => x.inst == inst && decide (x.stamp ≤ rel))
    let ofs := a.1.slotArr tb inst slot
    let fs := (List.range m.2.chans).map (fun ch => (ch, s.fill m.1 m.2 slot ch inst rel))
    (ofs.2,
      a.2.1 ++ fs.map (fun e => { contract := m.1, stream := m.2.stream, ch := e.1, type := e.2.val.type, value := e.2.val.value
                                  qual := e.2.val.qual, arrOfs := if substOf e.2.val.qual == 0 then ofs.1 else 0xFFFF }),
      a.2.2 ++ fs.filterMap (fun e =>
        if e.2.expired then some (chanKey m.2.stream e.1, true)
        else if substOf e.2.val.qual == 0 then some (chanKey m.2.stream e.1, false) else none))) (s, [], [])

/-- HOLD_EXPIRED for a channel that has delivered a value since the latest one; channels that deliver are noted (R131). -/
def State.holdMarks (s : State) (l : List (Nat × Bool)) : State :=
  l.foldl (fun s e =>
    let had := s.plt.delivered.contains e.1
    if e.2 then
      if had then
        let s1 : State := { s with plt := { s.plt with delivered := s.plt.delivered.filter (· != e.1) } }
        s1.evt [s1.holder kindStream (e.1 / 256)] 0x0A5 (e.1 / 256 + 65536 * (e.1 % 256))
      else s
    else if had then s else { s with plt := { s.plt with delivered := e.1 :: s.plt.delivered } }) s

/-- The slots of one contract, once every taker has released an instant: a usable write becomes the hold value and the slot is freed (R125). -/
def State.retireSlot (s : State) (inst id : Nat) (x : ContractSlots) : State :=
  match s.carrier id, x.slots.find? (fun y => y.inst == inst) with
  | some c, some y =>
    if (s.takers c inst).all (fun g => g.2.passed inst) then
      let hold := (List.range y.vals.length).foldl (fun h ch =>
        match y.vals[ch]? with
        | some v => if v.usable && (tget ch h).all (fun o => decide (o.1 < inst)) then tset ch (inst, v) h else h
        | none => h) x.hold
      s.setSlots id { x with slots := x.slots.filter (fun y => y.inst != inst), hold }
    else s
  | _, _ => s

def State.retireSlots (s : State) (inst : Nat) : State := s.plt.slots.foldl (fun s e => s.retireSlot inst e.1 e.2) s

/-- Every instant with a slot, after a step has skipped some (R137). -/
def State.retireAll (s : State) : State := (s.plt.slots.flatMap (fun e => e.2.slots.map (·.inst))).foldl State.retireSlots s

/-- The supplements that a group's slice lets go follow it, in the order of their writes, up to the first that waits for another slice (R135). One whose instant
was skipped has none (R137). -/
def State.supplementsDue (s : State) (n : Nat) (g : Group) : State :=
  let l := (s.plt.sidings.filter (fun x => x.due.contains n)).takeWhile (fun x => !x.holdsBack n g)
  let s1 : State := { s with plt := { s.plt with sidings := s.plt.sidings.map (fun x =>
    if l.contains x then { x with due := x.due.filter (· != n) } else x) } }
  l.foldl (fun s x => match s.carrier x.contract, g.releaseOf x.slot.inst with
    | some c, some _ => s.supplement x.contract c n g x.slot
    | _, _ => s) s1

/-- The bytes that the rings have taken: what tells whether a slice made a record. -/
def State.ringBytes (s : State) : Nat := (s.plt.rings.map (fun e => e.2.prod.toNat)).sum

/-- The slice's records reach the rings; the first record written since the group was enabled or woke takes RESUMED with it (Table 04-5). -/
def State.sliceRings (s : State) (n : Nat) (g : Group) (x : Slice) : State :=
  let s1 := s.ringsWrite x
  let s2 := if s1.ringBytes != s.ringBytes then s1.setGroup n { g with resumed := false } else s1
  s2.supplementsDue n g

/-! ## Decisions for the pair (09_alarm_logic R36, R262) -/

def Island.field (x : Option Island) (f : Nat) : Nat :=
  match f with
  | 0 => b2n x.isSome
  | 1 => (x.map (·.id)).getD 0
  | 2 => (x.map (·.deltaF.toNat)).getD 0
  | 3 => (x.map (·.freq.toNat)).getD 0
  | _ => (x.map (·.members.length)).getD 0

/-- The latest decision that an entry of kind 4, 5, 7 or 8 reads. -/
def State.decision (s : State) (e : AlcMapEntry) : Nat :=
  match e.kind with
  | 4 => b2n ((tget e.index s.osc.dets).any (·.asserted))
  | 5 => ((tget e.index s.osc.dets).map (·.amp.toNat)).getD 0
  | 7 => Island.field (tget e.index s.coh.eval.islands) e.chan
  | 8 => b2n (s.coh.eval.islands.any (fun x => x.2.members.contains e.index))
  | _ => 0

/-- An entry whose decisions are made at the departures of a group. -/
def State.decidedBy (s : State) (g : Nat) (e : AlcMapEntry) : Bool :=
  match e.kind with
  | 4 => (tget e.index s.osc.dets).any (fun d => d.set.src != 0xFF && d.set.group == g)
  | 5 => (tget e.index s.osc.dets).any (fun d => d.set.src != 0xFF && d.set.group == g)
  | 7 => s.coh.set.any (fun c => c.group == g)
  | 8 => s.coh.set.any (fun c => c.group == g)
  | _ => false

/-- The decisions of a departure of the trigger group are kept for its scan, for the map in force and for the one that may replace it. -/
def State.alcDecide (s : State) (x : Slice) : State :=
  if s.alc.setting.any (fun c => c.trig == 0 && c.group == x.group) then
    let entries := (s.alc.active.toList ++ s.alc.standby.toList).flatMap (·.map)
    let vals := (entries.filter (s.decidedBy x.group)).map (fun e => (e, s.decision e))
    { s with alc := { s.alc with decided := { inst := x.inst, vals } :: s.alc.decided.take 15 } }
  else s

/-- Release an instant: the slice is built, handed over and kept (R126). -/
def State.release (s : State) (n : Nat) (g : Group) (inst : Nat) (rel : Stamp) (early : Bool) : State :=
  let b := s.buildEntries n g.set.tbSel inst rel
  let x : Slice := { group := n, tb := g.set.tbSel, supplement := false, inst, rel, seq := g.seq, early, holdover := s.baseHolds g.set.tbSel
                     resumed := g.resumed, entries := b.2.1 }
  let g' : Group := { g with
    last := some inst, lastRel := rel, seq := g.seq + 1, skips := g.skips.filter (fun j => decide (inst < j)), house := tdel inst g.house, due := tdel inst g.due
    released := (inst, rel, g.seq) :: g.released.take 4095 }
  let s1 := (b.1.setGroup n g').holdMarks b.2.2
  let subst := (x.entries.filter (fun e => substOf e.qual != 0)).length
  let s2 := if subst == 0 then s1 else s1.count .plt 5 subst
  let s3 := s2.retireSlots inst
  let s4 : State := { s3 with plt := { s3.plt with latest := tset n x s3.plt.latest, history := fitHistory 1073741824 (x :: s3.plt.history) } }
  let s5 := s4.sliceRings n g' x
  let s6 := s5.plt.outs.foldl (fun s e => s.outFrame e.1 e.2 x) s5
  (((s6.oscSlice x).cohSlice x).alcDecide x).metersSlice x

end Sys2Proof.Machine
end

