-- ==== Sys2Proof/Machine/WaveOps.lean ====
section
/-!
DEFINITION. The waveform chain as samples reach it (05_waveform_chain R150 to R177, 06_metering R185 and R186, 07_oscillation R204): decimation,
tracking, undercoat and finish coat, writes, comparators, metering ticks and taps.
-/
namespace Sys2Proof.Machine

/-! ## Rates and delays -/

/-- What fixes a unit's windows: SV_RATE, R, Fp, FNOM, and in ticks the delay and span of the output filter, E, and a quarter cycle. -/
structure Geo where
  sv : Nat
  r : Nat
  fp : Nat
  fnom : Nat
  out : Nat
  span : Nat
  e : Nat
  half : Nat
  deriving DecidableEq, Repr

/-- τ_OUT of M class in units of 0.5 ms (Table 05-6). -/
def mLinear (rate : Nat) : Nat :=
  match rate with
  | 10 => 700 | 12 => 585 | 15 => 465 | 20 => 350 | 25 => 280 | 30 => 235 | 50 => 140 | 60 => 115 | 100 => 70 | _ => 60

def mMinimum (rate : Nat) : Nat :=
  match rate with
  | 10 => 350 | 12 => 295 | 15 => 235 | 20 => 175 | 25 => 140 | 30 => 120 | 50 => 70 | 60 => 60 | 100 => 35 | _ => 30

/-- The figures of Tables 05-1, 05-5 and 05-6 for a setting. -/
def geoOf (p : WchUnitSet) (svRate outRate : Nat) : Geo :=
  let fp := procRate svRate
  let fnom := if p.fnom60 then 60 else 50
  let cyc := fp / fnom
  { sv := svRate, r := decimation svRate, fp, fnom
    out := if p.cls == 0 then (if p.phase == 0 then cyc else cyc / 2)
           else (if p.phase == 0 then mLinear outRate else mMinimum outRate) * fp / 2000
    span := if p.cls == 0 then 2 * cyc else 2 * (mLinear outRate * fp / 2000)
    e := if p.cls == 0 then fp / 400 else fp / 200
    half := cyc / 4 }

/-- Output 14 or 15 is selected. -/
def selFreq (outSel : Nat) : Bool := outSel.testBit 14 || outSel.testBit 15

/-- τ_CIC, τ_FE, τ_total and S_F in samples (R150, R159, R162). -/
def Geo.cic (g : Geo) : Nat := 3 * (g.r - 1)
def Geo.frontEnd (g : Geo) : Nat := g.cic + 3 * g.r
def Geo.total (g : Geo) (freq : Bool) : Nat := g.frontEnd + g.r * (g.out + (if freq then g.e else 0))
def Geo.settle (g : Geo) : Nat := 2 * g.frontEnd + g.r * g.span

/-- A number of samples in ns, to the nearest. -/
def Geo.ns (g : Geo) (n : Nat) : Nat := (2 * n * 1000000000 + g.sv) / (2 * Nat.max g.sv 1)

/-- A sample time in ns on the bound base (TIME_CORR_NS). -/
def Geo.sampleNs (g : Geo) (p : WchUnitSet) (n : Nat) : Int :=
  (((2 * n * 1000000000 + g.sv) / (2 * Nat.max g.sv 1) : Nat) : Int) + p.timeCorrNs

/-- The instant of a tick in ns, to the nearest (04_platform R119). -/
def Geo.tickNs (g : Geo) (p : WchUnitSet) (k : Nat) : Int :=
  (((2 * k * 1000000000 + g.fp) / (2 * Nat.max g.fp 1) : Nat) : Int) + p.timeCorrNs

/-- The tick of an instant counted in 1/1,200 s. -/
def Geo.tickOf (g : Geo) (inst : Nat) : Nat := inst * g.fp / 1200

/-! ## The decimator (R153, R154) -/

/-- One input into the six integrators, each adding its predecessor's new value. -/
def integrate : List (BitVec 96) → BitVec 96 → List (BitVec 96)
  | [], _ => []
  | a :: r, x => (a + x) :: integrate r (a + x)

/-- One value through the six combs: the new delays and the output. -/
def combStep : List (BitVec 96) → BitVec 96 → List (BitVec 96) × BitVec 96
  | [], x => ([], x)
  | d :: r, x =>
    let y := combStep r (x - d)
    (x :: y.1, y.2)

/-- A sample enters a channel's decimator. -/
def Cic.push (c : Cic) (x : Int) : Cic := { c with integ := integrate c.integ (BitVec.ofInt 96 x) }

/-- The decimated output. -/
def Cic.take (c : Cic) : Cic × Int :=
  let y := combStep c.comb (c.integ.getLastD 0)
  ({ c with comb := y.1 }, y.2.toInt)

/-! ## Windows -/

/-- The marks of a channel over samples lo to hi, with the gap bit for a sample that is not there (R152, R173). -/
def WUnit.windowMarks (u : WUnit) (lo hi : Int) (ch : Nat) : Nat :=
  let inside := u.samples.filter (fun x => decide (lo ≤ (x.n : Int)) && decide ((x.n : Int) ≤ hi))
  let have_ := inside.length
  let m := inside.foldl (fun m x => m ||| (x.marks[ch]?).getD 16) 0
  if (have_ : Int) < hi - lo + 1 then m ||| 16 else m

/-- The inputs of a catalogue entry (Table 05-2, R152). -/
def depOf : Nat → List Nat
  | 8 => [0, 1, 2] | 10 => [0, 1, 2] | 12 => [0, 1, 2] | 9 => [4, 5, 6] | 11 => [4, 5, 6] | 13 => [4, 5, 6] | n => [n]

def depsOf (p : WchUnitSet) (out : Nat) : List Nat := if 14 ≤ out then depOf p.trackRef else depOf out

def WUnit.outMarks (u : WUnit) (lo hi : Int) (out : Nat) : Nat :=
  (depsOf u.set out).foldl (fun m ch => m ||| u.windowMarks lo hi ch) 0

/-- Samples from which the finish coat of a tick is estimated (R162): T + τ_total − S_F to T + τ_total. -/
def Geo.fineWindow (g : Geo) (freq : Bool) (k : Nat) : Int × Int :=
  let hi := ((k * g.r + g.total freq : Nat) : Int)
  (hi - (g.settle : Int), hi)

/-- Samples from which the undercoat of a tick is estimated: the half cycle and the reach of the front end. -/
def Geo.underWindow (g : Geo) (k : Nat) : Int × Int :=
  let reach := ((g.half * g.r + g.frontEnd : Nat) : Int)
  (((k * g.r : Nat) : Int) - reach, ((k * g.r : Nat) : Int) + reach)

/-- The same for an output: outputs 14 and 15 draw on the undercoats of the preceding quarter cycle too (R152, R167). -/
def Geo.underReach (g : Geo) (k out : Nat) : Int × Int :=
  let w := g.underWindow k
  (if 14 ≤ out then w.1 - ((g.half * g.r : Nat) : Int) else w.1, w.2)

/-- The quality of marks (Table 05-3, R172). -/
def markQual (m : Nat) : W16 :=
  qIf (m.testBit 0 || m.testBit 5) qQuestionable ||| qIf (m.testBit 1) qTest ||| qIf (m.testBit 2) qTimeUncertain ||| qIf (m.testBit 3) qOverrange
  ||| qIf (m.testBit 6) qDerived

/-! ## Phasors -/

/-- Counts of the input per V or A (R151): 1 mA and 10 mV. -/
def chScale (ch : Nat) : Nat := if ch < 4 then 1000 else 100

def toUnits (ch : Nat) (v : Int) : Frac := frac v (65536 * chScale ch)

structure FracPhasor where
  re : Frac
  im : Frac
  deriving DecidableEq, Repr

def FracPhasor.add (a b : FracPhasor) : FracPhasor := { re := fReduce (fAdd a.re b.re), im := fReduce (fAdd a.im b.im) }

/-- The product with a^n, a = e^(j2π/3). -/
def FracPhasor.turn (x : FracPhasor) (n : Nat) : FracPhasor :=
  let h := frac (-1) 2
  let s := frac root3Fix (2 * fixOne)
  let s' := if n % 3 == 2 then fNeg s else s
  if n % 3 == 0 then x
  else { re := fReduce (fSub (fMul h x.re) (fMul s' x.im)), im := fReduce (fAdd (fMul h x.im) (fMul s' x.re)) }

/-- A catalogue phasor from the phasors of the channels (Table 05-2). -/
def catalogue (out : Nat) (ph : Nat → FracPhasor) : FracPhasor :=
  if out ≤ 7 then ph out
  else
    let c := if out % 2 == 0 then 0 else 4
    let n := if out ≤ 9 then 1 else if out ≤ 11 then 2 else 0
    let t := ((ph c).add ((ph (c + 1)).turn n)).add ((ph (c + 2)).turn (2 * n))
    { re := fReduce (fMul t.re (frac 1 3)), im := fReduce (fMul t.im (frac 1 3)) }

/-- Front-end samples of a channel at ticks lo to hi, oldest first. -/
def WUnit.feWindow (u : WUnit) (lo hi : Int) (ch : Nat) : List (Nat × Int) :=
  ((u.fe.filter (fun t => decide (lo ≤ (t.k : Int)) && decide ((t.k : Int) ≤ hi))).map (fun t => (t.k, (t.x[ch]?).getD 0))).reverse

def WUnit.feWindows (u : WUnit) (lo hi : Int) (chs : List Nat) : List (Nat × List Int) :=
  ((u.fe.filter (fun t => decide (lo ≤ (t.k : Int)) && decide ((t.k : Int) ≤ hi))).map (fun t => (t.k, chs.map (fun ch => (t.x[ch]?).getD 0)))).reverse

/-- f_t over ticks lo to hi. -/
def WUnit.fWindow (u : WUnit) (lo hi : Int) : List (Nat × Nat) :=
  (u.fHist.filter (fun t => decide (lo ≤ (t.1 : Int)) && decide ((t.1 : Int) ≤ hi))).reverse

/-! ## The NCO and the output filters (R155, R156, R158) -/

/-- Sine and cosine of the NCO: 24 bits from the 48-bit phase. -/
def ncoSin (phase : Nat) : Int := fixRound (frac (sinFix (frac phase (2 ^ 48)) * 8388608) fixOne)
def ncoCos (phase : Nat) : Int := fixRound (frac (cosFix (frac phase (2 ^ 48)) * 8388608) fixOne)

/-- The quadrature demodulator: a value times e^(−jφ). -/
def demod (x : Int) (phase : Nat) : Phasor :=
  { re := fixRound (frac (x * ncoCos phase) 8388608), im := fixRound (frac (-(x * ncoSin phase)) 8388608) }

/-- A phasor turned by a 48-bit phase. -/
def Phasor.turned (p : Phasor) (phase : Nat) : Phasor :=
  { re := fixRound (frac (p.re * ncoCos phase - p.im * ncoSin phase) 8388608)
    im := fixRound (frac (p.re * ncoSin phase + p.im * ncoCos phase) 8388608) }

/-- A peak phasor as an RMS phasor. -/
def Phasor.rms (p : Phasor) : Phasor :=
  { re := fixRound (frac (p.re * (root2Fix : Int)) fixOne), im := fixRound (frac (p.im * (root2Fix : Int)) fixOne) }

/-- The cosine at FNOM whose phase is zero at the top of each second, at a tick, in turns (R156). -/
def Geo.refTurn (g : Geo) (p : WchUnitSet) (k : Nat) : Frac :=
  frac ((g.fnom : Int) * ((k * 1000000000 : Nat) + p.timeCorrNs * (g.fp : Int))) (g.fp * 1000000000)

/-- What re-referencing adds at a tick: the accumulated NCO phase less the reference, in 48 bits. -/
def WUnit.turnAt (u : WUnit) (g : Geo) (k : Nat) : Nat :=
  let nco := ((u.fe.find? (fun t => t.k == k)).map (·.nco)).getD 0
  let r := g.refTurn u.set k
  (((nco : Int) - fixRound { r with num := r.num * (2 ^ 48 : Nat) }) % (2 ^ 48 : Nat)).toNat

/-- Coefficient i of the output filter in 2^-23, oldest first (R158): the triangular window of P class over two nominal cycles, the windowed sinc of M class,
symmetric about the middle; the minimum-phase counterparts are not stated. -/
def Geo.coef (g : Geo) (cls phase outRate i : Nat) : Int :=
  let d := ((i : Int) - ((g.span / 2 : Nat) : Int)).natAbs
  if phase == 1 then Config.wchMin [g.fp, g.fnom, cls, outRate] i
  else if cls == 0 then
    let c := g.fp / g.fnom
    fixRound (frac ((c - d : Nat) * 8388608 : Nat) (c * c))
  else
    let fc := outRate * (2000 + 3 * (Config.wchCut outRate % 1001))
    let w : Int := ((Config.wchWindow outRate g.fp d % 1000001 : Nat) : Int)
    if d == 0 then fixRound (frac (w * ((2 * fc * 8388608 : Nat) : Int)) (10000 * g.fp * 1000000))
    else fixRound (frac (w * sinFix (frac (fc * d) (10000 * g.fp)) * 8388608) (piFix * d * 1000000))

/-- The baseband phasor of a channel at a tick: the demodulated window through the output filter, as an RMS value relative to the NCO. -/
def WUnit.basePhasor (u : WUnit) (g : Geo) (outRate k ch : Nat) : Phasor :=
  let hi : Int := (k + g.out : Nat)
  let lo := hi - (g.span : Int)
  let l := u.fe.filter (fun t => decide (lo ≤ (t.k : Int)) && decide ((t.k : Int) ≤ hi))
  let sum := l.foldl (fun (a : Int × Int) t =>
    let c := g.coef u.set.cls u.set.phase outRate ((t.k : Int) - lo).toNat
    let v := demod ((t.x[ch]?).getD 0) t.nco
    (a.1 + c * v.re, a.2 + c * v.im)) (0, 0)
  ({ re := fixRound (frac sum.1 8388608), im := fixRound (frac sum.2 8388608) } : Phasor).rms

def Phasor.units (ch : Nat) (p : Phasor) : FracPhasor := { re := toUnits ch p.re, im := toUnits ch p.im }

/-- The finish coat of a channel at a tick, re-referenced. -/
def WUnit.finePhasor (u : WUnit) (g : Geo) (outRate k ch : Nat) : FracPhasor :=
  ((u.basePhasor g outRate k ch).turned (u.turnAt g k)).units ch

/-- The baseband angle of TRACK_REF at a tick, in turns. -/
def WUnit.baseAngle (u : WUnit) (g : Geo) (outRate k : Nat) : Frac :=
  let p := catalogue u.set.trackRef (fun ch => (u.basePhasor g outRate k ch).units ch)
  argTurn p.re p.im

/-- f_t at a tick, in µHz. -/
def WUnit.fAt (u : WUnit) (k : Nat) : Nat := ((u.fHist.find? (fun t => t.1 == k)).map (·.2)).getD u.fTrack

/-- A weighted mean over the distances 1 to E of a differentiator. -/
def diffMean (e : Nat) (w : Nat → Nat) (f : Nat → Frac) : Frac :=
  let ds := (List.range e).map (· + 1)
  let total := (ds.map (fun d => w d + 1)).sum
  fReduce (fDiv (fSum (ds.map (fun d => fReduce (fMul (frac (w d + 1 : Nat)) (f d))))) (frac (Nat.max total 1)))

/-- Output 14 of the finish coat in mHz: f_t plus the rate of change of the baseband angle of TRACK_REF, by a symmetric differentiator of reach E, less
FNOM (R156). -/
def WUnit.fineFreq (u : WUnit) (g : Geo) (outRate k : Nat) : Frac :=
  let rate := diffMean g.e (Config.wchDiff g.fp u.set.cls) (fun d =>
    fMul (wrapTurn (fSub (u.baseAngle g outRate (k + d)) (u.baseAngle g outRate (k - d)))) (frac g.fp (2 * d)))
  fReduce (fMul (fSub (fAdd (frac (u.fAt k) 1000000) rate) (frac g.fnom)) (frac 1000))

/-- Output 15 in Hz/s: the derivative of output 14. -/
def WUnit.fineRocof (u : WUnit) (g : Geo) (outRate k : Nat) : Frac :=
  diffMean g.e (Config.wchDiff2 g.fp u.set.cls) (fun d =>
    let a := u.baseAngle g outRate k
    let up := wrapTurn (fSub (u.baseAngle g outRate (k + d)) a)
    let down := wrapTurn (fSub a (u.baseAngle g outRate (k - d)))
    let track := fMul (frac ((u.fAt (k + d) : Int) - (u.fAt (k - d) : Int)) 1000000) (frac g.fp (2 * d))
    fReduce (fAdd track (fMul (fSub up down) (frac (g.fp * g.fp) (d * d)))))

/-- The undercoat of a channel at a tick, where it has been formed. -/
def WUnit.underPhasor (u : WUnit) (k ch : Nat) : FracPhasor :=
  match u.under.find? (fun x => x.k == k) with
  | some x => match x.u[ch]? with
    | some p => { re := toUnits ch p.re, im := toUnits ch p.im }
    | none => { re := frac 0, im := frac 0 }
  | none => { re := frac 0, im := frac 0 }

/-- The undercoat angle of TRACK_REF at a tick, relative to the cosine at FNOM, in turns. -/
def WUnit.underAngle (u : WUnit) (k : Nat) : Frac :=
  let p := catalogue u.set.trackRef (u.underPhasor k)
  argTurn p.re p.im

/-- Output 14 in undercoat operation, in mHz: f_t plus the rate of change of the angle of TRACK_REF, relative to f_t, over the preceding quarter cycle, less
FNOM (R167). -/
def WUnit.underFreq (u : WUnit) (g : Geo) (k : Nat) : Frac :=
  let turn := wrapTurn (fSub (u.underAngle k) (u.underAngle (k - g.half)))
  let ft := frac u.fTrack 1000000
  let rate := fSub (fAdd (fMul turn (frac g.fp g.half)) (frac g.fnom)) ft
  fReduce (fMul (fSub (fAdd ft rate) (frac g.fnom)) (frac 1000))

/-! ## Outputs (R151, R152, R157, R167, R170, R173) -/

def phasorVal (p : FracPhasor) : W64 := phasorWord (f32Of p.re) (f32Of p.im)

/-- An output value with its quality, or unusable for a gap. -/
def outVal (type : Nat) (value : W64) (m : Nat) (extra : W16) (bad : Bool) : ChanVal :=
  if bad || m.testBit 4 then { type, value := nanWord type, qual := qDerived ||| markQual m ||| extra, usable := false }
  else { type, value, qual := qDerived ||| markQual m ||| extra, usable := true }

/-- One output of the finish coat. -/
def WUnit.fineOut (u : WUnit) (g : Geo) (outRate k out : Nat) (bad : Bool) : ChanVal :=
  let w := g.fineWindow (selFreq u.set.outSel) k
  let m := u.outMarks w.1 w.2 out
  let q := qIf u.limited qQuestionable ||| qIf (u.frozen && 14 ≤ out) qInvalid
  let v := if out ≤ 13 then phasorVal (catalogue out (u.finePhasor g outRate k))
    else floatWord (f32Of (if out == 14 then u.fineFreq g outRate k else u.fineRocof g outRate k))
  outVal (outType out) v m q bad

/-- One output in undercoat operation. DESIGN CHOICE: before any finish-coat value exists ROCOF repeats 0; R167 gives no value to repeat then (log 124). -/
def WUnit.underOut (u : WUnit) (g : Geo) (k out : Nat) : ChanVal :=
  let w := g.underReach k out
  let m := u.outMarks w.1 w.2 out
  let back := if 14 ≤ out then 2 * g.half else g.half
  let early := u.switchN.any (fun n => decide (((k * g.r : Nat) : Int) - ((back * g.r : Nat) : Int) ≤ (n : Int)))
  let q := qUndercoat ||| qIf (early || out == 15 || u.limited) qQuestionable ||| qIf (u.frozen && 14 ≤ out) qInvalid
  let v := if out ≤ 13 then phasorVal (catalogue out (u.underPhasor k))
    else floatWord (if out == 14 then f32Of (u.underFreq g k) else u.lastRocof)
  outVal (outType out) v m q false

/-! ## Comparators (R175 to R177) -/

/-- The quantity of a comparator at a tick in the unit's mode; none where it is unusable, or UNDERCOAT under FINISH_ONLY. A frequency that tracking leaves
INVALID while it is frozen is not unusable (04_platform R124). -/
def WUnit.cmpValue (u : WUnit) (g : Geo) (outRate k : Nat) (c : WchCmpSet) : Option Frac :=
  let w := if u.mode1 then g.underReach k c.qty else g.fineWindow (14 ≤ c.qty) k
  if (u.mode1 && c.finishOnly) || (u.outMarks w.1 w.2 c.qty).testBit 4 then none
  else if c.qty ≤ 13 then
    let p := catalogue c.qty (if u.mode1 then u.underPhasor k else u.finePhasor g outRate k)
    some (extHypot p.re p.im)
  else if c.qty == 14 then some (if u.mode1 then u.underFreq g k else u.fineFreq g outRate k)
  else some (if u.mode1 then extOf (f32Val u.lastRocof) else u.fineRocof g outRate k)

/-- The decision of one tick: whether the state changes (R176). -/
def Cmp.judge (c : Cmp) (v : Option Frac) : Cmp × Bool :=
  match v with
  | none => ({ c with run := 0 }, false)
  | some x0 =>
    let x := if c.set.mode == 3 then { x0 with num := x0.num.natAbs } else x0
    let level := extOf (f32Val c.set.level)
    let hyst := extOf (f32Val c.set.hyst)
    let hit := if c.set.mode == 2
      then (if c.asserted then extLt (extAdd level hyst) x else extLt x level)
      else (if c.asserted then extLt x (extAdd level (extNegate hyst)) else extLt level x)
    if !hit then ({ c with run := 0 }, false)
    else if c.set.persist < c.run + 1 then ({ c with run := 0, asserted := !c.asserted }, true)
    else ({ c with run := c.run + 1 }, false)

/-- CMP_EVALUATE: one comparator at one tick. -/
def State.cmpTick (s : State) (n : Nat) (u : WUnit) (g : Geo) (outRate k : Nat) : State :=
  match tget n s.wch.cmps with
  | none => s
  | some c =>
    let r := c.judge (u.cmpValue g outRate k c.set)
    let c' : Cmp := { r.1 with
      next := some (k + 1), changed := r.1.changed || r.2, stamp := if r.2 then g.tickNs u.set k else r.1.stamp }
    let s1 : State := { s with wch := { s.wch with cmps := tset n c' s.wch.cmps } }
    if r.2 then s1.evt [s.holder kindUnit (n / 8)] (0x0C0 + n / 32) ((if c'.asserted then 1 else 2) + 256 * (n % 32)) else s1

/-- Every tick of a comparator that the newest front-end tick completes. -/
def State.cmpTicks (s : State) (n : Nat) (u : WUnit) (g : Geo) (outRate newest : Nat) : State :=
  match tget n s.wch.cmps with
  | none => s
  | some c =>
    let lag := if u.mode1 then g.half else g.out + (if 14 ≤ c.set.qty then g.e else 0)
    if c.set.mode == 0 || newest < lag then s
    else
      let last := newest - lag
      let from_ := c.next.getD last
      (List.range (last + 1 - from_)).foldl (fun s i => s.cmpTick n u g outRate (from_ + i)) s

/-! ## Switching (R165 to R169) -/

/-- UNDERCOAT_ON, a moved switch point, or a channel switch with UNDERCOAT_EN clear. -/
def State.unitSwitch (s : State) (n : Nat) (u : WUnit) (at_ : Nat) (channel : Bool) : State × WUnit :=
  if !u.set.undercoatEn then
    (s, if channel then { u with switchN := some at_, waitFine := true } else u)
  else if u.mode1 then (s, { u with switchN := some at_ })
  else
    (s.unitEvent n 3, { u with mode1 := true, switchN := some at_, waitFine := false, switches := u.switches + 1, lastSwitch := s.now })

/-- The step test of one channel at a tick (R165). DESIGN CHOICE: it is not made where either window holds a gap sample or reaches behind the start (log
152). -/
def WUnit.exceeds (u : WUnit) (g : Geo) (k ch : Nat) : Bool :=
  let cyc := g.fp / g.fnom
  let w := g.underWindow k
  let w0 := g.underWindow (k - cyc)
  if k < cyc || (u.windowMarks w.1 w.2 ch).testBit 4 || (u.windowMarks w0.1 w0.2 ch).testBit 4 then false
  else
    let a := u.underPhasor k ch
    let b := u.underPhasor (k - cyc) ch
    let sq := fun (x y : Frac) => fAdd (fMul x x) (fMul y y)
    let d := sq (fSub a.re b.re) (fSub a.im b.im)
    let m := sq b.re b.im
    let floor := frac (if ch < 4 then 100 else 1000000)
    let ref := if fLt m floor then floor else m
    let lvl := frac (u.set.stepLevel * u.set.stepLevel) 1000000
    fLt (fMul lvl ref) d

/-- A DFT at FNOM over `n` intervals of a tick from `lo` on, relative to the cosine at FNOM, as an RMS phasor; with `ends` both end points are taken at half
weight, without them the last point is left out. -/
def WUnit.dft (u : WUnit) (g : Geo) (lo : Int) (n : Nat) (ends : Bool) (ch : Nat) : Phasor :=
  let sum := u.fe.foldl (fun (a : Int × Int) t =>
    let i := (t.k : Int) - lo
    if i < 0 || (n : Int) < i || (!ends && i == (n : Int)) then a
    else
      let w : Int := if ends && (i == 0 || i == (n : Int)) then 1 else 2
      let x := w * (t.x[ch]?).getD 0
      let r := g.refTurn u.set t.k
      (a.1 + x * cosFix r, a.2 - x * sinFix r)) (0, 0)
  let part := fun (v : Int) => fixRound (frac (v * (root2Fix : Int)) (2 * Nat.max n 1 * fixOne * fixOne))
  { re := part sum.1, im := part sum.2 }

/-- The undercoat of a new tick, a half-cycle DFT about it, and STEP_DETECT on it. DESIGN CHOICE: channels that step at one tick count as one step in counter
2, as they set one switch point (R169, log 153). -/
def State.unitUnder (s : State) (n : Nat) (u : WUnit) (g : Geo) (k : Nat) : State × WUnit :=
  let est := (List.range 8).map (fun ch => u.dft g ((k : Int) - (g.half : Int)) (2 * g.half) true ch)
  let u1 : WUnit := { u with under := { k, u := est } :: u.under.take (g.out + g.e + 2 * (g.fp / g.fnom) + 8) }
  if !u.set.undercoatEn then (s, { u1 with exceed := List.replicate 8 0 })
  else
    let ex := (List.range 8).map (fun ch => if u1.exceeds g k ch then Nat.min 3 ((u1.exceed[ch]?).getD 0 + 1) else 0)
    let u2 : WUnit := { u1 with exceed := ex }
    if ex.any (· == 2) then (s.wchCount 2 1).unitSwitch n u2 ((k - 1 + g.half) * g.r) false else (s, u2)

/-! ## Tracking (R155, R157) -/

def fMinMicro : Nat := 45000000
def fMaxMicro : Nat := 65000000

/-- The gain of the first-order update of f_t for a tick, with a time constant of 50 ms in P class and 100 ms in M class (R155): between 1 ÷ (Fp τ) and the
gain 1 − e^(−1 ÷ (Fp τ)), which is not below 1 ÷ (Fp τ) − 1 ÷ (2 (Fp τ)²). -/
def Geo.trackGain (g : Geo) (cls : Nat) : Frac :=
  let n := Nat.max (if cls == 0 then g.fp / 20 else g.fp / 10) 1
  fSub (frac 1 n) (frac (Config.wchGain g.fp cls % 1001 : Nat) (2000 * n * n))

/-- The magnitude of TRACK_REF by which R157 judges, of the latest tick that the unit's mode gives a value for; none where a gap leaves none. -/
def WUnit.trackMag (u : WUnit) (g : Geo) (outRate k : Nat) : Option Frac :=
  let at_ := if u.mode1 then k - g.half else k - g.out
  let w := if u.mode1 then g.underWindow at_ else g.fineWindow false at_
  if k < g.out || (u.outMarks w.1 w.2 u.set.trackRef).testBit 4 then none
  else
    let p := catalogue u.set.trackRef (if u.mode1 then u.underPhasor at_ else u.finePhasor g outRate at_)
    some (extHypot p.re p.im)

/-- TRACK_FROZEN and TRACK_RESUMED on the magnitude of TRACK_REF, in either mode, and one update of f_t. DESIGN CHOICE: where a gap or the time before the
start leaves no magnitude, f_t keeps its value too (R155, log 132). -/
def State.unitTrack (s : State) (n : Nat) (u : WUnit) (g : Geo) (outRate k : Nat) : State × WUnit :=
  let keep := fun (v : WUnit) => { v with fHist := (k, v.fTrack) :: v.fHist.take 1100 }
  match u.trackMag g outRate k with
  | none => (s, keep u)
  | some mag =>
    let low := extLt mag (extOf (f32Val u.set.trackMin))
    let above := if low then 0 else u.aboveMin + 1
    let r : State × WUnit :=
      if low && !u.frozen then ((s.wchCount 5 1).unitEvent n 7, { u with frozen := true, aboveMin := 0 })
      else if u.frozen && 20 ≤ above then (s.unitEvent n 8, { u with frozen := false, aboveMin := 0 })
      else (s, { u with aboveMin := if u.frozen then above else 0 })
    if r.2.frozen || u.mode1 then (r.1, keep r.2)
    else
      let est := Config.wchEst g.fp g.fnom u.set.cls (u.fWindow 0 (k : Int)) (u.feWindows 0 (k : Int) (depOf u.set.trackRef))
      let lim := decide (est < fMinMicro) || decide (fMaxMicro < est)
      let next := fixRound (fAdd (frac u.fTrack) (fMul (g.trackGain u.set.cls) (frac ((est : Int) - (u.fTrack : Int)))))
      let f := if est < fMinMicro then fMinMicro else if fMaxMicro < est then fMaxMicro
        else Nat.min fMaxMicro (Nat.max fMinMicro next.toNat)
      (r.1, keep { r.2 with fTrack := f, limited := lim })

/-! ## Writes (R149, R159, R167, R168) -/

/-- The first instant whose finish window lies wholly after the switch point has come (R168). -/
def WUnit.settled (u : WUnit) (g : Geo) (inst : Nat) : Bool :=
  match u.switchN with
  | none => true
  | some n => decide (n + g.settle ≤ g.tickOf inst * g.r + g.total (selFreq u.set.outSel))

/-- The sample that completes the next write. -/
def WUnit.needs (u : WUnit) (g : Geo) (inst : Nat) : Nat :=
  if u.mode1 && !u.settled g inst then g.tickOf inst * g.r + g.frontEnd + g.half * g.r
  else g.tickOf inst * g.r + g.total (selFreq u.set.outSel)

/-- UNIT_WRITE: a work item (11_clusters R320), with FINISH_RESTORED on the write of T_r. A write marked unusable counts as a finish-coat write for the ROCOF that
undercoat operation repeats (DESIGN CHOICE: R167 does not say; log entry 124). -/
def State.unitWrite (s : State) (n : Nat) (id : Nat) (c : Contract) (g : Geo) (inst : Nat) (arrival : Stamp) : State :=
  match tget n s.wch.units with
  | none => s
  | some u =>
    let k := g.tickOf inst
    let under := u.mode1 && !u.settled g inst
    let back := u.mode1 && !under
    let sel := maskBits 16 u.set.outSel
    let wait := u.waitFine && !u.settled g inst
    let vals := sel.map (fun o => if under then u.underOut g k o else u.fineOut g c.outRate k o wait)
    let rocof := if under then u.lastRocof else f32Of (u.fineRocof g c.outRate k)
    let u1 : WUnit := { u with
      mode1 := u.mode1 && under, waitFine := wait, nextInst := some (inst + rateUnits c.outRate), lastRocof := rocof }
    let s1 := s.setUnit n u1
    let s2 := if back then s1.unitEvent n 4 else s1
    let s3 := if under then s2.wchCount 3 1 else s2
    s3.emitItem { stream := c.stream, contract := id, fsn := 0, priority := c.priority, emit := s.now, arrival, inst, vals }

/-- Every instant that the newest sample completes, in order. -/
def State.unitWrites (fuel : Nat) (s : State) (n : Nat) (newest : Nat) (arrival : Stamp) : State :=
  match fuel with
  | 0 => s
  | f + 1 =>
    match tget n s.wch.units with
    | none => s
    | some u =>
      match s.unitContract u, s.contractOf u.set.stream, u.nextInst with
      | some c, some (id, _), some inst =>
        let g := geoOf u.set (s.svRate u.set.stream) c.outRate
        if u.state == .running && u.needs g inst ≤ newest && !s.ingestHeld c.stream id c.priority then (s.unitWrite n id c g inst arrival).unitWrites f n newest arrival else s
      | _, _, _ => s

/-! ## Metering ticks (06_metering R185, R186, R193) -/

/-- One SOURCE 1 point at a tick. -/
def State.meterTick (s : State) (mp : Nat) (m : Meter) (u : WUnit) (g : Geo) (outRate k : Nat) : State :=
  let nn := g.fp / g.fnom
  let l := nn / 4
  let x := fun (ch : Nat) (i : Int) =>
    let v := match u.fe.find? (fun t => decide ((t.k : Int) = i)) with
      | some t => (t.x[ch]?).getD 0
      | none => 0
    toUnits ch (if m.set.reverse && ch < 4 then -v else v)
  let ticks : List Int := (List.range nn).map (fun (i : Nat) => (k : Int) - (i : Int))
  let mean := fun (f : Int → Frac) => fReduce (fDiv (ticks.foldl (fun a i => fReduce (fAdd a (f i))) (frac 0)) (frac nn))
  let rms := fun (ch : Nat) => sqrt32 (mean (fun i => fMul (x ch i) (x ch i)))
  let elems : List ((Int → Frac) × Nat) :=
    if m.set.wiring == 1 then [(fun i => fSub (x 4 i) (x 5 i), 0), (fun i => fSub (x 6 i) (x 5 i), 2)]
    else [(x 4, 0), (x 5, 1), (x 6, 2)]
  let p := mean (fun i => fSum (elems.map (fun e => fMul (e.1 i) (x e.2 i))))
  let qraw := mean (fun i => fSum (elems.map (fun e => fMul (e.1 (i - (l : Int))) (x e.2 i))))
  -- Δ is a quarter turn times this deviation
  let delta := frac ((u.fTrack : Int) - (g.fnom : Int) * 1000000) (4 * g.fnom * 1000000)
  let sn := sinOf delta
  let cs := cosOf delta
  let q := if fIsZero cs then { num := 0, den := 0 } else fReduce (fDiv (fAdd qraw (fMul p sn)) cs)
  let sv := extHypot p q
  let freq := fAdd (frac g.fnom) (fDiv (u.fineFreq g outRate (k - g.out - g.e)) (frac 1000))
  let dft := fun (ch : Nat) =>
    let r := u.dft g ((k : Int) + 1 - (nn : Int)) nn false ch
    let neg := m.set.reverse && ch < 4
    ({ re := toUnits ch (if neg then -r.re else r.re), im := toUnits ch (if neg then -r.im else r.im) } : ExtPhasor)
  let va := dft 4
  let lo : Int := (((k + 1) * g.r : Nat) : Int) - ((nn * g.r + g.frontEnd : Nat) : Int)
  let hi : Int := ((k * g.r + g.frontEnd : Nat) : Int)
  -- Q_raw takes the voltages L ticks earlier
  let early := lo - ((l * g.r : Nat) : Int)
  let marks := [0, 1, 2, 4, 5, 6].foldl (fun a ch => a ||| u.windowMarks (if ch < 4 then lo else early) hi ch) 0
  let res : NrgResult := {
    stamp := g.tickNs u.set k
    rms := [rms 4, rms 5, rms 6, rms 0, rms 1, rms 2]
    power := [f32Of p, extF32 q, extF32 sv, powerFactor p sv m.set.sFloor, f32Of freq]
    angles := [argImage ((dft 5).mulConj va), argImage ((dft 6).mulConj va)]
      ++ [0, 1, 2].map (fun i => argImage ((dft (4 + i)).mulConj (dft i)))
    questionable := marks.testBit 0 || marks.testBit 5, freqInvalid := u.frozen }
  s.meterUpdate mp res p q (2400 / Nat.max g.fp 1) (!marks.testBit 4 && !marks.testBit 1)

/-- METER_SOURCE1_UPDATE: every enabled point of a unit. -/
def State.metersTick (s : State) (n : Nat) (u : WUnit) (g : Geo) (outRate k : Nat) : State :=
  s.nrg.points.foldl (fun s e =>
    if e.2.set.enable && e.2.set.source == 1 && e.2.set.unit == n && s.meterSource e.2.set then s.meterTick e.1 e.2 u g outRate k else s) s

/-! ## Feeds of the oscillation engine (R174, 07_oscillation R204) -/

/-- Whole ticks of the delay τ_WB = 4.0 ms of the wideband feed, which is no whole number of them. -/
def Geo.wide (g : Geo) : Nat := 4 * g.fp / 1000

/-- Samples of τ_WB, rounded up. -/
def Geo.wideSamples (g : Geo) : Nat := ceilDiv g.sv 250

/-- What re-referencing adds at the instant τ_WB before a tick: the accumulated NCO phase there, on the line between the ticks about it, less the cosine at
FNOM (R156), in 48 bits. -/
def WUnit.wideTurn (u : WUnit) (g : Geo) (k : Nat) : Nat :=
  let nco := fun (j : Nat) => (((u.fe.find? (fun t => t.k == j)).map (·.nco)).getD 0 : Nat)
  let a := k - g.wide
  let rest := frac ((4 * g.fp % 1000 : Nat) * (((nco a : Int) - (nco (a - 1) : Int)) % (2 ^ 48 : Nat))) 1000
  let r := frac ((g.fnom : Int) * ((k * 1000000000 : Nat) + (u.set.timeCorrNs - 4000000) * (g.fp : Int))) (g.fp * 1000000000)
  (((nco a : Int) - fixRound rest - fixRound { r with num := r.num * (2 ^ 48 : Nat) }) % (2 ^ 48 : Nat)).toNat

/-- The wideband filters at a new tick: every channel's demodulated value through its elliptic low-pass, and the feed of the instant τ_WB before it,
re-referenced; it is numbered by the tick (07_oscillation R204). -/
def WUnit.wideStep (u : WUnit) (g : Geo) (t : TickRec) : WUnit :=
  let step := fun (ch part : Nat) =>
    let v := demod ((t.x[ch]?).getD 0) t.nco
    Config.wchWide g.fp g.fnom ((u.wide[2 * ch + part]?).getD []) (if part == 0 then v.re else v.im)
  let turn := u.wideTurn g t.k
  { u with
    wide := (List.range 16).map (fun i => (step (i / 2) (i % 2)).1)
    wideOut := { k := t.k, u := (List.range 8).map (fun ch => (({ re := (step ch 0).2, im := (step ch 1).2 } : Phasor).rms).turned turn) } :: u.wideOut.take 7 }

/-- The wideband sample of the instant τ_WB before a tick reaches the oscillation engine. Its marks are those of the samples within τ_WB and the reach of the
front end on either side of that instant. -/
def State.wideTick (s : State) (n : Nat) (u : WUnit) (g : Geo) (k : Nat) : State :=
  let hi := ((k * g.r + g.frontEnd : Nat) : Int)
  let w := (hi - ((2 * (g.wideSamples + g.frontEnd) : Nat) : Int), hi)
  s.oscFeed 1 n g.fp (k : Int) (fun qty ch =>
    let m := if qty == 3 then u.outMarks w.1 w.2 14 else u.windowMarks w.1 w.2 ch
    let qual := markQual m
    if m.testBit 4 then (.bad, qual)
    else if qty == 3 then
      let h := u.wideOut.map (fun x => (depOf u.set.trackRef).map (fun ch => match x.u[ch]? with
        | some p => (p.re, p.im)
        | none => (0, 0)))
      (.value (frac (Config.wchWideFreq g.fp g.fnom (u.fAt (k - g.wide)) h) 1000000), qual)
    else
      let p := match u.wideOut.find? (fun x => x.k == k) with
        | some x => ((x.u[ch]?).getD { re := 0, im := 0 }).units ch
        | none => { re := frac 0, im := frac 0 }
      let v : ExtPhasor := { re := p.re, im := p.im }
      (phasorIn qty v v, qual))

/-- A new sample through one tap's notch; on the tap's grid the residual of the sample 5.0 ms earlier is delivered, a gap as a gap. -/
def State.tapSample (s : State) (e : Nat × HxTap) (u : WUnit) (sv : Nat) (x : SampleRec) : State :=
  let d := sv / 200
  let step := Nat.max (sv / Nat.max (tapRate sv) 1) 1
  let gap := fun (y : SampleRec) => ((y.marks[e.2.input]?).getD 16).testBit 4
  let r := Config.wchNotch sv u.fTrack e.2.z (if gap x then none else some ((x.vals[e.2.input]?).getD 0))
  let s1 : State := { s with wch := { s.wch with taps := tset e.1 { e.2 with z := r.1 } s.wch.taps } }
  if x.n < d || (x.n - d) % step != 0 then s1
  else
    let c := x.n - d
    let m := (u.samples.find? (fun y => y.n == c)).elim 16 (fun y => (y.marks[e.2.input]?).getD 16)
    let tap : HxTap := { e.2 with z := r.1, last := some ((c / step : Nat) : Int) }
    let s2 : State := { s with wch := { s.wch with taps := tset e.1 tap s.wch.taps } }
    s2.oscFeed 2 e.1 (tapRate sv) ((c / step : Nat) : Int)
      (fun _ _ => (if m.testBit 4 then .bad else .value (toUnits e.2.input r.2), markQual m))

/-- The taps of a unit at a new sample. -/
def State.tapFeed (s : State) (n : Nat) (u : WUnit) (sv : Nat) (x : SampleRec) : State :=
  s.wch.taps.foldl (fun s e => if e.2.unit != n then s else s.tapSample e u sv x) s

/-! ## A tick (R150) -/

/-- R times sin(π f ÷ SV_RATE), and sin(π f ÷ Fp): their quotient to the sixth is the amplitude response of the CIC decimator at f Hz. -/
def cicDroop (g : Geo) (f : Nat) : Int × Int := ((g.r : Int) * sinFix (frac f (2 * g.sv)), sinFix (frac f (2 * g.fp)))

/-- The response of a symmetric FIR of 7 taps at the rate Fp at f Hz, in fixOne. -/
def firResponse (g : Geo) (c : Nat → Int) (f : Nat) : Int :=
  c 0 * (fixOne : Int) + 2 * (c 1 * cosFix (frac f g.fp) + c 2 * cosFix (frac (2 * f) g.fp) + c 3 * cosFix (frac (3 * f) g.fp))

/-- Taps in 2^-22 that correct the droop of the CIC to within ±0.01 dB at every Hz from 45 to 65 (R153). -/
def compMeets (g : Geo) (c : Nat → Int) : Bool :=
  (List.range 21).all (fun i =>
    let d := cicDroop g (45 + i)
    let full := d.1 ^ 6 * (4194304 * fixOne : Nat)
    let got := d.2 ^ 6 * firResponse g c (45 + i)
    decide (99885 * full ≤ 100000 * got) && decide (100000 * got ≤ 100115 * full))

/-- Three taps that undo the droop at 45 Hz and 65 Hz. -/
def compFit (g : Geo) (i : Nat) : Int :=
  let inverse := fun (f : Nat) => let d := cicDroop g f; frac (d.1 ^ 6) (d.2 ^ 6).toNat
  let x := fun (f : Nat) => cosOf (frac f g.fp)
  let slope := fDiv (fSub (inverse 65) (inverse 45)) (fSub (x 65) (x 45))
  let unit := fun (a : Frac) => fRound (fMul a (frac 4194304))
  if i == 0 then unit (fSub (inverse 45) (fMul slope (x 45))) else if i == 1 then unit (fMul slope (frac 1 2)) else 0

/-- The taps of the compensating FIR: whatever they are, they correct the droop as R153 states; where the open constant does not, those of `compFit` stand for
it (log entry 130). -/
def compTap (g : Geo) : Nat → Int := if compMeets g (Config.wchComp g.sv) then Config.wchComp g.sv else compFit g

/-- Normalisation by 1 ÷ R^6 to 16 fraction bits, and the compensating FIR, symmetric over 7 decimator outputs (Table 05-4). -/
def compFir (g : Geo) (l : List Int) : Int :=
  let sum := ((List.range 7).zip l).foldl (fun a e =>
    a + compTap g ((e.1 : Int) - 3).natAbs * fixRound (frac (e.2 * 65536) (g.r ^ 6))) 0
  fixRound (frac sum 4194304)

/-- WAVEFORM_TICK: the decimator's output at tick k, and what each later stage does with it. -/
def State.unitTick (s : State) (n k : Nat) (c : Contract) : State :=
  match tget n s.wch.units with
  | none => s
  | some u0 =>
    let g := geoOf u0.set (s.svRate u0.set.stream) c.outRate
    let taken := u0.cic.map Cic.take
    let u1 : WUnit := { u0 with cic := taken.map (·.1), dec := { k, x := taken.map (·.2) } :: u0.dec.take 6 }
    let whole := u1.dec.length == 7 && ((List.range 7).all (fun i => (u1.dec[i]?).any (fun t => t.k + i == k)))
    if !whole then s.setUnit n u1
    else
      let j := k - 3
      let x := (List.range 8).map (fun ch => compFir g ((u1.dec.map (fun t => (t.x[ch]?).getD 0)).reverse))
      let t : TickRec := { k := j, x, nco := u1.nco }
      let u2 : WUnit := ({ u1 with fe := t :: u1.fe.take 1100 } : WUnit).wideStep g t
      let a := if g.half ≤ j then s.unitUnder n u2 g (j - g.half) else (s, u2)
      let b := a.1.unitTrack n a.2 g c.outRate j
      let v : WUnit := { b.2 with nco := (((b.2.nco : Int) + fixRound (frac (b.2.fTrack * 2 ^ 48) (g.fp * 1000000))) % (2 ^ 48 : Nat)).toNat }
      let s1 := b.1.setUnit n v
      let s2 := s1.metersTick n v g c.outRate j
      let s3 := if g.wide < j then s2.wideTick n v g j else s2
      ((List.range 8).map (fun i => 8 * n + i)).foldl (fun s i => s.cmpTicks i v g c.outRate j) s3

/-! ## A sample (R166, R172, R173) -/

/-- What a resolved sample does to one unit. A long gap resets the channel's decimator, compensator and undercoat: what has been formed before it stands, for
instants and ticks whose windows lie before the gap (R167, R173, R176). -/
def State.unitSample (s : State) (n : Nat) (x : SampleRec) : State :=
  match tget n s.wch.units with
  | none => s
  | some u =>
    match s.unitContract u with
    | some c =>
      let g := geoOf u.set (s.svRate u.set.stream) c.outRate
      let gap := fun (ch : Nat) => ((x.marks[ch]?).getD 16).testBit 4
      let was := fun (ch : Nat) => (u.gapCh[ch]?).getD false
      let skipped := match u.lastN with
        | some l => decide (l + 1 < x.n)
        | none => false
      let fresh := (List.range 8).filter (fun ch => (gap ch || skipped) && !was ch)
      let first := u.startN.isNone
      let back := !first && (List.range 8).any (fun ch => !gap ch && (was ch || skipped))
      let excess := (x.marks.filter (fun m => m.testBit 3)).length
      let filled := (x.marks.filter (fun m => m.testBit 5)).length
      let s1 := if excess == 0 then s else s.wchCount 4 excess
      let s2 := if filled == 0 then s1 else s1.wchCount 0 filled
      let s3 := if fresh.isEmpty then s2 else (s2.wchCount 1 fresh.length).unitEvent n 6
      let cic := (List.range 8).map (fun ch =>
        let c0 : Cic := if gap ch || was ch || skipped then {} else (u.cic[ch]?).getD {}
        if gap ch then c0 else c0.push ((x.vals[ch]?).getD 0))
      let clear := fun {α : Type} (z : α) (l : List α) => (List.range l.length).zip l |>.map (fun e => if fresh.contains e.1 then z else e.2)
      let u1 : WUnit := { u with
        dec := u.dec.map (fun t => { t with x := clear 0 t.x })
        exceed := clear 0 u.exceed
        samples := x :: u.samples.take (2 * g.settle), lastN := some x.n, startN := some (u.startN.getD x.n)
        gapCh := (List.range 8).map gap, cic
        fTrack := if back then 1000000 * g.fnom else u.fTrack
        nextInst := u.nextInst.or (some (ceilDiv (ceilDiv (x.n * 1200) (Nat.max g.sv 1)) (rateUnits c.outRate) * rateUnits c.outRate)) }
      let r := if first || back then s3.unitSwitch n u1 x.n true else (s3, u1)
      let s4 := (r.1.setUnit n r.2).tapFeed n r.2 g.sv x
      let s5 := if g.cic ≤ x.n && (x.n - g.cic) % Nat.max g.r 1 == 0 then s4.unitTick n ((x.n - g.cic) / Nat.max g.r 1) c else s4
      s5.unitWrites (x.n * 1200 / Nat.max g.sv 1 / rateUnits c.outRate + 2) n x.n x.arrival
    | none => s.unitRefresh n

/-- The run of gap samples of a channel at the head of a queue: its length, and the sample after it. -/
def gapRun (ch : Nat) : List SampleRec → Nat × Bool
  | [] => (0, false)
  | x :: r =>
    if ((x.marks[ch]?).getD 16).testBit 4 then
      let y := gapRun ch r
      (y.1 + 1, y.2)
    else (0, true)

/-- The value linear extrapolation gives channel ch from the two preceding samples (R172). -/
def WUnit.extrapolate (u : WUnit) (ch : Nat) : Option Int :=
  match u.samples with
  | a :: b :: _ =>
    let bad := fun (x : SampleRec) => ((x.marks[ch]?).getD 16).testBit 4
    if bad a || bad b || a.n != b.n + 1 then none else some (2 * (a.vals[ch]?).getD 0 - (b.vals[ch]?).getD 0)
  | _ => none

/-- Settle the gap samples at the head of the queue: filled, long, or not yet known. DESIGN CHOICE: a short gap that two samples to extrapolate from do not
precede is a long gap (R172, log 154). -/
def WUnit.resolve (u : WUnit) (x : SampleRec) (rest : List SampleRec) : Option SampleRec :=
  let chs := (List.range 8).filter (fun ch => ((x.marks[ch]?).getD 16).testBit 4)
  let fill := fun (ch : Nat) =>
    let g := gapRun ch (x :: rest)
    let before := match u.samples with
      | y :: _ => (((y.marks[ch]?).getD 0).testBit 5, (u.gapCh[ch]?).getD false)
      | [] => (false, true)
    -- a run already being filled, or one short enough that has ended
    if before.2 then some false
    else if before.1 then some true
    else if u.set.gapFill < g.1 then some false
    else if g.2 then some true
    else none
  if chs.any (fun ch => (fill ch).isNone) then none
  else some (chs.foldl (fun y ch =>
    match fill ch, u.extrapolate ch with
    | some true, some v => { y with vals := y.vals.set ch v, marks := y.marks.set ch ((y.marks[ch]?).getD 16 - 16 + 32) }
    | _, _ => y) x)

/-- Take the queue's settled samples, oldest first. -/
def State.unitDrain (fuel : Nat) (s : State) (n : Nat) : State :=
  match fuel with
  | 0 => s
  | f + 1 =>
    match tget n s.wch.units with
    | none => s
    | some u =>
      match u.queue with
      | [] => s
      | x :: rest =>
        match u.resolve x rest with
        | none => s
        | some y => ((s.setUnit n { u with queue := rest }).unitSample n y).unitDrain f n

/-- A sample that has not arrived. -/
def missingSample (n : Nat) (arrival : Stamp) : SampleRec :=
  { n, arrival, vals := List.replicate 8 0, marks := List.replicate 8 16 }

/-- A received sample reaches a unit: every sample missing before it is a gap sample; one that is not newer than the last is dropped. -/
def State.unitPush (s : State) (n : Nat) (x : SampleRec) : State :=
  match tget n s.wch.units with
  | none => s
  | some u =>
    if u.state != .running then s
    else
      let last := match u.queue.getLast? with
        | some y => some y.n
        | none => u.lastN
      match last with
      | some l =>
        if x.n ≤ l then s
        else
          let miss := x.n - l - 1
          let q := u.queue ++ (List.range miss).map (fun i => missingSample (l + 1 + i) x.arrival) ++ [x]
          (s.setUnit n { u with queue := q }).unitDrain q.length n
      | none =>
        (s.setUnit n { u with queue := [x] }).unitDrain 1 n

/-- A sample of a stream: the recorder taps and the unit bound to it (R148, R296). -/
def State.waveSample (s : State) (stream : Nat) (x : SampleRec) : State :=
  let s1 := s.rcd.recs.foldl (fun s e =>
    if e.2.set.kind != 1 || !s.recReads e.1 stream then s
    else s.recTake e.1 x.n ((e.2.chans.filter (fun c => c.2.stream == stream)).map (fun c =>
      let m := (x.marks[c.2.ch]?).getD 16
      { chan := c.1, val := frac ((x.vals[c.2.ch]?).getD 0), usable := !m.testBit 4, qual := markQual m }))) s
  match s1.unitOf stream with
  | some (n, _) => s1.unitPush n x
  | none => s1

/-- A unit under a fault stops its writes and resets as after a long gap. -/
def State.unitRestart (s : State) (n : Nat) : State :=
  match tget n s.wch.units with
  | none => s
  | some u =>
    let u1 : WUnit := if u.state == .running then { u.start with nextInst := u.nextInst } else u
    s.setUnit n u1

/-- UNIT fault (Table 05-13): the restart, and its source. -/
def State.unitFault (s : State) (n detail : Nat) : State :=
  if (tget n s.wch.units).isNone then s else (s.unitRestart n).faultPair 46 47 detail (s.holder kindUnit n)

end Sys2Proof.Machine
end

