-- ==== Sys2Proof/Machine/IngestOps.lean ====
section
/-!
DEFINITION. What ingest does with frames and streams (03_ingest R78 to R109, R533, 09_alarm_logic R278): counters and discards, authentication, the
duplicate table, instants, layouts, command frames to PMUs, and remote stations.
-/
namespace Sys2Proof.Machine

/-! ## Counters (Tables 03-11 and 03-16) -/

/-- The discard reasons of Table 03-18 with their counters: in the stream's statistics and device-wide. -/
inductive Discard where
  | unsupported
  | layoutErr
  | chkErr
  | authFail
  | replay
  | dup
  | sim
  | noContract
  | timeReject
  | mismatch
  | cfgRate
  deriving DecidableEq, Repr

/-- Place in Table 03-11, where 0 is ACCEPTED. -/
def Discard.perStream : Discard → Nat
  | .dup => 1
  | .authFail => 2
  | .replay => 3
  | .chkErr => 4
  | .layoutErr => 5
  | .mismatch => 6
  | .noContract => 7
  | .timeReject => 8
  | .cfgRate => 10
  | .sim => 11
  | .unsupported => 12

/-- n of ING_CNT_n. -/
def Discard.perDevice : Discard → Nat
  | .dup => 1
  | .authFail => 2
  | .replay => 3
  | .chkErr => 4
  | .layoutErr => 5
  | .mismatch => 6
  | .noContract => 7
  | .timeReject => 8
  | .cfgRate => 9
  | .sim => 10
  | .unsupported => 11

def StreamSt.count (x : StreamSt) (n : Nat) : StreamSt := { x with cnt := tmod n 0 (· + 1) x.cnt }

/-- Note whether the latest data frame was refused as LAYOUT_ERR or MISMATCH_DROP (R126). -/
def StreamSt.noteRefused (x : StreamSt) (now : Stamp) (b : Bool) : StreamSt :=
  if ((x.refused.head?).map (·.2)).getD false == b then x else { x with refused := (now, b) :: x.refused.take 63 }

/-- A data frame of a stream is discarded. -/
def State.discard (s : State) (st : Nat) (d : Discard) : State :=
  (s.modStream st (fun x => (x.count d.perStream).noteRefused s.now (d == .layoutErr || d == .mismatch))).count .ing d.perDevice

/-- A configuration or header frame of a stream is discarded. -/
def State.discardConfig (s : State) (st : Nat) (d : Discard) : State :=
  (s.modStream st (fun x => x.count d.perStream)).count .ing d.perDevice

/-- A frame that matches no entry (R80); `tagged` where it came with a tag, a priority tag too. -/
def State.unmatched (s : State) (h : FrameHdr) (tagged : Bool) : State :=
  if s.ing.unknownToHost.testBit h.port then s.hostDeliver h.port 0 h.len tagged true h.arrival h.bytes else s.count .ing 0

/-! ## Authentication (R94, R96, R97) -/

/-- Outcome of the check of an SPDU under a current and a next slot. -/
inductive AuthOut where
  | fail
  | missing
  | current
  | next
  deriving DecidableEq, Repr

/-- A slot's key verifies an SPDU: DECRYPT, its KEY_ID, its algorithm. -/
def State.slotFits (s : State) (slot : Nat) (x : SpduSec) : Bool := (s.key slot).any (fun k => k.attr == 2 && k.keyId == x.keyId)

def State.slotAlg (s : State) (slot : Nat) (x : SpduSec) : Bool := (s.key slot).any (fun k => k.alg == x.alg)

/-- AUTH_CHECK: `old` says that the current key is still accepted. -/
def State.auth (s : State) (cur next : Nat) (old : Bool) (x : SpduSec) : AuthOut :=
  if !x.signed then .fail
  else if old && s.slotFits cur x then (if s.slotAlg cur x && x.tagOk then .current else .fail)
  else if next != 0xFF && s.slotFits next x then (if s.slotAlg next x && x.tagOk then .next else .fail)
  else if !old && s.slotFits cur x then .fail
  else .missing

/-- The slots in force at an arrival stamp, where `changes` holds the latest changes, newest first (R97). -/
def slotsAt (now : Nat × Nat) (changes : List (Stamp × Nat × Nat)) (arrival : Stamp) : Nat × Nat :=
  ((changes.filter (fun c => decide (arrival ≤ c.1))).getLast?.map (·.2)).getD now

def keysAt (e : IngSubSet) (x : StreamSt) (arrival : Stamp) : Nat × Nat := slotsAt (e.keyCur, e.keyNext) x.keyChanges arrival

/-- A change of keys is noted: the slots up to its stamp. The latest sixteen are kept, more than can matter to a frame that still waits. -/
def StreamSt.keysChanged (x : StreamSt) (t : Stamp) (cur next : Nat) : StreamSt :=
  { x with keyChanges := (t, cur, next) :: x.keyChanges.take 15 }

/-- The next key becomes the current key (R96). A frame that arrived before that is verified against the keys of its arrival (R97): before the end of the
overlap, or, without one, up to the present. -/
def State.rotateKey (s : State) (st : Nat) : State :=
  match tget st s.ing.subs with
  | none => s
  | some e =>
    let s1 : State := { s with ing := { s.ing with subs := tset st { e with keyCur := e.keyNext, keyNext := 0xFF } s.ing.subs } }
    (s1.modStream st (fun x =>
      { x.keysChanged ((x.overlapEnd.map (· - 1)).getD s.now) e.keyCur e.keyNext with overlapEnd := none })).streamEvent st 0x084

/-- A frame verified under KEY_NEXT starts the overlap. It is counted from the stamp at which the frame is processed, not from its arrival (DESIGN CHOICE: R96
does not say which; log entry 49). A frame that arrived while a slot stood in KEY_NEXT, and is verified after that slot has left it, starts none. -/
def State.nextKeySeen (s : State) (st slot : Nat) (e : IngSubSet) : State :=
  if e.keyNext == 0xFF || e.keyNext != slot || (s.streamSt st).overlapEnd.isSome then s
  else if e.rotOverlapMs == 0 then s.rotateKey st
  else s.modStream st (fun x => { x with overlapEnd := some (s.now + 1000000 * e.rotOverlapMs) })

def State.authFailed (s : State) (part : Nat) : State :=
  { s with ing := { s.ing with authFailSeen := part :: s.ing.authFailSeen.filter (· != part) } }

/-! ## The duplicate table (R106, R107) -/

/-- FORGET_MS in ns. -/
def State.forgetNs (s : State) : Nat :=
  1000000 * (if s.ing.forgetMs == 0 then 400 else Nat.min s.ing.forgetMs 4000)

/-- The least recently used source leaves. -/
def dropOldest (l : List DupSource) : List DupSource :=
  match least (l.map (·.lastUse)) with
  | none => l
  | some t => (l.takeWhile (fun x => x.lastUse != t)) ++ ((l.dropWhile (fun x => x.lastUse != t)).drop 1)

/-- A copy whose source and sequence number are in the table is a duplicate. -/
def State.dupSeen (s : State) (redundant : Bool) (h : FrameHdr) : Bool :=
  redundant && (match h.redSeq with
    | some q => s.ing.dup.any (fun d => d.mac == h.srcMac && d.seqs.any (fun e => e.1 == q && decide (h.arrival < e.2 + s.forgetNs)))
    | none => false)

/-- An accepted copy enters the table. -/
def State.dupEnter (s : State) (redundant : Bool) (h : FrameHdr) : State :=
  match redundant, h.redSeq with
  | true, some q =>
    match s.ing.dup.find? (fun x => x.mac == h.srcMac) with
    | some d =>
      let d' : DupSource := { d with lastUse := h.arrival, seqs := (q, h.arrival) :: d.seqs.filter (fun e => e.1 != q) }
      { s with ing := { s.ing with dup := s.ing.dup.map (fun x => if x.mac == h.srcMac then d' else x) } }
    | none =>
      let full := decide (4096 ≤ s.ing.dup.length)
      let keep := if full then dropOldest s.ing.dup else s.ing.dup
      let s1 : State := { s with ing := { s.ing with dup := { mac := h.srcMac, lastUse := h.arrival, seqs := [(q, h.arrival)] } :: keep } }
      if full then s1.evtFree [0] 0x087 else s1
  | _, _ => s

/-! ## Commands to PMUs (R88) -/

def lowestPort (mask : Nat) : Nat := ((maskBits 24 mask).head?).getD 0

/-- Bytes of a command frame before FCS: 18 of C37.118.2 in UDP. -/
def commandLen (e : IngSubSet) : Nat := 14 + (if e.vlan == 0 || e.vlan == 0xFFFF then 0 else 4) + ipHeader e.srcIp + 8 + 18

/-- Queue a command frame: to the stream's source IP on PMU_PORT, with SELF_IDCODE. The source IP is the entry's SRC_IP, where it is zero (any) too: the frame
then goes to address 0 (DESIGN CHOICE: R88 does not say which address it is; log entry 149). -/
def State.pmuSend (s : State) (st : Nat) (e : IngSubSet) (c : Nat) : State :=
  (s.modStream st (fun x => { x with lastCmd := some s.now })).txOffer (lowestPort e.portMask) 3
    { what := .command st c e.srcIp e.pmuPort e.selfId, len := commandLen e, launch := none }

/-- One second has passed since the latest command frame of a stream. -/
def State.pmuFree (s : State) (st : Nat) : Bool := (s.streamSt st).lastCmd.all (fun t => decide (t + 1000000000 ≤ s.now))

/-- An automatic command: sent, or waiting for its second, in place of one of the same value. -/
def State.pmuAuto (s : State) (st c : Nat) : State :=
  match tget st s.ing.subs with
  | none => s
  | some e =>
    if e.kind != 0 || !e.flags.testBit 0 then s
    else if s.pmuFree st && (s.streamSt st).waitCmds.isEmpty then s.pmuSend st e c
    else s.modStream st (fun x => { x with waitCmds := x.waitCmds.filter (· != c) ++ [c] })

/-- "Send configuration", and "turn on transmission" one second later. -/
def State.pmuPair (s : State) (st : Nat) : State :=
  match tget st s.ing.subs with
  | none => s
  | some e =>
    if e.kind != 0 || !e.flags.testBit 0 then s
    else (s.pmuAuto st (if e.flags.testBit 3 then 6 else 5)).modStream st (fun x => { x with onAt := some (s.now + 1000000000) })

/-! ## Instants (R84) -/

/-- The nearest instant of a time in ns at a rate, with the distance times the rate. -/
def nearestInstant (ns rate : Nat) : Nat × Nat :=
  let k := (2 * ns * rate + 1000000000) / 2000000000
  (k, (((ns * rate : Nat) : Int) - ((k * 1000000000 : Nat) : Int)).natAbs)

/-- A grid time lies in the second before an inserted leap second or in the leap second itself: C37.118.2 repeats the SOC of the one for the other, so that a
timestamp there maps to no unique instant (R84, 12_time R356). -/
def Base.repeated (b : Base) (t : Nat) : Bool :=
  let near := fun (x : Int) => decide (x ≤ (t : Int) + 1000000000) && decide ((t : Int) < x + 1000000000)
  b.leaps.any (fun l => !l.2 && near l.1) || b.leap.any (fun l => !l.1 && near l.2)

/-- A reading is more than 1 s after the present time of the bound base; with no reading the test is not made (R84). -/
def State.tooFuture (s : State) (tb : Nat) (ns : Int) : Bool := (s.reading tb).any (fun n => decide (n + 1000000000 < ns))

/-- The instant of a frame in units of 1/1,200 s, and whether it is off the grid; none when it is rejected. An R-SV frame without refrTm counts instants
within a second, and R93 does not say which second: the model takes the one nearest to the arrival, and rejects the frame while the base gives no reading
(DESIGN CHOICE: log entry 112). -/
def State.mapInstant (s : State) (tb rate : Nat) (f : DataFrame) : Option (Nat × Bool) :=
  let r := Nat.max rate 1
  let ns : Option (Nat × Bool) := match f.ts with
    | some t => some (t, false)
    | none =>
      -- smpCnt counts instants of the second that puts the frame nearest to its arrival
      match s.readingAt tb f.hdr.arrival with
      | some a => some (((a - ((f.smpCnt * 1000000000 / r : Nat) : Int) + 500000000) / 1000000000 * 1000000000).toNat + f.smpCnt * 1000000000 / r, true)
      | none => none
  match ns with
  | none => none
  | some (t, counted) =>
    let k := nearestInstant t r
    let inst := k.1 * rateUnits r
    if f.ts.any (fun t => (s.base tb).any (fun b => b.repeated t)) || (f.ts.isNone && r ≤ f.smpCnt) then none
    else if !counted && 1000000000 ≤ 4 * k.2 then none
    else if s.tooFuture tb (instNs inst) then none
    else some (inst, !counted && decide (1000 * r < k.2))

/-- The bound base is in holdover, has refused a jump, or gives no reading (R85). -/
def State.baseUncertain (s : State) (tb : Nat) : Bool :=
  match s.base tb with
  | some b => b.state != .locked || b.refused.isSome
  | none => true

/-! ## Acceptance (R108) -/

/-- CONTRACT_ACTIVATE: the first accepted data frame of an ADMITTED or SUSPENDED contract, or of a placed stream. -/
def State.activate (s : State) (id : Nat) : State :=
  match tget id s.tt.contracts with
  | some c =>
    if c.state == .admitted then s.contractTo id .active 1 true
    else if c.state == .suspended then s.contractTo id .active 3 true else s
  | none =>
    if id < 65536 then s
    else
      let st := id - 65536
      match tget st s.hst.placed with
      | none => s
      | some p =>
        let s1 : State := { s with hst := { s.hst with placed := tset st { p with active := true, seen := true } s.hst.placed } }
        if p.active then s1 else s1.houseCheckAll p.groupMask

/-- A data frame is accepted: its counters, the silence timer, the contract's state. -/
def State.acceptFrame (s : State) (st id : Nat) (arrival : Stamp) : State :=
  ((s.modStream st (fun x => { (x.count 0).noteRefused s.now false with lastArrival := some arrival })).count .ing 12).activate id

/-! ## Simulation (R101) -/

/-- SIM_ACCEPT against a frame: whether it is dropped. -/
def simDrops (accept inUse sim : Bool) : Bool := (sim && !accept) || (accept && inUse && !sim)

/-! ## Remote stations (R102 to R104, 09_alarm_logic R278) -/

def State.setStation (s : State) (n : Nat) (x : Station) : State := { s with ing := { s.ing with stations := tset n x s.ing.stations } }

/-- STATION_DROPOUT: the error task is pending, and the station is among those of its next run. -/
def State.stationDrop (s : State) (n : Nat) (x : Station) : State :=
  let s1 := s.setStation n { x with state := .dropped, inOrder := 0, deadline := none }
  let s2 : State := { s1 with alcx := { s1.alcx with errPending := true, errStations := s1.alcx.errStations ||| 2 ^ n } }
  (s2.count .alc 3).evt s2.logicReaders 0x186 n

/-- STATION_RECOVERED. -/
def State.stationRecover (s : State) (n : Nat) (x : Station) : State :=
  let s1 := s.setStation n { x with state := .healthy, badConfig := false, inOrder := 0 }
  s1.evt s1.logicReaders 0x187 n

/-- Take a frame as the latest accepted: its numbers, its time to live, and, with a new stNum, its values. -/
def Station.note (x : Station) (f : GooseFrame) (fresh : Bool) : Station :=
  { x with
    stNum := f.stNum % 4294967296, sqNum := f.sqNum % 4294967296, deadline := some (f.hdr.arrival + 1000000 * f.talMs)
    values := if fresh then f.values else x.values, test := if fresh then f.test || f.sim else x.test }

/-- The next stNum, with 0 skipped. -/
def stAfter (v : Nat) : Nat := if (v + 1) % 4294967296 == 0 then 1 else (v + 1) % 4294967296

/-- A frame that passed every check reaches the station's sequence rules. The frame that set the baseline stands until one in order comes or its
timeAllowedtoLive is over, when the next frame is a first one again (R104). A sqNum follows 0xFFFFFFFF as 0: one that goes on at 1 there is a gap (DESIGN CHOICE:
R103 is silent on reception; log entry 151). -/
def State.stationFrame (s : State) (n : Nat) (x0 : Station) (f : GooseFrame) : State :=
  let st := f.stNum % 4294967296
  -- a time to live that ran out before this frame's arrival comes first
  let s0 := if x0.state == .healthy && x0.deadline.any (fun d => decide (d < f.hdr.arrival)) then s.stationDrop n x0 else s
  let x := (tget n s0.ing.stations).getD x0
  let same := st == x.stNum
  let order := same || st == stAfter x.stNum
  let gap := same && f.sqNum % 4294967296 != (x.sqNum + 1) % 4294967296
  let x1 : Station := if gap && x.state != .waiting then { x with sqGaps := x.sqGaps + 1 } else x
  match x.state with
  | .waiting => s0.setStation n { x1.note f true with state := .firstSeen }
  | .firstSeen =>
    if x.deadline.any (fun d => decide (d < f.hdr.arrival)) then s0.setStation n (x.note f true)
    else if order then s0.stationRecover n (x1.note f (!same)) else s0
  | .healthy =>
    if order then s0.setStation n (x1.note f (!same)) else s0.stationDrop n (x1.note f true)
  | .dropped =>
    if !order then s0.setStation n { x1.note f true with inOrder := 0 }
    else if 1 ≤ x.inOrder then s0.stationRecover n (x1.note f (!same))
    else s0.setStation n { x1.note f (!same) with inOrder := 1 }

/-- Bad configuration (R102): treated as a drop-out, its frames discarded and counted. R102 does not name the counter: the model counts them in the station
alone and in no ING_CNT_n (DESIGN CHOICE: log entry 113). -/
def State.stationBad (s : State) (n : Nat) (x : Station) : State :=
  let x1 : Station := { x with badConfig := true, discarded := x.discarded + 1 }
  if x.state == .healthy then s.stationDrop n x1 else s.setStation n x1

end Sys2Proof.Machine
end

