-- ==== Sys2Proof/Machine/LogicCalc.lean ====
section
/-!
DEFINITION. What both controllers of the logic pair compute with: the arithmetic of 09_alarm_logic R256, timers and edge detectors (R287, R288), and the
state digest (R254). A value is the number of its little-endian image in the size of its type (Table 09-2).
-/
namespace Sys2Proof.Machine

/-- Size in bytes of a type of Table 09-2; 0 for a code that is none. -/
def typeSize (t : Nat) : Nat :=
  match t with
  | 1 => 1 | 2 => 1 | 3 => 2 | 4 => 4 | 5 => 8 | 6 => 1 | 7 => 2 | 8 => 4 | 9 => 8 | 10 => 1 | 11 => 2 | 12 => 4 | 13 => 8
  | 14 => 4 | 15 => 8 | 16 => 8 | 17 => 8 | 18 => 8 | _ => 0

/-- SINT to LINT, TIME and LTIME. -/
def typeSigned (t : Nat) : Bool := (2 ≤ t && t ≤ 5) || t == 16 || t == 17

/-! ## REAL and LREAL -/

/-- The number of an image of REAL (14) or, for every other type, LREAL. -/
def realVal (t v : Nat) : FloatVal := if t == 14 then f32Val (BitVec.ofNat 32 v) else f64Val (BitVec.ofNat 64 v)

def realSignBit (t : Nat) : Nat := if t == 14 then 31 else 63

/-- The canonical quiet NaN. -/
def realNan (t : Nat) : Nat := if t == 14 then nan32.toNat else nan64.toNat

/-- An image of a sign and a magnitude, rounded to nearest, ties to even. -/
def realMake (t : Nat) (neg : Bool) (a : Frac) : Nat :=
  (if t == 14 then (f32Of (fAbs a)).toNat else (f64Of (fAbs a)).toNat) + (if neg then 2 ^ realSignBit t else 0)

def realInf (t : Nat) (neg : Bool) : Nat := (if t == 14 then 0x7F800000 else 0x7FF0000000000000) + (if neg then 2 ^ realSignBit t else 0)

def realAdd (t a b : Nat) : Nat :=
  let na := a.testBit (realSignBit t)
  match realVal t a, realVal t b with
  | .fin x, .fin y =>
    let r := fAdd x y
    if r.num == 0 then realMake t (na && b.testBit (realSignBit t)) (frac 0) else realMake t (decide (r.num < 0)) r
  | .inf m, .inf n => if m == n then realInf t m else realNan t
  | .inf m, .fin _ => realInf t m
  | .fin _, .inf n => realInf t n
  | _, _ => realNan t

def realMul (t a b : Nat) : Nat :=
  let neg := a.testBit (realSignBit t) != b.testBit (realSignBit t)
  match realVal t a, realVal t b with
  | .fin x, .fin y => realMake t neg (fMul x y)
  | .inf _, .inf _ => realInf t neg
  | .inf _, .fin y => if y.num == 0 then realNan t else realInf t neg
  | .fin x, .inf _ => if x.num == 0 then realNan t else realInf t neg
  | _, _ => realNan t

def realDiv (t a b : Nat) : Nat :=
  let neg := a.testBit (realSignBit t) != b.testBit (realSignBit t)
  match realVal t a, realVal t b with
  | .fin x, .fin y =>
    if y.num == 0 then (if x.num == 0 then realNan t else realInf t neg) else realMake t neg (fDiv x y)
  | .inf _, .fin _ => realInf t neg
  | .fin _, .inf _ => realMake t neg (frac 0)
  | _, _ => realNan t

/-- SQRT, correctly rounded. -/
def realSqrt (t a : Nat) : Nat :=
  match realVal t a with
  | .fin x => if x.num == 0 then a else if x.num < 0 then realNan t else if t == 14 then (sqrt32 x).toNat else (sqrt64 x).toNat
  | .inf n => if n then realNan t else a
  | .nan => realNan t

/-- A value as a variable of its type holds it: wrapped to the type's size, with every NaN the canonical one. -/
def typeValue (t v : Nat) : Nat :=
  let canon := fun (v : Nat) => if realVal 14 v == .nan then realNan 14 else v
  if t == 1 then b2n (v % 256 != 0)
  else if t == 14 then canon (v % 2 ^ 32)
  else if t == 15 then (if realVal 15 (v % 2 ^ 64) == .nan then realNan 15 else v % 2 ^ 64)
  else if t == 18 then canon (v % 2 ^ 32) + 2 ^ 32 * canon (v / 2 ^ 32 % 2 ^ 32)
  else v % 256 ^ typeSize t

/-! ## Integers -/

/-- The number of an image of an integer type. -/
def intVal (t v : Nat) : Int :=
  let w := v % 256 ^ typeSize t
  if typeSigned t && 256 ^ typeSize t ≤ 2 * w then (w : Int) - ((256 ^ typeSize t : Nat) : Int) else w

/-- The image of a number, wrapped in two's complement. -/
def intMake (t : Nat) (x : Int) : Nat := (x % ((256 ^ typeSize t : Nat) : Int)).toNat

/-- An integer operation, and whether it divided by zero; a quotient is cut towards zero (PRESUMED: log entry 127). -/
def intOp (op : AlcIntOp) (t a b : Nat) : Nat × Bool :=
  let x := intVal t a
  let y := intVal t b
  match op with
  | .add => (intMake t (x + y), false)
  | .sub => (intMake t (x - y), false)
  | .mul => (intMake t (x * y), false)
  | .div => if y == 0 then (0, true) else (intMake t (Int.tdiv x y), false)
  | .mod => if y == 0 then (0, true) else (intMake t (Int.tmod x y), false)

/-! ## Conversions -/

/-- A number rounded to nearest, ties to even. -/
def roundHalfEven (a : Frac) : Int :=
  let n := roundEven a.num.natAbs (Nat.max a.den 1)
  if a.num < 0 then -(n : Int) else n

/-- The limits of an integer type. -/
def typeLimits (t : Nat) : Int × Int :=
  let m : Int := ((256 ^ typeSize t : Nat) : Int)
  if typeSigned t then (-(m / 2), m / 2 - 1) else (0, m - 1)

/-- A conversion between types of Table 09-2. -/
def convValue (src dst v : Nat) : Nat :=
  let real := fun (t : Nat) => t == 14 || t == 15
  if real src then
    match realVal src v with
    | .nan => if real dst then realNan dst else 0
    | .inf n => if real dst then realInf dst n else intMake dst (if n then (typeLimits dst).1 else (typeLimits dst).2)
    | .fin a =>
      if real dst then realMake dst (v.testBit (realSignBit src)) a
      else intMake dst (max (typeLimits dst).1 (min (typeLimits dst).2 (roundHalfEven a)))
  else if real dst then realMake dst (decide (intVal src v < 0)) (frac (intVal src v))
  else intMake dst (intVal src v)

/-! ## Expressions -/

/-- RE and IM of an ALC_PHASOR value, in its lower and upper word. -/
def element (im : Bool) (v : Nat) : Nat := if im then v / 4294967296 % 4294967296 else v % 4294967296

/-- An ALC_PHASOR value with one element replaced. -/
def setElement (im : Bool) (x v : Nat) : Nat :=
  if im then v % 4294967296 + 4294967296 * (x % 4294967296) else v / 4294967296 * 4294967296 + x % 4294967296

/-- The value of an expression over the variables, and whether some integer division in it was by zero. -/
def evalExpr (vars : Table Nat) : AlcExpr → Nat × Bool
  | .lit v => (v, false)
  | .var id => (tgetD id 0 vars, false)
  | .element id im => (element im (tgetD id 0 vars), false)
  | .int op t a b =>
    let x := evalExpr vars a
    let y := evalExpr vars b
    let r := intOp op t x.1 y.1
    (r.1, x.2 || y.2 || r.2)
  | .real op t a b =>
    let x := evalExpr vars a
    let y := evalExpr vars b
    let r := match op with
      | .add => realAdd t x.1 y.1
      | .sub => realAdd t x.1 (y.1 ^^^ 2 ^ realSignBit t)
      | .mul => realMul t x.1 y.1
      | .div => realDiv t x.1 y.1
    (r, x.2 || y.2)
  | .sqrt t a =>
    let x := evalExpr vars a
    (realSqrt t x.1, x.2)
  | .conv src dst a =>
    let x := evalExpr vars a
    (convValue src dst x.1, x.2)

/-! ## Timers and edge detectors (R287, R288) -/

/-- ET of a running timer at a scan: the time since the scan at which it started, limited to PT. -/
def timerEt (x : InstState) (ts preset : Nat) : Nat := Nat.min (ts - x.start) preset

/-- One call of an instance with its input at the scan that started at `ts`. `mem` is the input of the call before; an edge detector that an exchange brought in
takes its first input as its memory, so that it sees no edge there. -/
def instCalled (x : InstState) (i : AlcInst) (ts : Stamp) (inp : Bool) : InstState :=
  match i.type with
  | .ton =>
    if !inp then { running := false, start := 0, et := 0, q := false, mem := false }
    else
      let y := if x.running then x else { x with running := true, start := ts }
      { y with et := timerEt y ts i.preset, q := decide (i.preset ≤ timerEt y ts i.preset), mem := true }
  | .tof =>
    if inp then { running := false, start := 0, et := 0, q := true, mem := true }
    else
      let y := if x.mem then { x with running := true, start := ts } else x
      if y.running then { y with et := timerEt y ts i.preset, q := decide (timerEt y ts i.preset < i.preset), mem := false } else { y with q := false, mem := false }
  | .tp =>
    let y := if x.running then x else if inp && !x.mem then { x with running := true, start := ts } else x
    if y.running && timerEt y ts i.preset < i.preset then { y with et := timerEt y ts i.preset, q := true, mem := inp }
    else if y.running || (0 < y.et && inp) then { y with running := false, et := if inp then i.preset else 0, q := false, mem := inp }
    else { y with et := 0, q := false, mem := inp }
  | .rTrig => { x with q := inp && !(x.mem || x.fresh), mem := inp, fresh := false }
  | .fTrig => { x with q := !inp && x.mem && !x.fresh, mem := inp, fresh := false }
  | .other _ => x

/-! ## The state digest (R254) -/

/-- CRC-64 of ECMA-182: polynomial 0x42F0E1EBA9EA3693, from zero, most significant bit first. -/
def crc64 (l : List Byte) : Nat :=
  l.foldl (fun c b => (List.range 8).foldl (fun c _ =>
    if c / 2 ^ 63 % 2 == 1 then (2 * c % 2 ^ 64) ^^^ 0x42F0E1EBA9EA3693 else 2 * c % 2 ^ 64) (c ^^^ (2 ^ 56 * b.toNat))) 0

/-- The bytes that a digest covers: the retained variables and the instances, in the order of the image (DESIGN CHOICE for Poastade's canonical order: log
entry 128). -/
def stateBytes (im : AlcImage) (vars : Table Nat) (insts : Table InstState) : List Byte :=
  (im.vars.filter (·.retained)).flatMap (fun v => le (typeSize v.type) (tgetD v.id v.init vars))
    ++ im.insts.flatMap (fun i => match tget i.id insts with
      | some x => le 1 (b2n x.running) ++ le 8 x.start ++ le 8 x.et ++ le 1 (b2n x.q) ++ le 1 (b2n x.mem)
      | none => zeros 19)

end Sys2Proof.Machine
end

