-- ==== Sys2Proof/Machine/AlcOps.lean ====
section
/-!
DEFINITION. What the logic pair does (09_alarm_logic): checkpoints (R280, R281), restarts (R283), the exchange (R285 to R290), the switch of its
firmware (17_power_states R511), the frozen input image (R262), the scan (R270 to R272) and its outputs (R263 to R268).
-/
namespace Sys2Proof.Machine

/-! ## Types and points (R259, R276) -/

def imagePoint (im : AlcImage) (id : Nat) : Option AlcPoint := im.points.find? (fun p => p.id == id)

/-- The value that a force gives to its point in a scan of t_s. -/
def Force.valueAt (f : Force) (ts : Stamp) : Option Nat := if f.since < ts then some f.value else f.old

/-- The forced values in effect at a stamp, by point. -/
def State.forcesAt (s : State) (ts : Stamp) : Table Nat := s.alc.forces.filterMap (fun e => (e.2.valueAt ts).map (fun v => (e.1, v)))

/-- The forced points with their values. -/
def forcedPoints (im : AlcImage) (fs : Table Nat) : List (PointKind × Nat) :=
  im.points.filterMap (fun p => (tget p.id fs).map (fun v => (p.kind, v)))

def forcedAt (l : List (PointKind × Nat)) (k : PointKind) : Option Nat := (l.find? (fun e => e.1 == k)).map (·.2)

/-! ## Checkpoints (R280 to R282) -/

/-- The pair stands at a scan boundary, or in HOLD, where the last completed scan is taken. -/
def State.atBoundary (s : State) : Bool := s.alc.scan.isNone || s.alc.state == .hold

/-- Start the write of a checkpoint of the last completed scan. -/
def State.ckptStart (s : State) (cause : CkptCause) : State :=
  match s.alc.active with
  | none => s
  | some im =>
    let c : Ckpt := { seq := s.alcx.nextSeq, programId := im.programId, retainLayout := im.retainLayout, scans := s.alcx.scans, stamp := s.now
                      image := s.alc.retained }
    { s with alcx := { s.alcx with write := some { ckpt := c, cause, start := s.now }, behind := [] } }

/-- Start the next checkpoint that is due, at a boundary, while none is being written and PFW_N is high. -/
def State.ckptNext (s : State) : State :=
  match s.alcx.ckptDue with
  | [] => s
  | c :: r =>
    if s.alcx.write.isNone && s.atBoundary && !s.pwr.pfwLow then
      ({ s with alcx := { s.alcx with ckptDue := r } }).ckptStart c
    else s

/-- A checkpoint is due for a cause. -/
def State.ckptWant (s : State) (c : CkptCause) : State :=
  ({ s with alcx := { s.alcx with ckptDue := if s.alcx.ckptDue.contains c then s.alcx.ckptDue else s.alcx.ckptDue ++ [c] } }).ckptNext

/-- Answer the checkpoint commands that wait. -/
def State.ckptReply (s : State) (status : Nat) (res : List Byte) : State := s.finishAll (fun w => w.what == .checkpoint) status 0 (fun _ => res)

/-- The end of a write: a valid checkpoint in the next slot, of which the device keeps one erased ahead, or FS_60 and a retry. -/
def State.ckptDone (s : State) (good : Bool) : State :=
  match s.alcx.write with
  | none => s
  | some w =>
    if good then
      let s1 : State := { s with alcx := { s.alcx with
        slots := (w.ckpt :: s.alcx.slots).take 7, nextSeq := s.alcx.nextSeq + 1, write := none, lastCkpt := w.ckpt.stamp
        pfwCkpt := if w.cause == .powerFail then false else s.alcx.pfwCkpt } }
      let s2 := s1.count .alc 5
      (if w.cause == .command then s2.ckptReply stOk (le 8 w.ckpt.seq) else s2).ckptNext
    else
      let s1 : State := { s with alcx := { s.alcx with write := some { w with start := s.now }, ckptFailSeen := true } }
      let s2 := s1.free.2.fault 60 s1.free.1 (s1.holder kindLogic 0)
      s2.evtFree s2.logicReaders 0x18D

/-! ## Restarts (R283) -/

/-- A retained value of a checkpoint. -/
def Ckpt.value (c : Ckpt) (id : Nat) : Option Nat := (c.image.find? (fun e => e.1 == id)).map (·.2)

/-- Initial state of an instance, with a memory. -/
def instInit (mem : Bool) : InstState := { running := false, start := 0, et := 0, q := false, mem }

/-- The retained variables of a set of values. -/
def retainedOf (im : AlcImage) (t : Table Nat) : List (Nat × Nat) :=
  (im.vars.filter (·.retained)).map (fun v => (v.id, (tget v.id t).getD v.init))

/-- The valid checkpoint of highest sequence number that matches an image. -/
def State.matching (s : State) (im : AlcImage) : Option Ckpt :=
  s.alcx.slots.foldl (fun a c =>
    if c.programId == im.programId && c.retainLayout == im.retainLayout && a.all (fun (b : Ckpt) => decide (b.seq < c.seq)) then some c else a) none

/-- STOP to RUN (row 2): warm from a matching checkpoint, else cold. `stamp` is that of the transition. -/
def State.alcRun (s : State) (cold : Bool) (stamp : Stamp) : State :=
  match s.alc.active with
  | none => s
  | some im =>
    let c := if cold then none else s.matching im
    let vars := im.vars.foldl (fun t (v : AlcVar) =>
      tset v.id (if v.retained then (c.bind (·.value v.id)).getD v.init else v.init) t) []
    let fell := !cold && c.isNone
    let s1 : State := { s with
      alc := { s.alc with
        vars, insts := im.insts.foldl (fun t i => tset i.id (instInit false) t) [], retained := retainedOf im vars
        restartKind := b2n (cold || c.isNone), prevAlarms := 0, prevRecs := 0, scan := none, heldTrig := none, holdSite := none, stopAt := false }
      alcx := { s.alcx with firstScan := true, runStamp := some stamp, arithErr := false, powerFailStop := false
                            fallbackSeen := s.alcx.fallbackSeen || fell } }
    let s2 := s1.alcTo .run 2
    if fell then s2.evtFree s2.logicReaders 0x18E else s2

/-! ## The exchange (R285 to R290) -/

/-- The counts of an exchange, as `ALC_EXCHANGE` answers them. -/
structure ExchangeCounts where
  varsKept : Nat
  varsInit : Nat
  instKept : Nat
  instReset : Nat
  preset : Nat
  forcesKept : Nat
  forcesCleared : Nat
  deriving DecidableEq, Repr

def keptVar (old : Option AlcImage) (v : AlcVar) : Bool := old.any (fun o => o.vars.any (fun w => w.id == v.id && w.type == v.type))

def matchedInst (old : Option AlcImage) (i : AlcInst) : Option AlcInst := old.bind (fun o => o.insts.find? (fun w => w.id == i.id && w.type == i.type))

/-- A timer. -/
def isTimer (i : AlcInst) : Bool := i.type == .ton || i.type == .tof || i.type == .tp

/-- The force of a point survives an exchange: the point exists in the new program with the same type (R289). -/
def keptForce (new : AlcImage) (id : Nat) (f : Force) : Bool := new.points.any (fun p => p.id == id && p.type == f.type)

def State.exchangeCounts (s : State) (old : Option AlcImage) (new : AlcImage) : ExchangeCounts :=
  let vk := (new.vars.filter (keptVar old)).length
  let ik := (new.insts.filter (fun i => (matchedInst old i).isSome)).length
  let fk := (s.alc.forces.filter (fun e => keptForce new e.1 e.2)).length
  { varsKept := vk, varsInit := new.vars.length - vk, instKept := ik, instReset := new.insts.length - ik
    preset := (new.insts.filter (fun i => isTimer i && (matchedInst old i).any (fun w => w.preset != i.preset))).length
    forcesKept := fk, forcesCleared := s.alc.forces.length - fk }

def ExchangeCounts.reply (c : ExchangeCounts) : List Byte :=
  le 4 c.varsKept ++ le 4 c.varsInit ++ le 2 c.instKept ++ le 2 c.instReset ++ le 2 c.preset ++ le 2 c.forcesKept ++ le 2 c.forcesCleared ++ zeros 2

/-- The state of an instance under the new program: a matched timer whose elapsed time is at least a changed preset fires (R287); an unmatched edge detector's
memory is its current input, which its first call gives it (R288). -/
def State.carryInst (s : State) (old : Option AlcImage) (vars : Table Nat) (i : AlcInst) : InstState :=
  match matchedInst old i, tget i.id s.alc.insts with
  | some w, some x =>
    let el := s.now - x.start
    if isTimer i && w.preset != i.preset && x.running && decide (i.preset ≤ el) then { x with et := i.preset, q := i.type == .ton, running := i.type == .ton } else x
  | _, _ =>
    let edge := i.type == .rTrig || i.type == .fTrig
    { instInit (edge && (tget i.input vars).getD 0 != 0) with fresh := edge }

/-- Apply the exchange at a boundary: variables, instances, forces and the swap of the programs; its checkpoint, EXCHANGE_DONE, and the reply of a
command that waits. -/
def State.exchangeApply (s : State) : State :=
  match s.alc.standby with
  | none => s
  | some new =>
    let old := s.alc.active
    let c := s.exchangeCounts old new
    let vars := new.vars.foldl (fun t (v : AlcVar) => tset v.id (if keptVar old v then (tget v.id s.alc.vars).getD v.init else v.init) t) []
    let insts := new.insts.foldl (fun t (i : AlcInst) => tset i.id (s.carryInst old vars i) t) []
    let s1 : State := { s with alc := { s.alc with
      active := some new, standby := if s.alc.state == .noProgram then none else old, exchange := none, commitDue := true
      vars, insts, retained := retainedOf new vars, forces := s.alc.forces.filter (fun e => keptForce new e.1 e.2)
      breaks := s.alc.breaks.filter (fun b => new.sites.contains b)
      pubs := s.alc.pubs.filter (fun e => decide (e.1 < new.pubs.length)) } }
    let s2 := if c.forcesCleared == 0 then s1 else s1.evt s1.logicReaders 0x185 c.forcesCleared
    let s3 := (s2.measureProgram new).evtFree s2.logicReaders 0x18B
    (s3.finishAll (fun w => w.what == .exchange) stOk 0 (fun _ => c.reply)).ckptWant .exchange

/-- A pending exchange is abandoned: the program in force stays, EXCHANGE_ABANDONED, and the command is answered. -/
def State.exchangeAbandon (s : State) (status : Option Nat) (detail : Nat := 0) : State :=
  match s.alc.exchange with
  | none => s
  | some _ =>
    let s1 : State := { s with alc := { s.alc with exchange := none } }
    let s2 := s1.evtFree s1.logicReaders 0x18C
    match status with
    | some st => s2.finishAll (fun w => w.what == .exchange) st detail (fun _ => [])
    | none => { s2 with hst := { s2.hst with waiting := s2.hst.waiting.filter (fun w => w.what != .exchange) } }

/-! ## The switch of the pair's firmware (17_power_states R511) -/

/-- The reply of `FW_SWITCH`. -/
def State.fwReply (s : State) (old new : Nat) : List Byte := le 1 old ++ le 1 new ++ zeros 2 ++ le 4 s.fw.minSvn

/-- The switch is made at a boundary: both controllers run the running bank. -/
def State.alcSwitch (s : State) : State :=
  let old := s.fw.alc
  let s1 : State := { s with fw := { s.fw with alc := s.fw.running, alcSwitchAt := none } }
  let s2 := s1.evt s1.everyone 0x01D 3
  s2.finishAll (fun w => match w.what with | .alcSwitch _ => true | _ => false) stOk 0 (fun _ => s2.fwReply old s2.fw.alc)

/-- The switch is abandoned: both keep the old firmware. -/
def State.alcSwitchDrop (s : State) (status : Nat) (detail : Nat := 0) : State :=
  match s.fw.alcSwitchAt with
  | none => s
  | some _ =>
    ({ s with fw := { s.fw with alcSwitchAt := none } }).finishAll
      (fun w => match w.what with | .alcSwitch _ => true | _ => false) status detail (fun _ => [])

/-! ## What follows a change of the pair's state -/

/-- The commands that wait on the pair, and the exchange and switch that are pending, after the pair has left RUN for FAULTED (row 8) by a fault source, which
is the DETAIL (14_hosts R417). -/
def State.alcSettle (s : State) (src : Nat) : State :=
  if s.alc.state != .faulted then s
  else
    let s1 := (s.exchangeAbandon (some stFaulted) src).alcSwitchDrop stFaulted src
    let s2 := s1.finishAll (fun w => match w.what with | .alcStop _ => true | _ => false) stWrongState 0 (fun _ => [])
    s2.ckptNext

/-- A pending exchange at the STOP boundary: once the checkpoint of that row has been taken, which waits for one that is being written (R285). -/
def State.stopExchange (s : State) : State :=
  if s.alc.state == .stop && s.alc.exchange.isSome && !s.alcx.ckptDue.contains .stop then s.exchangeApply.toSafe else s

/-- `ALC_MODE` STOP takes effect (rows 3 and 7): the checkpoint, then a pending exchange or switch at the STOP boundary, and the reply. -/
def State.alcStopped (s : State) (row : Nat) : State :=
  let old := s.alc.state.code
  let s1 := (s.scanDrop.alcTo .stop row).ckptWant .stop
  let s2 := s1.stopExchange
  let s3 := if s2.fw.alcSwitchAt.isSome then s2.alcSwitch else s2
  s3.finishAll (fun w => match w.what with | .alcStop _ => true | _ => false) stOk 0 (fun _ => le 1 old ++ le 1 1 ++ zeros 2)

/-- Row 4: the scan in progress writes nothing, and a pending exchange or switch is abandoned. A pair in another state keeps it. -/
def State.alcStopNow (s : State) (status : Option Nat) : State :=
  if (s.alc.state != .run && s.alc.state != .hold) || s.flt.haltSource.isSome then s
  else
    let old := s.alc.state.code
    let s1 := (s.scanDrop.alcTo .stop 4).exchangeAbandon status
    let s2 := s1.alcSwitchDrop (status.getD stWrongState)
    s2.finishAll (fun w => match w.what with | .alcStop _ => true | _ => false) stOk 0 (fun _ => le 1 old ++ le 1 1 ++ zeros 2)

/-! ## The input image (R262, R278, R279) -/

/-- The slice an entry of a group reads: that of the triggering departure on the trigger group, else the latest. -/
def State.sliceFor (s : State) (trig : Trigger) (g : Nat) : Option Slice :=
  if trig.byGroup == some g then
    match s.plt.history.find? (fun x => x.group == g && x.inst == trig.instant && !x.supplement) with
    | some x => some x
    | none => (tget g s.plt.latest)
  else tget g s.plt.latest

/-- NaN value of an entry by its type (R262). -/
def nanInput (type : Nat) : Nat :=
  if type == 18 then (phasorWord nan32 nan32).toNat else if type == 14 then nan32.toNat else 0

/-- A station's inputs show its values, or the substitutes while it has dropped out or waits. -/
def Station.shows (x : Station) : Bool := x.state == .healthy && !x.badConfig

/-- An entry of kind 11 (R262, R279). -/
def State.scanItem (s : State) (trig : Trigger) (ts : Stamp) (errShown item : Nat) : Nat :=
  match item with
  | 0 => b2n s.alcx.firstScan
  | 1 => s.alc.restartKind
  | 2 => ts
  | 3 => if trig.byGroup.isSome then instNs trig.instant else trig.instant
  | 4 => b2n s.alcx.arithErr
  | n => bits errShown (32 * (n - 5) + 31) (32 * (n - 5))

/-- An entry of kind 12. -/
def State.deviceItem (s : State) (item : Nat) : Nat :=
  match item with
  | 0 => b2n s.tt.basisLost
  | 1 => s.tt.profile.code
  | 2 => b2n ((s.alc.setting.any (fun x => x.trig == 0)) && s.baseUncertain (((s.alc.setting.bind (fun x => s.group x.group)).map (·.set.tbSel)).getD 0))
  | _ => b2n s.forceInd

/-- The value of one input entry of the map at a stamp. -/
def State.alcInput (s : State) (trig : Trigger) (ts : Stamp) (errShown : Nat) (e : AlcMapEntry) : Nat :=
  match e.kind with
  | 1 =>
    match (s.sliceFor trig e.group).bind (fun x => x.entries.find? (fun y => y.stream == e.index && y.ch == e.chan)) with
    | some y => y.value.toNat % 256 ^ typeSize e.type
    | none => nanInput e.type
  | 2 =>
    match (s.sliceFor trig e.group).bind (fun x => x.entries.find? (fun y => y.stream == e.index && y.ch == e.chan)) with
    | some y => y.qual.toNat
    | none => (qSubst 2 1).toNat
  | 3 => b2n ((tget e.index s.wch.cmps).any (·.asserted))
  | 4 => s.decision e
  | 5 => s.decision e
  | 6 => b2n (s.osc.modes.any (fun m => m.2.cand.band == e.index && m.2.alarm))
  | 7 => s.decision e
  | 8 => s.decision e
  | 9 =>
    match tget e.index s.ing.stations with
    | some x => if x.shows then ((x.values.find? (fun v => v.1 == e.chan)).map (·.2)).getD e.subst else e.subst
    | none => e.subst
  | 10 =>
    match tget e.index s.ing.stations with
    | some x => b2n (x.state != .healthy) + 2 * b2n x.badConfig + 4 * b2n x.test
    | none => 1
  | 11 => s.scanItem trig ts errShown e.index
  | 12 => s.deviceItem e.index
  | _ => 0

/-- Two entries of maps read the same source. -/
def sameInput (a b : AlcMapEntry) : Bool :=
  a.kind == b.kind && a.index == b.index && a.chan == b.chan && a.group == b.group && a.type == b.type

/-- The input image frozen at t_s, with the input forces applied (R262, R276). -/
def State.freeze (s : State) (im : AlcImage) (trig : Trigger) (ts : Stamp) (errShown : Nat) : List Nat :=
  let fs := forcedPoints im (s.forcesAt ts)
  im.map.zipIdx.map (fun e =>
    match forcedAt fs (.input e.2) with
    | some v => v
    | none =>
      match trig.snap.find? (fun x => sameInput x.1 e.1) with
      | some x => x.2
      | none => s.alcInput trig ts errShown e.1)

/-- The variables with the frozen inputs in those that the map binds (R260). -/
def bindInputs (im : AlcImage) (inputs : List Nat) (vars : Table Nat) : Table Nat :=
  (im.map.zip inputs).foldl (fun t e =>
    if e.1.kind < 20 && im.vars.any (fun v => v.id == e.1.var) then tset e.1.var (typeValue e.1.type e.2) t else t) vars

/-! ## The scan (R270 to R272, R275) -/

/-- Where both controllers stand at set sites, the pair enters HOLD (row 5). -/
def State.scanHalt (s : State) (x : SitesReached) : State :=
  match s.alc.scan with
  | none => s
  | some c =>
    let seen := fun (o : Option Nat) => o.bind (fun n => if s.alc.breaks.contains n then some n else none)
    let st : SitesReached := { a := seen x.a, b := seen x.b }
    let s1 : State := { s with alc := { s.alc with scan := some { c with sites := st } } }
    match st.a, st.b with
    | some n, some _ =>
      let s2 : State := { s1 with alc := { s1.alc with scan := some { c with sites := st, haltAt := some s1.now }, holdSite := some n } }
      let s3 := s2.alcTo .hold 5
      s3.evt s3.logicReaders 0x183 n
    | _, _ => s1

/-- An exchange is due at a scan that starts now. -/
def State.exchangeDue (s : State) : Bool := s.alc.exchange.any (fun r => decide (r < s.now))

/-- An exchange or a firmware switch that is due applies before the inputs freeze (R270, R511). -/
def State.boundaryChanges (s : State) (ok : Bool) : State :=
  let s1 := if s.exchangeDue then (if ok then s.exchangeApply else s.exchangeAbandon (some stFaulted)) else s
  if s1.fw.alcSwitchAt.any (fun r => decide (r < s1.now)) then (if ok then s1.alcSwitch else s1.alcSwitchDrop stFaulted) else s1

/-- run_scan of R270, to the point where both controllers compute. -/
def State.runScan (s0 : State) (trig : Trigger) (x : ScanStart) : State :=
  let s := s0.boundaryChanges x.newCodeOk
  match s.alc.active with
  | none => s
  | some im =>
    let pend := s.alcx.errPending
    let shown := if pend then s.alcx.errStations else 0
    let task := pend && im.errorTask == 1
    let inputs := s.freeze im trig s.now shown
    let s1 : State := { s with
      alc := { s.alc with
        scan := some { ts := s.now, trig, budgetUs := s.alc.budgetUs, errTask := task, inputs, sites := { a := none, b := none }, haltNs := 0
                       haltAt := none, forces := s.forcesAt s.now } }
      alcx := { s.alcx with skipRun := false, errPending := false, errStations := if pend then 0 else s.alcx.errStations, errShown := shown } }
    let s2 := if task then (s1.count .alc 4).evtFree s1.logicReaders 0x188 else s1
    s2.scanHalt x.sites

/-- A trigger (R270, R272). -/
def State.scanTrigger (s : State) (trig : Trigger) (x : ScanStart) : State :=
  if s.alc.state != .run then s.scanSkip
  else if s.alc.scan.isSome then
    let s1 := if s.alc.heldTrig.isSome then s.scanSkip else s
    { s1 with alc := { s1.alc with heldTrig := some trig } }
  else s.runScan trig x

/-! ## The end of a scan (R263 to R268, R271) -/

/-- An output image with the output forces applied. -/
def forceOutputs (o : OutputImage) (fs : List (PointKind × Nat)) : OutputImage :=
  let bit := fun (m n v : Nat) => if m.testBit n then (if v % 2 == 0 then m - 2 ^ n else m) else (if v % 2 == 1 then m + 2 ^ n else m)
  fs.foldl (fun (o : OutputImage) e =>
    match e.1 with
    | .alarmPin n => { o with al := bit o.al n e.2 }
    | .member d m => { o with members := o.members.modify d (fun l => l.set m e.2) }
    | .alarmEvent n => { o with alarms := bit o.alarms n e.2 }
    | .recTrigger n => { o with recs := bit o.recs n e.2 }
    | _ => o) o

/-- Base and launch time of a dataset (R265). -/
def State.launchOf (s : State) (trig : Trigger) (e : AlcPub) : Option (Nat × Nat) :=
  if !e.launchAt then none
  else match trig.byGroup with
    | some g => some (((s.group g).map (·.set.tbSel)).getD 0, instNs trig.instant + 1000 * e.offsetUs)
    | none => some (0, trig.instant + 1000 * e.offsetUs)

/-- Publish the datasets that have changed (R266, R267). -/
def State.publishChanged (s : State) (trig : Trigger) (o : OutputImage) : State :=
  let test := s.forceInd
  s.pubEntries.foldl (fun s e =>
    let q := tgetD e.1 {} s.alc.pubs
    let m := (o.members[e.1]?).getD e.2.safe
    if q.published && q.members == m && q.test == test then s else s.publish e.1 e.2 m test (s.launchOf trig e.2) (some s.now)) s

/-- Rising edges of an output mask. -/
def rising (n old new : Nat) : List Nat := (maskBits n new).filter (fun i => !old.testBit i)

/-- The trigger time of condition 8 on a recorder's base (Table 10-4). -/
def State.recLaunch (s : State) (c : Scan) (n : Nat) : State :=
  match c.trig.byGroup with
  | some _ => s.recTriggerAt n 8 (instThirds c.trig.instant)
  | none =>
    match s.readingAt (((s.recorder n).map (·.tb)).getD 0) c.ts with
    | some r => s.recTrigger n 8 r
    | none => s.free.2.recTrigger n 8 s.free.1

/-- Alarm pins, datasets, alarm events and recorder triggers of a scan whose compare found no difference. -/
def State.scanOutputs (s : State) (im : AlcImage) (c : Scan) (o0 : OutputImage) (details : List Nat) : State :=
  let o := forceOutputs o0 (forcedPoints im c.forces)
  let s1 := (s.driveAl (alLevels o.al im.alInvert)).publishChanged c.trig o
  let s2 := (rising 32 s.alc.prevAlarms o.alarms).foldl (fun s n => s.alarm s.logicReaders (0x1A0 + n) ((details[n]?).getD 0)) s1
  let mapped := fun n => im.map.any (fun e => e.kind == 23 && e.index == n)
  let s3 := ((rising 64 s.alc.prevRecs o.recs).filter mapped).foldl (fun s n => s.recLaunch c n) s2
  { s3 with alc := { s3.alc with out := o, prevAlarms := o.alarms, prevRecs := o.recs } }

/-- One controller after a scan: its variables and instances, and whether an integer division was by zero (R256). -/
structure CtlEnd where
  vars : Table Nat
  insts : Table InstState
  arithErr : Bool
  deriving DecidableEq, Repr

/-- The forced elements of an ALC_PHASOR variable in a value of it: its RE and its IM are points of their own (R259, R276). -/
def forceElements (im : AlcImage) (fs : Table Nat) (id v : Nat) : Nat :=
  (forcedPoints im fs).foldl (fun v e => match e.1 with
    | .element i part => if i == id then setElement part e.2 v else v
    | _ => v) v

/-- One assignment: a write to a forced variable, or to a forced element of one, is ignored (R276), and a value takes the form of its variable's type. -/
def ctlAssign (im : AlcImage) (c : Scan) (x : CtlEnd) (e : Nat × AlcExpr) : CtlEnd :=
  match im.vars.find? (fun v => v.id == e.1) with
  | none => x
  | some v =>
    let r := evalExpr x.vars e.2
    { x with vars := if (tget v.id c.forces).isSome then x.vars else tset v.id (forceElements im c.forces v.id (typeValue v.type r.1)) x.vars
             arithErr := x.arithErr || r.2 }

/-- One call of an instance. -/
def ctlCall (im : AlcImage) (c : Scan) (x : CtlEnd) (e : Nat × InstCall) : CtlEnd :=
  match im.insts.find? (fun i => i.id == e.1) with
  | none => x
  | some i =>
    let old := tgetD i.id (instInit false) x.insts
    let new := match i.type, e.2 with
      | .other _, .state y => y
      | .other _, .input _ => old
      | _, .input v => instCalled old i c.ts v
      | _, .state _ => old
    { x with insts := tset i.id new x.insts }

/-- What a controller holds at the end of a scan: from the frozen inputs and the forced values, its assignments and calls in order. -/
def State.ctlRun (s : State) (im : AlcImage) (c : Scan) (r : CtlResult) : CtlEnd :=
  let start := im.vars.foldl (fun t (v : AlcVar) =>
    tset v.id (forceElements im c.forces v.id ((tget v.id c.forces).getD ((tget v.id t).getD v.init))) t) (bindInputs im c.inputs s.alc.vars)
  let x := r.vars.foldl (ctlAssign im c) { vars := start, insts := s.alc.insts, arithErr := r.arithErr }
  r.calls.foldl (ctlCall im c) x

/-- The 64-bit state digest of a controller (R254). -/
def CtlEnd.digest (x : CtlEnd) (im : AlcImage) : Nat := crc64 (stateBytes im x.vars x.insts)

/-- The value of the variable that an entry of a kind for a sink binds to it; none where no entry does (R260). -/
def sinkValue (im : AlcImage) (vars : Table Nat) (kind index chan : Nat) : Option Nat :=
  (im.map.find? (fun e => e.kind == kind && e.index == index && e.chan == chan)).map (fun e => typeValue e.type (tgetD e.var 0 vars))

/-- A mask of `n` sinks of a kind, from the variables bound to them. -/
def sinkMask (im : AlcImage) (vars : Table Nat) (kind n : Nat) : Nat :=
  (List.range n).foldl (fun m i => if (sinkValue im vars kind i 0).any (· != 0) then m + 2 ^ i else m) 0

/-- The output image that a controller's variables give by the map: alarm pins (kind 20), members of datasets (kind 21), alarm events with their details (kind
22, channel 0 the BOOL and channel 1 the DWORD) and recorder triggers (kind 23). DESIGN CHOICE: a member that no entry binds has its safe value, a detail that none
binds is 0 (R254, R260, log 156). -/
def outputsOf (im : AlcImage) (vars : Table Nat) : OutputImage :=
  { al := sinkMask im vars 20 8
    members := im.pubs.zipIdx.map (fun p => p.1.safe.zipIdx.map (fun m => (sinkValue im vars 21 p.2 m.2).getD m.1))
    alarms := sinkMask im vars 22 32, details := (List.range 32).map (fun i => (sinkValue im vars 22 i 1).getD 0)
    recs := sinkMask im vars 23 64 }

/-- The output image of a controller. -/
def CtlEnd.out (x : CtlEnd) (im : AlcImage) : OutputImage := outputsOf im x.vars

/-- The compare finds a difference: in the output images or in the digests (R254, R255). -/
def State.scanDiffers (s : State) (im : AlcImage) (c : Scan) (r : ScanResult) : Bool :=
  (s.ctlRun im c r.a).out im != (s.ctlRun im c r.b).out im || (s.ctlRun im c r.a).digest im != (s.ctlRun im c r.b).digest im

/-- The internal self-check of one controller, or of each, has failed: FS_58, FS_59 (R294). -/
def State.selfCheck (s : State) (r : ScanResult) : State :=
  let one := fun (s : State) (src : Nat) => s.free.2.fault src s.free.1 (s.holder kindLogic 0)
  let s1 := if r.a.selfFail then one s 58 else s
  (if r.b.selfFail then one s1 59 else s1).alcSettle (if r.a.selfFail then 58 else 59)

/-- Variables and instances after a scan whose compare found no difference. -/
def State.scanVars (s : State) (im : AlcImage) (c : Scan) (r : ScanResult) : State :=
  let x := s.ctlRun im c r.a
  { s with
    alc := { s.alc with vars := x.vars, insts := x.insts, retained := retainedOf im x.vars }
    alcx := { s.alcx with arithErr := x.arithErr || (s.ctlRun im c r.b).arithErr, inputs := c.inputs } }

/-- After a scan: STOP where it was asked for, the checkpoints that are due, and the scan of a held trigger. -/
def State.scanAfter (s : State) (x : ScanStart) : State :=
  let held := s.alc.heldTrig
  let s0 : State := { s with alc := { s.alc with scan := none }, alcx := { s.alcx with skipRun := false } }
  if s0.alc.stopAt then s0.alcStopped 3
  else
    let s1 := s0.ckptNext
    match held with
    | none => s1
    | some t =>
      let s2 : State := { s1 with alc := { s1.alc with heldTrig := none } }
      if s2.alc.state == .run then s2.runScan t x else s2.scanSkip

/-- The watchdog of R271: a controller at a site that the other has not reached is a compare fault (R275). -/
def State.scanLate (s : State) (c : Scan) : State :=
  let src := if c.sites.a.isSome != c.sites.b.isSome then 56 else 57
  (s.free.2.fault src s.free.1 (s.holder kindLogic 0)).alcSettle src

/-- The end of a scan whose controllers have both finished (R255, R270, R271). -/
def State.scanEnds (s : State) (c : Scan) (im : AlcImage) (r : ScanResult) (x : ScanStart) : State :=
  let el := s.now - c.ts - c.haltNs
  if r.a.selfFail || r.b.selfFail then s.selfCheck r
  else if 2000 * c.budgetUs < el then s.scanLate c
  else if s.scanDiffers im c r then (s.free.2.fault 56 s.free.1 (s.holder kindLogic 0)).alcSettle 56
  else
    let s1 : State := { s with alcx := { s.alcx with lastScanNs := el, scans := s.alcx.scans + 1, firstScan := false } }
    let s2 := ((s1.count .alc 0).scanVars im c r).latency 4 el (some (1000 * c.budgetUs))
    let s3 := if 1000 * c.budgetUs < el then
        let s4 : State := { s2.count .alc 1 with alcx := { (s2.count .alc 1).alcx with overSeen := true } }
        s4.evtFree s4.logicReaders 0x181
      else s2
    let out := (s.ctlRun im c r.a).out im
    (s3.scanOutputs im c out out.details).scanAfter x

end Sys2Proof.Machine
end

