-- ==== Sys2Proof/Machine/MemOps.lean ====
section
/-!
DEFINITION. The staging buffer as a byte memory (14_hosts R423), and copies to host memory or into it (R404). A byte that nothing has written reads 0, and the
list holds no entry of that value: a canonical form.
-/
namespace Sys2Proof.Machine

/-- What an unlisted address reads as. -/
def Memory.unlisted : Byte := 0

/-- Read one byte. -/
def Memory.read (a : Nat) : List Host.Cell → Byte
  | [] => Memory.unlisted
  | c :: r => if c.1 = a then c.2 else Memory.read a r

/-- Write one byte. -/
def Memory.write (a : Nat) (v : Byte) : List Host.Cell → List Host.Cell
  | [] => if v = Memory.unlisted then [] else [(a, v)]
  | c :: r =>
    if a < c.1 then (if v = Memory.unlisted then c :: r else (a, v) :: c :: r)
    else if a = c.1 then (if v = Memory.unlisted then r else (a, v) :: r)
    else c :: Memory.write a v r

/-- Every listed address is above a bound, the addresses rise strictly, and no entry equals what an unlisted address reads as. -/
def Memory.wfFrom (lo : Nat) : List Host.Cell → Bool
  | [] => true
  | c :: r => decide (lo ≤ c.1) && c.2 != Memory.unlisted && Memory.wfFrom (c.1 + 1) r

/-- The canonical form. -/
def Memory.wf (m : List Host.Cell) : Bool := Memory.wfFrom 0 m

/-- Write bytes from an address on. -/
def Memory.writeBytes : Nat → List Byte → List Host.Cell → List Host.Cell
  | _, [], m => m
  | a, b :: l, m => Memory.writeBytes (a + 1) l (Memory.write a b m)

/-- Read bytes from an address on. -/
def Memory.readBytes (a n : Nat) (m : List Host.Cell) : List Byte := (List.range n).map (fun i => Memory.read (a + i) m)

/-- Bytes of a staging buffer. -/
def stagingSize : Nat := 16777216

/-- Writes that rings have made into a buffer, newest first, taken into its bytes. -/
def Memory.takeIn (part : Nat) : List (Nat × Nat × List Byte) → List Host.Cell → List Host.Cell
  | [], m => m
  | w :: l, m =>
    if w.1 = part then Memory.writeBytes w.2.1 (w.2.2.take (stagingSize - w.2.1)) (Memory.takeIn part l m) else Memory.takeIn part l m

/-- A partition's staging buffer. -/
def State.stagingOf (s : State) (part : Nat) : List Host.Cell := Memory.takeIn part s.hst.staged (tgetD part [] s.hst.staging)

/-- Write data into a partition's staging buffer; nothing lies past its end. -/
def State.stageWrite (s : State) (part off : Nat) (data : List Byte) : State :=
  { s with hst := { s.hst with
      staging := tset part (Memory.writeBytes off (data.take (stagingSize - off)) (s.stagingOf part)) s.hst.staging
      staged := s.hst.staged.filter (fun w => w.1 != part) } }

/-- A copy by DMA: to host memory, or for a command of another channel into the staging buffer. -/
def State.copyTo (s : State) (h : Pkt) (addr : Nat) (data : List Byte) : State :=
  if h.chan == .queue then { s with hst := { s.hst with dma := (h.part, addr, data) :: s.hst.dma } }
  else s.stageWrite h.part (addr % stagingSize) data

/-- Answer a command that copies data to a buffer: with a length of zero at once, else when the copy is done. The data are those of now. -/
def copyOut (s : State) (addr bufLen : Nat) (data res : List Byte) : CmdOut :=
  if bufLen == 0 then ok s res else .wait s (.dmaCopy addr (data.take bufLen) res)

end Sys2Proof.Machine
end

