-- ==== Sys2Proof/Machine/Metering.lean ====
section
/-!
DEFINITION. The metering commands and events (06_metering, 0x0500 to 0x0504).
-/
namespace Sys2Proof.Machine

/-! ## Points -/

/-- The accumulators of a point are set to 0 (R192). -/
def State.accClear (s : State) (n : Nat) : State := (s.setMeter n ((s.meter n).cleared s.now)).nrgEvent kindMeter n 0x103

/-- A channel is known to be of another TYPE than one wanted. -/
def State.wrongType (s : State) (stream ch type : Nat) : Bool := (s.knownType stream ch).any (fun t => t != type)

/-- Positions of CH that a wiring uses. -/
def usedCh (p : NrgPointSet) : List Nat := if p.wiring == 2 then [0, 3] else [0, 1, 2, 3, 4, 5]

/-- A change that sets the accumulators to 0. -/
def pointMoved (a b : NrgPointSet) : Bool :=
  a.source != b.source || a.unit != b.unit || a.stream != b.stream || a.ch != b.ch || a.wiring != b.wiring

/-- The checks of a point fed by slices (Table 06-7). -/
def State.slicePointChecks (s : State) (h : Pkt) (p : NrgPointSet) : List (Option (Nat × Nat)) :=
  [ badIf (15 < p.group) 6, badIf ((s.carrierOf p.stream).any (fun e => !e.2.groupMask.testBit p.group)) 6
  , badIf (16383 < p.stream) 8, s.needs h kindStream p.stream
  , badIf (p.ch.length != 6 || (usedCh p).any (fun i => s.wrongType p.stream ((p.ch[i]?).getD 0xFF) 0)
      || (p.wiring == 2 && [1, 2, 4, 5].any (fun i => (p.ch[i]?).getD 0 != 0xFF))) 10
  , badIf (p.freqStream != 0xFFFF && 16383 < p.freqStream) 16
  , if p.freqStream == 0xFFFF then none else s.needs h kindStream p.freqStream
  , badIf (p.freqStream != 0xFFFF && s.wrongType p.freqStream p.freqCh 1) 18 ]

def nrgPointSet (s : State) (h : Pkt) (p : NrgPointSet) : CmdOut :=
  let n := p.mp
  let old := s.meter n
  let t := s.doneAt h
  if p.source == 0 then
    check s [badIf (255 < n) 0, s.needs h kindMeter n] (fun _ =>
      if old.set.source == 0 then ok s
      else
        let m : Meter := { old with set := offPoint n, running := false, lost := false }
        ok ((s.setMeter n (m.cleared t)).nrgEvent kindMeter n 0x103))
  else
    check s
      ([ badIf (255 < n) 0, s.needs h kindMeter n, badIf (2 < p.source) 2, badIf (2 < p.wiring || p.wiring == (if p.source == 1 then 2 else 1)) 3
       , badIf (255 < p.unit || (p.source == 2 && p.unit != 0)) 4, if p.source == 1 then s.needs h kindUnit p.unit else none ]
       ++ (if p.source == 2 then s.slicePointChecks h p else []) ++ [badIf (negOrNan p.sFloor) 20])
      (fun _ =>
        let fresh := old.set.source == 0
        let m : Meter := { old with set := p, running := false, lost := false }
        let s1 := s.setMeter n (if fresh then m.cleared t else if pointMoved old.set p then m.cleared t else { m with running := old.running, lost := old.lost })
        let s2 := if !fresh && pointMoved old.set p then s1.nrgEvent kindMeter n 0x103 else s1
        ok (s2.meterRefresh n))

def execNrgPointSet (h : Pkt) (p : NrgPointSet) (s : State) : Host.Outcome State Fault Refusal :=
  cmd (.nrgPointSet h p) { op := 0x0500, len := some 32 } h s (fun s => nrgPointSet s h p)

/-- STATE of Table 06-8. -/
def Meter.code (m : Meter) : Nat := if m.set.source == 0 || !m.set.enable then 0 else if m.lost then 3 else if m.running then 2 else 1

/-- Time not integrated, in µs. -/
def Meter.gapUs (m : Meter) : Nat := m.gapUnits * 1250 / 3

/-- Table 06-8. -/
def meterReply (n : Nat) (m : Meter) : List Byte :=
  let words := fun (l : List (BitVec 32)) => (l.map (fun v => le 4 v.toNat)).flatten
  let imp := ((m.accs[0]?).map (·.count)).getD 0
  let exp := ((m.accs[1]?).map (·.count)).getD 0
  le 2 n ++ le 1 m.code ++ le 1 (b2n m.res.questionable + 2 * b2n m.res.gap + 4 * b2n m.res.freqInvalid + 8 * b2n m.accFault) ++ zeros 4
    ++ le 8 (twos 64 m.res.stamp) ++ words m.res.rms ++ words m.res.power ++ words m.res.angles
    ++ (m.accs.map (fun a => le 8 a.count.toNat)).flatten ++ m.accs.map (·.wraps) ++ zeros 2
    ++ le 8 (imp - exp).toNat ++ le 8 m.gapUs ++ le 8 m.startStamp

def nrgPointRead (s : State) (h : Pkt) (n : Nat) : CmdOut :=
  check s [badIf (255 < n) 0, s.needsRead h kindMeter n] (fun _ => ok s (meterReply n (s.meter n)))

def execNrgPointRead (h : Pkt) (mp : Nat) (s : State) : Host.Outcome State Fault Refusal :=
  cmd (.nrgPointRead h mp) { op := 0x0501, len := some 4, ro := true } h s (fun s => nrgPointRead s h mp)

def nrgAccClear (s : State) (h : Pkt) (n : Nat) : CmdOut :=
  check s [badIf (255 < n) 0, s.needs h kindMeter n] (fun _ =>
    let s1 := (s.at h.done).accClear n
    ok s1 (le 8 s1.now))

def execNrgAccClear (h : Pkt) (mp : Nat) (s : State) : Host.Outcome State Fault Refusal :=
  cmd (.nrgAccClear h mp) { op := 0x0502, len := some 4 } h s (fun s => nrgAccClear s h mp)

/-! ## Pulse inputs (R194, R195) -/

/-- Which line of a pair is closed, when exactly one is: false Y, true Z. -/
def closedLine (level n : Nat) : Option Bool :=
  match level.testBit n, level.testBit (n + 1) with
  | true, false => some false
  | false, true => some true
  | _, _ => none

/-- Count and wraps of an accumulator, as one number. -/
def State.accTotal (s : State) (mp a : Nat) : Nat × Nat :=
  let x := ((s.meter mp).accs[a]?).getD {}
  (x.count.toNat, x.wraps.toNat)

/-- A check interval begins at a stamp. -/
def State.checkFrom (s : State) (x : PulseIn) (t : Stamp) : PulseIn :=
  let a := s.accTotal x.set.mp x.set.acc
  { x with checkStart := t, pulses := 0, accStart := a.1, wrapStart := a.2, spoilt := (s.meter x.set.mp).lost }

def nrgPiSet (s : State) (h : Pkt) (p0 : NrgPiSet) : CmdOut :=
  let p := { p0 with debounce := if p0.debounce == 0 then 10 else p0.debounce, checkS := if p0.checkS == 0 then 900 else p0.checkS }
  check s
    [ badIf (15 < p.pi) 0, s.needs h kindPulseIn p.pi
    , if p.form == 2 then badIf (p.pi % 2 == 1) 0 else none, if p.form == 2 then s.needs h kindPulseIn (p.pi + 1) else none
    , badIf (2 < p.form) 1, badIf (255 < p.mp) 4, if p.tolPm == 0 then none else s.needs h kindMeter p.mp, badIf (5 < p.acc) 6
    , badIf (p.checkS < 60 || 86400 < p.checkS) 8, zeroIf (p.weight == 0 && p.tolPm != 0) 12 ]
    (fun _ =>
      let x : PulseIn := { tgetD p.pi { set := p } s.nrg.pis with
        set := p, closed := if p.form == 2 then closedLine s.nrg.piLevel p.pi else none }
      ok (s.setPi p.pi (s.checkFrom x (s.doneAt h))))

def execNrgPiSet (h : Pkt) (p : NrgPiSet) (s : State) : Host.Outcome State Fault Refusal :=
  cmd (.nrgPiSet h p) { op := 0x0503, len := some 24 } h s (fun s => nrgPiSet s h p)

/-- One more pulse. -/
def PulseIn.pulse (x : PulseIn) : PulseIn := { x with count := x.count + 1, pulses := x.pulses + 1 }

/-- The pair of a changed line, when it forms one input. -/
def State.formC (s : State) (n : Nat) : Option PulseIn := (tget (n - n % 2) s.nrg.pis).filter (fun x => x.set.form == 2)

/-- DEBOUNCE of a line in ns: of its own setting, or of the pair it belongs to; 1.0 ms where nothing sets it. -/
def State.debounceNs (s : State) (n : Nat) : Nat :=
  let x := match s.formC n with
    | some x => some x
    | none => tget n s.nrg.pis
  100000 * (x.map (·.set.debounce)).getD 10

/-- A level is one that line `n` accepts: another than before, on the grid of 10 µs, stable for DEBOUNCE from the level before it (R194). -/
def State.piTakes (s : State) (n : Nat) (level : Bool) : Bool :=
  n ≤ 15 && s.nrg.piLevel.testBit n != level && s.now % 10000 == 0 && !(tget n s.nrg.piAt).any (fun t => decide (s.now < t + s.debounceNs n))

/-- The other line of a pair is accepted in the same TB_0 tick and still waits: both count as changed at once. -/
def State.partnerWaits (s : State) (n : Nat) : Bool :=
  let m := if n % 2 == 0 then n + 1 else n - 1
  s.pending.any (fun i => match i with
    | .piLevelAccepted t k level => tick t == s.now && k == m && s.piTakes m level
    | _ => false)

/-- A pin's debounced level changes: a pulse of Form A at a rise, a change of the closed line of Form C, or its error; a pair is judged once both lines that
change at one tick have changed (R194). -/
def State.piLevel (s : State) (n : Nat) (level : Bool) : State :=
  if !s.piTakes n level then s
  else
    let v := if level then s.nrg.piLevel + 2 ^ n else s.nrg.piLevel - 2 ^ n
    let s1 : State := { s with nrg := { s.nrg with piLevel := v, piAt := tset n s.now s.nrg.piAt } }
    match s1.formC n with
    | some x =>
      let m := n - n % 2
      if s1.partnerWaits n then s1
      else
        match closedLine v m with
        | some c => s1.setPi m { (if x.closed.any (· != c) then x.pulse else x) with closed := some c }
        | none => s1.nrgEvent kindPulseIn m 0x105
    | none =>
      match tget n s1.nrg.pis with
      | some x => if x.set.form == 1 && level then s1.setPi n x.pulse else s1
      | none => s1

def execPiLevelAccepted (t n : Nat) (level : Bool) (s : State) : Host.Outcome State Fault Refusal :=
  event t s (fun s => if s.fabricUp then s.piLevel n level else s)

/-- The mismatch of R195 in thousandths: pulses' energy against the accumulator's increase. -/
def piMismatch (tolPm weight pulses : Nat) (increase : Int) : Bool :=
  let ep : Int := ((pulses * weight : Nat) : Int)
  decide ((tolPm : Int) * max ep increase + 1000 * (weight : Int) < 1000 * ((ep - increase).natAbs : Int))

/-- The end of a check interval. -/
def State.piCheck (s : State) (n : Nat) : State :=
  match tget n s.nrg.pis with
  | none => s
  | some x =>
    if x.set.form == 0 || x.set.tolPm == 0 || s.now < x.checkStart + 1000000000 * x.set.checkS then s
    else
      let a := s.accTotal x.set.mp x.set.acc
      let inc : Int := (((a.2 + 256 - x.wrapStart) % 256 * 2 ^ 64 + a.1 : Nat) : Int) - (x.accStart : Int)
      let s1 := s.setPi n (s.checkFrom { x with skipped := x.skipped + b2n x.spoilt } (x.checkStart + 1000000000 * x.set.checkS))
      if !x.spoilt && piMismatch x.set.tolPm x.set.weight x.pulses inc then
        let part := s.holder kindPulseIn n
        ({ s1 with nrg := { s1.nrg with mismatchSeen := part :: s1.nrg.mismatchSeen.filter (· != part) } }).nrgEvent kindPulseIn n 0x104
      else s1

def execPiCrossCheck (t n : Nat) (s : State) : Host.Outcome State Fault Refusal :=
  event t s (fun s => if s.fabricUp then s.piCheck n else s)

/-! ## Pulse outputs (R196, R197) -/

def nrgPoSet (s : State) (h : Pkt) (p0 : NrgPoSet) : CmdOut :=
  let p := { p0 with gapMs := if p0.gapMs == 0 then p0.pulseMs else p0.gapMs }
  check s
    [ badIf (7 < p.po) 0, s.needs h kindPulseOut p.po, badIf (255 < p.mp) 2, s.needs h kindMeter p.mp, badIf (5 < p.acc) 4
    , zeroIf (p.pulseMs == 0) 6, badIf (1000 < p.pulseMs) 6, badIf (1000 < p.gapMs) 8, zeroIf (p.weight == 0) 12 ]
    (fun _ =>
      let o : PulseOut := tgetD p.po { set := p } s.nrg.pos
      let o1 : PulseOut := { o with spill := 0, pending := 0, backlogSeen := false, lostInBacklog := false }
      ok (s.setPo p.po (if o.phase == .active then { o1 with next := some p } else { o1 with set := p, next := none })))

def execNrgPoSet (h : Pkt) (p : NrgPoSet) (s : State) : Host.Outcome State Fault Refusal :=
  cmd (.nrgPoSet h p) { op := 0x0504, len := some 24 } h s (fun s => nrgPoSet s h p)

/-- The active time PULSE_MS or the gap GAP_MS of a pulse ends; before its time a row ends nothing (R196). -/
def State.poPhaseEnd (s : State) (n : Nat) : State :=
  match tget n s.nrg.pos with
  | none => s
  | some o =>
    match o.phase with
    | .idle => s
    | .active =>
      if s.now < o.phaseAt + 1000000 * o.set.pulseMs then s
      else s.setPo n { o with set := o.next.getD o.set, next := none, phase := .gap, phaseAt := s.now }
    | .gap => if s.now < o.phaseAt + 1000000 * o.set.gapMs then s else s.setPo n (PulseOut.drive { o with phase := .idle } s.now)

def execPoPulsePhaseEnd (t n : Nat) (s : State) : Host.Outcome State Fault Refusal :=
  event t s (fun s => if s.fabricUp then s.poPhaseEnd n else s)

end Sys2Proof.Machine
end

