-- ==== Sys2Proof/Machine/AlarmLogic.lean ====
section
/-!
DEFINITION. The alarm logic commands (09_alarm_logic, 0x0800 to 0x0808) and the verification of an image (R257, R258, R261).
-/
namespace Sys2Proof.Machine

/-! ## Verification of an image -/

/-- Header and format: reason 1. -/
def imageHeaderBad (im : AlcImage) : Bool := im.magic != 0x097240A1 || im.format != 1 || 1 < im.flags

/-- A limit of Table 09-1 or R265: reason 2. -/
def imageLimitBad (im : AlcImage) : Bool :=
  im.codeALen == 0 || 262144 < im.codeALen || im.codeBLen == 0 || 262144 < im.codeBLen || 65536 < im.retainLen || 196608 < im.workLen
  || 8192 < im.map.length || 16384 < im.insts.length || 16384 < im.points.length || 64 < im.pubs.length || 1024 < im.sites.length
  || 1048576 < im.totalLen || 1 < im.errorTask
  || im.pubs.any (fun e => 2 < e.ports.length || e.ports.any (fun p => 23 < p) || e.minMs < 1 || 100 < e.minMs || e.maxMs < 100 || 60000 < e.maxMs
      || 100000 < e.offsetUs || 64 < e.safe.length || e.head.types.length != e.safe.length || (e.rGoose && 255 < e.keySlot))

/-- A program type that holds a member or a station entry of a type of R102 (DESIGN CHOICE: log entry 129). -/
def memberFits (k : DataKind) (type : Nat) : Bool :=
  match k with
  | .boolean => type == 1
  | .integer => 2 ≤ type && type ≤ 4
  | .unsigned => 6 ≤ type && type ≤ 8
  | .float32 => type == 14
  | .utcTime => type == 9 || type == 13 || type == 17
  | _ => 10 ≤ type && type ≤ 12

/-- A program type that holds a member: an ALC_PHASOR holds a structure of two FLOAT32, and the member of any other structure is bound by no entry (log entry 129). -/
def memberTypeFits (m : MemberType) (type : Nat) : Bool :=
  match m with
  | .scalar k => memberFits k type
  | .struct l => type == 18 && l == [.float32, .float32]

/-- A map entry names a source or sink that exists, with a type it allows (Table 09-3). -/
def mapEntryOk (im : AlcImage) (e : AlcMapEntry) : Bool :=
  match e.kind with
  | 1 => e.index < 16384 && e.chan < 256 && e.group < 16 && (e.type == 18 || e.type == 14 || e.type == 11)
  | 2 => e.index < 16384 && e.chan < 256 && e.group < 16 && e.type == 11
  | 3 => e.index < 2048 && e.type == 1
  | 4 => e.index < 2048 && e.type == 1
  | 5 => e.index < 2048 && e.type == 14
  | 6 => e.index < 3 && e.type == 1
  | 7 => e.index < 32 && ((e.chan == 0 && e.type == 1) || ((e.chan == 1 || e.chan == 4) && e.type == 7) || ((e.chan == 2 || e.chan == 3) && e.type == 14))
  | 8 => e.index < 4096 && e.type == 1
  | 9 => e.index < 128 && e.chan < 64
      && [DataKind.boolean, .integer, .unsigned, .float32, .bitString, .utcTime].any (fun k => memberFits k e.type)
  | 10 => e.index < 128 && e.type == 11
  | 11 => (e.index == 0 || e.index == 4) && e.type == 1 || e.index == 1 && e.type == 6 || (e.index == 2 || e.index == 3) && e.type == 17
          || 5 ≤ e.index && e.index ≤ 8 && e.type == 12
  | 12 => (e.index == 0 || e.index == 2 || e.index == 3) && e.type == 1 || e.index == 1 && e.type == 6
  | 20 => e.index < 8 && e.type == 1
  | 21 => (im.pubs[e.index]?).any (fun p => e.chan < p.safe.length && (p.head.types[e.chan]?).any (fun k => memberTypeFits k e.type))
  | 22 => e.index < 32 && ((e.chan == 0 && e.type == 1) || (e.chan == 1 && e.type == 12))
  | 23 => e.index < 64 && e.type == 1
  | _ => false

/-- The logic holder holds the source or sink of an entry, or has a share grant on it (R205, R261). -/
def State.mapEntryHeld (s : State) (part : Nat) (e : AlcMapEntry) : Bool :=
  match e.kind with
  | 1 => s.reads part kindStream e.index
  | 2 => s.reads part kindStream e.index
  | 3 => s.reads part kindUnit (e.index / 8)
  | 4 => s.reads part kindDetector e.index
  | 5 => s.reads part kindDetector e.index
  | 6 => s.reads part kindModal 0
  | 7 => s.reads part kindCoherency 0
  | 8 => s.reads part kindCoherency 0
  | 9 => s.reads part kindStation e.index
  | 10 => s.reads part kindStation e.index
  | 23 => s.holds part kindRecorder e.index
  | _ => true

/-- The program type of a channel of a TYPE (Table 09-3, kind 1). -/
def chanProgType (type : Nat) : Nat := if type == 0 then 18 else if type ≤ 3 then 14 else 11

/-- A kind 1 or kind 2 entry names a group to which its contract is bound (R261), and a kind 1 entry has the type of its channel where the layout tells it. -/
def State.mapEntryBound (s : State) (e : AlcMapEntry) : Bool :=
  (e.kind != 1 && e.kind != 2)
  || ((s.carrierOf e.index).any (fun c => c.2.groupMask.testBit e.group)
      && (e.kind == 2 || (s.knownType e.index e.chan).all (fun t => t ≤ 4 && chanProgType t == e.type)))

/-- The slots of signed publications are held by the logic holder, and their keys sign with the TAG of the entry (R433, R434). -/
def State.pubSlotReason (s : State) (part : Nat) (im : AlcImage) : Option Nat :=
  let signed := im.pubs.filter (·.rGoose)
  if signed.any (fun e => !s.holds part kindKey e.keySlot) then some 4
  else if signed.any (fun e => !(s.key e.keySlot).any (fun k => k.attr == 1 && k.alg == e.tagCode + 1)) then some 3 else none

/-- The reason for which the map of an image is refused: 3 a map reference, 4 a source not held. `binding` is false at start-up (R258). -/
def State.mapReason (s : State) (im : AlcImage) (binding : Bool) : Option Nat :=
  let part := s.holder kindLogic 0
  if im.map.any (fun e => !mapEntryOk im e || (binding && !s.mapEntryBound e)) then some 3
  else if im.map.any (fun e => !s.mapEntryHeld part e) then some 4
  else if binding then s.pubSlotReason part im else none

/-- The slots that the publications of an image sign with. -/
def signSlots (im : AlcImage) : List Nat := (im.pubs.filter (·.rGoose)).map (·.keySlot)

/-- A slot of the holder that is marked UPDATE_LOST or UNUSABLE stops an image that names it (15_security R440, R454). -/
def State.slotStop (s : State) (im : AlcImage) : Option (Nat × Nat) :=
  let mine := (signSlots im).filter (fun n => s.holder kindKey n == s.holder kindLogic 0)
  match mine.find? (fun n => (s.slot n).updateLost) with
  | some n => some (stWrongState, 0x10000 + n)
  | none => if mine.any (fun n => (s.slot n).unusable) then some (stWrongState, 0) else none

/-- The mark that a refusal has reported is cleared (15_security R454). -/
def State.markReported (s : State) (status detail : Nat) : State :=
  if status == stWrongState && 0x10000 ≤ detail then s.setSlot (detail - 0x10000) { s.slot (detail - 0x10000) with updateLost := false } else s

/-- What verification finds: a status and detail, none where the image is accepted. -/
def State.imageBad (s : State) (im : AlcImage) (sigOk binding : Bool) : Option (Nat × Nat) :=
  if imageHeaderBad im then some (stBadParam, 1)
  else if !sigOk then some (stAuthFail, 0)
  else if imageLimitBad im then some (stBadParam, 2)
  else match if binding then s.slotStop im else none with
    | some x => some x
    | none => match s.mapReason im binding with
      | some r => some (stBadParam, r)
      | none => if s.safetyOp && im.flags % 2 == 0 then some (stBadParam, 5) else none

/-! ## ALC_LOAD -/

def pairNeeded (s : State) (h : Pkt) : Option (Nat × Nat) := s.needs h kindLogic 0

def alcLoad (s : State) (h : Pkt) (p : AlcLoad) : CmdOut :=
  check s
    [ pairNeeded s h, zeroIf (p.imageLen == 0) 0, failIf (1048576 < p.imageLen) stBadParam 2, stagingOnly h p.imageAddr, norIdle s
    , failIf (s.alc.exchange.isSome || s.alc.commitDue || s.alc.loading.isSome) stBusy 0 ]
    (fun _ => .wait { s with alc := { s.alc with loading := some p } } .alcLoad)

def execAlcLoad (h : Pkt) (p : AlcLoad) (s : State) : Host.Outcome State Fault Refusal :=
  cmd (.alcLoad h p) { op := 0x0800, len := some 24 } h s (fun s => alcLoad s h p)

/-- The staged image has been verified: it is written to STANDBY, behind a checkpoint that is being written (01_architecture R33), or refused and the bank is
unchanged. -/
def State.alcLoaded (s : State) (p : AlcLoad) (v : AlcVerify) : State :=
  let s1 : State := { s with alc := { s.alc with loading := none } }
  let bad := if p.imageLen < v.image.totalLen then some (stBadParam, 2) else s.imageBad v.image v.sigOk true
  match bad with
  | some (st, d) => (s1.markReported st d).finishAll (fun w => w.what == .alcLoad) st d (fun _ => [])
  | none =>
    let s2 : State := { s1 with alc := { s1.alc with standby := some v.image } }
    (s2.evtFree s2.logicReaders 0x189).finishAll (fun w => w.what == .alcLoad) stOk 0
      (fun _ => le 8 v.image.programId ++ le 4 v.image.version ++ zeros 4)

def execAlcLoadVerified (t : Nat) (v : AlcVerify) (s : State) : Host.Outcome State Fault Refusal :=
  event t s (fun s =>
    match s.alc.loading with
    | some p => if s.fabricUp && s.alcx.write.isNone then s.alcLoaded p v else s
    | none => s)

/-! ## ALC_EXCHANGE -/

def alcExchange (s : State) (h : Pkt) (dryRun : Bool) : CmdOut :=
  match s.alc.standby with
  | none => check s [pairNeeded s h] (fun _ => refuse s stWrongState 0)
  | some new =>
    check s [pairNeeded s h] fun _ =>
    onSlots s h (signSlots new) (signSlots new) fun _ =>
    check s
      [ failIf (s.alc.state == .hold || s.alc.state == .faulted) stWrongState 0
      , failIf (s.alc.exchange.isSome || s.alc.commitDue) stBusy 0
      , (s.mapReason new true).map (fun r => (stBadParam, r)) ]
      (fun _ =>
        let res := (s.exchangeCounts s.alc.active new).reply
        if dryRun then ok s res
        else if s.alc.state == .run then .wait { s with alc := { s.alc with exchange := some h.recv } } .exchange
        else if s.alc.state == .noProgram then ok (s.exchangeApply.alcTo .stop 1) res
        else ok s.exchangeApply.toSafe res)

def execAlcExchange (h : Pkt) (dryRun : Bool) (s : State) : Host.Outcome State Fault Refusal :=
  cmd (.alcExchange h dryRun) { op := 0x0801, len := some 8, ro := dryRun } h s (fun s => alcExchange s h dryRun)

/-- The checkpoint of the new image stands, and the bank swap is committed (R290). -/
def execExchangeCommitDone (t : Nat) (s : State) : Host.Outcome State Fault Refusal :=
  event t s (fun s =>
    if s.fabricUp && !s.alcx.ckptDue.contains .exchange && s.alcx.write.all (fun w => w.cause != .exchange) then
      { s with alc := { s.alc with commitDue := false } }
    else s)

/-! ## ALC_MODE -/

/-- A fault of row 8 has not been acknowledged. -/
def State.row8Unacked (s : State) : Bool := s.unacked.any (fun r => faultRow8 r.source)

def alcMode (s : State) (h : Pkt) (p : AlcMode) : CmdOut :=
  let st := s.alc.state
  let modeReply := fun (new : AlcState) => le 1 st.code ++ le 1 new.code ++ zeros 2
  check s
    [ pairNeeded s h, badIf (p.mode != 1 && p.mode != 2) 0, badIf (p.mode == 2 && st == .stop && 1 < p.restart) 1
    , failIf (st == .noProgram || (p.mode == 2 && st != .stop) || (p.mode == 1 && st == .faulted && s.row8Unacked)) stWrongState 0 ]
    (fun _ =>
      if p.mode == 2 then ok ((s.at h.done).alcRun (p.restart == 1) (s.doneAt h)) (modeReply .run)
      else match st with
        | .stop => ok s (modeReply .stop)
        | .faulted => ok (s.alcTo .stop 9) (modeReply .stop)
        | .hold => ok (s.alcStopped 7) (modeReply .stop)
        | _ => if s.alc.scan.isSome then .wait { s with alc := { s.alc with stopAt := true } } (.alcStop st.code)
               else ok (s.alcStopped 3) (modeReply .stop))

def execAlcMode (h : Pkt) (p : AlcMode) (s : State) : Host.Outcome State Fault Refusal :=
  cmd (.alcMode h p) { op := 0x0802, len := some 4 } h s (fun s => alcMode s h p)

/-! ## ALC_SCAN_SET (R269) -/

/-- The checks of a scan setting that a start-up bundle makes too. -/
def State.scanSetChecks (s : State) (p : AlcScanSet) (b : Nat) : List (Option (Nat × Nat)) :=
  [ zeroIf (p.trig == 1 && p.periodUs == 0) 4, badIf (1 < p.trig) 0
  , badIf (p.trig == 0 && (15 < p.group || (s.group p.group).isNone)) 1, badIf (b < 50 || 1000 < b) 2
  , badIf (if p.trig == 0 then p.periodUs != 0 else p.periodUs < 500 || 100000 < p.periodUs || p.periodUs < 2 * b) 4 ]

def scanBudget (p : AlcScanSet) : Nat := if p.budgetUs == 0 then 400 else p.budgetUs

def scanSettingOf (p : AlcScanSet) : ScanSetting := { trig := p.trig, group := if p.trig == 0 then p.group else 0, periodUs := p.periodUs }

def State.putScanSet (s : State) (p : AlcScanSet) : State :=
  { s with alc := { s.alc with setting := some (scanSettingOf p), budgetUs := scanBudget p } }

def alcScanSet (s : State) (h : Pkt) (p : AlcScanSet) : CmdOut :=
  check s
    (pairNeeded s h :: s.scanSetChecks p (scanBudget p)
      ++ [failIf (s.alc.setting != some (scanSettingOf p) && s.alc.state != .stop && s.alc.state != .noProgram) stWrongState 0])
    (fun _ => ok (s.putScanSet p))

def execAlcScanSet (h : Pkt) (p : AlcScanSet) (s : State) : Host.Outcome State Fault Refusal :=
  cmd (.alcScanSet h p) { op := 0x0803, len := some 12 } h s (fun s => alcScanSet s h p)

/-! ## ALC_FORCE (R276, R277) -/

/-- The force that ALC_FORCE sets; until it takes effect, one that it replaces stays in effect (R276). -/
def State.newForce (s : State) (p : AlcForce) (since : Stamp) : Force :=
  { type := p.type, value := p.value % 256 ^ typeSize p.type, since, old := (tget p.point s.alc.forces).bind (fun f => f.valueAt since) }

def alcForce (s : State) (h : Pkt) (p : AlcForce) : CmdOut :=
  let pt := s.alc.active.bind (fun im => imagePoint im p.point)
  let done := fun (f : Table Force) => ok ((s.at h.done).setForces f) (le 2 f.length ++ zeros 2)
  check s
    [ pairNeeded s h, badIf (p.op == 0 || 3 < p.op) 8, badIf (p.op != 3 && s.alc.state != .noProgram && pt.isNone) 0
    , badIf (p.op != 3 && s.alc.state != .noProgram && pt.any (fun x => x.type != p.type)) 9
    , failIf (s.alc.state == .noProgram) stWrongState 0
    , failIf (p.op == 1 && (tget p.point s.alc.forces).isNone && 256 ≤ s.alc.forces.length) stNoResource 0 ]
    (fun _ =>
      if p.op == 1 then done (tset p.point (s.newForce p (s.doneAt h)) s.alc.forces)
      else if p.op == 2 then done (tdel p.point s.alc.forces)
      else done [])

def execAlcForce (h : Pkt) (p : AlcForce) (s : State) : Host.Outcome State Fault Refusal :=
  cmd (.alcForce h p) { op := 0x0804, len := some 24 } h s (fun s => alcForce s h p)

/-! ## ALC_BREAK (R275) -/

/-- The halted scan goes on, to a further set site or towards its end (row 6). -/
def State.scanResume (s : State) (next : SitesReached) : State :=
  match s.alc.scan with
  | none => s
  | some c =>
    let c1 : Scan := { c with haltNs := c.haltNs + (s.now - c.haltAt.getD s.now), haltAt := none }
    let s1 : State := { s with alc := { s.alc with scan := some c1, holdSite := none } }
    (s1.alcTo .run 6).scanHalt next

def alcBreak (s : State) (h : Pkt) (p : AlcBreak) : CmdOut :=
  let site := s.alc.active.any (fun im => im.sites.contains p.site)
  check s
    [ pairNeeded s h, badIf (p.op == 0 || 4 < p.op) 0, badIf (p.op ≤ 2 && !site) 2
    , failIf (3 ≤ p.op && s.alc.state != .hold) stWrongState 0
    , failIf (p.op == 1 && !s.alc.breaks.contains p.site && 8 ≤ s.alc.breaks.length) stNoResource 0 ]
    (fun _ =>
      if p.op == 1 then
        ok { s with alc := { s.alc with breaks := if s.alc.breaks.contains p.site then s.alc.breaks else p.site :: s.alc.breaks } }
      else if p.op == 2 then ok { s with alc := { s.alc with breaks := s.alc.breaks.filter (· != p.site) } }
      else ok ((s.at h.done).scanResume p.next))

def execAlcBreak (h : Pkt) (p : AlcBreak) (s : State) : Host.Outcome State Fault Refusal :=
  cmd (.alcBreak h p) { op := 0x0805, len := some 4 } h s (fun s => alcBreak s h p)

/-! ## ALC_QUERY, ALC_VAR_READ, ALC_CHECKPOINT -/

/-- The image in the STANDBY bank: until the swap is committed the bank still holds the program that runs (R290). -/
def State.standbyImage (s : State) : Option AlcImage := if s.alc.commitDue then s.alc.active else s.alc.standby

def alcQuery (s : State) (h : Pkt) : CmdOut :=
  check s [s.needsRead h kindLogic 0] (fun _ =>
    let sb := s.standbyImage
    let im := if s.alc.state == .noProgram then none else s.alc.active
    let x := s.alc.setting
    ok s (le 1 s.alc.state.code ++ le 1 s.alc.restartKind ++ le 1 ((x.map (·.trig)).getD 0xFF) ++ le 1 ((x.map (·.group)).getD 0)
      ++ le 2 s.alc.budgetUs ++ le 1 (if s.alc.exchange.isSome then 2 else b2n sb.isSome) ++ zeros 1 ++ le 4 ((x.map (·.periodUs)).getD 0)
      ++ le 2 s.alc.forces.length ++ le 2 (s.alc.holdSite.getD 0xFFFF) ++ le 8 ((im.map (·.programId)).getD 0) ++ le 4 ((im.map (·.version)).getD 0)
      ++ le 8 ((sb.map (·.programId)).getD 0) ++ le 4 ((sb.map (·.version)).getD 0) ++ le 8 s.alcx.scans ++ le 4 s.alcx.lastScanNs
      ++ le 8 s.alcx.lastCkpt ++ zeros 4))

def execAlcQuery (h : Pkt) (s : State) : Host.Outcome State Fault Refusal :=
  cmd (.alcQuery h) { op := 0x0806, len := some 0, ro := true } h s (fun s => alcQuery s h)

/-- The value of a point at the last scan boundary, as TYPE, FORCED and VALUE. -/
def State.pointValue (s : State) (im : AlcImage) (id : Nat) : Option (Nat × Bool × Nat) :=
  let f := tget id s.alc.forces
  match im.vars.find? (fun v => v.id == id) with
  | some v => some (v.type, f.isSome, ((tget id s.alc.vars).getD v.init))
  | none =>
    (imagePoint im id).map (fun p =>
      let v := match p.kind with
        | .input e => (s.alcx.inputs[e]?).getD 0
        | .alarmPin n => b2n (s.alc.out.al.testBit n)
        | .member d m => (((s.alc.out.members[d]?).getD [])[m]?).getD 0
        | .alarmEvent n => b2n (s.alc.out.alarms.testBit n)
        | .recTrigger n => b2n (s.alc.out.recs.testBit n)
        | .variable => (tget id s.alc.vars).getD 0
        | .element v part => element part ((tget v s.alc.vars).getD 0)
      (p.type, f.isSome, v))

def alcVarRead (s : State) (h : Pkt) (p : AlcVarRead) : CmdOut :=
  let im := if s.alc.state == .noProgram then none else s.alc.active
  check s
    [ pairNeeded s h, zeroIf (p.count == 0) 0, badIf (64 < p.count) 0, stagingOnly h p.listAddr, stagingOnly h p.bufAddr
    , failIf im.isNone stWrongState 0
    , badIf (im.any (fun im => (p.ids.take p.count).any (fun i => (s.pointValue im i).isNone))) 8 ]
    (fun _ =>
      match im with
      | none => refuse s stWrongState 0
      | some im =>
        let data := (p.ids.take p.count).flatMap (fun i =>
          match s.pointValue im i with
          | some (t, f, v) => le 1 t ++ le 1 (b2n f) ++ zeros 6 ++ le 8 v
          | none => zeros 16)
        copyOut s p.bufAddr (16 * p.count) data [])

def execAlcVarRead (h : Pkt) (p : AlcVarRead) (s : State) : Host.Outcome State Fault Refusal :=
  cmd (.alcVarRead h p) { op := 0x0807, len := some 24, ro := true } h s (fun s => alcVarRead s h p)

def alcCheckpoint (s : State) (h : Pkt) : CmdOut :=
  check s
    [ pairNeeded s h, failIf (s.alc.state == .noProgram) stWrongState 0
    , failIf (s.pwr.pfwLow || s.alcx.write.isSome || !s.alcx.ckptDue.isEmpty) stBusy 0 ]
    (fun _ => .wait ((s.at h.done).ckptWant .command) .checkpoint)

def execAlcCheckpoint (h : Pkt) (s : State) : Host.Outcome State Fault Refusal :=
  cmd (.alcCheckpoint h) { op := 0x0808, len := some 0 } h s (fun s => alcCheckpoint s h)

end Sys2Proof.Machine
end

