-- ==== Sys2Proof/Machine/Clusters.lean ====
section
/-!
DEFINITION. The rows of the clusters and the scheduler (11_clusters R319 to R342).
-/
namespace Sys2Proof.Machine

/-! ## Drain, retirement and rejoining -/

/-- A removal asked for by command (R334): refused when no other cluster would be in service, and, outside Placement, when it would shed
without FORCE. -/
def closeCluster (s : State) (k : Nat) (force : Bool) (st : ClusterState) (row : Nat) : CmdOut :=
  let plan := s.removalPlan k
  if !allClusters.any (fun j => j != k && s.inService j) then refuse s stWrongState 0
  else if !plan.2.isEmpty && !force && s.tt.profile != .placement then
    refuse s stWouldBreak ((plan.2.head?.map (·.1)).getD 0xFFFF)
  else
    let r := (s.clusterTo k st row).removeCluster k 5
    ok r.1 (le 2 r.2.1 ++ le 2 r.2.2 ++ le 2 (r.1.clusterBusy k) ++ zeros 2)

/-- SCH_DRAIN (R334, Table 11-2 row 1). -/
def schDrain (s : State) (h : Pkt) (p : SchCluster) : CmdOut :=
  check s [ownerOnly h, badIf (15 < p.cluster) 0, failIf (!s.inService p.cluster) stWrongState 0]
    (fun _ => closeCluster s p.cluster p.flag .draining 1)

def execSchDrain (h : Pkt) (p : SchCluster) (s : State) : Host.Outcome State Fault Refusal :=
  cmd (.schDrain h p) { op := 0x0A00, len := some 4 } h s (fun s => schDrain s h p)

/-- SCH_RETIRE (Table 11-2 rows 10 and 12). -/
def schRetire (s : State) (h : Pkt) (p : SchCluster) : CmdOut :=
  check s [ownerOnly h, badIf (15 < p.cluster) 0] (fun _ =>
    match (s.cluster p.cluster).state with
    | .inService => closeCluster s p.cluster p.flag .retired 12
    | .drained => ok (s.clusterTo p.cluster .retired 10) (zeros 8)
    | .faulted => ok (s.clusterTo p.cluster .retired 10) (zeros 8)
    | _ => refuse s stWrongState 0)

def execSchRetire (h : Pkt) (p : SchCluster) (s : State) : Host.Outcome State Fault Refusal :=
  cmd (.schRetire h p) { op := 0x0A02, len := some 4 } h s (fun s => schRetire s h p)

/-- A cluster that clears and reinitialises its local memory and stream state (R323). What is observed of it stays: maxima run from the latest CLEAR, means and
busy time over the latest 100 ms (R338). -/
def Cluster.cleared (c : Cluster) (now : Stamp) : Cluster :=
  { state := c.state, faults := c.faults, bank := c.bank, retiredMark := c.retiredMark, trace := c.trace, maxDepth := c.maxDepth, waitMax := c.waitMax
    waits := c.waits, busy := c.cores.map (fun e => { core := e.1, start := e.2.start, stop := now }) ++ c.busy }

/-- SCH_REJOIN: to TESTING; the reply follows the self-test (R323, Table 11-2 rows 5 and 6). -/
def schRejoin (s : State) (h : Pkt) (p : SchCluster) : CmdOut :=
  check s [ownerOnly h, badIf (15 < p.cluster) 0] (fun _ =>
    let go := fun (row : Nat) =>
      CmdOut.wait ((s.modCluster p.cluster (fun c => c.cleared s.now)).clusterTo p.cluster .testing row) (.rejoin p.cluster)
    match (s.cluster p.cluster).state with
    | .drained => go 5
    | .faulted => go 5
    | .retired => if p.flag then go 6 else refuse s stWrongState 0
    | _ => refuse s stWrongState 0)

def execSchRejoin (h : Pkt) (p : SchCluster) (s : State) : Host.Outcome State Fault Refusal :=
  cmd (.schRejoin h p) { op := 0x0A01, len := some 4 } h s (fun s => schRejoin s h p)

/-- RESULT of a cluster's self-test: what its cores and its memory show, else 3 where its firmware is not of the bank that the management firmware runs from
(R323). -/
def State.clusterResult (s : State) (k result : Nat) : Nat :=
  if result == 0 && (s.cluster k).bank != s.fw.running then 3 else result

/-- CLUSTER_SELFTEST_DONE: IN_SERVICE and back in the admission set at once, or FAULTED with FS_64 (R323, R74, Table 11-2 rows 7 and 8). -/
def clusterTested (s : State) (k result : Nat) : State :=
  let mine := fun (w : Waiting) => w.what == .rejoin k
  let result := s.clusterResult k result
  if result == 0 then
    let s1 := (s.clusterTo k .inService 7).setMark k false
    (s1.evtFree s1.observers 0x012).finishAll mine stOk 0 (fun _ => zeros 4)
  else
    let s1 := (s.clusterTo k .faulted 8).fault 64 k 0xFF
    s1.finishAll mine stFaulted 64 (fun _ => le 1 result ++ zeros 3)

def execClusterSelftestDone (t cluster result : Nat) (s : State) : Host.Outcome State Fault Refusal :=
  event t s (fun s =>
    if cluster < 16 && s.fabricUp && (s.cluster cluster).state == .testing then clusterTested s cluster result else s)

/-- CLUSTER_DRAINED: the last item in flight has been released or aborted (Table 11-2 row 2). -/
def execClusterDrained (t cluster : Nat) (s : State) : Host.Outcome State Fault Refusal :=
  event t s (fun s =>
    if cluster < 16 && s.fabricUp && (s.cluster cluster).state == .draining && s.clusterBusy cluster == 0 then s.clusterTo cluster .drained 2
    else s)

/-! ## Cluster faults (R321, R335) -/

/-- Faults of a cluster within the latest 24 h. -/
def State.recentFaults (s : State) (k : Nat) : List Stamp :=
  (s.cluster k).faults.filter (fun f => decide (s.now < f + 86400000000000))

/-- The reaction to a cluster fault: FAULTED, or RETIRED at the third within 24 h; contracts and work move. A cluster that was retired in
service may still run items: they are restarted too (R335). -/
def State.clusterFaulted (s : State) (k : Nat) : State :=
  let old := (s.cluster k).state
  let fs := s.recentFaults k ++ [s.now]
  let s1 := s.modCluster k (fun c => { c with faults := fs })
  let third := decide (3 ≤ fs.length)
  let closes := old == .inService || old == .draining
  if old == .retired then s1.restartItems k
  else if !closes && !(old == .faulted && third) then s1
  else
    let s2 := if third then (s1.clusterTo k .retired 11).fault 67 k 0xFF else s1.clusterTo k .faulted 9
    if old == .inService then (s2.removeCluster k 6).1.restartItems k
    else if old == .draining then s2.restartItems k else s2

def execClusterFault (t cluster cause : Nat) (s : State) : Host.Outcome State Fault Refusal :=
  event t s (fun s =>
    if cluster < 16 && s.fabricUp && cause < 3 then (s.fault 64 cluster 0xFF).clusterFaulted cluster else s)

/-- CLUSTER_FAULT_AGEOUT: faults 24 h old no longer count (R335, SCH_CL_STATE_n). -/
def execClusterFaultAgeout (t cluster : Nat) (s : State) : Host.Outcome State Fault Refusal :=
  event t s (fun s =>
    if cluster < 16 then s.modCluster cluster (fun c => { c with faults := s.recentFaults cluster }) else s)

/-! ## Items on the lane cores (R324 to R333) -/

/-- The core that runs an item. -/
def State.coreOf (s : State) (stream fsn : Nat) : Option (Nat × Nat × CoreRun) :=
  allClusters.findSome? (fun k =>
    (s.cluster k).cores.findSome? (fun e =>
      if e.2.item.stream == stream && e.2.item.fsn == BitVec.ofNat 32 fsn then some (k, e.1, e.2) else none))

/-- Free a core: its busy span stays among those of the latest 100 ms (R338). -/
def State.freeCore (s : State) (k core : Nat) (r : CoreRun) : State :=
  s.modCluster k (fun c => { c with
    cores := tdel core c.cores
    busy := { core, start := r.start, stop := s.now } :: c.busy.filter (fun b => decide (s.now < b.stop + 100000000)) })

/-- Work measured for a cluster and, where the stream is a placed one, for the stream: the run in lane-ns at rated speed (R68). -/
def State.measureWork (s : State) (stream k : Nat) (r : CoreRun) : State :=
  let ratio := least ((tget (2 * k) s.tt.ratios).toList ++ (tget (2 * k + 1) s.tt.ratios).toList)
  let ns := (s.now - r.start) * ratio.getD 1000 / 1000
  let s1 : State := { s with hst := { s.hst with
    loads := { cluster := k, stream, at_ := s.now, ns } :: s.hst.loads.filter (fun w => decide (s.now < w.at_ + 1000000000)) } }
  match tget stream s.hst.placed with
  | none => s1
  | some p =>
    let keep := p.work.filter (fun q => decide (s.now < q.1 + 1000000000))
    { s1 with hst := { s1.hst with placed := tset stream { p with work := (s.now, ns) :: keep } s1.hst.placed } }

/-- A dispatched item that was cancelled stops at a yield point and writes nothing (R333). -/
def State.abortRun (s : State) (k core : Nat) (r : CoreRun) : State :=
  let s1 := (((s.freeCore k core r).measureWork r.item.stream k r).count .sch 2).trace 5 k core r.item
  ((s1.withdraw r.item.stream r.item.fsn).dispatch k).emitAll

/-- An item has run to its end: it waits at the gate and its core is free (R327). -/
def State.completeRun (s : State) (k core : Nat) (r : CoreRun) : State :=
  let s1 := ((s.freeCore k core r).measureWork r.item.stream k r).trace 2 k core r.item
  ((s1.modFlow r.item.stream (fun f => { f with gate := f.gate ++ [{ r.item with ranOn := some (k, core) }] })).dispatch k).emitAll

def execItemComplete (t stream fsn : Nat) (s : State) : Host.Outcome State Fault Refusal :=
  event t s (fun s =>
    match if s.fabricUp then s.coreOf stream fsn else none with
    | some (k, core, r) => if r.item.cancelled then s.abortRun k core r else s.completeRun k core r
    | none => s)

def execItemAbort (t stream fsn : Nat) (s : State) : Host.Outcome State Fault Refusal :=
  event t s (fun s =>
    match if s.fabricUp then s.coreOf stream fsn else none with
    | some (k, core, r) => if r.item.cancelled then s.abortRun k core r else s
    | none => s)

/-! ## Observation (R337, R338) -/

/-- A power of two between two bounds. -/
def powerBetween (lo hi v : Nat) : Bool := (List.range 64).any (fun i => v == 2 ^ i) && decide (lo ≤ v) && decide (v ≤ hi)

/-- A ring size, 0 for disabled. -/
def ringSizeOk (v : Nat) : Bool := v == 0 || powerBetween 65536 1073741824 v

/-- SCH_TRACE_SET (R337, Table 11-6). -/
def schTraceSet (s : State) (h : Pkt) (p : SchTraceSet) : CmdOut :=
  let on := p.ringSize != 0
  check s
    [ zeroIf (p.enable && p.kindMask == 0) 1, badIf (p.kindMask % 2 != 0 || 127 < p.kindMask) 1, badIf (64 < p.count) 2
    , badIf (!ringSizeOk p.ringSize) 4, if on then stagingOnly h p.ringAddr else none, badIf (on && p.ringAddr % 4096 != 0) 8
    , if on then stagingOnly h p.prodWbAddr else none, badIf (on && p.prodWbAddr % 8 != 0) 16
    , if p.count != 0 then stagingOnly h p.listAddr else none
    , badIf ((p.ids.take p.count).any (fun i => !s.holds h.part kindStream i)) 24 ]
    (fun _ => ok { s with sch := { s.sch with traces := tset h.part { set := { p with ids := p.ids.take p.count } } s.sch.traces } })

def execSchTraceSet (h : Pkt) (p : SchTraceSet) (s : State) : Host.Outcome State Fault Refusal :=
  cmd (.schTraceSet h p) { op := 0x0A03, len := some 32 } h s (fun s => schTraceSet s h p)

/-- The mean of a list, 0 of none. -/
def meanOf (l : List Nat) : Nat := if l.isEmpty then 0 else l.sum / l.length

/-- WAIT_MEAN_NS of one priority over the latest 100 ms. -/
def State.waitMean (s : State) (c : Cluster) (p : Nat) : Nat :=
  meanOf ((c.waits.filter (fun w => w.priority == p && decide (s.now < w.at_ + 100000000))).map (·.ns))

/-- CORE_BUSY of one core, in per mille of the latest 100 ms. -/
def State.coreBusy (s : State) (c : Cluster) (core : Nat) : Nat :=
  let lo := s.now - 100000000
  let past := (c.busy.filter (fun b => b.core == core)).map (fun b => b.stop - Nat.max b.start lo)
  let run := match tget core c.cores with
    | some r => s.now - Nat.max r.start lo
    | none => 0
  (past.sum + run) / 100000

/-- The entry of Table 11-5. -/
def State.obsEntry (s : State) (k : Nat) : List Byte :=
  let c := s.cluster k
  let four := List.range 4
  le 1 k ++ le 1 c.state.code ++ zeros 2 ++ four.flatMap (fun p => le 2 (c.list p).length)
  ++ four.flatMap (fun p => le 2 (tgetD p 0 c.maxDepth)) ++ four.flatMap (fun p => le 4 (Nat.min 0xFFFFFFFF (tgetD p 0 c.waitMax)))
  ++ four.flatMap (fun p => le 4 (s.waitMean c p)) ++ four.flatMap (fun i => le 2 (s.coreBusy c i)) ++ zeros 4

/-- SCH_OBS_READ (R338). -/
def schObsRead (s : State) (h : Pkt) (p : SchObsRead) : CmdOut :=
  check s [failIf (!s.observes h.part) stNotGranted 0xF1, badIf (15 < p.first) 0, badIf (16 < p.first + p.count) 1] (fun _ =>
    let ks := (List.range p.count).map (· + p.first)
    let clear := fun (s : State) => ks.foldl (fun s k => s.modCluster k (fun c => { c with maxDepth := [], waitMax := [] })) s
    ok (if p.clear then clear s else s) (ks.flatMap (fun k => s.obsEntry k)))

def execSchObsRead (h : Pkt) (p : SchObsRead) (s : State) : Host.Outcome State Fault Refusal :=
  cmd (.schObsRead h p) { op := 0x0A04, len := some 4, ro := !p.clear } h s (fun s => schObsRead s h p)

end Sys2Proof.Machine
end

