-- ==== Sys2Proof/Machine/Oscillation.lean ====
section
/-!
DEFINITION. The oscillation commands and the refresh of the modal engine (07_oscillation, 0x0600 to 0x0604).
-/
namespace Sys2Proof.Machine

/-! ## Sources (R203, R205, Tables 07-1 and 07-2) -/

/-- A source of a detector or a modal signal. -/
structure OscSource where
  src : Nat
  qty : Nat
  group : Nat
  id : Nat
  ch : Nat
  refCh : Nat
  refStream : Nat
  deriving DecidableEq, Repr

/-- Offsets of a source's parameters in its command: QTY, GROUP, SOURCE_ID, CH, REF_CH, REF_STREAM. -/
structure SourceOffsets where
  qty : Nat
  group : Nat
  id : Nat
  ch : Nat
  refCh : Nat
  refStream : Nat
  deriving DecidableEq, Repr

def qtyAllowed (src qty : Nat) : Bool :=
  if src == 0 then decide (qty ≤ 3) else if src == 1 then qty == 0 || qty == 1 || qty == 3 else qty == 3

/-- A channel of a contract bound to the group. -/
def State.boundTo (s : State) (stream group : Nat) : Bool := (s.carrierOf stream).any (fun e => e.2.groupMask.testBit group)

/-- The TYPE a quantity needs. -/
def State.qtyFits (s : State) (qty stream ch : Nat) : Bool :=
  if qty == 3 then !s.wrongType stream ch 1 || !s.wrongType stream ch 2 || !s.wrongType stream ch 3 else !s.wrongType stream ch 0

/-- The checks of a source, with the grants of R205 for a partition. -/
def State.sourceChecks (s : State) (h : Pkt) (x : OscSource) (o : SourceOffsets) : List (Option (Nat × Nat)) :=
  [ badIf (!qtyAllowed x.src x.qty) o.qty ] ++
  (if x.src == 0 then
    [ badIf (15 < x.group) o.group, badIf (16383 < x.id) o.id, s.needsRead h kindStream x.id
    , badIf (255 < x.ch || !s.boundTo x.id x.group || !s.qtyFits x.qty x.id x.ch) o.ch ]
    ++ (if x.qty == 2 then
        [ badIf (16383 < x.refStream) o.refStream, s.needsRead h kindStream x.refStream
        , badIf (255 < x.refCh || !s.boundTo x.refStream x.group || s.wrongType x.refStream x.refCh 0) o.refCh ]
      else [ badIf (x.refCh != 0) o.refCh, badIf (x.refStream != 0xFFFF) o.refStream ])
  else if x.src == 1 then
    [ badIf (255 < x.id) o.id, s.needs h kindUnit x.id, badIf (tget x.id s.wch.units).isNone o.id, badIf (7 < x.ch) o.ch
    , badIf (x.refCh != 0) o.refCh, badIf (x.refStream != 0xFFFF) o.refStream ]
  else
    [ badIf (63 < x.id || (tget x.id s.wch.taps).isNone) o.id
    , match tget x.id s.wch.taps with
      | some t => failIf (t.part != h.part) stNotGranted (grantDetail kindUnit t.unit)
      | none => none
    , badIf (x.ch != 0) o.ch, badIf (x.refCh != 0) o.refCh, badIf (x.refStream != 0xFFFF) o.refStream ])

/-- Range of a band in hundredths of Hz. -/
def bandRange (band : Nat) : Nat × Nat := if band == 0 then (1, 400) else if band == 1 then (400, 5000) else (5000, 100000)

/-- A band allows a source at a rate (Table 07-1). -/
def bandAllows (band src rate : Nat) : Bool :=
  if band == 2 then src == 2 else src == 1 || (src == 0 && decide ((if band == 0 then 30 else 120) ≤ rate))

/-- The band in which both edges lie; at 4 Hz or 50 Hz the lower one that allows the source. -/
def bandOf (lo hi : Frac) (src rate : Nat) : Option Nat :=
  [0, 1, 2].find? (fun b => bandAllows b src rate && fLe (frac (bandRange b).1 100) lo && fLe hi (frac (bandRange b).2 100))

/-! ## OSC_DET_SET and OSC_DET_READ -/

/-- The setting that a detector will have. -/
def Detector.coming (d : Detector) : OscDetSet := (d.next.getLast?.map (·.1)).getD d.set

/-- Detectors on SRC 1 and SRC 2, but for one. -/
def State.fastDets (s : State) (but : Nat) : Nat :=
  (s.osc.dets.filter (fun e => e.1 != but && (e.2.coming.src == 1 || e.2.coming.src == 2))).length

/-- DATA_DELAY_NS. -/
def State.detDelay (s : State) (p : OscDetSet) : Nat :=
  if p.src == 0 then 0
  else if p.src == 2 then 5500000
  else
    let g := geoOf { unit := 0, stream := 0, enable := false, undercoatEn := false, clear := false, fnom60 := false, cls := 0, phase := 0
                     outSel := 0, trackRef := 0, gapFill := 0, stepLevel := 0, trackMin := 0, timeCorrNs := 0 }
      (s.svRate (((tget p.sourceId s.wch.units).map (·.set.stream)).getD 0)) 50
    g.ns g.frontEnd + 4000000 + 500000

/-- A change of a detector waits for its first decision, behind those that wait already (R213). -/
def State.detQueue (s : State) (p : OscDetSet) (t : Stamp) : State :=
  let d : Detector := match tget p.det s.osc.dets with
    | some d => d
    | none => { set := { p with enable := false } }
  s.setDet p.det { d with next := d.next ++ [(p, t)] }

def posNum (v : BitVec 32) : Bool := !f32Nan v && extLt (frac 0) (extOf (f32Val v))

def oscDetSet (s : State) (h : Pkt) (p : OscDetSet) : CmdOut :=
  let n := p.det
  let t := s.doneAt h
  if p.src == 0xFF then
    check s [badIf (2047 < n) 0, s.needs h kindDetector n] (fun _ =>
      ok (if (tget n s.osc.dets).isSome then s.detQueue p t else s) (zeros 16))
  else
  let rate := s.srcRate p.src p.group p.sourceId
  let lo := f32Num p.fLow
  let hi := f32Num p.fHigh
  let edges := match lo, hi with
    | some a, some b => fLt (frac 0) a && fLt a b && fLe (fMul (frac 10) b) (frac (4 * rate))
    | _, _ => false
  let band := bandOf (lo.getD (frac 0)) (hi.getD (frac 0)) p.src rate
  let nw := detWindow p.winMs rate
  check s
    ([ badIf (2047 < n) 0, s.needs h kindDetector n, badIf (2 < p.src) 2 ]
     ++ s.sourceChecks h { src := p.src, qty := p.qty, group := p.group, id := p.sourceId, ch := p.ch, refCh := p.refCh, refStream := p.refStream }
          { qty := 3, group := 4, id := 8, ch := 10, refCh := 11, refStream := 12 }
     ++ [ badIf (15 < p.group || (p.src == 0 && rate < 30)) 4, zeroIf (p.order == 0) 5, badIf (8 < p.order || p.order % 2 == 1) 5
        , badIf (1000 < p.badPm) 14, badIf (!edges || band.isNone) 16
        , zeroIf (p.winMs == 0) 24, badIf (p.winMs < 100 || 600000 < p.winMs || nw < 8 || 65536 < nw) 24
        , badIf (!posNum p.level) 28, badIf (negOrNan p.hyst || !extLt (extOf (f32Val p.hyst)) (extOf (f32Val p.level))) 32
        , failIf ((p.src == 1 || p.src == 2) && 512 ≤ s.fastDets n) stNoResource 0 ])
    (fun _ => ok (s.detQueue p t)
      (le 1 (band.getD 0) ++ zeros 3 ++ le 4 nw ++ le 4 (detPrime p rate) ++ le 4 (s.detDelay p)))

def execOscDetSet (h : Pkt) (p : OscDetSet) (s : State) : Host.Outcome State Fault Refusal :=
  cmd (.oscDetSet h p) { op := 0x0600, len := some 40 } h s (fun s => oscDetSet s h p)

/-- The detectors 32g to 32g + 31 that a partition holds. -/
def State.ownDets (s : State) (part g : Nat) : List (Option Detector) :=
  (List.range 32).map (fun i => if s.holds part kindDetector (32 * g + i) then tget (32 * g + i) s.osc.dets else none)

/-- A mask from a list of bits, the first the lowest. -/
def maskOf (l : List Bool) : Nat := l.foldr (fun b a => 2 * a + b2n b) 0

def oscDetRead (s : State) (h : Pkt) (p : OscDetRead) : CmdOut :=
  check s [badIf (63 < p.group) 0] (fun _ =>
    let l := s.ownDets h.part p.group
    let s1 : State := if p.clear then
        { s with osc := { s.osc with dets := tmap (fun n d =>
            if n / 32 == p.group && s.holds h.part kindDetector n then { d with changed := false } else d) s.osc.dets } }
      else s
    ok s1 (le 4 (maskOf (l.map (fun d => d.any (·.asserted)))) ++ le 4 (maskOf (l.map (fun d => d.any (·.changed))))
      ++ (l.map (fun (d : Option Detector) => le 4 ((d.map (fun x => x.amp.toNat)).getD 0))).flatten
      ++ (l.map (fun (d : Option Detector) => le 8 (twos 64 ((d.map (·.stamp)).getD 0)))).flatten))

def execOscDetRead (h : Pkt) (p : OscDetRead) (s : State) : Host.Outcome State Fault Refusal :=
  cmd (.oscDetRead h p) { op := 0x0601, len := some 4, ro := !p.clear } h s (fun s => oscDetRead s h p)

/-! ## OSC_MODAL_SET and OSC_SIG_SET -/

/-- Some band is enabled. -/
def State.modalOn (s : State) : Bool := s.osc.bands.any (fun e => e.2.enable)

/-- A binary32 field within bounds. -/
def within (v : BitVec 32) (lo hi : Int) : Bool :=
  match f32Num v with
  | some x => fLe (frac lo) x && fLe x (frac hi)
  | none => false

def oscModalSet (s : State) (h : Pkt) (p0 : OscModalSet) : CmdOut :=
  let p := { p0 with persistR := if p0.persistR == 0 then 1 else p0.persistR }
  let others := s.osc.bands.filter (fun e => e.1 != p.band)
  check s
    [ badIf (2 < p.band) 0, s.needs h kindModal 0, zeroIf (p.tbSel == 0) 2, badIf (3 < p.tbSel) 2, zeroIf (p.winS == 0) 3
    , badIf (p.winS < 10 || 60 < p.winS) 3, zeroIf (p.enable && p.modes == 0) 4, badIf (32 < p.modes) 4, badIf (300 < p.persistR) 6, badIf (5000 < p.lagMs) 8
    , badIf (!within p.zetaMin (-1) 1) 12, badIf (negOrNan p.zetaHyst) 16, badIf (!within p.confMin 0 1) 20, badIf (!within p.eMin 0 1) 24
    , failIf (s.modalOn && s.osc.bands.any (fun e => e.2.tbSel != p.tbSel)) stWrongState 0
    , failIf (decide (32 < (others.map (·.2.modes)).sum + p.modes)) stNoResource 0 ]
    (fun _ =>
      let bands := tset p.band p (tmap (fun _ b => { b with tbSel := p.tbSel }) s.osc.bands)
      let modes := tmap (fun _ m => if m.cand.band == p.band then { m with low := 0, recovered := 0 } else m) s.osc.modes
      ok { s with osc := { s.osc with bands, modes, seq := if p.enable && !s.modalOn then 0 else s.osc.seq } })

def execOscModalSet (h : Pkt) (p : OscModalSet) (s : State) : Host.Outcome State Fault Refusal :=
  cmd (.oscModalSet h p) { op := 0x0602, len := some 32 } h s (fun s => oscModalSet s h p)

/-- OSC_SIG_SET. A signal that would be the 65th of band H is refused with BAD_PARAM at BAND (DESIGN CHOICE: R214 gives the limit and no status; log entry
174). -/
def oscSigSet (s : State) (h : Pkt) (p : OscSigSet) : CmdOut :=
  if p.band == 0xFF then
    check s [badIf (511 < p.sig) 0, s.needs h kindModal 0] (fun _ => ok { s with osc := { s.osc with sigs := tdel p.sig s.osc.sigs } })
  else
  let rate := s.srcRate p.src p.group p.sourceId
  check s
    ([ badIf (511 < p.sig) 0, s.needs h kindModal 0, badIf (2 < p.band) 2, badIf (2 < p.src || !bandAllows p.band p.src rate) 3
     , badIf (p.band == 2 && decide (64 ≤ (s.osc.sigs.filter (fun e => e.1 != p.sig && e.2.set.band == 2)).length)) 2 ]
     ++ s.sourceChecks h { src := p.src, qty := p.qty, group := p.group, id := p.sourceId, ch := p.ch, refCh := p.refCh, refStream := p.refStream }
          { qty := 4, group := 5, id := 6, ch := 8, refCh := 9, refStream := 10 })
    (fun _ => ok { s with osc := { s.osc with sigs := tset p.sig { set := p, wasIn := ((tget p.sig s.osc.sigs).map (·.wasIn)).getD false } s.osc.sigs } })

def execOscSigSet (h : Pkt) (p : OscSigSet) (s : State) : Host.Outcome State Fault Refusal :=
  cmd (.oscSigSet h p) { op := 0x0603, len := some 16 } h s (fun s => oscSigSet s h p)

/-! ## OSC_MODE_READ (R223) -/

/-- Table 07-7. -/
def shapeBytes (e : ShapeEntry) : List Byte :=
  le 4 (if e.excluded then 0 else e.ampl.toNat) ++ le 2 (twos 16 e.phase) ++ le 2 (e.sig % 512 + 32768 * b2n e.excluded)

/-- Consecutive verdicts towards the next change of alarm state. -/
def Mode.count (m : Mode) : Nat := if m.alarm then m.recovered else m.low

/-- Table 07-6. -/
def modeBytes (slot : Nat) (m : Mode) : List Byte :=
  le 1 slot ++ le 1 m.cand.band
    ++ le 2 (b2n m.stale + 2 * b2n m.alarm + 4 * b2n m.isNew + 8 * b2n m.cand.lowFreq + 16 * b2n m.pair.isSome)
    ++ le 2 m.id ++ le 2 (m.pair.getD 0) ++ le 4 m.cand.freq.toNat ++ le 4 m.cand.damping.toNat ++ le 4 m.cand.energy.toNat
    ++ le 4 m.cand.confidence.toNat ++ le 4 m.fm.toNat ++ le 2 m.cand.shape.length ++ le 2 m.refSig ++ le 8 (twos 64 m.firstSeen)
    ++ le 8 (twos 64 m.winEnd) ++ le 1 m.missed ++ le 1 (Nat.min m.count 255) ++ zeros 14

/-- The latest refresh. -/
def OscSt.image (o : OscSt) : List Byte :=
  let shapes := (o.modes.flatMap (fun e => e.2.cand.shape)).flatMap shapeBytes
  le 8 (twos 64 o.refresh) ++ le 8 o.seq ++ le 1 o.bandsDone ++ le 1 o.modes.length ++ zeros 2 ++ le 4 shapes.length ++ zeros 8
    ++ o.modes.flatMap (fun e => modeBytes e.1 e.2) ++ shapes

def oscModeRead (s : State) (h : Pkt) (p : BufRead) : CmdOut :=
  check s [ s.needsRead h kindModal 0, if p.bufLen == 0 then none else stagingOnly h p.bufAddr ]
    (fun _ => copyOut s p.bufAddr p.bufLen s.osc.image (le 4 s.osc.image.length ++ zeros 4 ++ le 8 s.osc.seq))

def execOscModeRead (h : Pkt) (p : BufRead) (s : State) : Host.Outcome State Fault Refusal :=
  cmd (.oscModeRead h p) { op := 0x0604, len := some 16, ro := true } h s (fun s => oscModeRead s h p)

/-! ## The refresh (R216 to R222) -/

/-- Band rate and resampler delay in ns (Table 07-3). -/
def bandRate (band : Nat) : Nat := if band == 0 then 10 else if band == 1 then 120 else 2400
def resamplerNs (band : Nat) : Nat := if band == 0 then 400000000 else if band == 1 then 40000000 else 5000000

/-- LAG of a band in ns. -/
def State.lagNs (s : State) (p : OscModalSet) : Nat :=
  if p.lagMs != 0 then 1000000 * p.lagMs
  else
    let of_ := fun (x : OscSigSet) =>
      if x.src == 0 then 1000 * (((s.group x.group).map (·.set.waitUs)).getD 0) + 1000000
      else if x.src == 1 then
        s.detDelay { det := 0, src := 1, qty := 0, group := 0, order := 2, enable := true, sourceId := x.sourceId, ch := 0, refCh := 0, refStream := 0
                     badPm := 0, fLow := 0, fHigh := 0, winMs := 0, level := 0, hyst := 0, persist := 0 } - 500000 + 50000000
      else 55000000
    ((s.osc.sigs.filter (fun e => e.2.set.band == p.band)).map (fun e => of_ e.2.set)).foldl Nat.max 0 + resamplerNs p.band + 10000000

/-! ### Resampling (R215, R218) -/

/-- The source samples on which the resampled instant `t` in ns depends: those within the resampler's delay on either side. -/
def resamplerSpan (rate band : Nat) (t : Int) : List Int :=
  let d : Int := (resamplerNs band : Nat)
  let lo := -((-((t - d) * (rate : Int))) / 1000000000)
  let hi := (t + d) * (rate : Int) / 1000000000
  (List.range (hi - lo + 1).toNat).map (fun i => lo + (i : Int))

/-- The filter of a band's resampler at the instant `t`, over the source samples of its span: of linear phase, so a tap is fixed by the distance of its sample
from the instant, and its delay is compensated (R215). -/
def resample (band rate : Nat) (t : Int) (l : List (Int × Frac)) : Frac :=
  let sum := l.foldl (fun a e => fReduce (fAdd a (fMul (frac (Config.resampleTap band rate (sampleNs e.1 rate - t).natAbs)) e.2))) (frac 0)
  fReduce (fMul sum (frac 1 18446744073709551616))

/-- A resampled sample: none where a source sample that it depends on is unusable or has not come by stamp `by_`. -/
def ModalSig.resampled (g : ModalSig) (rate band : Nat) (by_ : Int) (t : Int) : Option Frac :=
  let xs := (resamplerSpan rate band t).map (fun k => (g.hist.find? (fun x => x.time == k && decide ((x.at_ : Int) ≤ by_))).bind (fun x => x.v.map (fun v => (k, v))))
  if xs.isEmpty || xs.any (·.isNone) then none
  else some (resample band rate t (xs.filterMap id))

/-- The window of a signal to E: its resampled samples, oldest first. `offset` is what is added to the times of its source samples. -/
def ModalSig.window (g : ModalSig) (rate band winS : Nat) (offset by_ : Int) (e : Int) : List (Option Frac) :=
  let r := bandRate band
  let last := e * (r : Int) / 1000000000
  (List.range (winS * r)).map (fun i => g.resampled rate band by_ (sampleNs (last - ((winS * r - 1 - i : Nat) : Int)) r - offset))

/-- The longest run that is filled: 1 s in band L, 0.1 s in band M, 0.01 s in band H. -/
def fillRun (band : Nat) : Nat := if band == 0 then 10 else if band == 1 then 12 else 24

/-- Fill runs of unusable samples no longer than `limit` by linear interpolation between the samples about them. `before` is the sample before the run and `run`
its length so far. A run that is not filled keeps the sample before it, or 0 at the start of the window: no rule gives it a value. -/
def fillRuns (limit : Nat) : Option Frac → Nat → List (Option Frac) → List Frac
  | b, run, [] => List.replicate run (b.getD (frac 0))
  | b, run, none :: l => fillRuns limit b (run + 1) l
  | b, run, some x :: l =>
    let mid := match b with
      | some y =>
        if limit < run then List.replicate run y
        else (List.range run).map (fun i => fReduce (fAdd y (fMul (frac (i + 1 : Nat) (run + 1)) (fSub x y))))
      | none => List.replicate run (frac 0)
    mid ++ x :: fillRuns limit (some x) 0 l

/-- A window with its mean removed. -/
def centred (l : List Frac) : List Frac :=
  let mean := fReduce (fDiv (fSum l) (frac (Nat.max l.length 1)))
  l.map (fun x => fReduce (fSub x mean))

/-- The standard deviation of a window, in binary64. -/
def deviation (l : List Frac) : Frac :=
  f64D (sqrt64 (fReduce (fDiv (fSum ((centred l).map (fun x => fMul x x))) (frac (Nat.max l.length 1)))))

/-- A window with its mean removed and scaled to unit variance, in binary64 (R219); all zeros where it has no variance. -/
def normalised (l : List Frac) : List Frac :=
  let sd := deviation l
  if fIsZero sd then l.map (fun _ => frac 0) else (centred l).map (fun x => f64D (f64Of (fDiv x sd)))

/-- The stamp of TB_0 at which the base of a band reads E; the present one where the base has no reading. -/
def State.stampOf (s : State) (p : OscModalSet) (e : Int) : Int :=
  match s.reading p.tbSel with
  | some now => (s.now : Int) - (now - e)
  | none => (s.now : Int)

/-- The window of a signal at a refresh, of the source samples that are present by E (R218). -/
def State.sigWindow (s : State) (p : OscModalSet) (g : ModalSig) (e : Int) : List (Option Frac) :=
  let x := g.set
  g.window (s.srcRate x.src x.group x.sourceId) p.band p.winS (s.srcOffset x.src x.sourceId) (s.stampOf p e) e

/-- A signal is excluded from the refresh: more than 10 % of its window is unusable, counted before filling (R218). -/
def State.sigExcluded (s : State) (p : OscModalSet) (g : ModalSig) (e : Int) : Bool :=
  let rate := s.srcRate g.set.src g.set.group g.set.sourceId
  rate == 0 || decide (p.winS * bandRate p.band < 10 * ((s.sigWindow p g e).filter (·.isNone)).length)

/-- A modal event (R226): the identity in bits [15:0], the band in bits [17:16], with bit 16 set for a clear by retirement (R221). -/
def State.modalEvent (s : State) (src id band : Nat) (byRetire : Bool := false) : State :=
  s.evt s.modalReaders src (id + 65536 * (if byRetire then band ||| 1 else band))

/-- A modal event that names no mode: its MODE_ID field is a free value (R226). -/
def State.modalFree (s : State) (src band : Nat) : State :=
  let f := s.free
  f.2.modalEvent src (f.1 % 65536) band

/-- Judge the signals of a band at E. -/
def State.sigsJudge (s : State) (p : OscModalSet) (e : Int) : State :=
  (s.osc.sigs.filter (fun x => x.2.set.band == p.band)).foldl (fun s x =>
    let out := s.sigExcluded p x.2 e
    let s1 : State := { s with osc := { s.osc with sigs := tset x.1 { x.2 with excluded := out, wasIn := !out } s.osc.sigs } }
    if out && x.2.wasIn then s1.modalEvent 0x145 x.1 p.band else s1)
    { s with osc := { s.osc with excludedAny := s.osc.excludedAny
                                   || s.osc.sigs.any (fun x => x.2.set.band == p.band && s.sigExcluded p x.2 e) } }

/-- Included signals of a band. -/
def State.included (s : State) (band : Nat) : List Nat := (s.osc.sigs.filter (fun e => e.2.set.band == band && !e.2.excluded)).map (·.1)

/-- The reference signal: the included signal of lowest index with at least 10 % of the largest amplitude. -/
def refSignal (l : List ShapeEntry) : Nat :=
  let inc := l.filter (fun x => !x.excluded)
  let top := inc.foldl (fun a x => if fLt a (f32D x.ampl) then f32D x.ampl else a) (frac 0)
  ((inc.find? (fun x => fLe top (fMul (frac 10) (f32D x.ampl)))).map (·.sig)).getD 0

/-! ### Identification (R219) -/

/-- The model orders 8, 12 and so on to 64. -/
def ssiOrders : List Nat := (List.range 15).map (fun i => 8 + 4 * i)

/-- Two poles are the same within 1 % of frequency and 0.02 of damping ratio. -/
def poleNear (a b : Frac × Frac) : Bool :=
  fLe (fAbs (fSub a.1 b.1)) (fMul (frac 1 100) (fAbs b.1)) && fLe (fAbs (fSub a.2 b.2)) (frac 2 100)

/-- The orders at which a pole of the highest order appears. -/
def poleOrders (band blocks : Nat) (ws : List (List Frac)) (x : Frac × Frac) : Nat :=
  (ssiOrders.filter (fun o => (Config.ssiPoles band blocks ws o).any (fun y => poleNear y x))).length

/-- Phase relative to the reference, in hundredths of a degree in (−18,000, 18,000]. -/
def phaseFrom (a ref : Int) : Int := 18000 - (18000 - (a - ref)) % 36000

/-- CONFIDENCE of a candidate and LOW_FREQ (Table 07-4); σ is given in 10^-9. -/
def confidenceOf (orders sigma winS : Nat) (freq : Frac) : BitVec 32 × Bool :=
  let c := fMul (frac orders 15) (fDiv (frac 1) (fAdd (frac 1) (frac sigma 10000000)))
  let low := fLt (fMul freq (frac winS)) (frac 2)
  (f32Of (if low && fLt (frac 1 4) c then frac 1 4 else c), low)

/-- A damping ratio: held to −1 to +1 (Table 07-4). -/
def dampingShare (v : Frac) : Frac := if fLe (frac 1) v then frac 1 else if fLe v (frac (-1)) then frac (-1) else v

/-- A binary32 share of a whole: held to 0 to 1. -/
def unitShare (v : BitVec 32) : BitVec 32 :=
  let x := extOf (f32Val v)
  if extLe (frac 1) x then f32Of (frac 1) else if extLe (frac 0) x then v else 0

/-- A candidate with the quantities of Table 07-4: a shape entry for every signal of the band, `inc` holding the included ones in window order and `sds` the
scales that were taken off their windows, which their amplitudes have again. -/
def candidate (band blocks winS : Nat) (sigs : Table ModalSig) (inc : List Nat) (sds : List Frac) (ws : List (List Frac)) (x : Frac × Frac) : ModalCand :=
  let n := poleOrders band blocks ws x
  let conf := confidenceOf n (Config.ssiSigma band blocks ws x) winS x.1
  let raw : List ShapeEntry := sigs.map (fun e =>
    match inc.findIdx? (· == e.1) with
    | some i => { sig := e.1, ampl := f32Of (fMul (f32D (Config.ssiAmpl band blocks ws x i)) ((sds[i]?).getD (frac 1))), phase := Config.ssiPhase band blocks ws x i, excluded := false }
    | none => { sig := e.1, ampl := 0, phase := 0, excluded := true })
  let r := refSignal raw
  let at_ := ((raw.find? (fun y => y.sig == r)).map (·.phase)).getD 0
  { band, freq := f32Of x.1, damping := f32Of (dampingShare x.2), energy := unitShare (Config.ssiEnergy band blocks ws x), confidence := conf.1, lowFreq := conf.2
    shape := raw.map (fun y => if y.excluded then y else { y with phase := phaseFrom y.phase at_ }) }

/-- The candidates of a band at E: the poles of the highest order that appear at five or more orders, in the band's range. -/
def State.identify (s : State) (p : OscModalSet) (blocks : Nat) (e : Int) : List ModalCand :=
  let sigs := s.osc.sigs.filter (fun x => x.2.set.band == p.band)
  let inc := sigs.filter (fun x => !x.2.excluded)
  let raw := inc.map (fun x => fillRuns (fillRun p.band) none 0 (s.sigWindow p x.2 e))
  let ws := raw.map normalised
  let range := bandRange p.band
  ((Config.ssiPoles p.band blocks ws 64).filter (fun x =>
    decide (5 ≤ poleOrders p.band blocks ws x) && fLe (frac range.1 100) x.1 && fLe x.1 (frac range.2 100))).map
      (candidate p.band blocks p.winS sigs (inc.map (·.1)) (raw.map deviation) ws)

/-- The modal assurance criterion of two shapes over the signals included in both; none where it has no value. -/
def mac (a b : List ShapeEntry) : Option Frac :=
  let both := a.filterMap (fun x => if x.excluded then none else (b.find? (fun y => y.sig == x.sig && !y.excluded)).map (fun y => (x, y)))
  let turn := fun (e : ShapeEntry × ShapeEntry) => frac (e.2.phase - e.1.phase) 36000
  let amp := fun (e : ShapeEntry × ShapeEntry) => fMul (f32D e.1.ampl) (f32D e.2.ampl)
  let re := fSum (both.map (fun e => fMul (amp e) (cosOf (turn e))))
  let im := fSum (both.map (fun e => fMul (amp e) (sinOf (turn e))))
  let sq := fun (l : List ShapeEntry) => fSum (l.map (fun x => fMul (f32D x.ampl) (f32D x.ampl)))
  let d := fMul (sq (both.map (·.1))) (sq (both.map (·.2)))
  if fIsZero d then none else some (fReduce (fDiv (fAdd (fMul re re) (fMul im im)) d))

/-- A possible match: candidate's place, slot, MAC and the candidate's frequency. -/
structure Match where
  cand : Nat
  slot : Nat
  mac : Frac
  freq : Frac
  deriving DecidableEq, Repr

/-- |f_c − f_m| within the bound of R220. -/
def freqNear (band : Nat) (fc fm : Frac) : Bool :=
  let d := fAbs (fSub fc fm)
  if band == 2 then fLe d (frac 1) || fLe d (fMul (frac 2 100) (fAbs fm)) else fLe d (frac 2 100) || fLe d (fMul (frac 5 100) (fAbs fm))

def matchBefore (a b : Match) : Bool :=
  if fLt b.mac a.mac then true
  else if fLt a.mac b.mac then false
  else if fLt a.freq b.freq then true
  else if fLt b.freq a.freq then false
  else decide (a.slot < b.slot)

/-- All matches of R220, in their order. -/
def matchesOf (band : Nat) (modes : Table Mode) (cands : List ModalCand) : List Match :=
  sortBy matchBefore ((List.range cands.length).zip cands |>.flatMap (fun c =>
    modes.filterMap (fun m =>
      if m.2.cand.band == band && freqNear band (f32D c.2.freq) (f32D m.2.cand.freq) then
        match mac c.2.shape m.2.cand.shape with
        | some v => if fLe (frac 8 10) v then some { cand := c.1, slot := m.1, mac := v, freq := f32D c.2.freq } else none
        | none => none
      else none)))

/-- Each candidate and each mode matches at most once. -/
def assignMatches : List Match → List Match → List Match
  | [], acc => acc
  | x :: r, acc => if acc.any (fun y => y.cand == x.cand || y.slot == x.slot) then assignMatches r acc else assignMatches r (x :: acc)

/-- The verdict on a matched mode and what follows (R221). -/
def State.modeVerdict (s : State) (p : OscModalSet) (slot : Nat) (m : Mode) : State :=
  let put := fun (s : State) (m : Mode) => { s with osc := { s.osc with modes := tset slot m s.osc.modes } }
  let sure := fLe (f32D p.confMin) (f32D m.cand.confidence) && fLe (f32D p.eMin) (f32D m.cand.energy)
  if !sure then put s { m with low := 0, recovered := 0 }
  else
    let z := f32D m.cand.damping
    let low := if fLt z (f32D p.zetaMin) then m.low + 1 else 0
    let rec_ := if fLe (fAdd (f32D p.zetaMin) (f32D p.zetaHyst)) z then m.recovered + 1 else 0
    let m1 : Mode := { m with low, recovered := rec_ }
    if !m.alarm && p.persistR ≤ low then (put s { m1 with alarm := true, low := 0, recovered := 0 }).modalEvent 0x141 m.id p.band
    else if m.alarm && p.persistR ≤ rec_ then (put s { m1 with alarm := false, low := 0, recovered := 0 }).modalEvent 0x142 m.id p.band
    else put s m1

/-- A mode leaves its slot; the mode it was paired with is no longer paired. -/
def State.modeRetire (s : State) (slot : Nat) (m : Mode) : State :=
  let left := tmap (fun _ x => if x.pair == some m.id then { x with pair := none, fm := 0 } else x) (tdel slot s.osc.modes)
  let s1 : State := { s with osc := { s.osc with modes := left } }
  let s2 := s1.modalEvent 0x144 m.id m.cand.band
  if m.alarm then s2.modalEvent 0x142 m.id m.cand.band true else s2

/-- An unmatched mode: stale, and retired after five in a row. -/
def State.modeMissed (s : State) (slot : Nat) (m : Mode) : State :=
  if 4 ≤ m.missed then s.modeRetire slot m
  else { s with osc := { s.osc with modes := tset slot { m with stale := true, isNew := false, missed := m.missed + 1, low := 0, recovered := 0 } s.osc.modes } }

/-- The next MODE_ID: counting on from the last, skipping 0 and those in use. -/
def freeModeId (inUse : List Nat) : Nat → Nat → Nat
  | 0, n => n
  | f + 1, n => if n == 0 || 65535 < n then freeModeId inUse f 1 else if inUse.contains n then freeModeId inUse f (n + 1) else n

/-- The stale mode of a band that a new candidate displaces. -/
def State.displaced (s : State) (band : Nat) : Option (Nat × Mode) :=
  (s.osc.modes.filter (fun e => e.2.cand.band == band && e.2.stale)).foldl (fun a e =>
    match a with
    | none => some e
    | some b =>
      if b.2.missed < e.2.missed || (b.2.missed == e.2.missed && fLt (f32D e.2.cand.energy) (f32D b.2.cand.energy)) then some e else a) none

/-- A new mode takes the lowest free slot. Its birth gives no verdict: only a matched mode has one (R221). -/
def State.modeBorn (s : State) (p : OscModalSet) (r e : Int) (c : ModalCand) : State :=
  match (List.range 32).find? (fun i => (tget i s.osc.modes).isNone) with
  | none => s
  | some slot =>
    let id := freeModeId (s.osc.modes.map (·.2.id)) 65600 s.osc.nextId
    let m : Mode := { id, cand := c, refSig := refSignal c.shape, stale := false, isNew := true, alarm := false, pair := none, fm := 0
                      firstSeen := r, winEnd := e, missed := 0, low := 0, recovered := 0 }
    let s2 : State := { s with osc := { s.osc with nextId := id % 65535 + 1 } }
    ((({ s2 with osc := { s2.osc with modes := tset slot m s2.osc.modes } } : State)).count .osc 5).modalEvent 0x143 id p.band

/-- An unmatched candidate becomes a mode, if there is a slot for it. -/
def State.modeBirth (s : State) (p : OscModalSet) (r e : Int) (c : ModalCand) : State :=
  if (s.osc.modes.filter (fun x => x.2.cand.band == p.band)).length < p.modes then s.modeBorn p r e c
  else match s.displaced p.band with
    | some x => (s.modeRetire x.1 x.2).modeBorn p r e c
    | none => s

/-- ENERGY, highest first; at equal energy the lower frequency. -/
def energyBefore (a b : ModalCand) : Bool :=
  fLt (f32D b.energy) (f32D a.energy) || (!fLt (f32D a.energy) (f32D b.energy) && fLt (f32D a.freq) (f32D b.freq))

/-- A mode with its match among the candidates, or missed (R219). -/
def State.modeJudge (s : State) (p : OscModalSet) (e : Int) (ms : List Match) (cs : List ModalCand) (slot : Nat) (m : Mode) : State :=
  match (ms.find? (fun x => x.slot == slot)).map (fun x => cs[x.cand]?) with
  | some (some c) =>
    s.modeVerdict p slot { m with cand := c, refSig := refSignal c.shape, stale := false, isNew := false, missed := 0, winEnd := e }
  | some none => s
  | none => s.modeMissed slot m

/-- The candidates that a band takes, matched with its modes: the MODES candidates of highest ENERGY (R219, R220). -/
def State.bandModes (s1 : State) (p : OscModalSet) (r e : Int) (cands : List ModalCand) : State :=
  let cs := (sortBy energyBefore cands).take p.modes
  let modes := s1.osc.modes.filter (fun x => x.2.cand.band == p.band)
  let ms := assignMatches (matchesOf p.band modes cs) []
  let s2 := modes.foldl (fun s x => s.modeJudge p e ms cs x.1 x.2) s1
  ((List.range cs.length).zip cs).foldl (fun s c => if ms.any (fun m => m.cand == c.1) then s else s.modeBirth p r e c.2) s2

/-- A band's refresh: its signals judged at E, its modes identified where two or more are included (R216, R218). -/
def State.bandRefresh (s : State) (p : OscModalSet) (r : Int) (blocks : Nat) : State :=
  let e := r - (s.lagNs p : Int)
  let s1 := s.sigsJudge p e
  let done := decide (2 ≤ (s1.included p.band).length)
  let s3 := s1.bandModes p r e (if done then s1.identify p blocks e else [])
  if done then { s3 with osc := { s3.osc with bandsDone := s3.osc.bandsDone + 2 ^ p.band } } else s3

/-- A possible pair of band H: slots, deviation and the lower frequency. -/
structure PairCand where
  a : Nat
  b : Nat
  dev : Frac
  low : Frac
  deriving DecidableEq, Repr

def pairBefore (x y : PairCand) : Bool := fLt x.dev y.dev || (!fLt y.dev x.dev && fLt x.low y.low)

def assignPairs : List PairCand → List PairCand → List PairCand
  | [], acc => acc.reverse
  | x :: r, acc => if acc.any (fun y => y.a == x.a || y.a == x.b || y.b == x.a || y.b == x.b) then assignPairs r acc else assignPairs r (x :: acc)

/-- The tracked frequency that R222 uses, in µHz. -/
def State.pairFreq (s : State) : Option Nat :=
  match s.included 2 with
  | [] => none
  | i :: _ => (tget i s.osc.sigs).bind (fun g => (tget g.set.sourceId s.wch.taps).bind (fun t => (tget t.unit s.wch.units).map (·.fTrack)))

/-- One pair of modes, named in both; INTERACTION where it is new (R222). -/
def State.pairOne (s : State) (was : Table Mode) (x : PairCand) : State :=
  match tget x.a was, tget x.b was with
  | some a, some b =>
    let fm := f32Of (fDiv (fAdd (f32D a.cand.freq) (f32D b.cand.freq)) (frac 2))
    let modes := tset x.b { b with pair := some a.id, fm } (tset x.a { a with pair := some b.id, fm } s.osc.modes)
    let s3 : State := { s with osc := { s.osc with modes } }
    if a.pair == some b.id then s3 else s3.modalEvent 0x147 a.id 2
  | _, _ => s

/-- Pair the modes of band H (R222). -/
def State.pairModes (s : State) (p : OscModalSet) : State :=
  match s.pairFreq with
  | none => s
  | some ft =>
    let hs := s.osc.modes.filter (fun e => e.2.cand.band == 2 && fLe (f32D p.confMin) (f32D e.2.cand.confidence))
    let all := hs.flatMap (fun a => hs.filterMap (fun b =>
      let fa := f32D a.2.cand.freq
      let fb := f32D b.2.cand.freq
      let dev := fAbs (fSub (fSub fb fa) (frac (2 * ft) 1000000))
      if fLt fa fb && fLe dev (frac 1 2) && fLe (fAbs (fSub (f32D a.2.cand.damping) (f32D b.2.cand.damping))) (frac 1 100) then
        some { a := a.1, b := b.1, dev, low := fa : PairCand } else none))
    let ps := assignPairs (sortBy pairBefore all) []
    let s1 : State := { s with osc := { s.osc with modes := tmap (fun _ m => if m.cand.band == 2 then { m with pair := none, fm := 0 } else m) s.osc.modes } }
    ps.foldl (fun t x => t.pairOne s.osc.modes x) s1

/-- MODAL_REFRESH: every enabled band at the latest multiple of 200 ms of the engine's base, once. -/
def State.modalRefresh (s : State) (blocks : Nat) : State :=
  let on := s.osc.bands.filter (fun e => e.2.enable)
  match on with
  | [] => s
  | e :: _ =>
    match s.reading e.2.tbSel with
    | none => s
    | some now =>
      let r := now / 200000000 * 200000000
      if s.osc.seq != 0 && s.osc.refresh == r then s
      else
      let s0 : State := { s with osc := { s.osc with bandsDone := 0, excludedAny := false, sigs := tmap (fun _ g => { g with excluded := false }) s.osc.sigs } }
      let s1 := s.osc.bands.foldl (fun s b => if b.2.enable then s.bandRefresh b.2 r blocks
        else (s.osc.modes.filter (fun x => x.2.cand.band == b.1)).foldl (fun s x => s.modeMissed x.1 x.2) s) s0
      let s2 := match tget 2 s.osc.bands with
        | some p => if p.enable && s1.osc.bandsDone.testBit 2 then s1.pairModes p else s1
        | none => s1
      let s3 := ({ s2 with osc := { s2.osc with refresh := r, seq := s2.osc.seq + 1 } }).count .osc 3
      on.foldl (fun s b => if b.2.refreshEvent then s.modalFree 0x140 b.2.band else s) s3

def execModalRefresh (t blocks : Nat) (s : State) : Host.Outcome State Fault Refusal :=
  event t s (fun s => if s.fabricUp then s.modalRefresh blocks else s)

/-- The refresh is discarded (R217). -/
def State.modalDiscard (s : State) : State :=
  if !s.modalOn then s
  else
    let modes := tmap (fun _ m => { m with stale := true, low := 0, recovered := 0 }) s.osc.modes
    let s1 := ({ s with osc := { s.osc with modes, overrunSeen := true } }).count .osc 4
    -- the discarded refresh is that of every enabled band; which of them the detail names is open
    let on := s1.osc.bands.filter (fun e => e.2.enable)
    let f := s1.free
    f.2.modalFree 0x146 (((on[f.1 % Nat.max on.length 1]?).map (·.2.band)).getD 0)

/-- MODAL_OVERRUN (R217, R227): the refresh is discarded under a fault of the engine. -/
def State.modalOverrun (s : State) : State :=
  let s2 := s.modalDiscard
  s2.free.2.fault 51 s2.free.1 (s2.holder kindModal 0)

def execModalOverrun (t : Nat) (s : State) : Host.Outcome State Fault Refusal := event t s (fun s => if s.fabricUp then s.modalOverrun else s)

/-- A detector under a fault releases, with the stamp of its group's base, and primes (R227). An error in its state or a mismatch of its arithmetic is the same to
it. -/
def State.detRestart (s : State) (n : Nat) : State :=
  match tget n s.osc.dets with
  | none => s
  | some d =>
    let tb := ((s.group d.set.group).map (·.set.tbSel)).getD 0
    if d.asserted then s.detTo n d.reset false ((s.reading tb).getD d.stamp) false else s.setDet n d.reset

/-- A detector fault (R227): it releases, primes, and reports its source. -/
def State.detFault (s : State) (n detail : Nat) : State :=
  if (tget n s.osc.dets).isNone then s else (s.detRestart n).faultPair 49 50 detail (s.holder kindDetector n)

end Sys2Proof.Machine
end

