-- ==== Sys2Proof/Machine/Coherency.lean ====
section
/-!
DEFINITION. The coherency commands and the overdue evaluation (08_coherency, 0x0700 to 0x0703).
-/
namespace Sys2Proof.Machine

/-! ## COH_SET and COH_BUS_SET -/

/-- The setting that the engine will have. -/
def CohSt.coming (c : CohSt) : Option CohSet := (c.next.getLast?.map (·.1)).or c.set

/-- Buses set, with the changes that wait. -/
def CohSt.busesSet (c : CohSt) : Nat :=
  (setBuses c.nextBuses c.buses).length

def cohSetCmd (s : State) (h : Pkt) (p0 : CohSet) : CmdOut :=
  let p := { p0 with winMs := if p0.winMs == 0 then 500 else p0.winMs }
  let rate := ((s.group p.group).map (·.set.rate)).getD 0
  let nw := cohWindow p.winMs rate
  check s
    [ s.needs h kindCoherency 0, badIf (15 < p.group || (s.group p.group).isNone) 1, zeroIf (p.minBuses == 0) 2, badIf (p.minBuses < 2 || 4096 < p.minBuses) 2
    , badIf (p.winMs < 100 || 2000 < p.winMs || nw < 2 || 480 < nw) 4
    , badIf (!posNum p.fCoh) 12, badIf (!posNum p.aCoh) 16, badIf (!posNum p.fSep) 20
    , badIf (negOrNan p.fHyst || !extLt (extOf (f32Val p.fHyst)) (extOf (f32Val p.fSep))) 24, badIf (negOrNan p.angGrow) 28 ]
    (fun _ => ok { s with coh := { s.coh with next := s.coh.next ++ [(p, s.doneAt h)] } } (le 2 nw ++ le 2 s.coh.busesSet ++ zeros 4))

def execCohSet (h : Pkt) (p : CohSet) (s : State) : Host.Outcome State Fault Refusal :=
  cmd (.cohSet h p) { op := 0x0700, len := some 32 } h s (fun s => cohSetCmd s h p)

/-- The checks of one bus entry, whose first byte is at an offset. -/
def State.busChecks (s : State) (h : Pkt) (e : BusEntry) (off : Nat) : List (Option (Nat × Nat)) :=
  if e.stream == 0xFFFF then []
  else
    [ badIf (16383 < e.stream) off, s.needsRead h kindStream e.stream
    , badIf (s.coh.coming.any (fun p => !s.boundTo e.stream p.group)) off
    , badIf (s.wrongType e.stream e.ch 0) (off + 2), badIf (e.freqCh != 0xFF && s.wrongType e.stream e.freqCh 1) (off + 3)
    , badIf (negOrNan e.weight) (off + 4) ]

/-- The changes of a command, bus by bus. -/
def busChanges (p : CohBusSet) (t : Stamp) : List BusChange :=
  p.entries.zipIdx.map (fun e => { bus := p.first + e.2, entry := e.1, done := t })

def cohBusSet (s : State) (h : Pkt) (p : CohBusSet) : CmdOut :=
  let t := s.doneAt h
  check s
    ([ failIf (h.paramLen != 8 + 16 * p.count) stBadLength 0, s.needs h kindCoherency 0, badIf (4095 < p.first) 0, zeroIf (p.count == 0) 2
     , badIf (253 < p.count || 4096 < p.first + p.count || p.entries.length != p.count) 2 ]
     ++ ((List.range p.entries.length).zip p.entries).flatMap (fun e => s.busChecks h e.2 (8 + 16 * e.1)))
    (fun _ =>
      ok { s with coh := { s.coh with nextBuses := s.coh.nextBuses ++ busChanges p t } })

def execCohBusSet (h : Pkt) (p : CohBusSet) (s : State) : Host.Outcome State Fault Refusal :=
  cmd (.cohBusSet h p) { op := 0x0701, len := none } h s (fun s => cohBusSet s h p)

/-! ## COH_ISLAND_READ and COH_BUS_READ -/

/-- An instant in ns as eight bytes. -/
def instBytes (inst : Nat) : List Byte := le 8 (instNs inst)

/-- Bit map of members over 4,096 buses. -/
def memberMap (l : List Nat) : List Byte :=
  (List.range 512).map (fun i => BitVec.ofNat 8 (maskOf ((List.range 8).map (fun j => l.contains (8 * i + j)))))

def boundaryBytes (l : List BoundaryEntry) : List Byte :=
  (l.take 16).flatMap (fun e => le 2 e.bus ++ le 2 e.outside ++ le 4 e.dist.toNat) ++ List.replicate (8 * (16 - l.length)) 0xFF

/-- One island: Table 08-7, its boundary and its members. -/
def islandBytes (slot : Nat) (stale : Bool) (i : Island) : List Byte :=
  le 1 slot ++ le 1 (Nat.min i.clearCount 255)
    ++ le 2 (b2n stale + 2 * b2n i.noData + 4 * b2n i.isNew + 8 * b2n i.absorbed + 16 * b2n i.splitChild + 32 * b2n i.rejoined + 64 * b2n i.test)
    ++ le 2 i.id ++ le 2 i.parent ++ le 2 i.members.length ++ le 2 i.held.length ++ le 1 (Nat.min i.boundary.length 16) ++ zeros 3
    ++ le 4 i.freq.toNat ++ le 4 i.deltaF.toNat ++ le 4 i.angSep.toNat ++ le 4 i.angGrowth.toNat ++ le 4 i.inertia.toNat ++ zeros 4
    ++ instBytes i.declaredAt ++ instBytes i.criteriaFrom ++ instBytes i.lastVerdict ++ boundaryBytes i.boundary ++ memberMap i.members

/-- The latest completed evaluation. -/
def CohSt.image (c : CohSt) : List Byte :=
  let e := c.eval
  instBytes e.inst ++ le 8 c.seq ++ le 1 e.islands.length ++ le 1 e.cands.length ++ le 1 (b2n c.stale + 2 * b2n e.noMain) ++ zeros 1
    ++ le 2 e.mainLabel ++ le 2 e.mainMembers ++ le 2 e.ready ++ zeros 6 ++ e.islands.flatMap (fun x => islandBytes x.1 c.stale x.2)

/-- The reply of both reads. -/
def cohReply (len seq : Nat) : List Byte := le 4 len ++ zeros 4 ++ le 8 seq

def cohIslandRead (s : State) (h : Pkt) (p : BufRead) : CmdOut :=
  check s [ s.needsRead h kindCoherency 0, if p.bufLen == 0 then none else stagingOnly h p.bufAddr ]
    (fun _ => copyOut s p.bufAddr p.bufLen s.coh.image (cohReply s.coh.image.length s.coh.seq))

def execCohIslandRead (h : Pkt) (p : BufRead) (s : State) : Host.Outcome State Fault Refusal :=
  cmd (.cohIslandRead h p) { op := 0x0702, len := some 16, ro := true } h s (fun s => cohIslandRead s h p)

/-- The entry of one bus, of the latest completed evaluation: that before a discarded one (R251). -/
def CohSt.busBytes (c : CohSt) (i : Nat) : List Byte :=
  let isl := c.eval.islands.find? (fun e => e.2.members.contains i)
  match tget i (if c.stale then c.prevBuses else c.buses) with
  | none => le 2 0xFFFF ++ le 1 0xFF ++ zeros 13
  | some b =>
    let edge := c.eval.islands.any (fun e => e.2.boundary.any (fun x => x.bus == i))
    le 2 (if b.ready then b.label else 0xFFFF) ++ le 1 ((isl.map (·.1)).getD 0xFF)
      ++ le 1 (b2n b.ready + 2 * b2n b.usable + 4 * b2n (isl.any (fun e => e.2.held.contains i)) + 8 * b2n edge + 16)
      ++ le 4 ((b.win.head?.map (fun x => x.delta.toNat)).getD 0) ++ le 4 ((b.win.head?.map (fun x => x.nu.toNat)).getD 0)
      ++ le 2 b.win.length ++ zeros 2

def CohSt.busImage (c : CohSt) (first count : Nat) : List Byte :=
  instBytes c.eval.inst ++ le 8 c.seq ++ le 4 c.eval.coiFreq.toNat ++ le 2 c.eval.usable ++ le 2 c.eval.ready ++ zeros 8
    ++ (List.range count).flatMap (fun i => c.busBytes (first + i))

def cohBusRead (s : State) (h : Pkt) (p : CohBusRead) : CmdOut :=
  check s
    [ s.needsRead h kindCoherency 0, badIf (4096 < p.first + p.count) 0, if p.bufLen == 0 then none else stagingOnly h p.bufAddr ]
    (fun _ => copyOut s p.bufAddr p.bufLen (s.coh.busImage p.first p.count) (cohReply (32 + 16 * p.count) s.coh.seq))

def execCohBusRead (h : Pkt) (p : CohBusRead) (s : State) : Host.Outcome State Fault Refusal :=
  cmd (.cohBusRead h p) { op := 0x0703, len := some 24, ro := true } h s (fun s => cohBusRead s h p)

/-! ## A discarded evaluation (R251) -/

/-- The engine with the latest evaluation taken back: islands, identities and the counts of what it declared, cleared and dropped are those before it,
every count of persistence restarts, and STALE is set. -/
def CohSt.undone (c : CohSt) : CohSt :=
  { c with
    eval := c.prev.restart, first := c.prevFirst, nextId := c.prevId, stale := true, discardSeen := true
    cnt := [3, 4, 5].foldl (fun t n => match tget n c.prevCnt with
      | some v => tset n v t
      | none => tdel n t) c.cnt }

/-- The decisions that a departure keeps for its scan, with those of the engine taken afresh (09_alarm_logic R262). -/
def State.cohRedecide (s : State) (inst : Nat) : State :=
  let again := fun (e : AlcMapEntry × Nat) => if e.1.kind == 7 || e.1.kind == 8 then (e.1, s.decision e.1) else e
  { s with alc := { s.alc with decided := s.alc.decided.map (fun d => if d.inst == inst then { d with vals := d.vals.map again } else d) } }

/-- The evaluation of an instant is discarded; a scan that its departure triggers reads the evaluation before it. The events that it raised at its release stand
(DESIGN CHOICE, log 126). -/
def State.cohDiscard (s : State) (fault : Bool) : State :=
  let s1 := (({ s with coh := s.coh.undone } : State).cohRedecide s.coh.eval.inst).count .coh 1
  let s2 := s1.evtFree s1.cohReaders 0x169
  if fault then s2.free.2.faultPair 52 53 s2.free.1 (s2.holder kindCoherency 0) else s2

def execCohEvaluationOverdue (t instant : Nat) (s : State) : Host.Outcome State Fault Refusal :=
  event t s (fun s =>
    if s.fabricUp && s.coh.set.any (·.enable) && s.coh.eval.inst == instant && !s.coh.stale then s.cohDiscard true else s)

end Sys2Proof.Machine
end

