-- ==== Sys2Proof/Machine/Ingest.lean ====
section
/-!
DEFINITION. The ingest commands (03_ingest, 0x0200 to 0x0206).
-/
namespace Sys2Proof.Machine

/-! ## ING_SUB_SET (R79, R83, R88, R92, R95 to R97, R101, R105) -/

/-- An entry with the defaults of Table 03-10. -/
def filledSub (p : IngSubSet) : IngSubSet :=
  { p with
    udpDst := if p.udpDst == 0 && p.kind == 0 then 4713 else if p.udpDst == 0 && p.kind == 1 then 102 else p.udpDst
    pmuPort := if p.pmuPort == 0 then 4713 else p.pmuPort }

def vlanOk (v : Nat) : Bool := decide (v ≤ 4094) || v == 0xFFFF

/-- Two VLAN keys can match a common frame. -/
def vlanMeets (a b : Nat) : Bool := a == b || a == 0xFFFF || b == 0xFFFF

/-- Two fields where zero means any can match a common value. -/
def anyMeets (a b : Nat) : Bool := a == 0 || b == 0 || a == b

/-- Two DST_IP fields can match a common address: zero stands for the device's own addresses, which are no multicast ones. -/
def dstMeets (a b : Nat) : Bool := a == b || (a == 0 && !ipMulticast b) || (b == 0 && !ipMulticast a)

def portsMeet (a b : Nat) : Bool := (maskBits 24 (a &&& b)) != []

/-- A frame could match both entries (R79). -/
def subsMeet (a b : IngSubSet) : Bool :=
  a.kind == b.kind && portsMeet a.portMask b.portMask && vlanMeets a.vlan b.vlan && anyMeets a.dstMac b.dstMac
  && (a.kind == 2 || (anyMeets a.srcIp b.srcIp && dstMeets a.dstIp b.dstIp && a.udpDst == b.udpDst && anyMeets a.udpSrc b.udpSrc))
  && (if a.kind == 0 then a.id == b.id else anyMeets a.id b.id && anyMeets a.svId b.svId)

/-- Sampled-value subscriptions but for one stream. -/
def State.svSubs (s : State) (but : Nat) : List IngSubSet :=
  (s.ing.subs.filter (fun e => e.1 != but && e.2.kind == 2)).map (·.2)

def svFast (p : IngSubSet) : Bool := p.svRate == 12800 || p.svRate == 14400

/-- The three figures of R83. -/
def State.svFits (s : State) (p : IngSubSet) : Bool :=
  let l := p :: s.svSubs p.stream
  p.kind != 2 || (decide (l.length ≤ 256) && decide ((l.map (·.svRate)).sum ≤ 1228800) && decide ((l.filter svFast).length ≤ 64))

/-- Only CMD_ENABLE, RESTART_CMD, KEY_CUR, KEY_NEXT and ROT_OVERLAP_MS differ. -/
def subFrozenSame (a b : IngSubSet) : Bool :=
  let fixed := fun (x : IngSubSet) =>
    { x with flags := x.flags - b2n (x.flags.testBit 0) - 4 * b2n (x.flags.testBit 2), keyCur := 0, keyNext := 0, rotOverlapMs := 0 }
  fixed a == fixed b

/-- A key slot that an entry names: held by the caller, and a DECRYPT key (R433). -/
def State.keySlotChecks (s : State) (h : Pkt) (used : Bool) (slot off : Nat) : List (Option (Nat × Nat)) :=
  if used then [s.needs h kindKey slot, badIf (!(s.key slot).any (fun k => k.attr == 2)) off] else []

/-- Frames of the new entry come from the source of the old one. -/
def sameSource (a b : IngSubSet) : Bool :=
  a.kind == b.kind && a.id == b.id && a.svId == b.svId && a.srcIp == b.srcIp && a.dstMac == b.dstMac && a.udpSrc == b.udpSrc && a.svRate == b.svRate

/-- What ingest keeps for a stream whose entry is rewritten at a stamp. A change of the source key also forgets the arrival of the last configuration frame, so
that the span of R89 starts afresh (DESIGN CHOICE: log entry 43). -/
def StreamSt.rewritten (x : StreamSt) (old : Option IngSubSet) (p : IngSubSet) (done : Stamp) : StreamSt :=
  match old with
  | none => { cnt := x.cnt }
  | some o =>
    let keys := o.keyCur != p.keyCur || o.keyNext != p.keyNext
    let noted := fun (y : StreamSt) => if keys then y.keysChanged done o.keyCur o.keyNext else y
    let base : StreamSt := if sameSource o p then x else { cnt := x.cnt, lastArrival := x.lastArrival, lastCmd := x.lastCmd, keyChanges := x.keyChanges }
    { noted base with
      mismatch := none, replay := {}, simInUse := false, simSeen := false, confRev := none
      overlapEnd := if keys then none else base.overlapEnd }

/-- ING_SUB_SET takes effect at a stamp. -/
def State.subWrite (s : State) (p : IngSubSet) : State :=
  let x := (s.streamSt p.stream).rewritten (tget p.stream s.ing.subs) p s.now
  let s1 : State := { s with ing := { s.ing with subs := tset p.stream p s.ing.subs } }
  let s2 := s1.setStream p.stream x
  if p.flags.testBit 0 && p.flags.testBit 1 then s2.pmuPair p.stream else s2

def ingSubSet (s : State) (h : Pkt) (p0 : IngSubSet) : CmdOut :=
  let p := filledSub p0
  let f := p.flags
  let auth := f.testBit 7
  let named := if auth then p.keyCur :: (if p.keyNext == 0xFF then [] else [p.keyNext]) else []
  onSlots s h named named (fun _ => check s
    ([ badIf (16383 < p.stream) 0, s.needs h kindStream p.stream
     , badIf (2 < p.kind) 2, zeroIf (p.tbSel == 0) 3, badIf (3 < p.tbSel) 3, zeroIf (p.portMask == 0) 4, badIf (16777216 ≤ p.portMask) 4
     , badIf ((f.testBit 5 || f.testBit 6) && popCount 24 p.portMask != 2) 4
     , badIf ((s.ing.subs.filter (fun e => e.1 != p.stream)).any (fun e => subsMeet p e.2)) 4
     , badIf (512 ≤ f || (f.testBit 5 && f.testBit 6) || (p.kind != 1 && (auth || f.testBit 8))) 8
     , badIf (!vlanOk p.vlan) 10
     , zeroIf (p.kind == 0 && p.id == 0) 18, badIf (65535 ≤ p.id && p.kind == 0) 18
     , badIf (p.kind == 2 && p.srcIp != 0) 20, badIf (p.kind == 2 && p.dstIp != 0) 36, badIf (p.kind == 2 && p.udpDst != 0) 52
     , zeroIf (f.testBit 0 && p.selfId == 0) 56
     , zeroIf (p.kind == 2 && p.svRate == 0) 60, badIf (if p.kind == 2 then !([4000, 4800, 12800, 14400].contains p.svRate) else p.svRate != 0) 60 ]
     ++ s.keySlotChecks h auth p.keyCur 64 ++ s.keySlotChecks h (auth && p.keyNext != 0xFF) p.keyNext 65
     ++ [ badIf (60000 < p.rotOverlapMs) 66, badIf (p.kind == 0 && p.svId != 0) 72
        , failIf (s.underContract p.stream && !(tget p.stream s.ing.subs).any (fun o => subFrozenSame o p)) stWrongState 0
        , failIf (!s.svFits p) stNoResource 0 ])
    (fun _ => ok ((s.at h.done).subWrite p)))

def execIngSubSet (h : Pkt) (p : IngSubSet) (s : State) : Host.Outcome State Fault Refusal :=
  cmd (.ingSubSet h p) { op := 0x0200, len := some 128 } h s (fun s => ingSubSet s h p)

/-! ## ING_SUB_CLEAR -/

/-- A subscription goes: the items of its stream are cancelled (11_clusters R332). Its counters, stored frames, layout and stamps go with it (DESIGN CHOICE: R78
does not say; log entry 43). -/
def State.subDrop (s : State) (st : Nat) : State :=
  let s1 := s.cancelItems (fun x => x.stream == st)
  { s1 with ing := { s1.ing with subs := tdel st s1.ing.subs, streams := tdel st s1.ing.streams } }

def ingSubClear (s : State) (h : Pkt) (st : Nat) : CmdOut :=
  check s
    [ badIf (16383 < st) 0, s.needs h kindStream st, badIf (tget st s.ing.subs).isNone 0, failIf (s.underContract st) stWrongState 0 ]
    (fun _ => ok (s.subDrop st))

def execIngSubClear (h : Pkt) (stream : Nat) (s : State) : Host.Outcome State Fault Refusal :=
  cmd (.ingSubClear h stream) { op := 0x0201, len := some 4 } h s (fun s => ingSubClear s h stream)

/-! ## ING_SET_LAYOUT -/

/-- The channel of a type code. -/
def typeChan (fnom50 : Bool) (t : Nat) : ChanDef :=
  { kind := match t with
      | 0 => .phasorRect
      | 1 => .phasorPolar
      | 2 => .freq
      | 3 => .rocof
      | 4 => .analog
      | _ => .digital
    int16 := false, scaleNum := 1, scaleDen := 1, fnom50 }

/-- Bytes of a dataset: each FLOAT32 or INT32 value of four bytes, with four more for its quality. -/
def datasetLen (qual : Nat) (types : List Nat) : Nat :=
  (types.map (fun t => (if t ≤ 1 then 2 else 1) * (if qual == 1 then 8 else 4))).sum

/-- The layout of an R-SV dataset. -/
def layoutOf (e : IngSubSet) (p : IngSetLayout) : Layout :=
  { blocks := [p.types.map (typeChan (e.flags.testBit 8))], dataRate := 0, cfgCnt := 0, frameLen := datasetLen p.qual p.types }

/-- The reporting rate of a stream: its carrier's, else one given. -/
def State.streamRate (s : State) (st other : Nat) : Nat := ((s.carrierOf st).map (fun e => e.2.instRate)).getD other

/-- A layout set by command: it applies from T_b, counted from the completion stamp (R90). A stream that nothing carries has no RATE; its T_b is the top of a
second (DESIGN CHOICE: log entry 150). It ends no CONFIG_MISMATCH, which R92 lets end in three other
cases only; a layout refused before gives way to it as the one that a new contract is judged by (DEDUCED: log entry 46). -/
def State.layoutSet (s : State) (st : Nat) (l : Layout) : State :=
  let tb := s.streamBase st
  let from_ := s.instantAfter tb (s.streamRate st 1) s.now
  (s.modStream st (fun x =>
    { x.accept from_ l from_ with mismatch := x.mismatch.map (fun m => { m with refused := m.refused.map (fun _ => l) }) })).streamEvent st 0x080 (layoutCount l)

def ingSetLayout (s : State) (h : Pkt) (p : IngSetLayout) : CmdOut :=
  let e := (tget p.stream s.ing.subs).getD
    { stream := 0, kind := 3, tbSel := 0, portMask := 0, flags := 0, vlan := 0, dstMac := 0, id := 0, srcIp := 0, dstIp := 0, udpDst := 0
      udpSrc := 0, selfId := 0, pmuPort := 0, svRate := 0, keyCur := 0, keyNext := 0, rotOverlapMs := 0, confRev := 0, svId := 0 }
  let c := s.contractOf p.stream
  check s
    [ failIf (h.paramLen != 8 + ceilDiv p.count 4 * 4) stBadLength 0
    , badIf (16383 < p.stream) 0, s.needs h kindStream p.stream
    , zeroIf (p.count == 0) 2, badIf (256 < p.count || p.types.length != p.count) 2, badIf (1 < p.qual) 4
    , badIf (p.types.any (fun t => decide (5 < t))) (8 + (p.types.takeWhile (fun t => decide (t ≤ 5))).length)
    , failIf (e.kind != 1) stWrongState 0
    , (c.filter (fun e => e.2.isHeld && decide (e.2.channels < p.count))).map (fun e => (stWouldBreak, e.1)) ]
    (fun _ => ok ((s.at h.done).layoutSet p.stream (layoutOf e p)))

def execIngSetLayout (h : Pkt) (p : IngSetLayout) (s : State) : Host.Outcome State Fault Refusal :=
  cmd (.ingSetLayout h p) { op := 0x0202, len := none } h s (fun s => ingSetLayout s h p)

/-! ## ING_PMU_CMD (R88) -/

def ingPmuCmd (s : State) (h : Pkt) (p : IngPmuCmd) : CmdOut :=
  check s
    [ badIf (16383 < p.stream) 0, s.needs h kindStream p.stream, badIf (p.cmd == 0 || 6 < p.cmd) 2
    , failIf (!(tget p.stream s.ing.subs).any (fun e => e.kind == 0 && e.flags.testBit 0)) stWrongState 0
    , failIf (!(s.pmuFree p.stream)) stBusy 0 ]
    (fun _ => match tget p.stream s.ing.subs with
      | some e => ok (s.pmuSend p.stream e p.cmd)
      | none => refuse s stWrongState 0)

def execIngPmuCmd (h : Pkt) (p : IngPmuCmd) (s : State) : Host.Outcome State Fault Refusal :=
  cmd (.ingPmuCmd h p) { op := 0x0203, len := some 4 } h s (fun s => ingPmuCmd s h p)

/-! ## ING_GET_CONFIG and ING_STREAM_STATS -/

def ingGetConfig (s : State) (h : Pkt) (p : IngGetConfig) : CmdOut :=
  check s
    [ badIf (16383 < p.stream) 0, s.needsRead h kindStream p.stream, badIf (p.which == 0 || 4 < p.which) 2
    , if p.bufLen == 0 then none else stagingOnly h p.bufAddr ]
    (fun _ => match tget p.which (s.streamSt p.stream).stored with
      | some f => copyOut s p.bufAddr p.bufLen f.raw (le 4 f.raw.length ++ le 2 f.cfgCnt ++ zeros 2 ++ le 8 f.stamp)
      | none => ok s (zeros 16))

def execIngGetConfig (h : Pkt) (p : IngGetConfig) (s : State) : Host.Outcome State Fault Refusal :=
  cmd (.ingGetConfig h p) { op := 0x0204, len := some 16, ro := true } h s (fun s => ingGetConfig s h p)

/-- A layout waits for its T_b. -/
def State.layoutPending (s : State) (st : Nat) : Bool :=
  match (s.streamSt st).pend with
  | some p => p.from_.any (fun f => (s.reading (s.streamBase st)).all (fun r => decide (r < (instNs f : Int))))
  | none => false

/-- Channels in force now: eight for a sampled-value stream. -/
def State.channelsInForce (s : State) (st : Nat) : Nat :=
  if (tget st s.ing.subs).any (fun e => e.kind == 2) then 8
  else
    let x := s.streamSt st
    let l := match x.pend with
      | some p => if s.layoutPending st then x.layout else some p.layout
      | none => x.layout
    (l.map layoutCount).getD 0

/-- Table 03-11. -/
def State.statsReply (s : State) (st : Nat) : List Byte :=
  let x := s.streamSt st
  le 1 ((x.mismatch.map (·.reason)).getD 0)
    ++ le 1 (b2n (s.layoutPending st) + 2 * b2n x.simInUse + 4 * b2n x.uncertain + 8 * b2n x.overlapEnd.isSome)
    ++ le 2 (s.channelsInForce st) ++ le 8 (x.lastArrival.getD 0)
    ++ ((List.range 13).map (fun n => le 4 (tgetD n 0 x.cnt).toNat)).flatten

def ingStreamStats (s : State) (h : Pkt) (p : IngStreamStats) : CmdOut :=
  check s
    [ badIf (16383 < p.stream) 0, if p.clear then s.needs h kindStream p.stream else s.needsRead h kindStream p.stream ]
    (fun _ => ok (s.modStream p.stream (fun x => { x with timeRejected := false, cnt := if p.clear then [] else x.cnt })) (s.statsReply p.stream))

def execIngStreamStats (h : Pkt) (p : IngStreamStats) (s : State) : Host.Outcome State Fault Refusal :=
  cmd (.ingStreamStats h p) { op := 0x0205, len := some 4, ro := !p.clear } h s (fun s => ingStreamStats s h p)

/-! ## ING_GOOSE_SUB (R102 to R104) -/

/-- A frame could match both station entries (R79). APPID is compared as it stands: R78 and ING_GOOSE_SUB do not say that a zero APPID means any
(DESIGN CHOICE: log entry 111). -/
def stationsMeet (a b : IngGooseSub) : Bool :=
  a.kind == b.kind && portsMeet a.portMask b.portMask && vlanMeets a.vlan b.vlan && anyMeets a.dstMac b.dstMac
  && (a.kind == 0 || (anyMeets a.srcIp b.srcIp && a.udpDst == b.udpDst)) && a.appId == b.appId && a.gocbRef == b.gocbRef

/-- The station is mapped to the inputs of a running program (09_alarm_logic Table 09-3, kinds 9 and 10). -/
def State.stationMapped (s : State) (n : Nat) : Bool :=
  (s.alc.state == .run || s.alc.state == .hold)
  && s.alc.active.any (fun im => im.map.any (fun e => (e.kind == 9 || e.kind == 10) && e.index == n))

/-- An entry is written: it starts afresh, but for the keys that a frame which still waits arrived under (R97). -/
def State.stationWrite (s : State) (n : Nat) (p : IngGooseSub) : State :=
  match tget n s.ing.stations with
  | none => s.setStation n { sub := p }
  | some x => s.setStation n { sub := p, keyChanges := (s.now, x.sub.keyCur, x.sub.keyNext) :: x.keyChanges.take 15 }

def ingGooseSub (s : State) (h : Pkt) (p0 : IngGooseSub) : CmdOut :=
  let p := { p0 with udpDst := if p0.kind == 1 && p0.udpDst == 0 then 102 else p0.udpDst }
  let n := p.station
  if p.kind == 0xFF then
    check s [badIf (127 < n) 0, s.needs h kindStation n, failIf (s.stationMapped n) stWrongState 0]
      (fun _ => ok { s with ing := { s.ing with stations := tdel n s.ing.stations } })
  else
  let auth := p.flags.testBit 1
  let named := if auth then p.keyCur :: (if p.keyNext == 0xFF then [] else [p.keyNext]) else []
  onSlots s h named named (fun _ => check s
    ([ badIf (127 < n) 0, s.needs h kindStation n, badIf (1 < p.kind) 1
     , badIf (16 ≤ p.flags || (p.flags.testBit 2 && p.flags.testBit 3)) 2, zeroIf (p.portMask == 0) 4, badIf (16777216 ≤ p.portMask) 4
     , badIf ((s.ing.stations.filter (fun e => e.1 != n)).any (fun e => stationsMeet p e.2.sub)) 4, badIf (!vlanOk p.vlan) 16 ]
     ++ s.keySlotChecks h auth p.keyCur 18 ++ s.keySlotChecks h (auth && p.keyNext != 0xFF) p.keyNext 19
     ++ [ badIf (p.kind == 0 && p.udpDst != 0) 40, zeroIf (p.gocbRef == 0) 44, failIf (s.stationMapped n) stWrongState 0 ])
    (fun _ => ok ((s.at h.done).stationWrite n p)))

def execIngGooseSub (h : Pkt) (p : IngGooseSub) (s : State) : Host.Outcome State Fault Refusal :=
  cmd (.ingGooseSub h p) { op := 0x0206, len := some 100 } h s (fun s => ingGooseSub s h p)

end Sys2Proof.Machine
end

