-- ==== Sys2Proof/Machine/KeyOps.lean ====
section
/-!
DEFINITION. Key slots (15_security R433 to R440, R452, R453): what a key may be, key updates, and what changes the store as a whole.
-/
namespace Sys2Proof.Machine

/-- Length of a TYPE in bytes (Table 15-2). -/
def keyLen (type : Nat) : Nat :=
  match type with
  | 1 => 16 | 2 => 32 | 3 => 32 | 4 => 64 | _ => 0

/-- Combinations of Table 15-2. -/
def keyCombo (attr type alg : Nat) : Bool :=
  match type with
  | 1 => ((attr == 1 || attr == 2) && (alg == 3 || alg == 4)) || (attr == 3 && alg == 0)
  | 2 => ((attr == 1 || attr == 2) && (alg == 3 || alg == 4)) || (attr == 3 && alg == 0)
  | 3 => ((attr == 1 || attr == 2) && (alg == 1 || alg == 2)) || (attr == 4 && alg == 0)
  | 4 => (attr == 1 && alg == 5) || (attr == 4 && alg == 0)
  | _ => false

/-- The ASCII bytes of a string. -/
def ascii (t : String) : List Byte := t.toList.map (fun c => BitVec.ofNat 8 c.toNat)

/-- The 64 bytes of HMAC-SHA-512. -/
def hmacBytes (key data : List Byte) : List Byte := digestBytes (Config.hmacSha512 key data)

/-- KCV (R435). -/
def kcv (key : List Byte) : List Byte := (hmacBytes key (ascii "QV7240-KCV")).take 4

/-- Some verifier or signer names a slot (R437). -/
def State.slotInUse (s : State) (n : Nat) : Bool :=
  s.ing.subs.any (fun e => e.2.flags.testBit 7 && (e.2.keyCur == n || (e.2.keyNext == n && n != 0xFF)))
  || s.ing.stations.any (fun e => e.2.sub.flags.testBit 1 && (e.2.sub.keyCur == n || (e.2.sub.keyNext == n && n != 0xFF)))
  || s.plt.outs.any (fun e => e.2.set.sign && e.2.set.format == 2 && e.2.set.key == n)
  || s.alc.active.any (fun im => im.pubs.any (fun e => e.rGoose && e.keySlot == n))
  || s.hst.parts.any (fun e => e.2.ib.keyVerify == n && n != 0xFF || e.2.ib.keyVerifyNext == n && n != 0xFF || e.2.ib.keySign == n && n != 0xFF)
  || s.sec.recoverySlot == some n

/-! ## Updates (R452) -/

/-- Bank B holds the latest committed record. -/
def KeySlot.latestB (x : KeySlot) : Bool := x.bankB.committed && (!x.bankA.committed || decide (x.bankA.counter < x.bankB.counter))

/-- Step 1: the new record into the other bank. -/
def State.keyWrite (s : State) (n : Nat) (k : Option Key) : State :=
  let x := s.slot n
  let b : KeyBank := { key := k, counter := x.counter + 1, committed := false }
  (s.setSlot n (if x.latestB then { x with bankA := b } else { x with bankB := b })).norBegin (.key n)

/-- Steps 2 and 3: the commit, and the working copy. A slot that is written again is usable. -/
def State.keyCommit (s : State) (n : Nat) : State :=
  let x := s.slot n
  let put := fun (b : KeyBank) => ({ b with committed := true } : KeyBank)
  let take := fun (b : KeyBank) (y : KeySlot) =>
    ({ y with key := b.key, unusable := false, counter := b.counter, changeStamp := s.now } : KeySlot)
  if !x.bankA.committed then (s.setSlot n (take x.bankA { x with bankA := put x.bankA })).secCount 0
  else if !x.bankB.committed then (s.setSlot n (take x.bankB { x with bankB := put x.bankB })).secCount 0
  else s

/-- The command whose update of a slot waits for its commit. -/
def Waiting.updates (n : Nat) (w : Waiting) : Bool :=
  match w.what with
  | .keyCommit k _ => k == n
  | _ => false

/-- An update in flight is committed and its command answered. -/
def State.keyFinish (s : State) (n : Nat) : State :=
  (s.keyCommit n).finishAll (Waiting.updates n) stOk 0 (fun w => match w.what with
    | .keyCommit _ res => res
    | _ => [])

/-- A slot holds a key: in the working area, or in NOR while that is stripped (R438). -/
def KeySlot.holdsKey (x : KeySlot) : Bool := x.key.isSome || (if x.latestB then x.bankB.key else x.bankA.key).isSome

/-- Empty a slot as a key update is made (R438), after the one that is in flight: updates are made one at a time, in the order of R58 (R452). -/
def State.keyEmpty (s : State) (n : Nat) : State :=
  let x := s.slot n
  let s1 := if x.bankA.committed && x.bankB.committed then s else s.keyFinish n
  if (s1.slot n).holdsKey then (s1.keyWrite n none).keyCommit n else s1

/-! ## The store as a whole -/

/-- The slot as start-up finds it, and whether an update was lost or no good record is left (R453). A bank is bad where its record fails its integrity
check. -/
def KeySlot.reload (x : KeySlot) (badA badB : Bool) : KeySlot × Bool × Bool :=
  let lost := !x.bankA.committed || !x.bankB.committed
  let good := fun (b : KeyBank) (bad : Bool) => if b.committed && !bad then some b else none
  let pick := match good x.bankA badA, good x.bankB badB with
    | some a, some b => some (if a.counter < b.counter then b else a)
    | some a, none => some a
    | none, some b => some b
    | none, none => none
  let clean := fun (b : KeyBank) (bad : Bool) => if b.committed && !bad then b else ({} : KeyBank)
  let y : KeySlot := { x with key := pick.bind (·.key), counter := (pick.map (·.counter)).getD 0, changeStamp := 0
                              updateLost := x.updateLost || lost, bankA := clean x.bankA badA, bankB := clean x.bankB badB }
  (y, lost, badA && badB)

/-- Start-up reloads every slot (R438, R453): discarded updates are marked and counted. `bad` lists the slots and banks (0 A, 1 B) whose records fail. -/
def State.reloadKeys (s : State) (bad : List (Nat × Nat)) : State :=
  s.sec.slots.foldl (fun s e =>
    let r := e.2.reload (bad.contains (e.1, 0)) (bad.contains (e.1, 1))
    let s1 := s.setSlot e.1 r.1
    if r.2.1 then
      let s3 := s1.secCount 4
      { s3 with sec := { s3.sec with updateLostSeen := true } }
    else s1) s

/-- The slots whose records both fail, each for FS_82. -/
def State.lostRecords (s : State) (bad : List (Nat × Nat)) : List Nat :=
  (s.sec.slots.map (·.1)).filter (fun n => bad.contains (n, 0) && bad.contains (n, 1))

/-- KEY_UPDATE_LOST on the holder of each slot whose update was lost at this start-up, once the bundle is applied. -/
def State.tellLostKeys (s : State) (lost : List Nat) : State := lost.foldl (fun s n => s.evt [s.holder kindKey n] 0x1FA n) s

/-- The slots whose latest update has no commit record. -/
def State.uncommitted (s : State) : List Nat :=
  (s.sec.slots.filter (fun e => !e.2.bankA.committed || !e.2.bankB.committed)).map (·.1)

/-- Strip the working area; `keep` selects the slots that stay (R438, R502). -/
def State.stripKeys (s : State) (keep : Nat → Bool) : State :=
  { s with sec := { s.sec with slots := tmap (fun n (x : KeySlot) => if keep n then x else { x with key := none }) s.sec.slots } }

/-- The slots reloaded on entry to Stabled: those of in-band settings and the recovery slot (R502). -/
def State.stabledSlot (s : State) (n : Nat) : Bool :=
  s.hst.parts.any (fun e => (e.2.ib.keyVerify == n || e.2.ib.keyVerifyNext == n || e.2.ib.keySign == n) && n != 0xFF)
  || s.sec.recoverySlot == some n

/-- The key that a slot's record gives, from the other bank where the latest one fails its integrity check. -/
def KeySlot.fromNor (x : KeySlot) (badA badB : Bool) : Option Key :=
  let y : KeySlot := { x with bankA := if badA then { x.bankA with committed := false } else x.bankA
                              bankB := if badB then { x.bankB with committed := false } else x.bankB }
  if y.latestB then y.bankB.key else if y.bankA.committed then y.bankA.key else none

/-- On wake every slot is reloaded (R438, Table 17-6); one whose records both fail is FS_82 (R466). -/
def State.wakeKeys (s : State) (bad : List (Nat × Nat)) : State :=
  let back := fun (n : Nat) (x : KeySlot) => x.fromNor (bad.contains (n, 0)) (bad.contains (n, 1))
  let s1 : State := { s with sec := { s.sec with slots := tmap (fun n (x : KeySlot) => { x with key := back n x }) s.sec.slots } }
  (s1.lostRecords bad).foldl (fun s n => s.fault 82 n (s.holder kindKey n)) s1

/-- STORE_NONCE is overwritten and the working area stripped (R457): no slot holds a key, and the records wait to be erased. -/
def State.loseKeys (s : State) : State :=
  let blind := fun (b : KeyBank) => ({ b with key := none, committed := true } : KeyBank)
  { s with sec := { s.sec with
      eraseDue := true
      storeNonce := none
      slots := tmap (fun _ (x : KeySlot) =>
        { x with key := none, unusable := false, updateLost := false, bankA := blind x.bankA, bankB := blind x.bankB }) s.sec.slots } }

/-- The key records region is erased. -/
def State.eraseKeys (s : State) : State := { s with sec := { s.sec with slots := [], eraseDue := false } }

/-! ## The keys of the device (R441) -/

/-- K_STORE, which wraps the key records: none while STORE_NONCE is overwritten. -/
def State.storeKey (s : State) : Option (List Byte) :=
  s.sec.storeNonce.map (fun n => Config.hkdf s.sec.rootSecret (digestBytes (s.bmr 0) ++ n) (ascii "store") 32)

/-- The seed of the ID key. -/
def State.idSeed (s : State) : List Byte := Config.hkdf s.sec.rootSecret [] (ascii "identity" ++ le 8 Config.serial.toNat) 32

/-- ID_PUB, and the signature of the ID key over a message. -/
def State.idPublic (s : State) : BitVec 256 := Config.edPublic s.idSeed

def State.idSign (s : State) (m : List Byte) : BitVec 512 := Config.edSign s.idSeed m

/-- K_FW, of a length that is not stated. -/
def State.fwKey (s : State) : List Byte := Config.hkdf s.sec.rootSecret (digestBytes (s.bmr 1)) (ascii "fw") Config.fwKeyLen

/-! ## Signatures (R443, R459, R461, R464, 17_power_states R513) -/

/-- The bundle stored last that is still there. -/
def CfgSt.latest (c : CfgSt) : Option Bundle := if c.latestIsB then c.copyB.or c.copyA else c.copyA.or c.copyB

/-! ## Random data (R436) -/

/-- The next bytes of the DRBG. -/
def State.draw (s : State) (n : Nat) : List Byte × State :=
  (Config.random s.sec.drbgCount n, { s with sec := { s.sec with drbgCount := s.sec.drbgCount + 1 } })

/-- A command that needs random data after a failed health test. -/
def drbgNeeded (s : State) : Option (Nat × Nat) := failIf s.sec.drbgFailed stFaulted 83

/-! ## Tamper (R457, R458) -/

def tamperNeeded (s : State) : Option (Nat × Nat) := failIf s.sec.tamperLatched stTampered 0

/-- Append to the tamper log, which holds 16,384 entries (R460). -/
def State.tamperEntry (s : State) (source state tb1 value : Nat) : State :=
  if 16384 ≤ s.sec.tamperLog.length then s
  else
    let e : TamperEntry := { seq := s.sec.tamperLog.length, source, state, stamp := s.now, tb1, value }
    ({ s with sec := { s.sec with tamperLog := s.sec.tamperLog ++ [e] } }).norBegin (.tamper e.seq)

/-- The reading of TB_1 that a log entry carries: 0 while TB_1 is invalid. -/
def State.tb1Log (s : State) : Nat := match s.reading 1 with
  | some r => r.toNat
  | none => 0

end Sys2Proof.Machine
end

