-- ==== Sys2Proof/Machine/Timetable.lean ====
section
/-!
DEFINITION. The timetable rows (02_timetable R44 to R77, R530, R534): the TT_ commands, sentinel readings and Live evaluations.
-/
namespace Sys2Proof.Machine

/-- The frames/s set of Table 02-7 and Table 04-3. -/
def frameRates : List Nat := [10, 12, 15, 20, 25, 30, 50, 60, 100, 120, 200, 240]

/-- The ASDU/s set of Table 02-7. -/
def svRates : List Nat := [4000, 4800, 12800, 14400]

/-! ## TT_PROPOSE -/

/-- Steps 2 to 4 of R534: the profile, zeros, and ranges, by offset. -/
def State.proposeForm (s : State) (p : TtPropose) : List (Option (Nat × Nat)) :=
  let sv := p.protocol == 3
  [ failIf (s.tt.profile == .placement) stWrongState 0
  , zeroIf (p.rate == 0) 4, zeroIf (p.channels == 0) 8, zeroIf (p.portMask == 0) 12, zeroIf (p.deadlineUs == 0) 16
  , zeroIf (p.groupMask == 0) 20, zeroIf (sv && p.outRate == 0) 26, zeroIf (sv && p.outChannels == 0) 28
  , badIf (16383 < p.stream) 0, badIf (3 < p.protocol) 2, badIf (3 < p.priority) 3
  , badIf (!(if sv then svRates.contains p.rate else frameRates.contains p.rate)) 4
  , badIf (256 < p.channels || (sv && p.channels != 8)) 8, badIf (16 < p.burst) 10, badIf (1 < p.flags) 11
  , badIf (16777216 ≤ p.portMask) 12, badIf (p.deadlineUs < 1000 || 500000 < p.deadlineUs) 16, badIf (65536 ≤ p.groupMask) 20
  , badIf (65536 ≤ p.clusterMask) 22, badIf (60000 < p.timeoutMs) 24
  , badIf (if sv then !frameRates.contains p.outRate else p.outRate != 0) 26
  , badIf (if sv then 16 < p.outChannels else p.outChannels != 0) 28, badIf (p.rsvd != 0) 30 ]

/-- KIND that a PROTOCOL needs (R50). -/
def kindOfProtocol (protocol : Nat) : Nat := if protocol ≤ 1 then 0 else if protocol == 2 then 1 else 2

/-- Step 6 of R534: a breach of R50. -/
def State.proposeEntry (s : State) (p : TtPropose) : Option (Nat × Nat) :=
  match tget p.stream s.ing.subs with
  | none => some (stBadParam, 0)
  | some e =>
    if e.kind != kindOfProtocol p.protocol then some (stBadParam, 2)
    else if e.kind == 2 && p.rate != e.svRate then some (stBadParam, 4)
    else none

/-- Instants per second that a proposal writes. -/
def proposeRate (p : TtPropose) : Nat := if p.protocol == 3 then p.outRate else p.rate

/-- Steps 8 and 9 of R534: the groups named (R49, R119). -/
def State.proposeGroups (s : State) (p : TtPropose) : Option (Nat × Nat) :=
  let gs := (maskBits 16 p.groupMask).map s.group
  if gs.any (fun g => match g with
    | none => true
    | some g => proposeRate p % Nat.max g.set.rate 1 != 0) then some (stBadParam, 20)
  else if gs.any (fun g => g.any (fun g => decide (p.deadlineUs < g.set.waitUs))) then some (stBadParam, 16)
  else none

/-- The record that a proposal asks for. -/
def State.proposed (s : State) (h : Pkt) (p : TtPropose) : Contract :=
  let sv := p.protocol == 3
  { part := h.part, stream := p.stream, protocol := p.protocol, priority := p.priority, rate := p.rate, channels := p.channels
    burst := Nat.max p.burst 1, portMask := p.portMask, deadlineUs := p.deadlineUs, groupMask := p.groupMask
    clusterMask := p.clusterMask, timeoutMs := p.timeoutMs, outRate := p.outRate, outChannels := p.outChannels
    state := .admitted, cluster := 0xFF, cost := costRate p.protocol p.rate p.channels p.outRate p.outChannels
    bytes := platformDemand (if sv then p.outChannels else p.channels) (proposeRate p) p.deadlineUs
    admitted := s.now, change := s.now, reason := 0, shedDue := 0 }

/-- The reply of Table 02-8. -/
def proposeReply (id cluster state cost bytes commit limit : Nat) : List Byte :=
  le 2 id ++ le 1 cluster ++ le 1 state ++ le 4 cost ++ le 4 bytes ++ le 4 commit ++ le 4 limit

/-- A refused proposal: no identity and no cluster; what the manual does not state of such a reply is free, but for STATE, which is 0, PROPOSED, the state
that R51 gives a proposal until its reply (DEDUCED: log entry 33). -/
def State.proposeRefused (s : State) (status detail : Nat) (known : Option Contract) : CmdOut :=
  let (f1, s1) := s.free
  let (f2, s2) := s1.free
  let (f3, s3) := s2.free
  let (f4, s4) := s3.free
  match known with
  | some c => .reply s4 status detail (proposeReply 0xFFFF 0xFF 0 c.cost c.bytes f1 f2)
  | none => .reply s4 status detail (proposeReply 0xFFFF 0xFF 0 f3 f4 f1 f2)

/-- Record an admitted contract; a SHED record of the same stream is freed in the same decision (R53). -/
def State.admitContract (s : State) (c : Contract) (k : Nat) : State × Nat :=
  let id := s.freeId (s.tt.contracts.length + 1) s.tt.nextId
  let c' := { c with cluster := k }
  let s1 := match s.contractOf c.stream with
    | some (old, _) => s.freeContract old
    | none => s
  let s2 := s1.setContract id c'
  let s3 := { s2 with tt := { s2.tt with nextId := (id + 1) % 65535 } }
  ((s3.contractChanged c').layoutOnAdmit c', id)

/-- Steps 10 and 11 of R534, and the admission itself. R51 does not say whether the stream's own SHED record, which the admission takes over, counts against
the 16,384 records: it is left out of the count, so that the stream itself is never refused NO_RESOURCE for it (DESIGN CHOICE: log entry 122). -/
def State.proposeAdmit (s : State) (h : Pkt) (p : TtPropose) : CmdOut :=
  let c := s.proposed h p
  let old := s.contractOf p.stream
  if 16384 ≤ s.tt.contracts.length - b2n old.isSome then s.proposeRefused stNoResource 0 none
  else match s.admission c with
    | .refused reason port => s.proposeRefused stNotAdmitted (reason + 256 * port) (some c)
    | .fits k after =>
      if p.flags == 1 then ok s (proposeReply 0xFFFF k 0 c.cost c.bytes after (s.limit k))
      else
        let r := s.admitContract c k
        ok r.1 (proposeReply r.2 k 1 c.cost c.bytes after (s.limit k))

/-- TT_PROPOSE (R51, R56, R534). -/
def ttPropose (s : State) (h : Pkt) (p : TtPropose) : CmdOut :=
  match firstBad (s.proposeForm p ++
      [ s.needs h kindStream p.stream, s.proposeEntry p
      , failIf (s.underContract p.stream) stBadParam 0, s.proposeGroups p ]) with
  | some (st, d) => s.proposeRefused st d none
  | none => s.proposeAdmit h p

def execTtPropose (h : Pkt) (p : TtPropose) (s : State) : Host.Outcome State Fault Refusal :=
  cmd (.ttPropose h p) { op := 0x0100, len := some 32 } h s (fun s => ttPropose s h p)

/-! ## Commands on a contract -/

/-- The record that a caller may see (R530): its own, or one it holds a share grant on. -/
def State.visible (s : State) (h : Pkt) (id : Nat) : Option Contract :=
  match tget id s.tt.contracts with
  | some c => if c.part == h.part || s.shared kindStream c.stream h.part then some c else none
  | none => none

/-- A command that needs the owning partition (R530). -/
def State.withOwn (s : State) (h : Pkt) (id : Nat) (k : Contract → CmdOut) : CmdOut :=
  match s.visible h id with
  | none => refuse s stBadParam 0
  | some c => if c.part == h.part then k c else refuse s stNotGranted (grantDetail kindStream c.stream)

/-- TT_RELEASE (R51). -/
def ttRelease (s : State) (h : Pkt) (id : Nat) : CmdOut :=
  if s.tt.profile == .placement then refuse s stWrongState 0
  else s.withOwn h id (fun c => ok (s.freeContract id) (le 1 c.state.code ++ zeros 3))

def execTtRelease (h : Pkt) (contract : Nat) (s : State) : Host.Outcome State Fault Refusal :=
  cmd (.ttRelease h contract) { op := 0x0101, len := some 4 } h s (fun s => ttRelease s h contract)

/-- The reply of Table 02-9. -/
def queryReply (id : Nat) (c : Contract) : List Byte :=
  le 2 id ++ le 1 c.state.code ++ le 1 c.cluster ++ le 1 c.priority ++ le 1 c.protocol ++ le 1 c.reason ++ le 1 c.burst
  ++ le 4 c.rate ++ le 2 c.channels ++ le 2 c.outChannels ++ le 4 c.cost ++ le 4 c.bytes ++ le 4 c.portMask ++ le 4 c.deadlineUs
  ++ le 2 c.groupMask ++ le 2 c.outRate ++ le 2 c.stream ++ zeros 2 ++ le 8 c.admitted ++ le 8 c.change

/-- TT_QUERY (Table 02-9, R530). -/
def ttQuery (s : State) (h : Pkt) (id : Nat) : CmdOut :=
  match s.visible h id with
  | none => refuse s stBadParam 0
  | some c => ok s (queryReply id c)

def execTtQuery (h : Pkt) (contract : Nat) (s : State) : Host.Outcome State Fault Refusal :=
  cmd (.ttQuery h contract) { op := 0x0102, len := some 4, ro := true } h s (fun s => ttQuery s h contract)

/-- TT_REPLACE: placed afresh by R56 with its own cost taken out of its present cluster; its new CLUSTER_MASK stands. A move is no transition of the contract's
state: REASON and CHANGE_STAMP of Table 02-9 stay (DESIGN CHOICE: log entry 145). -/
def ttReplace (s : State) (h : Pkt) (p : TtReplace) : CmdOut :=
  if s.tt.profile == .placement then refuse s stWrongState 0
  else s.withOwn h p.contract (fun c =>
    if c.state == .shed then refuse s stWrongState 0
    else
      let commit := fun k => s.commit k - (if k == c.cluster then c.cost else 0)
      match s.chooseCluster c.cost p.clusterMask commit [] with
      | none => refuse s stNotAdmitted 1
      | some (k, after) =>
        let s1 := s.setContract p.contract { c with clusterMask := p.clusterMask, cluster := k }
        let s2 := if k == c.cluster then s1 else s1.moveItems c.cluster p.contract
        ok s2 (le 1 c.cluster ++ le 1 k ++ zeros 2 ++ le 4 c.cost ++ le 4 after))

def execTtReplace (h : Pkt) (p : TtReplace) (s : State) : Host.Outcome State Fault Refusal :=
  cmd (.ttReplace h p) { op := 0x0103, len := some 4 } h s (fun s => ttReplace s h p)

/-! ## Profiles -/

def profileOf (n : Nat) : Profile := if n == 0 then .fixed else if n == 1 then .live else .placement

/-- Some sentinel's latest ratio is below 1,000 (TT_STATUS.BELOW_RATED). -/
def State.belowRated (s : State) : Bool := s.tt.ratios.any (fun e => decide (e.2 < 1000))

/-- The ratio of a cluster: the lower of its two sentinels' (R44). -/
def State.clusterRatio (s : State) (k : Nat) : Nat :=
  (least ((tget (2 * k) s.tt.ratios).toList ++ (tget (2 * k + 1) s.tt.ratios).toList)).getD 0

/-- The lowest ratio of a cluster read during the preceding 100 ms (R62). -/
def State.lowestRatio (s : State) (k : Nat) : Nat :=
  ((((tgetD k [] s.tt.readings).filter (fun r => decide (s.now < r.1 + 100000000))).getLast?).map (·.2)).getD (s.clusterRatio k)

/-- The limit that an evaluation gives a cluster (R62). -/
def State.newLimit (s : State) (k : Nat) : Nat := s.lowestRatio k * 3600

/-- An evaluation moves the limit of a cluster in service by more than 1 % (R74). -/
def State.limitMoves (s : State) (k : Nat) : Bool :=
  let old := tgetD k 0 s.tt.liveLimit
  s.inService k && decide (old < (s.newLimit k - old) * 100 + (old - s.newLimit k) * 100)

/-- One cluster's evaluation (R62, R64). Answers the number shed. -/
def State.evaluateCluster (s : State) (k : Nat) : State × Nat :=
  let new := s.newLimit k
  let s1 := { s with tt := { s.tt with liveLimit := tset k new s.tt.liveLimit } }
  if s.inService k then s1.shedDown k new 4 else (s1, 0)

/-- A Live evaluation of some clusters (R62, R63), counted in EVAL_SEQ; CAPACITY_CHANGED once where it moves a limit by more than 1 % (R74). -/
def State.evaluate (s : State) (ks : List Nat) : State × Nat :=
  let s1 : State := { s with tt := { s.tt with evalSeq := s.tt.evalSeq + 1 } }
  ks.foldl (fun a k =>
    let r := a.1.evaluateCluster k
    (r.1, a.2 + r.2)) (if ks.any s.limitMoves then s1.evtFree s1.observers 0x012 else s1, 0)

/-- PROFILE_CHANGED and the reply of TT_SET_PROFILE (R69). -/
def profileDone (s : State) (old new shed : Nat) : CmdOut :=
  ok (s.evt s.everyone 0x013 (old + 256 * new)) (le 1 old ++ le 1 new ++ le 2 shed)

def State.withProfile (s : State) (p : Profile) : State := { s with tt := { s.tt with profile := p } }

/-- Into Live: the first evaluation is made at once, from the limits of the profile before (R70). -/
def State.enterLive (s : State) : State × Nat :=
  let before := allClusters.map (fun k => (k, s.limit k))
  ({ (s.withProfile .live) with tt := { (s.withProfile .live).tt with liveLimit := before } }).evaluate allClusters

/-- Table 02-6a from Live to Fixed. -/
def setFixedFromLive (s : State) (force : Bool) : CmdOut :=
  if s.belowRated then refuse s stWrongState 0
  else
    let excess := allClusters.filter (fun k => decide (3400000 < s.commit k))
    match excess with
    | k :: _ =>
      if force then
        let r := excess.foldl (fun (a : State × Nat) k =>
          let x := a.1.shedDown k 3400000 7
          (x.1, a.2 + x.2)) (s, 0)
        profileDone (r.1.withProfile .fixed) 1 0 r.2
      else refuse s stWouldBreak (((s.shedOrder k).head?.map (·.1)).getD 0xFFFF)
    | [] => profileDone (s.withProfile .fixed) 1 0 0

/-- Table 02-6a into Placement. -/
def setPlacement (s : State) (force : Bool) : CmdOut :=
  if s.safetyPresent then refuse s stWrongState 0
  else match s.heldContracts with
    | [] => profileDone (s.withProfile .placement) s.tt.profile.code 2 0
    | e :: r =>
      if force then
        let s1 := (e :: r).foldl (fun s x => s.shedContract x.1 7) s
        profileDone (s1.withProfile .placement) s.tt.profile.code 2 (r.length + 1)
      else refuse s stWouldBreak e.1

/-- TT_SET_PROFILE (R69, R70, Table 02-6a). -/
def ttSetProfile (s : State) (h : Pkt) (p : TtSetProfile) : CmdOut :=
  check s [ownerOnly h, badIf (2 < p.profile) 0] (fun _ =>
    let old := s.tt.profile
    let new := profileOf p.profile
    if new == old then ok s (le 1 old.code ++ le 1 new.code ++ le 2 0)
    else if new == .placement then setPlacement s p.force
    else if old == .placement && !s.hst.placed.isEmpty then refuse s stWrongState 0
    else if new == .live then
      if s.safetyPresent then refuse s stWrongState 0
      else
        let r := s.enterLive
        profileDone r.1 old.code 1 r.2
    else if old == .live then setFixedFromLive s p.force
    else profileDone (s.withProfile .fixed) old.code 0 0)

def execTtSetProfile (h : Pkt) (p : TtSetProfile) (s : State) : Host.Outcome State Fault Refusal :=
  cmd (.ttSetProfile h p) { op := 0x0104, len := some 4 } h s (fun s => ttSetProfile s h p)

/-- TT_CHECK_REMOVAL: R71 and R72 as a trial (R72). -/
def ttCheckRemoval (s : State) (h : Pkt) (k : Nat) : CmdOut :=
  check s [ownerOnly h, badIf (15 < k) 0, failIf (s.tt.profile == .placement) stWrongState 0] (fun _ =>
    let plan := s.removalPlan k
    ok s (le 2 plan.1.length ++ le 2 plan.2.length ++ le 2 ((plan.2.head?.map (·.1)).getD 0xFFFF) ++ zeros 2))

def execTtCheckRemoval (h : Pkt) (cluster : Nat) (s : State) : Host.Outcome State Fault Refusal :=
  cmd (.ttCheckRemoval h cluster) { op := 0x0105, len := some 4, ro := true } h s (fun s => ttCheckRemoval s h cluster)

/-- TT_LIST (R530). -/
def ttList (s : State) (h : Pkt) (p : TtList) : CmdOut :=
  check s [badIf (1000 < p.count) 2, badIf (5 < p.filter && p.filter != 0xFF) 4] (fun _ =>
    let all := s.tt.contracts.filter (fun e =>
      (s.visible h e.1).isSome && (p.filter == 0xFF || e.2.state.code == p.filter))
    let out := (all.filter (fun e => decide (p.start ≤ e.1))).take p.count
    ok s (le 2 all.length ++ le 2 out.length ++ out.flatMap (fun e => le 2 e.1 ++ le 1 e.2.state.code ++ le 1 e.2.cluster)))

def execTtList (h : Pkt) (p : TtList) (s : State) : Host.Outcome State Fault Refusal :=
  cmd (.ttList h p) { op := 0x0106, len := some 8, ro := true } h s (fun s => ttList s h p)

/-! ## Sentinels (R44, R45, R60, R61, R67) -/

/-- The pair of a cluster is judged at the reading of its second sentinel: three readings beyond 125 thousandths make it disagree, three within end it
(R45). -/
def PairWatch.read (w : PairWatch) (apart : Bool) : PairWatch :=
  if apart then { beyond := w.beyond + 1, within := 0, disagree := w.disagree || decide (3 ≤ w.beyond + 1) }
  else { beyond := 0, within := w.within + 1, disagree := w.disagree && decide (w.within + 1 < 3) }

/-- Some pair disagrees (TT_STATUS.PAIR_DISAGREE). -/
def State.pairDisagree (s : State) : Bool := s.tt.pairs.any (fun e => e.2.disagree)

def State.judgePair (s : State) (k : Nat) : State :=
  match tget (2 * k) s.tt.ratios, tget (2 * k + 1) s.tt.ratios with
  | some a, some b =>
    let w := (tgetD k {} s.tt.pairs).read (decide (125 < (a - b) + (b - a)))
    let s1 := { s with tt := { s.tt with pairs := tset k w s.tt.pairs } }
    if s1.pairDisagree && !s.pairDisagree then s1.fault 42 k 0xFF
    else if !s1.pairDisagree && s.pairDisagree then s1.faultClear 42 else s1
  | _, _ => s

/-- Take one reading: the ratio, the readings of the latest 100 ms that no later one undercuts, and how long every sentinel has been at rated speed. -/
def State.takeRatio (s : State) (n ratio : Nat) : State :=
  let s1 := { s with tt := { s.tt with ratios := tset n ratio s.tt.ratios } }
  let k := n / 2
  let r := s1.clusterRatio k
  let keep := (tgetD k [] s.tt.readings).filter (fun e => decide (s.now < e.1 + 100000000) && decide (e.2 < r))
  { s1 with tt := { s1.tt with
      readings := tset k ((s.now, r) :: keep) s1.tt.readings
      ratedSince := if s1.belowRated then none else s.tt.ratedSince.or (some s.now) } }

/-- What a ratio below rated leads to: the loss of the basis in Fixed (R60), a mark in Live and Placement (R67). -/
def State.judgeSpeed (s : State) (was : Bool) : State :=
  if !s.belowRated then s
  else if s.tt.profile == .fixed then
    if s.tt.basisLost then s
    else
      let f := s.free
      let s1 := f.2.faultPair 40 41 f.1 0xFF
      ({ s1 with tt := { s1.tt with basisLost := true } }).evtFree s1.everyone 0x014
  else if was then s else s.evtFree s.everyone 0x014

/-- SENTINEL_READING (R44, R45, R60, R67). -/
def execSentinelReading (t sentinel ratio : Nat) (s : State) : Host.Outcome State Fault Refusal :=
  event t s (fun s =>
    if s.fabricUp && sentinel < 32 then
      let s1 := s.takeRatio sentinel ratio
      let s2 := if sentinel % 2 == 1 then s1.judgePair (sentinel / 2) else s1
      s2.judgeSpeed s.belowRated
    else s)

/-- BASIS_RESTORED: every sentinel has read at least 1,000 for 1 s (R61). -/
def execBasisRestored (t : Nat) (s : State) : Host.Outcome State Fault Refusal :=
  event t s (fun s =>
    if s.fabricUp && s.tt.basisLost && s.tt.ratedSince.any (fun r => decide (r + 1000000000 ≤ s.now)) then
      let s1 := ({ s with tt := { s.tt with basisLost := false } }).faultClear 40
      (s1.faultClear 41).evtFree s1.everyone 0x015
    else s)

/-- LIVE_EVALUATION: at a multiple of 100 ms every cluster is evaluated, once for each such tick (R62, R64). The tick is the row's own stamp, by which the
evaluation takes its place (R58). -/
def execLiveEvaluation (t : Nat) (s : State) : Host.Outcome State Fault Refusal :=
  event t s (fun s =>
    if s.fabricUp && s.tt.profile == .live && t % 100000000 == 0 && s.tt.evalTick.all (fun e => decide (e < t)) then
      (({ s with tt := { s.tt with evalTick := some t } } : State).evaluate allClusters).1
    else s)

/-- LIVE_URGENT_EVALUATION: a cluster is overcommitted even without the Live margin (R63). -/
def execLiveUrgentEvaluation (t cluster : Nat) (s : State) : Host.Outcome State Fault Refusal :=
  event t s (fun s =>
    if s.fabricUp && s.tt.profile == .live && cluster < 16 && s.clusterRatio cluster * 4000 < s.commit cluster then (s.evaluate [cluster]).1
    else s)

end Sys2Proof.Machine
end

