-- ==== Sys2Proof/Machine/Platform.lean ====
section
/-!
DEFINITION. The platform rows (04_platform R118 to R146): groups, policies, rings, output streams, history, writes and departures.
-/
namespace Sys2Proof.Machine

/-! ## Group life (R120, R121, R137) -/

def GroupState.code : GroupState → Nat
  | .disabled => 1
  | .waitTime => 2
  | .departing => 3

/-- Start departing: the first instant due more than 1 ms after a stamp (R121). -/
def Group.depart (g : Group) (b : Base) (t : Stamp) : Group :=
  { g with state := .departing, first := some (b.firstAfter t g.step g.set.waitUs), last := none, lastRel := 0, house := [], released := [], skips := [], due := []
           waits := [(0, g.set.waitUs)] }

/-- Enable a group: it departs, or waits for its base (R121). -/
def State.groupEnable (s : State) (n : Nat) (g : Group) (t : Stamp) : State :=
  let g0 : Group := { g with seq := 0, resumed := true, horizons := [(0, g.set.horizonMs)], released := [], house := [], due := [], last := none, first := none }
  match s.base g.set.tbSel with
  | some b =>
    if b.valid then s.setGroup n (g0.depart b t)
    else (s.setGroup n { g0 with state := .waitTime }).evtFree s.everyone 0x0A8
  | none => (s.setGroup n { g0 with state := .waitTime }).evtFree s.everyone 0x0A8

/-- The groups of a base that has made its acquisition step start to depart, but for Stabled and the wake, after which they do (R147). -/
def State.groupsAcquired (s : State) (tb : Nat) : State :=
  match s.base tb with
  | none => s
  | some b => s.plt.groups.foldl (fun s e =>
      if e.2.set.tbSel == tb && e.2.state == .waitTime && s.pwr.state != .stabled && s.pwr.state != .waking then s.setGroup e.1 (e.2.depart b s.now) else s) s

/-- Groups of a base that gives no reading any more wait for its acquisition step. -/
def State.groupsLost (s : State) (tb : Nat) : State :=
  s.plt.groups.foldl (fun s e =>
    if e.2.set.tbSel == tb && e.2.state == .departing then
      (((s.setGroup e.1 { e.2 with state := .waitTime }).evtFree s.everyone 0x0A8).freeSlots).metersRefresh
    else s) s

/-- A base has passed the due time of an instant at a stamp. -/
def Group.dueAt (g : Group) (b : Base) (t : Stamp) (inst : Nat) : Bool :=
  decide (((dueThirds inst (g.wait inst) * baseUnit : Nat) : Int) ≤ 3 * b.exact t)

/-- How many instants from one on a base has passed at a stamp, all under one wait budget. -/
def Group.dueCount (g : Group) (b : Base) (t : Stamp) (waitUs inst : Nat) : Nat :=
  let q := (3 * b.exact t - ((3000 * waitUs * baseUnit : Nat) : Int)) / ((2500000 * baseUnit : Nat) : Int)
  if q < (inst : Int) then 0 else (q.toNat - inst) / Nat.max g.step 1 + 1

/-- A group after a forward step of its base, and how many of its instants the step has skipped (R137): each instant is judged under its own wait budget, one
by one up to the first that the newest budget governs; what an earlier step has skipped is not counted again. An instant that was due before the step, and waits
only for its hand-over, is none of them. -/
def Group.stepped (g : Group) (b : Base) (t : Stamp) : Group × Nat :=
  match g.nextInst with
  | none => (g, 0)
  | some i =>
    let newest := g.waits.headD (0, g.set.waitUs)
    let old := (List.range ((newest.1 - i + g.step - 1) / Nat.max g.step 1)).map (fun k => i + k * g.step)
    let a := i + old.length * g.step
    let k := g.dueCount b t newest.2 a
    let fresh := fun (l : List Nat) => l.filter (fun x => !g.skips.contains x && (tget x g.due).isNone)
    let gone := fresh (old.filter (fun j => g.dueAt b t j))
    match ((fresh old).find? (fun j => !g.dueAt b t j)).or ((g.due.map (·.1)).find? (fun j => !g.passed j)) with
    | none =>
      let upTo := a + k * g.step
      if old.length + k == 0 then (g, 0)
      else ({ g with last := some (upTo - g.step), skips := g.skips.filter (fun x => decide (upTo ≤ x)) },
        gone.length + (k - (g.skips.filter (fun x => decide (a ≤ x) && decide (x < upTo))).length))
    | some j =>
      let more := fresh ((List.range k).map (fun n => a + n * g.step))
      ({ g with last := if j == i || !g.due.isEmpty then g.last else some (j - g.step)
                skips := g.skips ++ gone.filter (fun x => decide (j < x) || !g.due.isEmpty) ++ more },
        gone.length + more.length)

/-- The unreleased instants of one group that a forward step has passed are discarded, and counted. -/
def groupStepped (tb : Nat) (b : Base) (a : State × Nat) (n : Nat) (g : Group) : State × Nat :=
  if g.set.tbSel == tb && g.state == .departing then
    let r := g.stepped b a.1.now
    (a.1.setGroup n r.1, a.2 + r.2)
  else a

/-- A forward step of a base: unreleased instants whose due time it has passed are discarded, INSTANTS_SKIPPED once. -/
def State.groupsStepped (s : State) (tb : Nat) : State :=
  match s.base tb with
  | none => s
  | some b =>
    let r := s.plt.groups.foldl (fun a e => groupStepped tb b a e.1 e.2) (s, 0)
    if r.2 == 0 then s else ((r.1.count .plt 7 r.2).evtFree r.1.everyone 0x0A7).retireAll

/-! ## PLT_GROUP_SET, PLT_GROUP_QUERY -/

/-- Something names a group (PLT_GROUP_SET). -/
def State.groupNamed (s : State) (n : Nat) : Bool :=
  !(s.members n).isEmpty
  || s.alc.setting.any (fun x => x.trig == 0 && x.group == n)
  || s.osc.dets.any (fun e => (e.2.set.src != 0xFF && e.2.set.group == n) || e.2.next.any (fun x => x.1.src != 0xFF && x.1.group == n))
  || s.osc.sigs.any (fun e => e.2.set.src == 0 && e.2.set.group == n)
  || s.coh.set.any (fun p => p.group == n) || s.coh.next.any (fun x => x.1.group == n)
  || s.nrg.points.any (fun e => e.2.set.source == 2 && e.2.set.group == n)
  || s.plt.rings.any (fun e => e.2.set.ringSize != 0 && e.2.set.groupMask.testBit n)
  || s.plt.outs.any (fun e => e.2.set.group == n)

/-- FIRST_INSTANT in ns, free where there is none, and MEMBERS. -/
def State.groupReply (s : State) (n : Nat) (first : Option Nat) : CmdOut :=
  match first with
  | some i => ok s (le 8 (instNs i) ++ le 2 (s.members n).length ++ zeros 2)
  | none => ok s.free.2 (le 8 s.free.1 ++ le 2 (s.members n).length ++ zeros 2)

/-- A new wait budget of a departing group applies from the first instant due more than 1 ms after completion (R120). -/
def State.groupWait (s : State) (g : Group) (waitUs : Nat) (t : Stamp) : Group × Option Nat :=
  match s.base g.set.tbSel, g.nextInst with
  | some b, some i =>
    let from_ := Nat.max i (b.firstAfter t g.step waitUs)
    ({ g with waits := (from_, waitUs) :: g.waits }, some from_)
  | _, _ => ({ g with waits := [(0, waitUs)] }, none)

/-- What a wait budget and a rate would break: a contract bound to the group whose deadline is below the budget (02_timetable R49; a stream placed without
a contract has none), or a member whose instants the group would not divide (R119). The record of a SHED contract counts as bound (DESIGN CHOICE: log entry
146). -/
def State.groupBreaks (s : State) (n waitUs rate : Nat) : Option (Nat × Contract) :=
  (s.members n).find? (fun e =>
    (decide (e.1 < 65536) && decide (e.2.deadlineUs < waitUs)) || e.2.instRate % Nat.max rate 1 != 0)

/-- A setting with the defaults of PLT_GROUP_SET. -/
def PltGroupSet.filled (p : PltGroupSet) : PltGroupSet :=
  { p with waitUs := if p.waitUs == 0 then 20000 else p.waitUs, horizonMs := if p.horizonMs == 0xFFFFFFFF then 2000 else p.horizonMs }

/-- PLT_GROUP_SET once its defaults are filled. -/
def groupSet (s : State) (h : Pkt) (p : PltGroupSet) : CmdOut :=
  let old := s.group p.group
  let live := old.any (fun g => g.state != .disabled)
  let t := s.doneAt h
  if p.delete then
    check s [ownerOnly h, badIf (15 < p.group) 0] (fun _ =>
      if old.isNone then ok s (zeros 12)
      else if s.groupNamed p.group then refuse s stWrongState 0
      else ({ s with plt := { s.plt with groups := tdel p.group s.plt.groups } }).groupReply p.group none)
  else
  check s
    [ ownerOnly h, zeroIf (p.tbSel == 0) 1, zeroIf (p.rate == 0) 4, badIf (15 < p.group) 0, badIf (3 < p.tbSel) 1
    , badIf (!frameRates.contains p.rate) 4, badIf (p.waitUs < 1000 || 500000 < p.waitUs) 8, badIf (10000 < p.horizonMs) 12
    , failIf (live && old.any (fun g => g.set.tbSel != p.tbSel || g.set.rate != p.rate)) stWrongState 0
    , (s.groupBreaks p.group p.waitUs p.rate).map (fun e => (stWouldBreak, Nat.min e.1 0xFFFF)) ]
    (fun _ =>
      let g0 : Group := match old with
        | some g => { g with set := p }
        | none => { set := p }
      if !p.enable then
        (((s.setGroup p.group { g0 with state := .disabled, first := none, last := none, house := [], released := [] }).freeSlots).metersRefresh).groupReply
          p.group none
      else if !live then
        let s1 := s.groupEnable p.group g0 t
        s1.groupReply p.group ((s1.group p.group).bind (·.first))
      else
        let oldSet := (old.map (·.set)).getD p
        let w := if oldSet.waitUs == p.waitUs then (g0, g0.nextInst) else s.groupWait g0 p.waitUs t
        let g1 : Group := if oldSet.horizonMs == p.horizonMs then w.1 else { w.1 with horizons := (t, p.horizonMs) :: w.1.horizons }
        (s.setGroup p.group g1).groupReply p.group w.2)

def pltGroupSet (s : State) (h : Pkt) (p : PltGroupSet) : CmdOut := groupSet s h (PltGroupSet.filled p)

def execPltGroupSet (h : Pkt) (p : PltGroupSet) (s : State) : Host.Outcome State Fault Refusal :=
  cmd (.pltGroupSet h p) { op := 0x0300, len := some 24 } h s (fun s => pltGroupSet s h p)

def pltGroupQuery (s : State) (n : Nat) : CmdOut :=
  check s [badIf (15 < n) 0] (fun _ =>
    match s.group n with
    | none => ok s (zeros 40)
    | some g =>
      ok s (le 1 g.state.code ++ le 1 (b2n g.set.enable + 2 * b2n g.set.fullHouse) ++ le 1 g.set.tbSel ++ zeros 1 ++ le 4 g.set.rate
        ++ le 4 g.set.waitUs ++ le 4 g.set.horizonMs ++ le 8 ((g.last.map instNs).getD 0) ++ le 8 g.seq ++ le 2 (s.members n).length ++ zeros 6))

def execPltGroupQuery (h : Pkt) (group : Nat) (s : State) : Host.Outcome State Fault Refusal :=
  cmd (.pltGroupQuery h group) { op := 0x0301, len := some 4, ro := true } h s (fun s => pltGroupQuery s group)

/-! ## PLT_CHAN_POLICY (R131, R132) -/

def pltChanPolicy (s : State) (h : Pkt) (p : PltChanPolicy) : CmdOut :=
  check s
    [ badIf (16383 < p.stream) 0, s.needs h kindStream p.stream, zeroIf (p.count == 0) 4, zeroIf (p.policy == 1 && p.holdLimit == 0) 7
    , badIf (255 < p.first) 2, badIf (256 < p.first + p.count) 4, badIf (2 < p.policy) 6 ]
    (fun _ =>
      let t := s.doneAt h
      let pol := (List.range p.count).foldl (fun m i => tmod (chanKey p.stream (p.first + i)) [] ((t, p.policy, p.holdLimit) :: ·) m) s.plt.policy
      ok { s with plt := { s.plt with policy := pol } })

def execPltChanPolicy (h : Pkt) (p : PltChanPolicy) (s : State) : Host.Outcome State Fault Refusal :=
  cmd (.pltChanPolicy h p) { op := 0x0302, len := some 8 } h s (fun s => pltChanPolicy s h p)

/-! ## PLT_RING_SET (R139) -/

/-- The largest slice record of the groups of a mask for a partition. -/
def State.largestRecord (s : State) (part mask : Nat) : Nat :=
  (maskBits 16 mask).foldl (fun a g =>
    Nat.max a (64 + 16 * (((s.members g).filter (fun e => e.2.part == part || s.shared kindStream e.2.stream part)).map (·.2.chans)).sum)) 0

def pltRingSet (s : State) (h : Pkt) (p : PltRingSet) : CmdOut :=
  let on := p.ringSize != 0
  check s
    [ badIf (3 < p.ring) 0, badIf (65536 ≤ p.groupMask) 2, badIf (!ringSizeOk p.ringSize) 8
    , badIf (on && p.ringSize < 2 * s.largestRecord h.part p.groupMask) 8
    , if on then stagingOnly h p.ringAddr else none, badIf (on && p.ringAddr % 4096 != 0) 16
    , if on then stagingOnly h p.prodWbAddr else none, badIf (on && p.prodWbAddr % 8 != 0) 24 ]
    (fun _ => ok { s with plt := { s.plt with rings := tset (ringKey h.part p.ring) { set := p } s.plt.rings } })

def execPltRingSet (h : Pkt) (p : PltRingSet) (s : State) : Host.Outcome State Fault Refusal :=
  cmd (.pltRingSet h p) { op := 0x0303, len := some 32 } h s (fun s => pltRingSet s h p)

/-- A write of PLT_RING_CONS_n: a value that would make the free space exceed the ring is ignored. -/
def State.ringConsWrite (s : State) (part ring value : Nat) : State :=
  match tget (ringKey part ring) s.plt.rings with
  | some r =>
    let v := BitVec.ofNat 32 value
    if ring ≤ 3 && (r.prod - v).toNat ≤ r.set.ringSize then
      { s with plt := { s.plt with rings := tset (ringKey part ring) { r with cons := v } s.plt.rings } }
    else s
  | none => s

def execPltRingConsWrite (t part ring value : Nat) (s : State) : Host.Outcome State Fault Refusal :=
  event t s (fun s => s.ringConsWrite part ring value)

/-! ## Output streams (R141 to R143) -/

/-- A setting with the defaults of Table 04-10. -/
def PltOutSet.filled (p : PltOutSet) : PltOutSet :=
  let d := if p.format == 2 then 102 else 4713
  { p with udpSrc := if p.udpSrc == 0 then d else p.udpSrc, udpDst := if p.udpDst == 0 then d else p.udpDst
           div := if p.div == 0 then 1 else p.div }

/-- DIV of a setting: 1 to 24, with a rate of Table 04-3. -/
def State.divOk (s : State) (p : PltOutSet) : Bool :=
  p.div ≤ 24 && (s.group p.group).any (fun g => g.set.rate % Nat.max p.div 1 == 0 && frameRates.contains (g.set.rate / Nat.max p.div 1))

/-- An output stream that an enabling setting starts: CFGCNT counts a change of its map (R141). -/
def Out.started (o : Out) (p : PltOutSet) : Out :=
  { o with set := p, on := true, cfgCnt := if o.mapChanged then (o.cfgCnt + 1) % 65536 else o.cfgCnt, mapChanged := false }

def pltOutSet (s : State) (h : Pkt) (p0 : PltOutSet) : CmdOut :=
  let p := PltOutSet.filled p0
  let old := tget p.out s.plt.outs
  let running := old.any (fun o => o.set.enable)
  let put := fun (o : Out) => ok { s with plt := { s.plt with outs := tset p.out o s.plt.outs } }
  if p.delete then
    check s [badIf (63 < p.out) 0, s.needs h kindOut p.out, failIf running stWrongState 0] (fun _ =>
      ok { s with plt := { s.plt with outs := tdel p.out s.plt.outs } })
  else
  let named := if p.sign && p.format == 2 then [p.key] else []
  onSlots s h named named (fun _ => check s
    [ badIf (63 < p.out) 0, s.needs h kindOut p.out
    , zeroIf (p.idCode == 0) 8, zeroIf (p.dstMac == 0) 12, zeroIf (p.dstIp == 0) 24
    , badIf (2 < p.format) 1, badIf (15 < p.group) 2, badIf (23 < p.port) 3, badIf (4094 < p.vlan) 6
    , badIf (65535 < p.idCode || (p.format ≤ 1 && p.idCode == 65535)) 8, badIf (7 < p.pcp) 10, badIf (63 < p.dscp) 11
    , if p.sign && p.format == 2 then s.needs h kindKey p.key else none
    , badIf (p.sign && p.format == 2 && !s.signs p.key) 22, badIf (3 < p.tag || (p.sign && p.format == 2 && (s.key p.key).any (fun k => k.alg != p.tag + 1))) 23, badIf (!s.divOk p) 56
    , failIf (running && old.any (fun o => o.set != p && { o.set with enable := false } != p)) stWrongState 0 ]
    (fun _ =>
      match old with
      | none => put { set := p, cfgCnt := 0 }
      | some o =>
        if p.enable && !running then
          put (o.started p)
        else put { o with set := p }))

def execPltOutSet (h : Pkt) (p : PltOutSet) (s : State) : Host.Outcome State Fault Refusal :=
  cmd (.pltOutSet h p) { op := 0x0304, len := some 64 } h s (fun s => pltOutSet s h p)

/-- TYPE of a channel as a map is set. DESIGN CHOICE: while a new layout is pending, the pending one gives the TYPE; R142 does not say which (log 120). -/
def State.mapType (s : State) (e : OutEntry) : Nat :=
  match s.carrierOf e.stream with
  | none => 3
  | some c =>
    let now := ((s.streamSt e.stream).pend.bind (·.from_)).getD 0
    s.chanType c.2 now e.ch

/-- Phasors, one frequency, one ROCOF, analogues, digital words, in this order. -/
def blockOrder (l : List Nat) : Bool :=
  let a := l.dropWhile (· == 0)
  match a with
  | 1 :: 2 :: r => ((r.dropWhile (· == 3)).dropWhile (· == 4)).isEmpty
  | _ => false

def pltOutMap (s : State) (h : Pkt) (p : PltOutMap) : CmdOut :=
  let n := p.entries.length
  let types := p.entries.map s.mapType
  match tget p.out s.plt.outs with
  | none => check s [badIf (63 < p.out) 0, s.needs h kindOut p.out] (fun _ => refuse s stBadParam 0)
  | some o =>
    let o' : Out := if n == 0 then { o with blocks := tdel p.block o.blocks, types := tdel p.block o.types, mapChanged := true }
      else { o with blocks := tset p.block p o.blocks, types := tset p.block types o.types, mapChanged := true }
    check s
      [ failIf (h.paramLen != 24 + 8 * n) stBadLength 0, badIf (63 < p.out) 0, s.needs h kindOut p.out
      , badIf (255 < p.block) 1, badIf (256 < n) 2
      , (p.entries.find? (fun e => !s.reads h.part kindStream e.stream)).map (fun e => (stNotGranted, grantDetail kindStream e.stream))
      , badIf (o.set.format ≤ 1 && n != 0 && !blockOrder types) 24
      , failIf o.set.enable stWrongState 0
      , failIf ((s.port o.set.port).maxFrame < o'.frameLen + 4) stNoResource 0 ]
      (fun _ => ok { s with plt := { s.plt with outs := tset p.out o' s.plt.outs } })

def execPltOutMap (h : Pkt) (p : PltOutMap) (s : State) : Host.Outcome State Fault Refusal :=
  cmd (.pltOutMap h p) { op := 0x0305, len := none } h s (fun s => pltOutMap s h p)

/-- OUT_COMMAND_FRAME: obeyed, or counted (R143). DESIGN CHOICE: the length of a header or configuration answer is a free value and its content, which the
standard gives, is not formed (log 121). -/
def State.outCommand (s : State) (f : OutCommand) : State :=
  match s.plt.outs.find? (fun e => e.2.set.enable && e.2.set.answerCmd && e.2.set.format ≤ 1 && e.2.set.port == f.port
      && e.2.set.dstIp == f.srcIp && e.2.set.udpSrc == f.udpDst && e.2.set.idCode == f.idCode) with
  | none => s
  | some (n, o) =>
    if !(1 ≤ f.cmd && f.cmd ≤ 5 || (f.cmd == 6 && o.set.cfg3)) then s
    else if o.lastAnswer.any (fun t => decide (s.now < t + 1000000000)) then
      { s with plt := { s.plt with outs := tset n { o with ignored := o.ignored + 1 } s.plt.outs } }
    else
      let o' : Out := { o with lastAnswer := some s.now, on := if f.cmd == 1 then false else if f.cmd == 2 then true else o.on }
      let s1 := ({ s with plt := { s.plt with outs := tset n o' s.plt.outs } }).evtFree [s.holder kindOut n] 0x0A9
      if f.cmd ≤ 2 then s1
      else s1.free.2.txOffer o.set.port 3 { what := .outAnswer n f.cmd, len := s1.free.1, launch := none }

def execOutCommandFrame (t : Nat) (f : OutCommand) (s : State) : Host.Outcome State Fault Refusal :=
  event t s (fun s => if s.fabricUp then s.outCommand f else s)

/-! ## PLT_HISTORY_READ -/

def pltHistoryRead (s : State) (h : Pkt) (p : PltHistoryRead) : CmdOut :=
  check s [badIf (15 < p.group) 0, if p.bufLen == 0 then none else stagingOnly h p.bufAddr] (fun _ =>
    match s.plt.history.find? (fun x => x.group == p.group && instNs x.inst == p.instant) with
    | none => refuse s stNoResource 0
    | some x =>
      let y := s.seen h.part x
      copyOut s p.bufAddr p.bufLen (sliceImage y 0) (le 4 (recordLen y) ++ zeros 4))

def execPltHistoryRead (h : Pkt) (p : PltHistoryRead) (s : State) : Host.Outcome State Fault Refusal :=
  cmd (.pltHistoryRead h p) { op := 0x0306, len := some 32, ro := true } h s (fun s => pltHistoryRead s h p)

/-! ## Writes and departures -/

/-- The stage S1 monitor compares items of ACTIVE contracts in Fixed and Live (R39). -/
def State.stageOne (s : State) (x : Item) (c : Contract) : State :=
  s.latency 1 (s.now - x.emit) (if c.state == .active && s.tt.profile != .placement then some 500000 else none)

/-- The release gate lets the expected item through (R327). -/
def State.gateRelease (s : State) (f : Flow) (x : Item) : State :=
  let held := f.faulted && !f.resumeAt.any (fun r => decide ((x.fsn - r).toNat < 2147483648))
  let f1 : Flow := Flow.advance (f.gone.length + 1) { f with
    gate := f.gate.filter (fun y => y.fsn != x.fsn), nextWrite := f.nextWrite + 1, faulted := held
    resumeAt := if held then f.resumeAt else none }
  let s1 := (s.setFlow x.stream f1).trace 3 ((x.ranOn.map (·.1)).getD 0) 0xFF x
  let s2 := match s1.carrier x.contract with
    | some c => if held then s1 else (s1.pltWrite x.contract c x.inst x.arrival x.vals).stageOne x c
    | none => s1
  s2.emitWaiting x.stream

/-- The gate of a stream holds until the first item of the stream's next frame (R329). -/
def State.gateHold (s : State) (stream : Nat) : State :=
  let s1 := s.modFlow stream (fun f => { f with faulted := true, resumeAt := none })
  { s1 with sch := { s1.sch with gateFaultSeen := true } }

/-- PLATFORM_WRITE. A number that is neither waiting nor in flight is a gate fault (R329). -/
def State.platformWrite (s : State) (stream fsn : Nat) : State :=
  let f := s.flow stream
  let n := BitVec.ofNat 32 fsn
  match f.gate.find? (fun x => x.fsn == n) with
  | some x => if n == f.nextWrite then s.gateRelease f x else s
  | none =>
    if (n - f.nextWrite).toNat < (f.nextEmit - f.nextWrite).toNat then s
    else (s.gateHold stream).faultPair 65 66 stream 0xFF

def execPlatformWrite (t stream fsn : Nat) (s : State) : Host.Outcome State Fault Refusal :=
  event t s (fun s => if s.fabricUp then s.platformWrite stream fsn else s)

/-- DEPARTURE_RELEASE: the next instant of a departing group, when it is due or its house is full; groups of one release tick go in increasing number
(R128), so that a row out of that order is no hand-over. -/
def State.departure (s : State) (n inst : Nat) : State :=
  match s.group n with
  | none => s
  | some g =>
    if g.state == .departing && g.nextInst == some inst then
      match s.releaseTick g inst with
      | some (rel, early) => if s.pastEntry rel || s.lowerFirst n rel then s else (s.release n g inst rel early).latency 2 (s.now - rel) (some 20000)
      | none => s
    else s

def execDepartureRelease (t group instant : Nat) (s : State) : Host.Outcome State Fault Refusal :=
  event t s (fun s => if s.fabricUp then s.departure group instant else s)

/-- Sidings records whose horizons have all ended (R136). -/
def execSidingsRecordFree (t : Nat) (s : State) : Host.Outcome State Fault Refusal :=
  event t s (fun s => { s with plt := { s.plt with sidings := s.plt.sidings.filter (fun x => decide (s.now < x.ends)) } })

/-- A due departure not handed over within 1 ms (R146, Table 04-17). -/
def execDepartureOverdue (t group instant : Nat) (s : State) : Host.Outcome State Fault Refusal :=
  event t s (fun s =>
    match s.group group with
    | none => s
    | some g =>
      if s.fabricUp && g.state == .departing && g.nextInst == some instant
         && (s.releaseTick g instant).any (fun r => decide (r.1 + 1000000 ≤ s.now)) then
        s.free.2.faultPair 44 45 s.free.1 0xFF
      else s)

end Sys2Proof.Machine
end

