-- ==== Sys2Proof/Machine/Ports.lean ====
section
/-!
DEFINITION. The port rows (13_ports R372 to R396, 12_time R365 and R366).
-/
namespace Sys2Proof.Machine

/-! ## Commands -/

/-- A mode that a port has (Table 13-1). -/
def modeFits (p m : Nat) : Bool :=
  m == 0 || (if p ≤ 15 then m ≤ 3 else if p ≤ 19 then m == 4 || m == 5 else m == 6 || m == 7)

/-- FEC and the flags that go with a mode. -/
def fecFits (m fec : Nat) : Bool := fec == 0 || (fec == 1 && (m == 1 || m == 2)) || (fec == 2 && m == 1)

/-- Something names a port (PRT_MODE_SET). -/
def State.portNamed (s : State) (p : Nat) : Bool :=
  s.tt.contracts.any (fun e => e.2.isHeld && e.2.portMask.testBit p)
  || s.plt.outs.any (fun e => e.2.set.port == p)
  || s.alc.active.any (fun im => im.pubs.any (fun e => e.ports.contains p))
  || s.tb.ptp.any (fun e => e.2.set.portMask.testBit p)

/-- The line rate of a mode in Mbit/s, 0 where the link partner or nothing gives it (Table 13-1). -/
def modeSpeed (m : Nat) : Nat :=
  match m with
  | 1 => 25000 | 2 => 10000 | 3 => 1000 | 5 => 2500 | 6 => 100 | 7 => 10 | _ => 0

/-- The duplex that settings put in force: as HALF says with LINK_SRC 1, as before where the PHY gives it, else full. -/
def PortSt.duplexUnder (x : PortSt) (p : PrtModeSet) : Bool :=
  if p.mode == 6 || p.mode == 7 then (if p.linkSrc then !p.half else x.fullDuplex) else true

/-- New settings leave the link as it is: MODE, FEC and duplex stay, and a fixed speed is the one in force (R373). -/
def PortSt.keepsLink (x : PortSt) (p : PrtModeSet) : Bool :=
  x.mode.any (fun m => m.mode == p.mode && m.fec == p.fec) && x.duplexUnder p == x.fullDuplex
  && (!x.link || !p.linkSrc || modeSpeed p.mode == 0 || modeSpeed p.mode == x.speedMbps)

/-- Only a change of MODE, FEC or duplex takes the link down. The other settings hold for frames whose first bit crosses the ball after the completion stamp
(R373). -/
def prtModeSet (s : State) (p0 : PrtModeSet) (h : Pkt) : CmdOut :=
  let p : PrtModeSet := { p0 with maxFrame := if p0.maxFrame == 0 then 9216 else p0.maxFrame }
  check s
    [ badIf (23 < p.port) 0, ownerOnly h, badIf (!modeFits p.port p.mode) 1, badIf (!fecFits p.mode p.fec) 2
    , badIf (p.an && p.mode != 3 && p.mode != 5) 3, badIf (p.half && !((p.mode == 6 || p.mode == 7) && p.linkSrc)) 3
    , badIf (p.maxFrame < 1518 || 9216 < p.maxFrame) 4, badIf (3 < p.arrivalTb) 6, badIf (31 < p.phyAddr) 7
    , failIf (p.mode == 0 && s.portNamed p.port) stWrongState 0 ]
    (fun _ =>
      let same := (s.port p.port).keepsLink p
      let full := (s.port p.port).duplexUnder p
      let s1 := if same then s else s.linkDownOp p.port 2
      let s2 : State := if p.mgmt then
          { s1 with prt := { s1.prt with ports := tmap (fun n x =>
              if n == p.port then x else { x with mode := x.mode.map (fun m => { m with mgmt := false }) }) s1.prt.ports } }
        else s1
      ok (s2.modPort p.port (fun x => { x with
        mode := some p, fullDuplex := full, oldMode := if same then some (s.doneAt h, x.mode) else none })))

def execPrtModeSet (h : Pkt) (p : PrtModeSet) (s : State) : Host.Outcome State Fault Refusal :=
  cmd (.prtModeSet h p) { op := 0x0C00, len := some 16 } h s (fun s => prtModeSet s p h)

def prtAddrSet (s : State) (p : PrtAddrSet) (h : Pkt) : CmdOut :=
  let used := p.addrs.take p.count
  check s
    [ badIf (23 < p.port) 0, ownerOnly h, badIf (4 < p.count) 1, badIf (macGroup p.mac) 2
    , (((List.range used.length).find? (fun i => ipBad ((used[i]?).getD 0))).map (fun i => (stBadParam, 8 + 16 * i))) ]
    (fun _ => ok (s.modPort p.port (fun x => { x with mac := p.mac, addrs := used })))

def execPrtAddrSet (h : Pkt) (p : PrtAddrSet) (s : State) : Host.Outcome State Fault Refusal :=
  cmd (.prtAddrSet h p) { op := 0x0C01, len := some 72 } h s (fun s => prtAddrSet s p h)

def prtFilterSet (s : State) (p : PrtFilterSet) (h : Pkt) : CmdOut :=
  check s
    [ badIf (23 < p.port) 0, badIf (31 < p.filter) 1, s.needs h kindPort p.port
    , failIf ((tget p.filter (s.port p.port).filters).any (fun e => e.1 != h.part)) stNoResource 0 ]
    (fun _ => ok (s.modPort p.port (fun x => { x with
      filters := if p.enable then tset p.filter (h.part, p) x.filters else tdel p.filter x.filters })))

def execPrtFilterSet (h : Pkt) (p : PrtFilterSet) (s : State) : Host.Outcome State Fault Refusal :=
  cmd (.prtFilterSet h p) { op := 0x0C02, len := some 32 } h s (fun s => prtFilterSet s p h)

/-- ENTRIES: zero, or a power of two from 64 to 65,536. -/
def ringEntriesOk (n : Nat) : Bool := n == 0 || ((List.range 11).any (fun i => n == 64 * 2 ^ i))

def ringFrom (p : PrtRingSet) : HostRing :=
  { enable := p.enable && p.entries != 0, queue := p.queue, bufSize := p.bufSize, entries := p.entries, addr := p.ringAddr, wbAddr := p.headWbAddr }

def prtRxringSet (s : State) (p : PrtRingSet) (h : Pkt) : CmdOut :=
  check s
    [ badIf (23 < p.port) 0, s.needs h kindPort p.port, zeroIf (p.bufSize == 0 && p.entries != 0) 4, badIf (p.queue != 0) 1
    , badIf (p.entries != 0 && (p.bufSize < 256 || 16384 < p.bufSize || p.bufSize % 256 != 0)) 4, badIf (!ringEntriesOk p.entries) 8
    , if p.entries != 0 then stagingOnly h p.ringAddr else none, badIf (p.ringAddr % 4096 != 0) 16
    , if p.entries != 0 then stagingOnly h p.headWbAddr else none, badIf (p.headWbAddr % 8 != 0) 24 ]
    (fun _ => ok (s.modPort p.port (fun x => { x with rxRings := tset h.part (ringFrom p) x.rxRings })))

def execPrtRxringSet (h : Pkt) (p : PrtRingSet) (s : State) : Host.Outcome State Fault Refusal :=
  cmd (.prtRxringSet h p) { op := 0x0C03, len := some 32 } h s (fun s => prtRxringSet s p h)

/-- A frame of a partition's transmit ring. -/
def TxFrame.ofHost (f : TxFrame) (part : Nat) : Bool :=
  match f.what with
  | .host n _ _ => n == part
  | _ => false

/-- A frame on its way whose ring is gone. -/
def TxFrame.disowned (part : Nat) (e : Nat × TxFrame) : Nat × TxFrame := (e.1, if e.2.ofHost part then { e.2 with orphan := true } else e.2)

/-- The frames of a partition's transmit ring leave the queues unsent (PRT_TXRING_SET); one that is being sent goes on, and its ring knows it no more.
Disabled by command they count as TX_LINK_DROP, which is told; a partition reset drops them without events (R399). -/
def State.dropHostFrames (s : State) (p part : Nat) (told : Bool) : State :=
  let s1 := [4, 5, 6, 7].foldl (fun s q =>
    let l := tgetD q [] (s.port p).txq
    (l.filter (·.ofHost part)).foldl (fun s f => if told then s.linkDrop p f else (s.portCount p 53).hostDone p f true)
      (s.modPort p (fun x => { x with txq := tset q (l.filter (fun f => !f.ofHost part)) x.txq }))) s
  s1.modPort p (fun x => { x with sending := x.sending.map (TxFrame.disowned part), retry := x.retry.map (TxFrame.disowned part) })

def prtTxringSet (s : State) (p : PrtRingSet) (h : Pkt) : CmdOut :=
  check s
    [ badIf (23 < p.port) 0, s.needs h kindPort p.port, badIf (p.queue < 4 || 7 < p.queue) 1, badIf (p.bufSize != 0) 4
    , badIf (!ringEntriesOk p.entries) 8
    , if p.entries != 0 then stagingOnly h p.ringAddr else none, badIf (p.ringAddr % 4096 != 0) 16
    , if p.entries != 0 then stagingOnly h p.headWbAddr else none, badIf (p.headWbAddr % 8 != 0) 24 ]
    (fun _ => ok (((s.dropHostFrames p.port h.part true).modPort p.port (fun x => { x with txRings := tset h.part (ringFrom p) x.txRings })).kick p.port))

def execPrtTxringSet (h : Pkt) (p : PrtRingSet) (s : State) : Host.Outcome State Fault Refusal :=
  cmd (.prtTxringSet h p) { op := 0x0C04, len := some 32 } h s (fun s => prtTxringSet s p h)

def prtTxqSet (s : State) (p : PrtTxqSet) (h : Pkt) : CmdOut :=
  check s
    [ badIf (23 < p.port) 0, ownerOnly h, badIf (p.queue != 2 && (p.queue < 4 || 7 < p.queue)) 1, badIf (1 < p.lateMode) 2 ]
    (fun _ => ok (s.modPort p.port (fun x => { x with lateMode := tset p.queue p.lateMode x.lateMode })))

def execPrtTxqSet (h : Pkt) (p : PrtTxqSet) (s : State) : Host.Outcome State Fault Refusal :=
  cmd (.prtTxqSet h p) { op := 0x0C05, len := some 4 } h s (fun s => prtTxqSet s p h)

def prtQuery (s : State) (h : Pkt) (p : Nat) : CmdOut :=
  check s [badIf (23 < p) 0, s.needs h kindPort p] (fun _ =>
    let x := s.port p
    ok s (le 1 ((x.mode.map (·.mode)).getD 0) ++ le 1 ((x.mode.map (·.fec)).getD 0)
      ++ le 1 (b2n x.link + 2 * b2n x.fullDuplex + 4 * b2n (s.paused p) + 8 * b2n x.xoff) ++ zeros 1
      ++ le 4 (if x.link then x.speedMbps else 0) ++ le 6 (s.portMac p) ++ zeros 2))

def execPrtQuery (h : Pkt) (port : Nat) (s : State) : Host.Outcome State Fault Refusal :=
  cmd (.prtQuery h port) { op := 0x0C06, len := some 4, ro := true } h s (fun s => prtQuery s h port)

def prtCntRead (s : State) (h : Pkt) (p : Nat) : CmdOut :=
  check s [badIf (23 < p) 0, failIf (!s.observes h.part) stNotGranted 0xF1] (fun _ =>
    ok s (le 8 s.now ++ ((List.range 55).map (fun n => le 4 (tgetD n 0 (s.port p).cnt).toNat)).flatten))

def execPrtCntRead (h : Pkt) (port : Nat) (s : State) : Host.Outcome State Fault Refusal :=
  cmd (.prtCntRead h port) { op := 0x0C07, len := some 4, ro := true } h s (fun s => prtCntRead s h port)

/-! ## Writes of ring counts -/

/-- The buffers of the descriptors that are posted once the tail stands at a count. -/
def HostRing.posted (r : HostRing) (v : W32) (bufs : List Nat) : List Nat := (r.bufs ++ bufs.take (v - r.tail).toNat).take (v - r.head).toNat

/-- A write of PRT_RX_TAIL: a value that would post more than ENTRIES is ignored. -/
def State.rxTailWrite (s : State) (part port : Nat) (post : RxPost) : State :=
  let r := tgetD part {} (s.port port).rxRings
  let v := BitVec.ofNat 32 post.tail
  if s.holds part kindPort port && (v - r.head).toNat ≤ r.entries then
    s.modPort port (fun x => { x with rxRings := tset part { r with tail := v, bufs := r.posted v post.bufs } x.rxRings })
  else s

def execPrtRxTailWrite (t part port : Nat) (post : RxPost) (s : State) : Host.Outcome State Fault Refusal :=
  event t s (fun s => s.rxTailWrite part port post)

/-- A write of PRT_TX_TAIL posts descriptors, which the row gives. -/
def execPrtTxTailWrite (t part port value : Nat) (descs : List TxDesc) (s : State) : Host.Outcome State Fault Refusal :=
  event t s (fun s =>
    let r := tgetD part {} (s.port port).txRings
    let v := BitVec.ofNat 32 value
    let n := (v - r.tail).toNat
    if s.holds part kindPort port && (v - r.head).toNat ≤ r.entries then
      (s.modPort port (fun x => { x with txRings := tset part { r with tail := v, descs := r.descs ++ descs.take n } x.txRings })).kick port
    else s)

/-! ## Receiving (R376 to R380) -/

/-- The counter of the first check of Table 13-2 that a frame fails. -/
def State.rxCheck (s : State) (f : RxFrame) : Option Nat :=
  let x := s.port f.port
  let max := frameMax (x.modeAt (s.rxFirstBit f.port))
  let rmii := x.mode.any (fun m => m.mode == 6 || m.mode == 7)
  if f.len < 64 then some 36
  else if max < f.len then (if f.fcsOk then some 38 else some 37)
  else if rmii && !f.wholeOctets && !f.fcsOk then some 35
  else if !f.fcsOk then some 34
  else if !f.tagOk then some 39
  else none

/-- A UDP destination port in force of some subscription or station (Table 13-3 row 4). -/
def State.udpTaken (s : State) (port : Nat) : Bool :=
  s.ing.subs.any (fun e => e.2.kind != 2 && e.2.udpDst == port) || s.ing.stations.any (fun e => e.2.sub.kind == 1 && e.2.sub.udpDst == port)

/-- The EtherType that stands first in a frame behind any VLAN tag: 0x892F of an HSR frame, else its own. -/
def outerType (f : RxFrame) : Nat := if f.hsr then 0x892F else f.etype

/-- The IP part of a frame that is no HSR frame. -/
def plainIp (f : RxFrame) : Option RxIp := if f.hsr then none else f.ip

/-- A host filter takes a frame. -/
def filterTakes (p : PrtFilterSet) (f : RxFrame) : Bool :=
  (!p.matchEtype || p.etype == outerType f) && (!p.matchDmac || p.dmac == f.dst)
  && (!p.matchProto || (plainIp f).any (fun i => i.proto == p.ipProto))
  && (!p.matchUdp || (plainIp f).any (fun i => i.proto == 17 && !i.fragment && i.udpDst == p.udpDst))

/-- EtherType of the supervision frames of PRP and HSR, which are discarded and counted as UNMATCHED (03_ingest R105). PRESUMED: that of IEC 62439-3. -/
def etypeSupervision : Nat := 0x88FB

/-- The PTP messages that an instance takes: Sync, Pdelay_Req, Pdelay_Resp, Follow_Up, Pdelay_Resp_Follow_Up and Announce. Any other one passes the side queue
and is of no use to it (12_time Table 12-3: not supported). -/
def ptpTaken : List Nat := [0, 2, 3, 8, 10, 11]

/-- A PTP instance listens on a port: asleep, on the port only that was its slave port at entry (12_time R371). -/
def State.ptpListens (s : State) (p : Nat) : Bool :=
  s.tb.ptp.any (fun e => e.2.set.mode != 0 && e.2.set.portMask.testBit p
    && ((s.pwr.state != .stabled && s.pwr.state != .waking) || e.2.keptPort == some p))

/-- CLASSIFY_FRAME (Table 13-3). Row 4 takes an HSR frame that carries a datagram of a subscription or station entry too: HSR may be set for every KIND
(03_ingest R105, Table 03-10). -/
def State.classify (s : State) (f : RxFrame) : State :=
  let p := f.port
  let x := s.port p
  let asleep := s.pwr.state == .stabled || s.pwr.state == .waking
  let ip := plainIp f
  let udp := ip.any (fun i => i.proto == 17 && !i.fragment)
  let measured := f.ip.any (fun i => i.proto == 17 && !i.fragment && s.udpTaken i.udpDst)
  let dst := (ip.map (·.udpDst)).getD 0
  let toPort := ip.any (fun i => x.addrs.contains i.dst)
  let outer := outerType f
  if outer == 0x8808 then
    (match f.pause with
      | some (1, q) => s.pauseReceived f q
      | _ => s.portCount p 41)
  else if outer == 0x88F7 && s.tb.ptp.any (fun e => e.2.set.mode != 0 && e.2.set.portMask.testBit p) then
    (if ptpTaken.contains f.ptpType && s.ptpListens p then s.sideEnqueue p else s.sideThrough p (fun s => s))
  else if !f.hsr && f.asks.any (fun a => x.addrs.contains a) then
    s.sideThrough p (fun s => s.txOffer p 3 { what := .arpReply, len := 60, launch := none })
  else if f.ip.any (fun i => !i.headerOk || (i.proto == 17 && !i.fragment && !i.udpOk)) then s.portCount p 40
  else if !asleep && (f.etype == 0x88BA || f.etype == 0x88B8 || measured) then
    s.rxEnqueue p f.len ((s.stationOf (rxHdr f (s.rxStamp p)) measured f.appId f.ref).map (·.1)) (s.rxStream f (s.rxStamp p)) f.tagged
  else if udp && toPort && dst == s.hst.udpPort && x.mode.any (·.inband) then s.sideEnqueue p
  else if asleep then s.portCount p 41
  else if f.etype == etypeSupervision then s.count .ing 0
  else match x.filters.find? (fun e => filterTakes e.2.2 f) with
    | some (_, part, _) => s.sideThrough p (fun s => s.hostDeliver p part f.len f.tagged false (s.rxStamp p) f.bytes)
    | none => s.portCount p 41

/-- PORT_RX_FRAME: a frame crosses the ball of a port whose link is up, which has carrier until its last bit (R388). -/
def State.rxFrame (s0 : State) (f : RxFrame) : State :=
  let s := s0.modPort f.port (fun x => { x with carrierUntil := s0.cap + bitsNs (8 * f.len) x.speedMbps })
  if !s0.portAlive f.port then s0
  else match s.rxCheck f with
    | some n => s.portCount f.port n
    | none =>
      let s1 := s.portCounts f.port (sizeBin f.len :: s.rxTypes f (s.rxStamp f.port))
      if f.damaged then s1.portFault f.port 0 else s1.classify f

def execPortRxFrame (t : Nat) (f : RxFrame) (s : State) : Host.Outcome State Fault Refusal :=
  event t s (fun s => s.rxFrame f)

/-! ## Links (R374, R384) -/

/-- Ports that are kept alive while asleep: the MGMT port and the port of each PTP instance that was its slave port at entry (R371, R399). -/
def State.keptAlive (s : State) (p : Nat) : Bool :=
  (s.port p).mode.any (·.mgmt) || s.tb.ptp.any (fun e => e.2.keptPort == some p)

/-- A port may bring its link up: start-up is done, no halt, and in Stabled only where it is kept alive; on wake the links come up before contracts are
re-admitted (R399). -/
def State.mayLink (s : State) (p : Nat) : Bool :=
  s.timeUp && p < 24 && (s.pwr.state != .stabled || s.keptAlive p)

/-- A link that settings can bring up by themselves: at the line rate of the mode, in full duplex, or on an RMII port with LINK_SRC 1 as HALF says. An SGMII
port follows its control word, an RMII port with LINK_SRC 0 its PHY (R372, R374). -/
def linkFits (m : PrtModeSet) (speedMbps : Nat) (full : Bool) : Bool :=
  modeSpeed m.mode != 0 && speedMbps == modeSpeed m.mode
  && (if m.mode == 6 || m.mode == 7 then m.linkSrc && full == !m.half else full)

/-- LINK_UP: a link that the settings of the port allow. FEC is in lock only where it is set. -/
def execLinkUp (t port speedMbps : Nat) (full fecLock : Bool) (s : State) : Host.Outcome State Fault Refusal :=
  event t s (fun s =>
    if s.mayLink port && (s.port port).mode.any (fun m => linkFits m speedMbps full) then
      s.linkUpOp port speedMbps full (fecLock && (s.port port).mode.any (fun m => m.fec != 0))
    else s)

def execLinkDown (t port : Nat) (s : State) : Host.Outcome State Fault Refusal :=
  event t s (fun s => s.linkDownOp port 2)

/-- An SGMII control word: half duplex holds the link down with reason 3. -/
def execSgmiiControlWord (t port : Nat) (link full : Bool) (speedMbps : Nat) (s : State) : Host.Outcome State Fault Refusal :=
  event t s (fun s =>
    if !s.mayLink port || !((s.port port).mode.any (fun m => m.mode == 4)) || !(speedMbps == 10 || speedMbps == 100 || speedMbps == 1000) then s
    else if link && !full then s.linkDownOp port 3
    else if link then s.linkUpOp port speedMbps true false
    else s.linkDownOp port 2)

/-- A poll of the PHY by clause 22 with LINK_SRC 0. A change of duplex takes the link down first (R373). -/
def execMdioPoll (t port : Nat) (link full : Bool) (speedMbps : Nat) (s : State) : Host.Outcome State Fault Refusal :=
  event t s (fun s =>
    if !s.mayLink port || !((s.port port).mode.any (fun m => (m.mode == 6 || m.mode == 7) && !m.linkSrc)) || !(speedMbps == 10 || speedMbps == 100) then s
    else if !link then s.linkDownOp port 2
    else s.linkUpOp port speedMbps full false)

/-! ## Transmission -/

/-- A received pause runs out, or a PAUSE with a time of zero has ended it. -/
def execPauseExpiry (t port : Nat) (s : State) : Host.Outcome State Fault Refusal :=
  event t s (fun s =>
    if (s.port port).pauseIn.any (fun e => decide (e.1 ≤ s.cap)) then s.kick port
    else if (s.port port).pauseUntil.any (fun u => decide (u ≤ s.now)) then (s.modPort port (fun x => { x with pauseUntil := none })).kick port else s)

/-- A sent PAUSE is repeated at half its time while the receive queue holds 2,048 or more (R387). -/
def execXoffRepeat (t port : Nat) (s : State) : Host.Outcome State Fault Refusal :=
  event t s (fun s =>
    let x := s.port port
    if x.xoff && 2048 ≤ x.rxq.length && s.mayPause port && x.xoffAt + quantaNs 0xFFFF x.speedMbps / 2 ≤ s.now then s.sendPause port 0xFFFF else s)

/-- A pause that arrived while a frame was sent begins at its end (R385). -/
def State.pauseBegins (s : State) (p : Nat) : State :=
  match (s.port p).pauseNext with
  | some q => s.modPort p (fun x => { x with pauseNext := none, pauseUntil := some (s.cap + quantaNs q x.speedMbps) })
  | none => s

/-- TX_FRAME_END: the frame has left, or is lost to a port fault; a pause that waited for it begins, and then the next one. -/
def State.txFrameEnd (s0 : State) (p : Nat) (csLost damaged : Bool) : State :=
  let s := s0.pauseSettle p
  match (s.port p).sending with
  | none => s
  | some (_, f) =>
    let half := !(s.port p).fullDuplex
    let s1 := (s.modPort p (fun x => { x with sending := none, gapUntil := s.cap + bitsNs 96 x.speedMbps })).pauseBegins p
    let s2 := if damaged then s1.portFault p f.what.ringPart
      else
        let cs := [17 + sizeBin (Nat.max f.len 60 + 4)] ++ s.txTypes f.what f.data
          ++ (if half && f.collisions == 1 then [46] else if half && 1 < f.collisions then [47] else [])
          ++ (if half && f.deferred then [50] else []) ++ (if half && csLost then [51] else [])
        let sent : SentFrame := { port := p, frame := f, stamp := s.txStamp p }
        ({ s1 with prt := { s1.prt with sent := sent :: s1.prt.sent } }).portCounts p cs
    (s2.frameGone p f damaged).kick p

def execTxFrameEnd (t port : Nat) (csLost damaged : Bool) (s : State) : Host.Outcome State Fault Refusal :=
  event t s (fun s => s.txFrameEnd port csLost damaged)

/-- A timed frame reaches its launch time: it starts, or is found late. -/
def execTxLaunchTime (t port : Nat) (s : State) : Host.Outcome State Fault Refusal :=
  event t s (fun s => s.kick port)

/-- TX_COLLISION (R388): jam and back off by a random number of slot times, abandon after a late collision, or drop after 16 attempts. A collision is late more
than one slot time after the first bit of the preamble; a row that says otherwise tells of none. -/
def State.txCollision (s : State) (p : Nat) (late : Bool) : State :=
  let x := s.port p
  let slot := bitsNs 512 x.speedMbps
  if x.fullDuplex || late != decide (x.startedAt + slot < s.cap) then s
  else match x.sending with
    | none => s
    | some (q, f) =>
      let s1 := s.modPort p (fun x => { x with sending := none, gapUntil := s.cap + bitsNs 128 x.speedMbps })
      let n := f.collisions + 1
      let held := if f.deferred then [50] else []
      if late then ((s1.portCounts p (48 :: held)).frameGone p f true).kick p
      else if 16 ≤ n then ((s1.portCounts p (49 :: held)).frameGone p f true).kick p
      else s1.free.2.modPort p (fun x => { x with
        retry := some (q, { f with collisions := n })
        backoffUntil := s.cap + bitsNs 32 x.speedMbps + s1.free.1 % 2 ^ (Nat.min n 10) * slot })

def execTxCollision (t port : Nat) (late : Bool) (s : State) : Host.Outcome State Fault Refusal :=
  event t s (fun s => s.txCollision port late)

/-- A back-off or a deferral ends: the port starts the frame that it held, if its time has come. -/
def execBackoffExpiry (t port : Nat) (s : State) : Host.Outcome State Fault Refusal :=
  event t s (fun s => s.kick port)

end Sys2Proof.Machine
end

