-- ==== Sys2Proof/Machine/RecordOps.lean ====
section
/-!
DEFINITION. Completed records of the recorders: measurements (10_recorders R311), the record header (Table 10-6), re-arming (R304) and the data of an
export (R312, R313).
-/
namespace Sys2Proof.Machine

/-! ## Measurements (R311) -/

/-- Running state of the crossing count: on which side of the mean the channel was last seen, the interpolated time of its latest passage of the mean,
the crossings, and the times of the first and last rising ones with their number. Times are in stored intervals. -/
structure Crossings where
  side : Option Bool := none
  passed : Frac := { num := 0, den := 1 }
  count : Nat := 0
  rises : Nat := 0
  first : Frac := { num := 0, den := 1 }
  last : Frac := { num := 0, den := 1 }
  deriving DecidableEq, Repr

/-- Where two points pass the mean, interpolated. -/
def meanPassage (m : Frac) (a b : Nat × Frac) : Option Frac :=
  let up := extLt a.2 m && extLe m b.2
  let down := extLt m a.2 && extLe b.2 m
  if (up || down) && extFinite a.2 && extFinite b.2 then
    some (fReduce (fAdd (frac a.1) (fMul (fDiv (fSub m a.2) (fSub b.2 a.2)) (frac ((b.1 : Int) - (a.1 : Int))))))
  else none

/-- One more usable point, after another: a crossing is complete when the value reaches m + H from at or below m − H, or the reverse. -/
def Crossings.step (c : Crossings) (m h : Frac) (a b : Nat × Frac) : Crossings :=
  let c1 : Crossings := match meanPassage m a b with
    | some t => { c with passed := t }
    | none => c
  let low := extLe b.2 (fSub m h)
  let high := extLe (fAdd m h) b.2
  if high then
    if c1.side == some false then
      { c1 with side := some true, count := c1.count + 1, rises := c1.rises + 1
                first := if c1.rises == 0 then c1.passed else c1.first, last := c1.passed }
    else { c1 with side := some true }
  else if low then
    if c1.side == some true then { c1 with side := some false, count := c1.count + 1 } else { c1 with side := some false }
  else c1

/-- The crossings of a channel's usable points. -/
def crossingsOf (m h : Frac) (l : List (Nat × Frac)) : Crossings :=
  match l with
  | [] => {}
  | p :: r => (r.foldl (fun (a : Crossings × (Nat × Frac)) q => (a.1.step m h a.2 q, q)) (Crossings.step {} m h p p, p)).1

/-- The measurements of one channel from its usable points, with their record indices (Table 10-5). `rate` is the stored points per second as a
fraction. -/
def measOf (rate : Frac) (l : List (Nat × Frac)) : Meas :=
  match l with
  | [] => { min := nan64, max := nan64, mean := nan64, rms := nan64, ampl := nan64, period := nan64, crossings := 0, usable := 0, minIdx := 0, maxIdx := 0 }
  | p :: r =>
    let lo := r.foldl (fun a q => if extLt q.2 a.2 then q else a) p
    let hi := r.foldl (fun a q => if extLt a.2 q.2 then q else a) p
    let n := l.length
    let mean := extDiv (l.foldl (fun a q => extAdd a q.2) (frac 0)) n
    let sq := extDiv (l.foldl (fun a q => extAdd a (extSquare q.2)) (frac 0)) n
    let ok := extFinite mean && extFinite lo.2 && extFinite hi.2 && extLt lo.2 hi.2
    let c := if ok then crossingsOf mean (fDiv (fSub hi.2 lo.2) (frac 64)) l else {}
    { min := extF64 lo.2, max := extF64 hi.2, mean := extF64 mean
      rms := if extFinite sq then sqrt64 sq else extF64 sq
      ampl := extF64 (extDiv (extSub hi.2 lo.2) 2)
      period := if c.rises < 2 then nan64 else f64Of (fDiv (fSub c.last c.first) (fMul (frac ((c.rises : Int) - 1)) rate))
      crossings := c.count, usable := n, minIdx := lo.1, maxIdx := hi.1 }

/-- Stored points per second of a record. -/
def Record.ptRate (x : Record) : Frac := frac x.rate (Nat.max x.set.avg 1)

/-- Physical value of a channel of a point of a record (R299); none when unusable. -/
def Record.physical (x : Record) (ci : Nat) (e : PointEntry) : Option Frac :=
  if e.usable == 0 then none
  else if x.set.kind == 1 then some (frac e.value.toInt (e.usable * (if ((tget ci x.chans).map (·.ch)).getD 0 < 4 then 1000 else 100)))
  else some (extOf (f64Val e.value))

/-- The usable points of a channel with their indices. -/
def Record.usablePoints (x : Record) (ci : Nat) : List (Nat × Frac) :=
  x.points.zipIdx.filterMap (fun e => ((e.1.entries[ci]?).bind (x.physical ci)).map (fun y => (e.2, y)))

/-- A record with its measurements, complete at a stamp. -/
def Record.done (x : Record) (t : Stamp) : Record :=
  { x with
    complete := true, doneStamp := t
    test := x.points.any (fun p => p.entries.any (fun e => qHas e.qual qTest))
    meas := (List.range x.set.channels).map (fun ci => measOf x.ptRate (x.usablePoints ci)) }

/-! ## Completion and re-arming (R304, R310) -/

/-- The recorder stops taking points: external triggers that still wait for one can start no record any more and are missed (R304, R307; log entry 176). -/
def State.recIdle (s : State) (n : Nat) (r : Rec) (st : RecState) : State :=
  let s1 := s.setRec n { r with state := st, store := [], open_ := [], ext := [], missedSeen := r.missedSeen || !r.ext.isEmpty }
  if r.ext.isEmpty then s1 else s1.count .rcd 6 r.ext.length

/-- What the recorder does after a record. -/
def State.recNext (s : State) (n : Nat) : State :=
  match s.recorder n with
  | none => s
  | some r =>
    if r.state != .filling then s
    else if !r.set.autoRearm then s.recIdle n r .disarmed
    else
      match s.recRoom n with
      | some s1 => s1.recArmed n ((s1.recorder n).getD r) s1.now
      | none => (s.recIdle n r .waitSlot).recEvent n 0x1C2 0xFF

/-- The record of a recorder that holds its last point is complete: into its slot, or as an END entry of the stream ring. -/
def State.recComplete (s : State) (n : Nat) : State :=
  match s.recorder n with
  | none => s
  | some r =>
    match r.record with
    | none => s
    | some x =>
      if x.postLeft != 0 then s
      else
        let y := x.done s.now
        let r1 : Rec := if x.set.streamOut then
            { r with record := none, segFull := false }.push (r.entry 3 [] (some y))
          else { r with record := none, held := tset x.slot y r.held }
        ((((s.setRec n r1).recDrain n).count .rcd 0).recEvent n 0x1C1 x.slot).recNext n

/-! ## Export (R312, R313) -/

/-- Channels of an export that are not whole digital words. -/
def Record.analogs (x : Record) : List Nat := (List.range x.set.channels).filter (fun ci => !x.words.contains ci)

/-- Offset of point i from FIRST_TIME, in µs. -/
def Record.offsetUs (x : Record) (i : Nat) : Frac := frac (i * x.set.avg * 1000000) (Nat.max x.rate 1)

/-- Timestamp of point i in units of timemult µs. -/
def Record.stampOf (x : Record) (mult i : Nat) : Nat := (fRound (fDiv (x.offsetUs i) (frac mult))).toNat

/-- The smallest power of ten for which the last timestamp fits in 32 bits. -/
def Record.timemult (x : Record) : Nat :=
  (((List.range 20).map (fun k => 10 ^ k)).find? (fun m => decide (x.stampOf m (x.points.length - 1) < 4294967296))).getD 1

/-- One point of the data file. -/
def Record.row (x : Record) (mult i : Nat) (p : Point) : List Byte :=
  le 4 (i + 1) ++ le 4 (x.stampOf mult i)
  ++ x.analogs.flatMap (fun ci => le 4 ((((p.entries[ci]?).bind (x.physical ci)).map (fun y => (extF32 y).toNat)).getD nan32.toNat))
  ++ x.words.flatMap (fun ci => le 2 ((((p.entries[ci]?).bind (x.physical ci)).map (fun y => (fRound (if extFinite y then y else frac 0)).toNat % 65536)).getD 0))

/-- The data file of a form. -/
def Record.data (x : Record) (n format : Nat) : List Byte :=
  if format == 1 then x.header n ++ x.points.flatMap Point.image
  else x.points.zipIdx.flatMap (fun e => x.row x.timemult e.2 e.1)

/-- A reading in ns as UTC, rounded to the nearest µs with ties up. -/
def State.civilUs (s : State) (tb : Nat) (ns : Int) : Int :=
  let off := ((s.base tb).map (fun b => b.offsetAt ns.toNat)).getD 0
  fRound (frac (ns - (off : Int) * 1000000000) 1000)

/-- leapsec of Table 12-2. -/
def State.leapsec (s : State) (x : Record) : Nat :=
  match s.base x.tb with
  | none => 3
  | some b =>
    let last := x.firstTime + fRound (fMul (x.offsetUs (x.points.length - 1)) (frac 1000))
    if s.timeCode b == 15 then 3
    else match b.leaps.find? (fun l => decide (x.firstTime ≤ l.1) && decide (l.1 ≤ last)) with
      | some l => if l.2 then 2 else 1
      | none => 0

/-! ## The text of a configuration file (R312)

Lines and their fields are those of IEEE C37.111-2013; what R312 does not name stands in log entry 157. -/

/-- A whole number in decimal. -/
def decText (n : Nat) : List Byte := ascii (String.ofList (Nat.toDigits 10 n))

/-- A whole number in decimal with leading zeros to a width. -/
def decPad (w n : Nat) : List Byte := List.replicate (w - (decText n).length) 48 ++ decText n

/-- A zero-padded name of n bytes. -/
def nameText (n v : Nat) : List Byte := (le n v).takeWhile (· != 0)

/-- A line: its fields between commas, CR and LF. -/
def cfgLine (fields : List (List Byte)) : List Byte := (fields.intersperse [44]).flatten ++ [13, 10]

/-- Day, month and year of a day counted from 1970-01-01 in the Gregorian calendar. -/
def civilDate (day : Int) : Nat × Nat × Nat :=
  let z := (day + 719468).toNat
  let e := z / 146097
  let d := z % 146097
  let y := (d - d / 1460 + d / 36524 - d / 146096) / 365
  let n := d - (365 * y + y / 4 - y / 100)
  let m := (5 * n + 2) / 153
  let month := if m < 10 then m + 3 else m - 9
  (n - (153 * m + 2) / 5 + 1, month, y + 400 * e + b2n (decide (month ≤ 2)))

/-- A time stamp dd/mm/yyyy,hh:mm:ss.ssssss of µs of UTC. -/
def stampText (us : Int) : List Byte :=
  let day := us / 86400000000
  let r := (us % 86400000000).toNat
  let d := civilDate day
  decPad 2 d.1 ++ [47] ++ decPad 2 d.2.1 ++ [47] ++ decPad 4 d.2.2 ++ [44] ++ decPad 2 (r / 3600000000) ++ [58] ++ decPad 2 (r / 60000000 % 60) ++ [58]
  ++ decPad 2 (r / 1000000 % 60) ++ [46] ++ decPad 6 (r % 1000000)

/-- uu of a channel: "A" or "V" for KIND 1 and the phasors, else the unit of Table 10-1. Which of the two a measured phasor has, and a source unit, are free. -/
def State.unitText (s : State) (x : Record) (ci : Nat) : List Byte :=
  match tget ci x.chans with
  | none => []
  | some c =>
    let amps := fun (b : Bool) => if b then ascii "A" else ascii "V"
    if x.set.kind == 1 then amps (decide (c.ch < 4))
    else match tgetD ci 0 x.types with
      | 0 =>
        if c.comp == 1 then ascii "degrees"
        else match s.unitOf c.stream with
          | some u => amps (match (maskBits 16 u.2.set.outSel)[c.ch]? with
            | some i => decide (i < 4) || (decide (8 ≤ i) && i % 2 == 0)
            | none => Config.phasorAmps c.stream c.ch)
          | none => amps (Config.phasorAmps c.stream c.ch)
      | 1 => ascii "mHz"
      | 2 => ascii "Hz/s"
      | 3 => Config.sourceUnit c.stream c.ch
      | _ => []

def Record.nameOf (x : Record) (ci : Nat) : List Byte := nameText 16 (((tget ci x.chans).map (·.name)).getD 0)

/-- The configuration file of a record. -/
def State.cfgFile (s : State) (n : Nat) (x : Record) : List Byte :=
  let analogs := x.analogs.zipIdx.flatMap (fun e =>
    let m := x.meas[e.1]?
    let real := fun (v : Option (BitVec 64)) => Config.realText (v.getD nan64)
    cfgLine [decText (e.2 + 1), x.nameOf e.1, [], [], s.unitText x e.1, decText 1, decText 0, decText 0, real (m.map (·.min)), real (m.map (·.max)),
             decText 1, decText 1, ascii "P"])
  let status := (x.words.flatMap (fun ci => (List.range 16).map (fun b => (ci, b)))).zipIdx.flatMap (fun e =>
    cfgLine [decText (e.2 + 1), x.nameOf e.1.1 ++ ascii ".b" ++ decText e.1.2, [], [], decText 0])
  let a := x.analogs.length
  let d := 16 * x.words.length
  let tq := ((s.base x.tb).map s.timeCode).getD 15
  cfgLine [nameText 32 x.set.station, ascii "QV7240 REC_" ++ decText n, decText 2013]
  ++ cfgLine [decText (a + d), decText a ++ ascii "A", decText d ++ ascii "D"]
  ++ analogs ++ status
  ++ cfgLine [decText (if x.set.fnom60 then 60 else 50)] ++ cfgLine [decText 1]
  ++ cfgLine [Config.realText (f64Of x.ptRate), decText x.points.length]
  ++ cfgLine [stampText (s.civilUs x.tb x.firstTime)] ++ cfgLine [stampText (s.civilUs x.tb x.trigTime)]
  ++ cfgLine [ascii "BINARY32"] ++ cfgLine [decText x.timemult] ++ cfgLine [decText 0, decText 0]
  ++ cfgLine [ascii (String.ofList ((Nat.toDigits 16 tq).map Char.toUpper)), decText (s.leapsec x)]

end Sys2Proof.Machine
end

