-- ==== Sys2Proof/Machine/Recorders.lean ====
section
/-!
DEFINITION. The recorder rows (10_recorders R295 to R317, 0x0900 to 0x0907).
-/
namespace Sys2Proof.Machine

/-- A recorder without settings. -/
def offRecorder (n : Nat) : Rec :=
  { set := { recorder := n, kind := 0, autoRearm := false, overwrite := false, streamOut := false, fnom60 := false, avg := 1, channels := 0
             pre := 0, post := 0, segMib := 0, closeMs := 50, station := 0 }
    state := .off }

def State.recOf (s : State) (n : Nat) : Rec := (s.recorder n).getD (offRecorder n)

def RecState.code : RecState → Nat
  | .off => 0
  | .disarmed => 1
  | .armed => 2
  | .filling => 3
  | .waitSlot => 4

/-- Settings may change: OFF or DISARMED. -/
def Rec.idle (r : Rec) : Bool := r.state == .off || r.state == .disarmed

/-! ## REC_SET (R301, R302) -/

/-- A setting with the defaults of Table 10-8. -/
def recFilled (p : RecSet) : RecSet :=
  { p with avg := if p.avg == 0 then 1 else p.avg, closeMs := if p.closeMs == 0 then 50 else p.closeMs
           post := if p.post == 0 && p.streamOut then 4294967295 else p.post }

/-- Segment MiB of the other recorders of a partition, or of all other recorders. -/
def State.segments (s : State) (n : Nat) (part : Option Nat) : Nat :=
  ((s.rcd.recs.filter (fun e => e.1 != n && part.all (fun p => s.holder kindRecorder e.1 == p))).map (·.2.set.segMib)).sum

/-- What a new setting leaves of a recorder. -/
def Rec.reset (r : Rec) (p : RecSet) : Rec :=
  let same := r.set.kind == p.kind
  let kept := if recBytes r.set == recBytes p && r.set.kind != 0 then r.held.filter (fun e => decide (e.1 < recSlots p)) else []
  { r with
    set := p, state := .disarmed, held := kept, store := [], open_ := [], ext := []
    chans := if same then r.chans.filter (fun e => decide (e.1 < p.channels)) else []
    conds := if same then r.conds.filter (fun e => e.1 == 10 || decide (e.2.set.chan < p.channels)) else []
    tb := if same then r.tb else 0, rate := if same then r.rate else 0, prevY := [], pmuTrig := [], types := if same then r.types else []
    evaluated := if same then r.evaluated else [], lastTime := if same then r.lastTime else none }

def recSet (s0 : State) (h : Pkt) (p0 : RecSet) : CmdOut :=
  let p := recFilled p0
  let n := p.recorder
  -- a record whose last point is stored is complete before its settings change
  let s := if n < 64 && (s0.recOf n).state == .disarmed then s0.recComplete n else s0
  let r := s.recOf n
  if p.kind == 0 then
    check s0 [badIf (63 < n) 0, s0.needs h kindRecorder n, failIf (!r.idle) stWrongState 0] (fun _ =>
      ok (s.setRec n { offRecorder n with seq := r.seq }) (zeros 8))
  else
    check s0
      [ badIf (63 < n) 0, s0.needs h kindRecorder n, zeroIf (p.channels == 0) 6, zeroIf (p.post == 0) 12, zeroIf (p.segMib == 0) 16
      , badIf (2 < p.kind) 1, badIf (256 < p.avg) 4, badIf (32 < p.channels) 6
      , badIf (p.streamOut && recCapacity p / 2 < p.pre) 8, badIf (4096 < p.segMib) 16, badIf (10000 < p.closeMs) 18
      , failIf (!r.idle) stWrongState 0
      , failIf (!p.streamOut && recSlots p == 0) stNoResource 0
      , failIf ((s.part (s.holder kindRecorder n)).poolMib < s.segments n (some (s.holder kindRecorder n)) + p.segMib) stNoResource 0
      , failIf (4096 < s.segments n none + p.segMib) stNoResource 0 ]
      (fun _ => ok (s.setRec n (r.reset p)) (le 1 (recSlots p) ++ zeros 3 ++ le 4 (recBytes p)))

def execRecSet (h : Pkt) (p : RecSet) (s : State) : Host.Outcome State Fault Refusal :=
  cmd (.recSet h p) { op := 0x0900, len := some 64 } h s (fun s => recSet s h p)

/-! ## REC_CHAN_SET (R295 to R297) -/

/-- COMP is allowed for the TYPE of a channel (Table 10-1), as far as its layout tells. -/
def State.compOk (s : State) (kind : Nat) (c : RecChan) : Bool :=
  if kind == 1 then c.comp == 0 && decide (c.ch ≤ 7)
  else
    let allowed := fun (t : Nat) =>
      if t == 0 then decide (c.comp ≤ 3) else if t == 4 then c.comp == 0 || (decide (16 ≤ c.comp) && decide (c.comp ≤ 31)) else c.comp == 0
    match s.knownType c.stream c.ch with
    | some t => decide (t < 5) && allowed t
    | none => allowed 0 || allowed 4

/-- The checks of one entry, `i` its index: the source exists, the grant rule of R205, COMP, and one grid for all. -/
def State.recChanChecks (s : State) (h : Pkt) (kind : Nat) (grid : Option (Nat × Nat)) (i : Nat) (c : RecChan) : List (Option (Nat × Nat)) :=
  let o := 4 + 24 * i
  [ badIf (16383 < c.stream) o, s.needsRead h kindStream c.stream, badIf (s.recGrid kind c).isNone o
  , badIf (grid.isSome && s.recGrid kind c != grid) o
  , badIf (255 < c.ch || (kind == 2 && (s.carrierOf c.stream).any (fun e => decide (e.2.chans ≤ c.ch)))) (o + 2), badIf (!s.compOk kind c) (o + 3) ]

def recChanSet (s : State) (h : Pkt) (p : RecChanSet) : CmdOut :=
  let n := p.recorder
  let r := s.recOf n
  let kept := r.chans.filter (fun e => !(decide (p.first ≤ e.1) && decide (e.1 < p.first + p.count)))
  let grid := match kept with
    | e :: _ => s.recGrid r.set.kind e.2
    | [] => p.entries.head?.bind (s.recGrid r.set.kind)
  check s
    ([ failIf (h.paramLen != 4 + 24 * p.entries.length) stBadLength 0, badIf (63 < n) 0, s.needs h kindRecorder n
     , zeroIf (p.count == 0) 2, badIf (r.set.channels < p.first + p.count) 2, failIf (p.entries.length != p.count) stBadLength 0 ]
     ++ p.entries.zipIdx.flatMap (fun e => s.recChanChecks h r.set.kind grid e.2 e.1)
     ++ [failIf (!r.idle) stWrongState 0])
    (fun _ =>
      let chans := p.entries.zipIdx.foldl (fun t e => tset (p.first + e.2) e.1 t) kept
      ok (s.setRec n { r.onGrid ((grid.map (·.1)).getD 0) ((grid.map (·.2)).getD 0) with
        chans, types := r.types.filter (fun e => kept.any (fun k => k.1 == e.1)) }))

def execRecChanSet (h : Pkt) (p : RecChanSet) (s : State) : Host.Outcome State Fault Refusal :=
  cmd (.recChanSet h p) { op := 0x0901, len := none } h s (fun s => recChanSet s h p)

/-! ## REC_COND_SET (R305) -/

def recCondSet (s : State) (h : Pkt) (p : RecCondSet) : CmdOut :=
  let r := s.recOf p.recorder
  let ten := p.cond == 10
  check s
    [ badIf (63 < p.recorder) 0, s.needs h kindRecorder p.recorder, badIf (7 < p.cond && !ten || ten && r.set.kind != 2) 1
    , badIf ((if ten then 1 else 3) < p.edge) 2, badIf (!ten && p.edge != 0 && r.set.channels ≤ p.chan) 3
    , badIf (!ten && p.edge != 0 && (f64Num p.level).isNone) 4
    , badIf (!ten && p.edge != 0 && (negOrNan p.hyst || (f32Num p.hyst).isNone)) 12 ]
    (fun _ =>
      let c : Cond := { set := p }
      ok (s.setRec p.recorder { r with conds := if p.edge == 0 then tdel p.cond r.conds else tset p.cond c r.conds }))

def execRecCondSet (h : Pkt) (p : RecCondSet) (s : State) : Host.Outcome State Fault Refusal :=
  cmd (.recCondSet h p) { op := 0x0902, len := some 16 } h s (fun s => recCondSet s h p)

/-! ## REC_ARM (R304) -/

/-- OP 2: a record that is filling ends at the last evaluated point. -/
def Rec.disarm (r : Rec) : Rec :=
  { r with
    state := .disarmed, store := [], open_ := [], ext := []
    record := r.record.map (fun x => if x.postLeft == 0 then x else { x with postLeft := 0, aborted := true }) }

/-- The stream ring of a recorder is set. -/
def Rec.ringSet (r : Rec) : Bool := r.ring.any (fun q => q.set.enable && q.set.ringSize != 0)

def recArm (s0 : State) (h : Pkt) (p : RecArm) : CmdOut :=
  let n := p.recorder
  let t := s0.doneAt h
  let r0 := s0.recOf n
  check s0
    [ badIf (63 < n) 0, s0.needs h kindRecorder n, badIf (p.op == 0 || 3 < p.op) 1
    , failIf (p.op == 1 && (r0.state != .disarmed || (r0.set.streamOut && !r0.ringSet))) stWrongState 0
    , failIf ((p.op == 2 || p.op == 3) && r0.idle) stWrongState 0 ]
    (fun _ =>
      if p.op == 1 then
        let s := s0.recComplete n
        ok (s.recArmed n (s.recOf n) t)
      else if p.op == 2 then ok (s0.setRec n r0.disarm)
      else
        match s0.readingAt r0.tb t with
        | some ns => ok (s0.recTrigger n 9 ns)
        | none => ok (s0.free.2.recTrigger n 9 s0.free.1))

def execRecArm (h : Pkt) (p : RecArm) (s : State) : Host.Outcome State Fault Refusal :=
  cmd (.recArm h p) { op := 0x0903, len := some 4 } h s (fun s => recArm s h p)

/-! ## REC_QUERY -/

/-- Held records in SEQ order. -/
def Rec.bySeq (r : Rec) : List Record := sortBy (fun (a b : Record) => decide (a.seq ≤ b.seq)) (r.held.map (·.2))

def recQuery (s : State) (h : Pkt) (n : Nat) : CmdOut :=
  let r := s.recOf n
  check s [badIf (63 < n) 0, s.needsRead h kindRecorder n] (fun _ =>
    ok s (le 1 r.state.code ++ le 1 (recSlots r.set) ++ le 1 r.held.length ++ zeros 5 ++ le 4 r.store.length ++ zeros 4
      ++ r.bySeq.flatMap (fun x => le 1 x.slot ++ zeros 1 ++ le 2 x.flags ++ le 2 x.causeMask ++ zeros 2 ++ le 8 x.seq)))

def execRecQuery (h : Pkt) (rcd : Nat) (s : State) : Host.Outcome State Fault Refusal :=
  cmd (.recQuery h rcd) { op := 0x0904, len := some 4, ro := true } h s (fun s => recQuery s h rcd)

/-! ## REC_EXPORT and its end (R312, R313) -/

/-- The export of a record as it is asked for. -/
def State.exportLog (s : State) (n : Nat) (x : Record) (p : RecExport) : ExportLog :=
  { req := p, cfg := if p.format == 0 then s.cfgFile n x else [], dat := x.data n p.format }

def recExport (s : State) (h : Pkt) (p : RecExport) : CmdOut :=
  let n := p.recorder
  let r := s.recOf n
  let cfg := p.format == 0 && p.cfgLen != 0
  check s
    [ badIf (63 < n) 0, s.needsRead h kindRecorder n, badIf (tget p.slot r.held).isNone 1, badIf (1 < p.format) 2
    , if cfg then stagingOnly h p.cfgAddr else none, if p.datLen == 0 then none else stagingOnly h p.datAddr
    , failIf r.exporting.isSome stBusy 0 ]
    (fun _ =>
      match tget p.slot r.held with
      | none => refuse s stBadParam 1
      | some x =>
        .wait (s.setRec n { r.lock p.slot true with exporting := some (s.exportLog n x p) }) (.recExport n))

def execRecExport (h : Pkt) (p : RecExport) (s : State) : Host.Outcome State Fault Refusal :=
  cmd (.recExport h p) { op := 0x0905, len := some 40 } h s (fun s => recExport s h p)

/-- An export ends: what fits its buffer has been written, the record is unlocked, and the command answered. -/
def State.recExportDone (s : State) (n slot : Nat) : State :=
  let r := s.recOf n
  match r.exporting, s.hst.waiting.find? (fun w => w.what == .recExport n) with
  | some l, some w =>
    if l.req.slot != slot then s
    else
      let fits := l.req.datLen != 0 && decide (l.dat.length ≤ l.req.datLen)
      let cfgFits := l.req.format == 0 && l.req.cfgLen != 0 && decide (l.cfg.length ≤ l.req.cfgLen)
      let s0 := if cfgFits then s.copyTo w.pkt l.req.cfgAddr l.cfg else s
      let s1 := if fits then s0.copyTo w.pkt l.req.datAddr l.dat else s0
      let done : ExportLog := { l with cfg := if cfgFits then l.cfg else [], dat := if fits then l.dat else [] }
      let s2 := s1.setRec n { (s1.recOf n).lock slot false with exporting := none }
      let s3 : State := { s2 with rcd := { s2.rcd with exports := done :: s2.rcd.exports } }
      (s3.recEvent n 0x1C8 slot).finish w stOk 0 (le 4 l.cfg.length ++ zeros 4 ++ le 8 l.dat.length)
  | _, _ => s

def execRecExportDone (t rcd slot : Nat) (s : State) : Host.Outcome State Fault Refusal :=
  event t s (fun s => if s.fabricUp then s.recExportDone rcd slot else s)

/-! ## REC_RELEASE -/

/-- Slots that became free: a recorder that waits for one is ARMED. -/
def State.recFreed (s : State) (n : Nat) (t : Stamp) : State :=
  match s.recorder n with
  | some r => if r.state == .waitSlot && r.freeSlot.isSome then s.recArmed n r t else s
  | none => s

def recRelease (s : State) (h : Pkt) (p : RecRelease) : CmdOut :=
  let n := p.recorder
  let r := s.recOf n
  let free := fun (l : Table Record) => ok ((s.setRec n { r with held := l }).recFreed n (s.doneAt h))
  check s
    [ badIf (63 < n) 0, s.needs h kindRecorder n, badIf (p.slot != 0xFF && (tget p.slot r.held).isNone) 1
    , failIf (p.slot != 0xFF && (tget p.slot r.held).any (·.exporting)) stBusy 0 ]
    (fun _ => if p.slot == 0xFF then free (r.held.filter (·.2.exporting)) else free (tdel p.slot r.held))

def execRecRelease (h : Pkt) (p : RecRelease) (s : State) : Host.Outcome State Fault Refusal :=
  cmd (.recRelease h p) { op := 0x0906, len := some 4 } h s (fun s => recRelease s h p)

/-! ## Stream rings (R303) -/

def recStreamSet (s : State) (h : Pkt) (p : RecStreamSet) : CmdOut :=
  let n := p.recorder
  let r := s.recOf n
  let on := p.ringSize != 0
  let q : StreamRing := { set := p }
  check s
    [ badIf (63 < n) 0, s.needs h kindRecorder n, badIf (!ringSizeOk p.ringSize) 8
    , if on then stagingOnly h p.ringAddr else none, badIf (on && p.ringAddr % 4096 != 0) 16
    , if on then stagingOnly h p.prodWbAddr else none, badIf (on && p.prodWbAddr % 8 != 0) 24
    , failIf (r.state == .filling) stWrongState 0 ]
    (fun _ => ok ((s.setRec n { r with ring := some q }).recDrain n))

def execRecStreamSet (h : Pkt) (p : RecStreamSet) (s : State) : Host.Outcome State Fault Refusal :=
  cmd (.recStreamSet h p) { op := 0x0907, len := some 32 } h s (fun s => recStreamSet s h p)

/-- A write of REC_STREAM_CONS_n by the holder: a value that would make the free space exceed the ring is ignored; held points flow. -/
def State.recConsWrite (s : State) (part n value : Nat) : State :=
  match s.recorder n with
  | none => s
  | some r =>
    match r.ring with
    | none => s
    | some q =>
      let v := BitVec.ofNat 32 value
      if n < 64 && s.holder kindRecorder n == part && decide ((q.prod - v).toNat ≤ q.set.ringSize) then
        let q' : StreamRing := { q with cons := v }
        (s.setRec n { r with ring := some q' }).recDrain n
      else s

def execRecStreamConsWrite (t part rcd value : Nat) (s : State) : Host.Outcome State Fault Refusal :=
  event t s (fun s => s.recConsWrite part rcd value)

/-! ## Evaluation and completion -/

/-- A point of a recorder that stores is evaluated when its tick has come. -/
def execRecPointEvaluate (t rcd : Nat) (s : State) : Host.Outcome State Fault Refusal :=
  event t s (fun s =>
    if !s.fabricUp then s
    else match s.recorder rcd with
      | some r => if r.storing && s.pointDue r then s.recEvaluate rcd r else s
      | none => s)

def execRecComplete (t rcd : Nat) (s : State) : Host.Outcome State Fault Refusal :=
  event t s (fun s => if s.fabricUp then s.recComplete rcd else s)

/-! ## Damage (R317) -/

/-- A point that an error has hit is unusable. -/
def Point.spoiled (p : Point) : Point := { p with entries := p.entries.map (fun y => { y with value := 0, usable := 0 }) }

/-- The points of a list, numbered from i on, with those named spoiled. -/
def spoilAt (pts : List Nat) (i : Nat) (l : List Point) : List Point := l.zipIdx.map (fun e => if pts.contains (i + e.2) then e.1.spoiled else e.1)

/-- Entries that a stream ring has not taken, their points numbered from i on: those named are spoiled, and an END behind one carries DAMAGED. `hit` holds the
numbers k of the points spoiled since the last END; the answer gives those of the record under way. -/
def damageHeld (pts : List Nat) : Nat → List Nat → List StreamEntry → List StreamEntry × List Nat
  | _, hit, [] => ([], hit)
  | i, hit, e :: l =>
    if e.kind == 2 then
      let ks := (e.points.zipIdx.filter (fun p => pts.contains (i + p.2))).map (fun p => p.1.k)
      let r := damageHeld pts (i + e.points.length) (hit ++ ks) l
      ({ e with points := spoilAt pts i e.points } :: r.1, r.2)
    else if e.kind == 3 then
      let r := damageHeld pts i [] l
      ({ e with record := e.record.map (fun x => { x with damaged := x.damaged || !hit.isEmpty }) } :: r.1, r.2)
    else
      let r := damageHeld pts i hit l
      (e :: r.1, r.2)

/-- An uncorrectable error in a recorder's segment: the pre-trigger store is emptied, or the record of a slot carries DAMAGED and its damaged points,
named by index, are unusable. With STREAM_OUT the points named are, from the oldest on, those that the segment still holds for the ring. -/
def State.recDamage (s : State) (n : Nat) (slot : Option Nat) (pts : List Nat) : State :=
  match s.recorder n with
  | none => s
  | some r =>
    let spoil := fun (x : Record) => { x with damaged := true, points := spoilAt pts 0 x.points }
    if r.set.streamOut && !pts.isEmpty then
      let d := damageHeld pts 0 [] r.backlog
      let record := if d.2.isEmpty then r.record
        else r.record.map (fun x => { x with damaged := true, points := x.points.map (fun p => if d.2.contains p.k then p.spoiled else p) })
      (s.setRec n { r with backlog := d.1, record }).recEvent n 0x1C7 0xFF
    else match slot with
    | none => s.setRec n { r with store := [] }
    | some i =>
      match tget i r.held with
      | some x => (s.setRec n { r with held := tset i (spoil x) r.held }).recEvent n 0x1C7 i
      | none => (s.setRec n { r with record := r.record.map spoil }).recEvent n 0x1C7 i

end Sys2Proof.Machine
end

