-- ==== Sys2Proof/Machine/Waveform.lean ====
section
/-!
DEFINITION. The waveform chain commands (05_waveform_chain, 0x0400 to 0x0404).
-/
namespace Sys2Proof.Machine

/-! ## WCH_UNIT_SET -/

/-- A setting with the defaults of Table 05-10. -/
def filledUnitSet (p : WchUnitSet) : WchUnitSet :=
  { p with trackRef := if p.trackRef == 0xFF then 9 else p.trackRef, stepLevel := if p.stepLevel == 0 then 100 else p.stepLevel }

/-- δ at 5 Hz in ns (Table 05-7); none where the law does not reach 5 Hz. DESIGN CHOICE: 10⁹ ÷ r² of M class is rounded down (R161, log 155). -/
def delta5 (p : WchUnitSet) (outRate : Nat) : Option Nat :=
  if p.phase == 0 then some 0
  else if p.cls == 0 then some (if p.fnom60 then 325000 else 400000)
  else if outRate < 25 then none
  else some (1000000000 / (outRate * outRate))

/-- The reply. Without a contract the figures of M class, and δ outside its law, are not stated: free values. -/
def State.unitReply (s : State) (p : WchUnitSet) (sv : Nat) (outRate : Option Nat) : CmdOut :=
  let g := geoOf p sv (outRate.getD 50)
  let known := p.cls == 0 || outRate.isSome
  let tau := g.ns (g.total (selFreq p.outSel))
  let settle := g.ns g.settle
  let f1 := s.free
  let f2 := f1.2.free
  let f3 := f2.2.free
  let d := if known then delta5 p (outRate.getD 50) else none
  let d5 := match d with
    | some x => x
    | none => if p.phase == 0 then 0 else f3.1 % 3200001
  ok (if known && d.isSome then s else f3.2)
    (le 2 g.fp ++ le 1 g.r ++ zeros 1 ++ le 4 (if known then tau else f1.1) ++ le 4 (g.ns (g.frontEnd + g.half * g.r))
      ++ le 4 (if known then settle else f2.1) ++ le 4 d5 ++ le 1 (popCount 16 p.outSel) ++ zeros 3)

/-- Settings that may not change under a contract; binding a unit that is not bound changes none. -/
def unitFrozenSet (a b : WchUnitSet) : Bool :=
  a.stream == b.stream && a.cls == b.cls && a.phase == b.phase && a.outSel == b.outSel && a.fnom60 == b.fnom60

def wchUnitSet (s : State) (h : Pkt) (p0 : WchUnitSet) : CmdOut :=
  let p := filledUnitSet p0
  let old := tget p.unit s.wch.units
  if p.clear then
    check s [badIf (255 < p.unit) 0, s.needs h kindUnit p.unit, badIf old.isNone 4
      , failIf (old.any (fun u => s.underContract u.set.stream)) stWrongState 0] (fun _ =>
      ok ({ s with wch := { s.wch with units := tdel p.unit s.wch.units } }).metersRefresh (zeros 24))
  else
  let sv := s.svRate p.stream
  let c := (s.contractOf p.stream).map (·.2)
  let held := s.underContract p.stream || old.any (fun u => s.underContract u.set.stream)
  let g := geoOf p sv ((c.map (·.outRate)).getD 50)
  check s
    [ badIf (255 < p.unit) 0, badIf (16383 < p.stream) 2, s.needs h kindUnit p.unit, s.needs h kindStream p.stream
    , zeroIf (p.outSel == 0) 8
    , badIf (!((tget p.stream s.ing.subs).any (fun e => e.kind == 2))) 2
    , badIf ((s.unitOf p.stream).any (fun e => e.1 != p.unit)) 2
    , badIf (p.fnom60 && (sv == 4000 || sv == 12800)) 4, badIf (1 < p.cls) 6, badIf (1 < p.phase) 7, badIf (65535 < p.outSel) 8
    , badIf (13 < p.trackRef) 10, badIf (3 < p.gapFill) 11, badIf (p.stepLevel < 10 || 1000 < p.stepLevel) 12
    , badIf (negOrNan p.trackMin) 16, badIf (decide (p.timeCorrNs < -100000) || decide (100000 < p.timeCorrNs)) 20
    , failIf (held && old.any (fun u => !unitFrozenSet u.set p)) stWrongState 0
    , failIf (c.any (fun c => c.isHeld && refuseReason sv p.outSel c != 0)) stWouldBreak (((s.contractOf p.stream).map (·.1)).getD 0xFFFF)
    , failIf (c.any (fun c => c.isHeld && decide (c.deadlineUs * 1000 < g.ns (g.total (selFreq p.outSel)) + 500000))) stWouldBreak (((s.contractOf p.stream).map (·.1)).getD 0xFFFF) ]
    (fun _ =>
      let u : WUnit := match old with
        | some u => if u.set.stream == p.stream then { u with set := p } else { set := p }
        | none => { set := p }
      ((s.setUnit p.unit u).unitRefresh p.unit).metersRefresh.unitReply p sv (c.map (·.outRate)))

def execWchUnitSet (h : Pkt) (p : WchUnitSet) (s : State) : Host.Outcome State Fault Refusal :=
  cmd (.wchUnitSet h p) { op := 0x0400, len := some 32 } h s (fun s => wchUnitSet s h p)

/-! ## WCH_UNIT_QUERY -/

def UnitState.code : UnitState → Nat
  | .idle => 1
  | .running => 2
  | .refused => 3

/-- f_t as binary32 Hz. -/
def WUnit.fImage (u : WUnit) : BitVec 32 := f32Of (frac u.fTrack 1000000)

def wchUnitQuery (s : State) (h : Pkt) (n : Nat) : CmdOut :=
  check s [badIf (255 < n) 0, s.needs h kindUnit n] (fun _ =>
    match tget n s.wch.units with
    | none => ok s (zeros 32)
    | some u =>
      let g := geoOf u.set (s.svRate u.set.stream) 50
      ok s (le 1 u.state.code ++ le 1 (b2n u.mode1) ++ le 1 u.reason ++ zeros 1 ++ le 2 u.set.stream ++ le 2 u.set.outSel
        ++ le 4 u.fImage.toNat ++ le 4 u.switches ++ le 8 u.lastSwitch
        ++ le 8 ((u.switchN.map (fun x => twos 64 (g.sampleNs u.set x))).getD 0)))

def execWchUnitQuery (h : Pkt) (unit : Nat) (s : State) : Host.Outcome State Fault Refusal :=
  cmd (.wchUnitQuery h unit) { op := 0x0401, len := some 4, ro := true } h s (fun s => wchUnitQuery s h unit)

/-! ## WCH_CMP_SET, WCH_CMP_READ -/

def wchCmpSet (s : State) (h : Pkt) (p : WchCmpSet) : CmdOut :=
  check s
    [ badIf (2047 < p.cmp) 0, s.needs h kindUnit (p.cmp / 8), badIf (15 < p.qty) 2, badIf (3 < p.mode) 3, badIf (p.mode == 3 && p.qty < 14) 3
    , badIf (f32Nan p.level) 4, badIf (negOrNan p.hyst) 8 ]
    (fun _ =>
      let old := tget p.cmp s.wch.cmps
      let c : Cmp := { set := p, changed := old.any (·.changed), stamp := (old.map (·.stamp)).getD 0 }
      ok { s with wch := { s.wch with cmps := tset p.cmp c s.wch.cmps } })

def execWchCmpSet (h : Pkt) (p : WchCmpSet) (s : State) : Host.Outcome State Fault Refusal :=
  cmd (.wchCmpSet h p) { op := 0x0402, len := some 24 } h s (fun s => wchCmpSet s h p)

/-- The comparators of a group that a partition holds. -/
def State.cmpsOf (s : State) (part g : Nat) : Nat → Option Cmp :=
  fun i => if s.holds part kindUnit ((32 * g + i) / 8) then tget (32 * g + i) s.wch.cmps else none

/-- A mask of 32 bits from a test on each. -/
def mask32 (f : Nat → Bool) : Nat := (List.range 32).foldl (fun m i => if f i then m + 2 ^ i else m) 0

def wchCmpRead (s : State) (h : Pkt) (p : WchCmpRead) : CmdOut :=
  check s [badIf (63 < p.group) 0] (fun _ =>
    let cs := s.cmpsOf h.part p.group
    let res := le 4 (mask32 (fun i => (cs i).any (·.asserted))) ++ le 4 (mask32 (fun i => (cs i).any (·.changed)))
      ++ ((List.range 32).map (fun i => le 8 (((cs i).map (fun c => twos 64 c.stamp)).getD 0))).flatten
    let s1 : State := if p.clear then
        { s with wch := { s.wch with cmps := tmap (fun n c =>
            if n / 32 == p.group && s.holds h.part kindUnit (n / 8) then { c with changed := false } else c) s.wch.cmps } }
      else s
    ok s1 res)

def execWchCmpRead (h : Pkt) (p : WchCmpRead) (s : State) : Host.Outcome State Fault Refusal :=
  cmd (.wchCmpRead h p) { op := 0x0403, len := some 4, ro := !p.clear } h s (fun s => wchCmpRead s h p)

/-! ## WCH_HX_SET -/

def wchHxSet (s : State) (h : Pkt) (p : WchHxSet) : CmdOut :=
  check s
    [ badIf (63 < p.hx) 0, badIf (7 < p.input) 1, badIf (255 < p.unit) 2, s.needs h kindUnit p.unit
    , failIf ((tget p.hx s.wch.taps).any (fun x => x.part != h.part)) stNoResource 0 ]
    (fun _ =>
      let x : HxTap := { part := h.part, unit := p.unit, input := p.input }
      let taps := if p.enable then tset p.hx x s.wch.taps else tdel p.hx s.wch.taps
      ok { s with wch := { s.wch with taps } })

def execWchHxSet (h : Pkt) (p : WchHxSet) (s : State) : Host.Outcome State Fault Refusal :=
  cmd (.wchHxSet h p) { op := 0x0404, len := some 8 } h s (fun s => wchHxSet s h p)

end Sys2Proof.Machine
end

