-- ==== Sys2Proof/Machine/HostOps.lean ====
section
/-!
DEFINITION. Resources in use and their return to the reset state (14_hosts R406, and the chapters' rules on a partition reset), the partition
reset (17_power_states R498), moves of resources, and the draining of an event ring (R427, R428).
-/
namespace Sys2Proof.Machine

/-! ## Draining an event ring -/

/-- Write held alarm records while there is space. -/
def State.drainAlarms (s : State) (n : Nat) : List EvRec → State
  | [] => s.modPart n (fun p => { p with ev := { p.ev with heldAlarms := [] } })
  | r :: l =>
    if 32 ≤ (s.part n).ev.free then (s.putRecord n r).drainAlarms n l
    else s.modPart n (fun p => { p with ev := { p.ev with heldAlarms := r :: l } })

/-- Write held event records while the reserve stays free. -/
def State.drainEvents (s : State) (n : Nat) : List EvRec → State
  | [] => s.modPart n (fun p => { p with ev := { p.ev with heldEvents := [] } })
  | r :: l =>
    if 32 * ((s.part n).ev.reserve + 1) ≤ (s.part n).ev.free then (s.putRecord n r).drainEvents n l
    else s.modPart n (fun p => { p with ev := { p.ev with heldEvents := r :: l } })

/-- FS_74 ends when no partition holds an alarm record. -/
def State.backlogCheck (s : State) : State :=
  if s.flt.active.contains 74 && allParts.all (fun n => (s.part n).ev.heldAlarms.isEmpty) then s.faultClear 74 else s

/-- EVENT_RECORD_WRITE: what is held is written as far as there is room, alarms ahead of events; a shed whose record is written in time
falls due by it (02_timetable R65). -/
def State.drainRing (s : State) (n : Nat) : State :=
  if !s.ringOpen (s.part n).ev then s
  else
    let held := (s.part n).ev.heldAlarms
    let s1 := s.drainAlarms n held
    let s2 := if (s1.part n).ev.heldAlarms.isEmpty then s1.drainEvents n (s1.part n).ev.heldEvents else s1
    let s3 := (held.take (held.length - (s1.part n).ev.heldAlarms.length)).foldl (fun s r => s.shedReported n r) s2
    s3.backlogCheck

/-! ## Resources in use (R406) -/

/-- A stream in use: subscribed, under a contract, placed, or with a policy other than NAN. -/
def State.streamsUsed (s : State) : List Nat :=
  let l : List Nat := s.ing.subs.map (fun e => e.1) ++ s.tt.contracts.map (fun e => e.2.stream) ++ s.hst.placed.map (fun e => e.1)
  let named : List Nat := (s.plt.policy.filter (fun e => e.2.head?.any (fun x => x.2.1 != 0))).map (fun e => e.1 / 256)
  (l ++ named).eraseDups

/-- A waveform unit in use: bound, with a comparator on, or feeding a tap of its holder. -/
def State.unitsUsed (s : State) : List Nat :=
  let l : List Nat := s.wch.units.map (fun e => e.1) ++ s.wch.taps.map (fun e => e.2.unit)
  let on : List Nat := (s.wch.cmps.filter (fun e => e.2.set.mode != 0)).map (fun e => e.1 / 8)
  (l ++ on).eraseDups

/-- The coherency engine is in its reset state. -/
def State.cohIdle (s : State) : Bool := 
  !s.coh.set.any (·.enable) && s.coh.next.isEmpty && s.coh.buses.isEmpty && s.coh.nextBuses.isEmpty && s.coh.eval.islands.isEmpty

/-- The logic pair is in use: running, held, or with a force or breakpoint. -/
def State.pairUsed (s : State) : Bool :=
  s.alc.state == .run || s.alc.state == .hold || !s.alc.forces.isEmpty || !s.alc.breaks.isEmpty

/-- The indices of a kind that are not in the reset state of a partition reset. -/
def State.used (s : State) (kind : Nat) : List Nat :=
  match kind with
  | 1 => s.streamsUsed
  | 2 => s.ing.stations.map (·.1)
  | 3 => (s.plt.outs.filter (fun e => e.2.set.enable)).map (·.1)
  | 4 => s.unitsUsed
  | 5 => s.osc.dets.map (·.1)
  | 6 => if s.osc.bands.any (fun e => e.2.enable) || !s.osc.sigs.isEmpty then [0] else []
  | 7 => if s.cohIdle then [] else [0]
  | 8 => if s.pairUsed then [0] else []
  | 9 => (s.rcd.recs.filter (fun e => e.2.state != .off || !e.2.held.isEmpty || e.2.ring.isSome)).map (·.1)
  | 10 => (s.nrg.points.filter (fun e => e.2.set.source != 0)).map (·.1)
  | 11 => s.nrg.pis.map (·.1)
  | 12 => s.nrg.pos.map (·.1)
  | 13 => (s.sec.slots.filter (fun e => e.2.holdsKey || !e.2.bankA.committed || !e.2.bankB.committed)).map (·.1)
  | _ => []

/-! ## Return to the reset state -/

/-- A stream: its contract goes without events, its items are cancelled, its entry, counts, policies, slots and sidings are stripped (R75, R113, R147,
R342), and what metered it has lost its source (06_metering R184). -/
def State.streamReset (s : State) (st : Nat) : State :=
  let ids := (s.tt.contracts.filter (fun e => e.2.stream == st)).map (·.1)
  let s1 := ids.foldl (fun s id => s.freeContract id) s
  let s2 := (s1.cancelItems (fun x => x.stream == st))
  ({ s2 with
    hst := { s2.hst with placed := tdel st s2.hst.placed }
    ing := { s2.ing with subs := tdel st s2.ing.subs, streams := tdel st s2.ing.streams }
    plt := { s2.plt with
      policy := tfilter (fun k _ => k / 256 != st) s2.plt.policy
      slots := tdel (placedKey st) s2.plt.slots
      sidings := s2.plt.sidings.filter (fun x => !ids.contains x.contract && x.contract != placedKey st) } } : State).metersRefresh

def State.unitReset (s : State) (n : Nat) : State :=
  let s1 : State := { s with wch := { s.wch with
    units := tdel n s.wch.units, cmps := tfilter (fun k _ => k / 8 != n) s.wch.cmps, taps := tfilter (fun _ x => x.unit != n) s.wch.taps } }
  s1.metersRefresh

/-- The pair of a holder that is reset (R284): RUN or HOLD goes to STOP by row 4 without a checkpoint; forces and breakpoints go. `status` answers the
commands that wait on it. -/
def State.pairReset (s : State) (status : Option Nat) : State :=
  let s1 := (s.alcStopNow status).dropForces
  { s1 with alc := { s1.alc with breaks := [], loading := none } }

/-- Return one resource to the state of a partition reset. -/
def State.resourceReset (s : State) (kind idx : Nat) (status : Option Nat) : State :=
  match kind with
  | 1 => s.streamReset idx
  | 2 => { s with ing := { s.ing with stations := tdel idx s.ing.stations } }
  | 3 =>
    match tget idx s.plt.outs with
    | some o => { s with plt := { s.plt with outs := tset idx { o with set := { o.set with enable := false } } s.plt.outs } }
    | none => s
  | 4 => s.unitReset idx
  | 5 => { s with osc := { s.osc with dets := tdel idx s.osc.dets } }
  | 6 => { s with osc := { s.osc with bands := tmap (fun _ b => { b with enable := false }) s.osc.bands, sigs := [], modes := [] } }
  | 7 => { s with coh := { s.coh with set := s.coh.set.map (fun p => { p with enable := false }), next := [], buses := [], nextBuses := []
                                      eval := {}, prev := {}, prevBuses := [], prevFirst := true, stale := false, first := true } }
  | 8 => s.pairReset status
  | 9 =>
    let s1 : State := { s with rcd := { s.rcd with recs := tdel idx s.rcd.recs } }
    match status with
    | some st => s1.finishAll (fun w => w.what == .recExport idx) st 0 (fun _ => [])
    | none => { s1 with hst := { s1.hst with waiting := s1.hst.waiting.filter (fun w => w.what != .recExport idx) } }
  | 10 => { s with nrg := { s.nrg with points := tdel idx s.nrg.points } }
  | 11 => { s with nrg := { s.nrg with pis := tdel idx s.nrg.pis } }
  | 12 => { s with nrg := { s.nrg with pos := tdel idx s.nrg.pos } }
  | 13 => s.keyEmpty idx
  | _ => s

/-- The exclusive kinds. -/
def exclusiveKinds : List Nat := [1, 2, 3, 4, 5, 6, 7, 8, 9, 10, 11, 12, 13]

/-- Return every resource that a partition holds. -/
def State.resourcesReset (s : State) (n : Nat) (status : Option Nat) : State :=
  exclusiveKinds.foldl (fun s k => ((s.used k).filter (fun i => s.holder k i == n)).foldl (fun s i => s.resourceReset k i status) s) s

/-- Rings, filters and taps of a partition (R147, R181, R342, R399): disabled, their frames dropped. -/
def State.portsReset (s : State) (n : Nat) (only : Option Nat) : State :=
  let ports := (s.prt.ports.map (·.1)).filter (fun p => only.all (· == p))
  ports.foldl (fun s p => ((s.dropHostFrames p n false).modPort p (fun x => { x with
    rxRings := tdel n x.rxRings, txRings := tdel n x.txRings, filters := tfilter (fun _ e => e.1 != n) x.filters })).kick p) s

def State.ringsReset (s : State) (n : Nat) : State :=
  let s1 : State := { s with
    plt := { s.plt with rings := tfilter (fun k _ => k / 4 != n) s.plt.rings, sidings := s.plt.sidings.filter (fun x => x.part != n) }
    sch := { s.sch with traces := tdel n s.sch.traces }
    wch := { s.wch with taps := tfilter (fun _ x => x.part != n) s.wch.taps } }
  s1.portsReset n none

/-- The HST_ registers of a partition at their reset values, its latches and held records cleared (R432). The records already in host memory stay. -/
def Part.regsReset (p : Part) : Part := { p with q := {}, ev := { written := p.ev.written }, ib := { p.ib with drop := 0 } }

/-- The copy that `CFG_LOAD` writes: the one that does not hold the bundle in force; true for B (R513). -/
def CfgSt.targetB (c : CfgSt) : Bool := c.applied.isSome && c.applied == c.copyA

/-- A copy that is refused, or whose write is given up, is erased. -/
def CfgSt.abandon (c : CfgSt) : CfgSt :=
  if c.loading.isNone then c
  else if c.targetB then { c with copyB := none, loading := none, latestIsB := c.latestIsB && c.copyA.isNone }
  else { c with copyA := none, loading := none, latestIsB := c.latestIsB || c.copyB.isSome }

/-- Commands of a partition that are held, waiting, or verified and not yet run are dropped unanswered, with its shadows and its staging buffer. -/
def State.dropCommands (s : State) (n : Nat) : State :=
  { s with
    held := s.held.filter (fun x => x.pkt.part != n)
    fw := if n == 0 then { s.fw with loadInFlight := none } else s.fw
    cfg := if n == 0 then s.cfg.abandon else s.cfg
    hst := { s.hst with
      waiting := s.hst.waiting.filter (fun w => w.pkt.part != n)
      inbox := s.hst.inbox.filter (fun r => r.part != n)
      spiInbox := if n == 0 then [] else s.hst.spiInbox
      shadow := tfilter (fun k _ => k / 1048576 != n) s.hst.shadow
      staging := tdel n s.hst.staging
      staged := s.hst.staged.filter (fun w => w.1 != n) } }

/-- PARTITION_STATE on the owner partition and the partition concerned. -/
def State.partEvent (s : State) (n code : Nat) : State := s.evt (if n == 0 then [0] else [0, n]) 0x000 (n + 16 * code)

/-- The start of a partition reset (R498): RESETTING, told; then everything of the partition is stripped, and no event of that reaches it. -/
def State.partReset (s : State) (n : Nat) : State :=
  let s1 := (s.modPart n (fun p => { p with state := .resetting })).partEvent n 2
  let s2 := (s1.dropCommands n).modPart n (fun p => p.regsReset)
  let s3 := (s2.resourcesReset n none).ringsReset n
  (s3.modPart n (fun p => p.regsReset)).backlogCheck

/-! ## Moves (R405, R406) -/

/-- Runs of consecutive numbers in a rising list, as first and count. -/
def runsOf : List Nat → List (Nat × Nat)
  | [] => []
  | a :: l =>
    match runsOf l with
    | (b, c) :: r => if a + 1 == b then (a, c + 1) :: r else (a, 1) :: (b, c) :: r
    | [] => [(a, 1)]

/-- The indices of a range that another partition holds. -/
def State.movedBy (s : State) (kind dest first count : Nat) : List Nat :=
  ((List.range count).map (first + ·)).filter (fun i => s.holder kind i != dest)

/-- A read-only share of the resources of a list is given to a reader, or taken from it. -/
def State.shareWrite (s : State) (kind reader : Nat) (give : Bool) (l : List Nat) : State :=
  let add : List ShareEntry := (runsOf l).map (fun r => { kind, first := r.1, count := r.2, reader := some reader, give })
  { s with hst := { s.hst with shares := add ++ s.hst.shares } }

/-- Read-only share grants on moved resources go. -/
def State.dropShares (s : State) (kind : Nat) (l : List Nat) : State :=
  let gone : List ShareEntry := (runsOf l).map (fun r => { kind, first := r.1, count := r.2, reader := none, give := false })
  { s with hst := { s.hst with shares := gone ++ s.hst.shares } }

/-- GRANT_CHANGED (R410). -/
def State.grantEvent (s : State) (parts : List Nat) (kind first : Nat) (share : Bool) : State :=
  s.evt parts.eraseDups 0x001 (kind + 256 * first + (if share then 2147483648 else 0))

/-- A pulse input or output tied to a metering point that another partition holds is tied no longer: its check or its output is off, and settings that wait
for the end of a pulse go on being off (06_metering R182). -/
def State.tiesCut (s : State) : State :=
  let cut := fun (n : Nat) (p : NrgPoSet) => if s.holder kindPulseOut n == s.holder kindMeter p.mp then p else { p with enable := false }
  { s with nrg := { s.nrg with
    pos := tmap (fun n (o : PulseOut) => { o with set := cut n o.set, next := o.next.map (cut n) }) s.nrg.pos
    pis := tmap (fun n x => if s.holder kindPulseIn n == s.holder kindMeter x.set.mp then x else { x with set := { x.set with tolPm := 0 } }) s.nrg.pis } }

/-- Move a range of resources to a partition, those in use first returned to their reset state. Answers how many were. -/
def State.grantMove (s : State) (kind dest first count : Nat) : State × Nat :=
  let moved := s.movedBy kind dest first count
  let inUse := (s.used kind).filter moved.contains
  let s1 := inUse.foldl (fun s i => s.resourceReset kind i (some stWrongState)) s
  let s2 := s1.dropShares kind moved
  let s3 : State := ({ s2 with hst := { s2.hst with grants := { kind, first, count, dest } :: s2.hst.grants } } : State).tiesCut
  (if moved.isEmpty then s3 else s3.grantEvent (dest :: moved.map (fun i => s.holder kind i)) kind first false, inUse.length)

/-! ## Uses of a share by its reader (R409) -/

/-- Detectors, signals and buses fed by a stream, of a reader. -/
def srcUses (p : OscDetSet) (st : Nat) : Bool := p.src == 0 && (p.sourceId == st || (p.qty == 2 && p.refStream == st))

def State.detUses (s : State) (reader st : Nat) : List Nat :=
  (s.osc.dets.filter (fun e => s.holder kindDetector e.1 == reader && (srcUses e.2.set st || e.2.next.any (fun x => srcUses x.1 st)))).map (·.1)

def State.sigUses (s : State) (reader st : Nat) : List Nat :=
  if s.holder kindModal 0 != reader then []
  else (s.osc.sigs.filter (fun e => e.2.set.src == 0 && (e.2.set.sourceId == st || (e.2.set.qty == 2 && e.2.set.refStream == st)))).map (·.1)

def State.busUses (s : State) (reader st : Nat) : List Nat :=
  if s.holder kindCoherency 0 != reader then []
  else (s.coh.buses.filter (fun e => e.2.set.stream == st)).map (·.1)

/-- A bus setting that waits is fed by a stream. -/
def State.busWaits (s : State) (reader st : Nat) : Bool :=
  s.holder kindCoherency 0 == reader && s.coh.nextBuses.any (fun x => x.entry.stream == st)

def State.outUses (s : State) (reader st : Nat) : List Nat :=
  (s.plt.outs.filter (fun e => s.holder kindOut e.1 == reader && e.2.blocks.any (fun b => b.2.entries.any (fun x => x.stream == st)))).map (·.1)

def State.pointUses (s : State) (reader st : Nat) : List Nat :=
  (s.nrg.points.filter (fun e => s.holder kindMeter e.1 == reader && e.2.set.source == 2 && (e.2.set.stream == st || e.2.set.freqStream == st))).map (·.1)

/-- The map of the ACTIVE image reads a resource for its holder. -/
def State.mapUses (s : State) (reader kind idx : Nat) : Bool :=
  s.holder kindLogic 0 == reader && s.alc.active.any (fun im => im.map.any (fun e =>
    match kind with
    | 1 => (e.kind == 1 || e.kind == 2) && e.index == idx
    | 6 => e.kind == 6
    | 7 => e.kind == 7 || e.kind == 8
    | _ => false))

/-- A reader uses a shared resource. -/
def State.shareUsedBy (s : State) (reader kind idx : Nat) : Bool :=
  s.mapUses reader kind idx
  || (kind == 1 && (!(s.detUses reader idx).isEmpty || !(s.sigUses reader idx).isEmpty || !(s.busUses reader idx).isEmpty || s.busWaits reader idx
      || !(s.outUses reader idx).isEmpty || !(s.pointUses reader idx).isEmpty))

/-- Clear the reader's uses as a partition reset of it would. -/
def State.shareUsesClear (s : State) (reader kind idx : Nat) : State :=
  let s0 := if s.mapUses reader kind idx then s.pairReset (some stWrongState) else s
  if kind != 1 then s0
  else
    let s1 := (s0.detUses reader idx).foldl (fun s i => s.resourceReset 5 i none) s0
    let s2 := (s1.outUses reader idx).foldl (fun s i => s.resourceReset 3 i none) s1
    let s3 := (s2.pointUses reader idx).foldl (fun s i => s.resourceReset 10 i none) s2
    { s3 with
      osc := { s3.osc with sigs := tfilter (fun k _ => !(s3.sigUses reader idx).contains k) s3.osc.sigs }
      coh := { s3.coh with buses := tfilter (fun k _ => !(s3.busUses reader idx).contains k) s3.coh.buses
                           nextBuses := s3.coh.nextBuses.filter (fun x => x.entry.stream != idx || s3.holder kindCoherency 0 != reader) } }

end Sys2Proof.Machine
end

