-- ==== Sys2Proof/Machine/Hosts.lean ====
section
/-!
DEFINITION. The partition, grant, ring and staging commands, and the QV3100 compatibility commands (14_hosts R401 to R432).
-/
namespace Sys2Proof.Machine

/-! ## DEV_IDENTIFY and HST_NOP -/

/-- DEV_FW.VERSION. -/
def State.fwVersion (s : State) : Nat := (s.bank s.fw.running).version

/-- Table 14-13. -/
def devIdentify (s : State) (h : Pkt) : CmdOut :=
  ok s (le 2 0x7240 ++ le 1 Config.grade.toNat ++ le 1 Config.stepping.toNat ++ le 1 s.sec.life.code ++ le 1 h.part ++ le 1 s.tt.profile.code
    ++ le 1 s.fw.running ++ le 8 Config.serial.toNat ++ le 4 s.fwVersion ++ le 4 ((s.cfg.applied.map (·.seq)).getD 0) ++ le 8 (s.doneAt h))

def execDevIdentify (h : Pkt) (s : State) : Host.Outcome State Fault Refusal :=
  cmd (.devIdentify h) { op := 0x0000, len := some 0, ro := true, halt := true, stabled := true, boot := true, tamper := true, blank := true
                         retired := true } h s (fun s => devIdentify s h)

def hstNop (s : State) (data : List Byte) : CmdOut := ok s data

def execHstNop (h : Pkt) (data : List Byte) (s : State) : Host.Outcome State Fault Refusal :=
  cmd (.hstNop h data) { op := 0x000E, len := none, ro := true, halt := true, stabled := true, boot := true, tamper := true, blank := true
                         retired := true } h s (fun s => hstNop s data)

/-! ## Partitions -/

def PartState.code : PartState → Nat
  | .absent => 0
  | .created => 1
  | .resetting => 2

def State.absent (s : State) (n : Nat) : Bool := (s.part n).state == .absent

/-- HST_PART_CREATE: no resources and zero shares. -/
def hstPartCreate (s : State) (h : Pkt) (p : HstPart) : CmdOut :=
  check s [ownerOnly h, badIf (p.part == 0 || 7 < p.part) 0, failIf (!s.absent p.part) stWrongState 0] fun _ =>
    ok ((s.setPart p.part { state := .created }).partEvent p.part 1) (le 1 1 ++ zeros 3)

def execHstPartCreate (h : Pkt) (p : HstPart) (s : State) : Host.Outcome State Fault Refusal :=
  cmd (.hstPartCreate h p) { op := 0x0001, len := some 4 } h s (fun s => hstPartCreate s h p)

/-- The indices of a kind that a partition holds. -/
def State.heldOf (s : State) (n kind : Nat) : List Nat := (List.range (kindCount kind)).filter (fun i => s.holder kind i == n)

/-- The ports to which a partition other than the owner has host access. -/
def State.hostPorts (s : State) (n : Nat) : List Nat := (List.range 24).filter (fun i => s.shared kindPort i n)

/-- A partition other than the owner holds some resource. -/
def State.holdsAny (s : State) (n : Nat) : Bool :=
  exclusiveKinds.any (fun k => !(s.heldOf n k).isEmpty) || !(s.hostPorts n).isEmpty

/-- Deletion: every resource and privilege returns to the owner partition, those in use first reset, and the partition is ABSENT. -/
def State.partDelete (s : State) (n : Nat) : State :=
  let back : List (Nat × Nat) := exclusiveKinds.flatMap (fun k => (runsOf (s.heldOf n k)).map (fun r => (k, r.1)))
  let p := s.part n
  let s1 := (((s.dropCommands n).resourcesReset n none).ringsReset n)
  let moved := exclusiveKinds.foldl (fun (s : State) k => s.dropShares k (s.heldOf n k)) s1
  let s2 : State := { moved with hst := { moved.hst with
      grants := moved.hst.grants.map (fun (g : GrantEntry) => if g.dest == n then { g with dest := 0 } else g)
      shares := moved.hst.shares.filter (fun g => g.reader != some n)
      timeOwner := if moved.hst.timeOwner == n then 0 else moved.hst.timeOwner } }
  let s3 := (s2.setPart n {}).backlogCheck
  let s4 := back.foldl (fun (s : State) r => s.grantEvent [0] r.1 r.2 false) s3
  let s5 := if s.hst.timeOwner == n then s4.grantEvent [0] 0xF2 n false else s4
  let s6 := if p.observeFull then s5.grantEvent [0] 0xF1 n false else s5
  let s7 := if p.safety then s6.grantEvent [0] 0xF3 n false else s6
  s7.partEvent n 0

def hstPartDelete (s : State) (h : Pkt) (p : HstPart) : CmdOut :=
  check s
    [ ownerOnly h, badIf (p.part == 0 || 7 < p.part) 0, failIf (s.absent p.part) stWrongState 0
    , failIf (!p.force && s.holdsAny p.part) stWrongState 0 ]
    fun _ => ok (s.partDelete p.part) (zeros 4)

def execHstPartDelete (h : Pkt) (p : HstPart) (s : State) : Host.Outcome State Fault Refusal :=
  cmd (.hstPartDelete h p) { op := 0x0002, len := some 4 } h s (fun s => hstPartDelete s h p)

/-- HST_PART_RESET: the reply follows the end of the reset; a partition that resets itself gets none. -/
def hstPartReset (s : State) (h : Pkt) (p : HstPart) : CmdOut :=
  check s
    [badIf (7 < p.part) 0, if h.part == p.part then none else ownerOnly h, failIf (s.absent p.part) stWrongState 0]
    fun _ =>
      if h.part == p.part then .silent (s.partReset p.part)
      else if s.created p.part then .wait (s.partReset p.part) (.partReset p.part)
      else .wait s (.partReset p.part)

def execHstPartReset (h : Pkt) (p : HstPart) (s : State) : Host.Outcome State Fault Refusal :=
  cmd (.hstPartReset h p) { op := 0x0003, len := some 4 } h s (fun s => hstPartReset s h p)

/-- PCIE_FLR: a function level reset is a partition reset (R403). The function's MSI-X table goes to its reset value with the function (PRESUMED: PCI
Express). -/
def State.flr (s : State) (n : Nat) : State :=
  if n < 8 && s.created n && s.pwr.startupDone then
    (s.partReset n).modPart n (fun p => { p with msixTable := [], msixPending := 0 })
  else s

def execPcieFlr (t part : Nat) (s : State) : Host.Outcome State Fault Refusal := event t s (fun s => s.flr part)

/-- The end of a partition reset (R498). -/
def State.partResetDone (s : State) (n : Nat) : State :=
  if (s.part n).state != .resetting then s
  else
    let s1 := (s.modPart n (fun p => { p with state := .created })).partEvent n 1
    s1.finishAll (fun w => w.what == .partReset n) stOk 0 (fun _ => le 1 1 ++ zeros 3)

def execPartitionResetDone (t part : Nat) (s : State) : Host.Outcome State Fault Refusal := event t s (fun s => s.partResetDone part)

/-! ## HST_GRANT -/

/-- The ports of a range on which a partition has rings or filters. -/
def State.portsUsed (s : State) (n first count : Nat) : List Nat :=
  ((s.prt.ports.filter (fun e => (tget n e.2.rxRings).isSome || (tget n e.2.txRings).isSome || e.2.filters.any (fun f => f.2.1 == n))).map (·.1)).filter
    (fun i => decide (first ≤ i) && decide (i < first + count))

/-- Host access to ports given or removed (Table 14-3 KIND 14). -/
def grantPorts (s : State) (p : HstGrant) : CmdOut :=
  let access := (List.range p.count).map (p.first + ·)
  let used := if p.remove && p.dest != 0 then s.portsUsed p.dest p.first p.count else []
  check s [failIf (!p.force && !used.isEmpty) stWrongState 0] fun _ =>
    let s1 := used.foldl (fun (s : State) i => s.portsReset p.dest (some i)) s
    let changes := p.dest != 0 && access.any (fun i => s.shared kindPort i p.dest == p.remove)
    let e : ShareEntry := { kind := kindPort, first := p.first, count := p.count, reader := some p.dest, give := !p.remove }
    let s2 : State := { s1 with hst := { s1.hst with shares := e :: s1.hst.shares } }
    ok (if changes then s2.grantEvent [p.dest] kindPort p.first false else s) (le 4 used.length)

/-- The parameter checks of a range of resources: KIND, FIRST and COUNT. -/
def rangeChecks (kind first count offFirst offCount : Nat) : List (Option (Nat × Nat)) :=
  [badIf (kindCount kind ≤ first) offFirst, badIf (kindCount kind < first + count) offCount]

/-- The first slot of a grant that is marked UPDATE_LOST (15_security R454). -/
def State.markedSlot (s : State) (p : HstGrant) : Option Nat :=
  if p.kind == kindKey then ((List.range p.count).map (p.first + ·)).find? (fun n => (s.slot n).updateLost) else none

def hstGrant (s : State) (h : Pkt) (p : HstGrant) : CmdOut :=
  check s
    ([ownerOnly h, zeroIf (p.count == 0) 8, badIf (kindCount p.kind == 0) 0, badIf (7 < p.dest) 1, badIf (p.remove && p.kind != kindPort) 2]
     ++ rangeChecks p.kind p.first p.count 4 8 ++ [failIf (s.absent p.dest) stWrongState 0])
    fun _ =>
      if p.kind == kindPort then grantPorts s p
      else match s.markedSlot p with
      | some n => .reply (s.setSlot n { s.slot n with updateLost := false }) stWrongState (0x10000 + n) []
      | none =>
        let inUse := (s.used p.kind).any (s.movedBy p.kind p.dest p.first p.count).contains
        check s [failIf (!p.force && inUse) stWrongState 0] fun _ =>
          let r := s.grantMove p.kind p.dest p.first p.count
          ok r.1 (le 4 r.2)

def execHstGrant (h : Pkt) (p : HstGrant) (s : State) : Host.Outcome State Fault Refusal :=
  cmd (.hstGrant h p) { op := 0x0004, len := some 16 } h s (fun s => hstGrant s h p)

/-! ## Shares and privileges -/

/-- MiB of sidings in use, rounded up. -/
def State.sidingsMibUsed (s : State) (n : Nat) : Nat := ceilDiv (s.sidingsUsed n) 1048576

/-- R407: the present use of a share is above a new figure. -/
def State.shareBelow (s : State) (p : HstShareSet) : Option (Nat × Nat) :=
  let first := ((s.heldContracts.find? (fun e => e.2.part == p.part)).map (·.1)).getD 0xFFFF
  if p.capacity < s.shareUsed p.part || p.platform < s.pltUsed p.part then some (stWouldBreak, first)
  else if p.sidingsMib < s.sidingsMibUsed p.part || p.poolMib < s.segments 64 (some p.part) then some (stWouldBreak, 0xFFFF)
  else none

def State.shareSet (s : State) (p : HstShareSet) : State :=
  s.modPart p.part (fun x => { x with capacity := p.capacity, platform := p.platform, sidingsMib := p.sidingsMib, poolMib := p.poolMib })

def hstShareSet (s : State) (h : Pkt) (p : HstShareSet) : CmdOut :=
  check s [ownerOnly h, badIf (7 < p.part) 0, failIf (s.absent p.part) stWrongState 0, s.shareBelow p] fun _ =>
    ok ((s.shareSet p).grantEvent [p.part] 0 p.part false)

def execHstShareSet (h : Pkt) (p : HstShareSet) (s : State) : Host.Outcome State Fault Refusal :=
  cmd (.hstShareSet h p) { op := 0x0005, len := some 24 } h s (fun s => hstShareSet s h p)

/-- Whether a partition has a privilege: 1 OBSERVE_FULL, 2 TIME_OWNER, 3 SAFETY. -/
def State.hasPriv (s : State) (n priv : Nat) : Bool :=
  match priv with
  | 1 => s.observes n
  | 2 => s.hst.timeOwner == n
  | _ => (s.part n).safety

/-- Give or take a privilege; giving TIME_OWNER takes it from its holder (R408). SAFETY given to the holder of a pair in HOLD takes its outputs to their safe
values (09_alarm_logic R274). -/
def State.privSet (s : State) (n priv : Nat) (give : Bool) : State :=
  match priv with
  | 1 => s.modPart n (fun x => { x with observeFull := give })
  | 2 => { s with hst := { s.hst with timeOwner := n } }
  | _ =>
    let s1 := s.modPart n (fun x => { x with safety := give })
    if s1.atSafeValues && !s.atSafeValues then s1.toSafe else s1

def hstPrivSet (s : State) (h : Pkt) (p : HstPrivSet) : CmdOut :=
  let give := p.op == 1
  let pairOn := s.alc.state == .run || s.alc.state == .hold || s.alc.state == .faulted
  check s
    [ ownerOnly h, badIf (7 < p.part || (!give && p.priv == 1 && p.part == 0)) 0, badIf (p.priv == 0 || 3 < p.priv) 1
    , badIf (p.op == 0 || 2 < p.op || (!give && p.priv == 2)) 2, failIf (s.absent p.part) stWrongState 0
    , failIf (p.priv == 3 && give && s.tt.profile != .fixed) stWrongState 0
    , failIf (p.priv == 3 && !give && p.part == s.holder kindLogic 0 && pairOn) stWrongState 0 ]
    fun _ =>
      if s.hasPriv p.part p.priv == give then ok s
      else
        let told := if p.priv == 2 then [p.part, s.hst.timeOwner] else [p.part]
        ok ((s.privSet p.part p.priv give).grantEvent told (0xF0 + p.priv) p.part false)

def execHstPrivSet (h : Pkt) (p : HstPrivSet) (s : State) : Host.Outcome State Fault Refusal :=
  cmd (.hstPrivSet h p) { op := 0x0006, len := some 4 } h s (fun s => hstPrivSet s h p)

/-! ## Read-only shares -/

/-- Kinds on which a read-only share may be given (R409). -/
def shareKinds : List Nat := [1, 6, 7, 8, 9, 10]

def hstRoShare (s : State) (h : Pkt) (p : HstRoShare) : CmdOut :=
  let give := p.op == 1
  let range := (List.range p.count).map (p.first + ·)
  let others := range.filter (fun i => s.holder p.kind i != p.dest)
  let lost := if give then [] else others.filter (fun i => s.shared p.kind i p.dest && s.shareUsedBy p.dest p.kind i)
  check s
    ([ownerOnly h, zeroIf (p.count == 0) 8, badIf (!shareKinds.contains p.kind) 0, badIf (7 < p.dest) 1, badIf (p.op == 0 || 2 < p.op) 2]
     ++ rangeChecks p.kind p.first p.count 4 8
     ++ [failIf (s.absent p.dest) stWrongState 0, failIf (!p.force && !lost.isEmpty) stWrongState 0])
    fun _ =>
      let changed := others.filter (fun i => s.shared p.kind i p.dest != give)
      let s1 := lost.foldl (fun (s : State) i => s.shareUsesClear p.dest p.kind i) s
      ok (if changed.isEmpty then s else (s1.shareWrite p.kind p.dest give changed).grantEvent [p.dest] p.kind p.first true)

def execHstRoShare (h : Pkt) (p : HstRoShare) (s : State) : Host.Outcome State Fault Refusal :=
  cmd (.hstRoShare h p) { op := 0x0007, len := some 16 } h s (fun s => hstRoShare s h p)

/-! ## HST_GRANT_QUERY -/

/-- A bit map of `n` bytes from a test of bit numbers. -/
def bitMap (n : Nat) (f : Nat → Bool) : List Byte :=
  (List.range n).map (fun b => BitVec.ofNat 8 (((List.range 8).map (fun i => if f (8 * b + i) then 2 ^ i else 0)).sum))

def State.privByte (s : State) (n : Nat) : Nat :=
  b2n (s.observes n && !s.absent n) + 2 * b2n (s.hst.timeOwner == n) + 4 * b2n (s.part n).safety + 8 * b2n (n == 0)

def hstGrantQuery (s : State) (h : Pkt) (p : HstGrantQuery) : CmdOut :=
  check s [badIf (7 < p.part) 0, if h.part == p.part then none else ownerOnly h, badIf (14 < p.kind) 1] fun _ =>
    let x := s.part p.part
    let within := fun (i : Nat) => decide (p.first + i < kindCount p.kind)
    let maps :=
      if p.kind == 0 then []
      else bitMap 2000 (fun i => within i && s.holds p.part p.kind (p.first + i))
        ++ bitMap 2000 (fun i => within i && p.kind != kindPort && s.shared p.kind (p.first + i) p.part)
    ok s (le 4 x.capacity ++ le 4 x.platform ++ le 4 x.sidingsMib ++ le 4 x.poolMib ++ le 1 (s.privByte p.part) ++ zeros 3 ++ maps)

def execHstGrantQuery (h : Pkt) (p : HstGrantQuery) (s : State) : Host.Outcome State Fault Refusal :=
  cmd (.hstGrantQuery h p) { op := 0x0008, len := some 8, ro := true } h s (fun s => hstGrantQuery s h p)

/-! ## The event ring and the in-band channel -/

def hstEvtRingSet (s : State) (h : Pkt) (p : HstEvtRingSet) : CmdOut :=
  let on := p.ringSize != 0
  check s
    [ badIf (on && !powerBetween 4096 16777216 p.ringSize) 0
    , badIf (on && p.reserve != 0 && (p.reserve < 16 || p.ringSize / 64 < p.reserve)) 4
    , if on then stagingOnly h p.ringAddr else none, badIf (on && p.ringAddr % 4096 != 0) 8 ]
    fun _ =>
      let s1 := s.modPart h.part (fun x => { x with ev := { x.ev with
        size := p.ringSize, reserve := if p.reserve == 0 then 64 else p.reserve, addr := p.ringAddr, prod := 0, cons := 0, stopped := false } })
      ok (s1.drainRing h.part)

def execHstEvtRingSet (h : Pkt) (p : HstEvtRingSet) (s : State) : Host.Outcome State Fault Refusal :=
  cmd (.hstEvtRingSet h p) { op := 0x0009, len := some 24 } h s (fun s => hstEvtRingSet s h p)

/-- A slot that the caller holds with an attribute and ALG 2 (R434). -/
def State.inbandSlot (s : State) (part slot attr : Nat) : Bool :=
  s.holds part kindKey slot && (s.key slot).any (fun k => k.attr == attr && k.alg == 2)

/-- In-band settings take effect; the replay window restarts. -/
def State.inbandSet (s : State) (n : Nat) (p : HstInbandSet) : State :=
  let s1 := s.modPart n (fun x => { x with ib := { x.ib with
    enable := p.enable, keyVerify := p.keyVerify, keyVerifyNext := p.keyVerifyNext, keySign := p.keySign, peerIp := p.peerIp, replay := {} } })
  if n == 0 then { s1 with hst := { s1.hst with udpPort := if p.udpPort == 0 then 49470 else p.udpPort } } else s1

def hstInbandSet (s : State) (h : Pkt) (p : HstInbandSet) : CmdOut :=
  let named := [p.keyVerify, p.keyVerifyNext, p.keySign].filter (· != 0xFF)
  let bad := fun (slot attr : Nat) (need : Bool) => if slot == 0xFF && !need then false else !s.inbandSlot h.part slot attr
  onSlots s h named named fun _ =>
  check s
    [ badIf (bad p.keyVerify 2 p.enable) 1, badIf (bad p.keyVerifyNext 2 false) 2, badIf (bad p.keySign 1 p.enable) 3
    , badIf (h.part != 0 && p.udpPort != 0) 4 ]
    fun _ => ok (s.inbandSet h.part p)

def execHstInbandSet (h : Pkt) (p : HstInbandSet) (s : State) : Host.Outcome State Fault Refusal :=
  cmd (.hstInbandSet h p) { op := 0x000A, len := some 24 } h s (fun s => hstInbandSet s h p)

/-! ## Staging (R423) -/

def stageChecks (offset len : Nat) : List (Option (Nat × Nat)) :=
  [badIf (stagingSize ≤ offset) 0, zeroIf (len == 0) 4, badIf (4000 < len || stagingSize < offset + len) 4]

def hstStageWrite (s : State) (h : Pkt) (offset len : Nat) (data : List Byte) : CmdOut :=
  check s (failIf (h.paramLen != 8 + len) stBadLength 0 :: stageChecks offset len) fun _ => ok (s.stageWrite h.part offset data)

def execHstStageWrite (h : Pkt) (offset len : Nat) (data : List Byte) (s : State) : Host.Outcome State Fault Refusal :=
  cmd (.hstStageWrite h offset len data) { op := 0x000C, len := none } h s (fun s => hstStageWrite s h offset len data)

def hstStageRead (s : State) (h : Pkt) (offset len : Nat) : CmdOut :=
  check s (stageChecks offset len) fun _ => ok s (Memory.readBytes offset len (s.stagingOf h.part))

def execHstStageRead (h : Pkt) (offset len : Nat) (s : State) : Host.Outcome State Fault Refusal :=
  cmd (.hstStageRead h offset len) { op := 0x000D, len := some 8, ro := true } h s (fun s => hstStageRead s h offset len)

/-! ## QV3100 compatibility (R430) -/

/-- The stream as a proposal would find it: an entry whose KIND matches. -/
def State.q31Entry (s : State) (p : Q31StreamAdd) : Option (Nat × Nat) :=
  match tget p.stream s.ing.subs with
  | none => some (stBadParam, 0)
  | some e => badIf (e.kind != kindOfProtocol p.protocol) 2

/-- The placed stream that an addition makes. -/
def State.q31Placed (s : State) (h : Pkt) (p : Q31StreamAdd) (k : Nat) : PlacedStream :=
  { part := h.part, protocol := p.protocol, rate := p.rate, channels := p.channels, groupMask := p.groupMask, timeoutMs := p.timeoutMs, cluster := k
    active := false, seen := false, bytes := platformDemand p.channels p.rate (s.maxWait p.groupMask), work := [] }

def q31StreamAdd (s : State) (h : Pkt) (p : Q31StreamAdd) : CmdOut :=
  check s
    [ failIf (s.tt.profile != .placement) stWrongState 0, zeroIf (p.rate == 0) 4, zeroIf (p.channels == 0) 8
    , badIf (16383 < p.stream) 0, badIf (2 < p.protocol) 2, badIf (!frameRates.contains p.rate) 4, badIf (256 < p.channels) 8
    , s.needs h kindStream p.stream, failIf (tget p.stream s.hst.placed).isSome stWrongState 0, s.q31Entry p
    , badIf ((maskBits 16 p.groupMask).any (fun g => (s.group g).isNone)) 10 ]
    fun _ =>
      match s.leastLoaded [] with
      | none => refuse s stNoResource 0
      | some k =>
        let x := s.q31Placed h p k
        if 65011712 < s.pltCommit + x.bytes || 262144 < s.chCommit + x.channels then refuse s stNoResource 0
        else ok { s with hst := { s.hst with placed := tset p.stream x s.hst.placed } } (le 1 k ++ zeros 3)

def execQ31StreamAdd (h : Pkt) (p : Q31StreamAdd) (s : State) : Host.Outcome State Fault Refusal :=
  cmd (.q31StreamAdd h p) { op := 0x7F00, len := some 16 } h s (fun s => q31StreamAdd s h p)

/-- The checks of a command on an added stream. -/
def onPlaced (s : State) (h : Pkt) (stream : Nat) (k : PlacedStream → CmdOut) : CmdOut :=
  check s [failIf (s.tt.profile != .placement) stWrongState 0, badIf (16383 < stream) 0, s.needs h kindStream stream] fun _ =>
    match tget stream s.hst.placed with
    | none => refuse s stBadParam 0
    | some p => k p

def q31StreamRemove (s : State) (h : Pkt) (stream : Nat) : CmdOut :=
  onPlaced s h stream fun p =>
    let s1 := s.cancelItems (fun x => x.stream == stream)
    let s2 : State := { s1 with
      hst := { s1.hst with placed := tdel stream s1.hst.placed }
      plt := { s1.plt with slots := tdel (placedKey stream) s1.plt.slots } }
    ok (s2.houseCheckAll p.groupMask).metersRefresh

def execQ31StreamRemove (h : Pkt) (stream : Nat) (s : State) : Host.Outcome State Fault Refusal :=
  cmd (.q31StreamRemove h stream) { op := 0x7F01, len := some 4 } h s (fun s => q31StreamRemove s h stream)

def q31StreamQuery (s : State) (h : Pkt) (stream : Nat) : CmdOut :=
  onPlaced s h stream fun p =>
    let st := if p.active then 1 else if p.seen then 2 else 0
    ok s (le 1 p.cluster ++ le 1 st ++ le 2 p.channels ++ le 4 p.rate ++ le 4 (s.streamLoad p) ++ zeros 4)

def execQ31StreamQuery (h : Pkt) (stream : Nat) (s : State) : Host.Outcome State Fault Refusal :=
  cmd (.q31StreamQuery h stream) { op := 0x7F02, len := some 4, ro := true } h s (fun s => q31StreamQuery s h stream)

def q31LoadRead (s : State) : CmdOut :=
  check s [failIf (s.tt.profile != .placement) stWrongState 0] fun _ =>
    ok s (allClusters.flatMap (fun k => le 4 (s.load k) ++ le 2 (s.hst.placed.filter (fun e => e.2.cluster == k)).length ++ zeros 2))

def execQ31LoadRead (h : Pkt) (s : State) : Host.Outcome State Fault Refusal :=
  cmd (.q31LoadRead h) { op := 0x7F03, len := some 0, ro := true } h s (fun s => q31LoadRead s)

/-- The cluster that a placed stream would take by R68, its own load taken out of its present one, under given loads. -/
def State.bestFor (s : State) (stream : Nat) (loads : List ClusterWork) : Option Nat :=
  let rest : State := { s with hst := { s.hst with loads := loads.filter (fun w => w.stream != stream) } }
  rest.leastLoaded []

/-- Re-place every added stream by load, in increasing STREAM_ID; for the comparison the load of a stream that has moved counts on its new cluster. Answers
how many moved. -/
def State.rebalance (s : State) : State × Nat :=
  let r := s.hst.placed.foldl (fun (a : State × List ClusterWork × Nat) e =>
    match a.1.bestFor e.1 a.2.1 with
    | none => a
    | some k =>
      if k == e.2.cluster then a
      else
        let s1 : State := { a.1 with hst := { a.1.hst with placed := tmod e.1 e.2 (fun p => { p with cluster := k }) a.1.hst.placed } }
        (s1.moveItems e.2.cluster (placedKey e.1), a.2.1.map (fun w => if w.stream == e.1 then { w with cluster := k } else w), a.2.2 + 1))
    (s, s.hst.loads, 0)
  (r.1, r.2.2)

def q31Rebalance (s : State) (h : Pkt) : CmdOut :=
  check s [failIf (s.tt.profile != .placement) stWrongState 0, ownerOnly h] fun _ =>
    let r := s.rebalance
    ok r.1 (le 2 r.2 ++ zeros 2)

def execQ31Rebalance (h : Pkt) (s : State) : Host.Outcome State Fault Refusal :=
  cmd (.q31Rebalance h) { op := 0x7F04, len := some 0 } h s (fun s => q31Rebalance s h)

end Sys2Proof.Machine
end

