-- ==== Sys2Proof/Machine/Channels.lean ====
section
/-!
DEFINITION. Malformed and unknown packets, interim replies, the in-band channel, the service port, latches, the link, DMA, and the queue registers
(14_hosts R403, R404, R411 to R422, R426, 17_power_states R503).
-/
namespace Sys2Proof.Machine

/-! ## Malformed and unknown packets (R416, R418) -/

/-- The fixed parameter lengths of an opcode group of Table 14-7 in opcode order; 0 for a variable one. -/
def groupLengths (group : Nat) : List Nat :=
  match group with
  | 0x00 => [0, 4, 4, 4, 16, 24, 4, 16, 8, 24, 24, 4, 0, 8, 0]
  | 0x01 => [32, 4, 4, 4, 4, 4, 8]
  | 0x02 => [128, 4, 0, 4, 16, 4, 100]
  | 0x03 => [24, 4, 8, 32, 64, 0, 32]
  | 0x04 => [32, 4, 24, 4, 8]
  | 0x05 => [32, 4, 4, 24, 24]
  | 0x06 => [40, 4, 32, 16, 16]
  | 0x07 => [32, 0, 16, 24]
  | 0x08 => [24, 8, 4, 12, 24, 4, 0, 24, 0]
  | 0x09 => [64, 0, 16, 4, 4, 40, 4, 32]
  | 0x0A => [4, 4, 4, 32, 4]
  | 0x0B => [20, 24, 24, 16, 12, 8, 4]
  | 0x0C => [16, 72, 32, 32, 32, 4, 4, 4]
  | 0x0D => [0, 12, 0, 4, 4, 4, 32, 36, 72, 72, 24]
  | 0x0E => [0, 8, 8, 4, 4, 8]
  | 0x0F => [4, 0, 0, 24, 4, 4, 24, 24]
  | 0x7F => [16, 4, 4, 0, 0]
  | _ => []

/-- The fixed parameter length of an opcode; 0 for a variable one. -/
def opcodeLength (op : Nat) : Nat := (groupLengths (op / 256))[op % 256]?.getD 0

/-- The opcodes of Table 14-7. -/
def opcodeKnown (op : Nat) : Bool := decide (op % 256 < (groupLengths (op / 256)).length)

/-- A packet that is too long, or crosses the end of the ring. -/
def QueueRegs.malformed (q : QueueRegs) (len : Nat) : Bool :=
  decide (4064 < len) || decide (q.sqSize.toNat < q.sqHead.toNat % Nat.max q.sqSize.toNat 1 + slotBytes len)

/-- The queue stops after a malformed packet: BAD_LENGTH, CMDQ_ERR, HOST_ERROR of type 1. -/
def State.malformedPacket (s : State) (h : Pkt) (op : Nat) : State :=
  let p := s.part h.part
  let posted := (p.q.sqTail - p.q.sqHead).toNat
  if h.chan == .queue && h.part < 8 && p.queueRuns && 32 ≤ posted && p.q.malformed h.paramLen && s.replyRoom h then
    let s1 := s.putReply h op stBadLength (opcodeLength op) s.now []
    let s2 := s1.modPart h.part (fun p => { p with q := { p.q with cmdqErr := true, stopped := true } })
    s2.evt [h.part] 0x002 1
  else s

def execMalformedPacket (h : Pkt) (opcode : Nat) (s : State) : Host.Outcome State Fault Refusal :=
  event h.recv s (fun s => s.malformedPacket h opcode)

/-- An opcode of Table 14-7 is no unknown one: the row does nothing then. -/
def execUnknownOpcode (h : Pkt) (opcode : Nat) (s : State) : Host.Outcome State Fault Refusal :=
  if opcodeKnown opcode then .next (s.at h.recv)
  else cmd (.unknownOpcode h opcode) { op := opcode, len := none, ro := true } h s (fun s => refuse s stBadOpcode 2)

/-! ## Interim replies (R414) -/

/-- The interim reply of one command in flight. -/
def State.pendingReply (s : State) (w : Waiting) : State :=
  let mark := fun (x : Waiting) => if x == w then { x with pendingSent := true } else x
  let s1 : State := { s with hst := { s.hst with waiting := s.hst.waiting.map mark } }
  s1.putReply w.pkt w.opcode stPending 0 w.pkt.recv []

/-- The interim reply of one command that has been read and may not start yet. -/
def State.pendingHeld (s : State) (x : HeldCmd) : State :=
  let s1 : State := { s with held := s.held.map (fun y => if y == x then { y with pendingSent := true } else y) }
  s1.putReply x.pkt x.opcode stPending 0 x.pkt.recv []

/-- The held command that an interim reply is due for, while the reply queue has room for it beside the reserve of R413. -/
def State.pendingHeldDue (s : State) (part tag : Nat) : Option HeldCmd :=
  s.held.find? (fun x => x.pkt.part == part && x.pkt.tag == tag && x.pkt.ackPending && !x.pendingSent && s.replyRoom x.pkt)

/-- The command in flight that an interim reply is due for. -/
def State.pendingDue (s : State) (part tag : Nat) : Option Waiting :=
  s.hst.waiting.find? (fun w => w.pkt.part == part && w.pkt.tag == tag && w.pkt.ackPending && !w.pendingSent)

def execPendingReply (t part tag : Nat) (s : State) : Host.Outcome State Fault Refusal :=
  event t s (fun s => match s.pendingDue part tag with
    | some w => s.pendingReply w
    | none => match s.pendingHeldDue part tag with
      | some x => s.pendingHeld x
      | none => s)

/-! ## Messages (R419 to R424) -/

/-- The key slot that KEY_SEL names. -/
def Inband.slot (b : Inband) (sel : Nat) : Nat := if sel == 0 then b.keyVerify else if sel == 1 then b.keyVerifyNext else 0xFF

/-- The slot verifies messages: DECRYPT with ALG 2. -/
def State.verifies (s : State) (slot : Nat) : Bool := slot != 0xFF && (s.key slot).any (fun k => k.attr == 2 && k.alg == 2)

/-- A message is dropped: counted for its partition, or for the owner partition where it names none; the first in each second is told (R420). -/
def State.messageDropped (s : State) (n : Nat) : State :=
  let part := if n < 8 then n else 0
  let s1 := s.modPart part (fun p => { p with ib := { p.ib with drop := p.ib.drop + 1 } })
  let sec := s.now / 1000000000
  if s.hst.dropSecond == some sec then s1
  else ({ s1 with hst := { s1.hst with dropSecond := some sec } }).evt [0] 0x002 3

def State.requestOf (_s : State) (m : ChannelMsg) (n : Nat) : Request :=
  { part := n, port := m.port, ip := m.srcIp, udpPort := m.srcPort, seq := m.seq, opcode := m.opcode, tag := m.tag }

/-- A message passes the checks of the channel. -/
def State.inbandFits (s : State) (m : ChannelMsg) : Bool :=
  let b := (s.part m.partition).ib
  decide (m.partition < 8) && s.created m.partition && b.enable && (b.peerIp == 0 || b.peerIp == m.srcIp) && m.frameOk && decide (m.keySel < 2)
  && s.verifies (b.slot m.keySel) && m.tagOk

/-- A verified message: its number enters the window and its command waits to be taken; else it is dropped. -/
def State.inbandMessage (s : State) (m : ChannelMsg) : State :=
  let s1 := s.sideTake m.port
  if s.sec.bootHold || s.sec.tamperHold then s1
  else if !s1.inbandFits m then s1.messageDropped m.partition
  else
    match (s1.part m.partition).ib.replay.accept 64 m.seq with
    | none => s1.messageDropped m.partition
    | some r =>
      let s2 := s1.modPart m.partition (fun p => { p with ib := { p.ib with replay := r } })
      { s2 with hst := { s2.hst with inbox := s2.hst.inbox ++ [s.requestOf m m.partition] } }

/-- A datagram reaches the channel at a port with INBAND, at UDP_PORT, in a frame that the port can receive (R421). -/
def State.inbandReaches (s : State) (m : ChannelMsg) : Bool :=
  let x := s.port m.port
  decide (m.port < 24) && s.portAlive m.port && x.mode.any (·.inband) && m.udpPort == s.hst.udpPort && decide (m.frameLen ≤ x.maxFrame)
  && decide (0 < x.side)

def execInbandMessage (t : Nat) (m : ChannelMsg) (s : State) : Host.Outcome State Fault Refusal :=
  event t s (fun s => if s.inbandReaches m then s.inbandMessage m else s)

/-- The service port checks the TAG in DEPLOYED and RETIRED, outside the two holds. -/
def State.spiChecked (s : State) : Bool := (s.sec.life == .deployed || s.sec.life == .retired) && !s.sec.bootHold && !s.sec.tamperHold

/-- The message passes under partition 0's in-band keys or the recovery slot. -/
def State.spiVerified (s : State) (m : ChannelMsg) : Bool :=
  m.tagOk && (s.verifies ((s.part 0).ib.slot m.keySel) || s.sec.recoverySlot.any s.verifies)

def State.spiSessionSet (s : State) (m : ChannelMsg) : State :=
  { s with hst := { s.hst with spiSession := if m.session then some s.now else none } }

def State.spiTake (s : State) (m : ChannelMsg) : State :=
  let s1 := s.spiSessionSet m
  { s1 with hst := { s1.hst with spiInbox := s1.hst.spiInbox ++ [s.requestOf m 0] } }

/-- A message written to the service port; one at a time. -/
def State.spiMessage (s : State) (m : ChannelMsg) : State :=
  if s.pwr.porHeld || !s.hst.spiInbox.isEmpty then s
  else if !m.frameOk || 1 < m.keySel then s.messageDropped 0
  else if !s.spiChecked then s.spiTake m
  else if !s.spiVerified m then s.messageDropped 0
  else
    match (s.part 0).ib.replay.accept 64 m.seq with
    | none => s.messageDropped 0
    | some r => (s.modPart 0 (fun p => { p with ib := { p.ib with replay := r } })).spiTake m

def execSpiWriteMessage (t : Nat) (m : ChannelMsg) (s : State) : Host.Outcome State Fault Refusal :=
  event t s (fun s => s.spiMessage m)

/-- The oldest waiting reply is read out. -/
def State.spiReadReply (s : State) : State :=
  if s.pwr.porHeld then s
  else { s with hst := { s.hst with spiRead := s.hst.spiReplies.head?, spiReplies := s.hst.spiReplies.drop 1 } }

def execSpiReadReply (t : Nat) (s : State) : Host.Outcome State Fault Refusal := event t s (fun s => s.spiReadReply)

/-- The status byte: REPLY_READY, BUSY, AUTH_REQUIRED. -/
def State.spiStatusByte (s : State) : Nat := b2n (!s.hst.spiReplies.isEmpty) + 2 * b2n (!s.hst.spiInbox.isEmpty) + 4 * b2n s.spiChecked

def State.spiReadStatus (s : State) : State :=
  if s.pwr.porHeld then s else { s with hst := { s.hst with spiStatus := s.spiStatusByte } }

def execSpiReadStatus (t : Nat) (s : State) : Host.Outcome State Fault Refusal := event t s (fun s => s.spiReadStatus)

/-- SPI_IRQ_N is low while a reply waits. -/
def State.spiIrqLow (s : State) : Bool := !s.hst.spiReplies.isEmpty

/-- R424: 60 s without a message close a session. -/
def State.sessionTimeout (s : State) : State :=
  if s.hst.spiSession.any (fun x => decide (x + 60000000000 ≤ s.now)) then { s with hst := { s.hst with spiSession := none } } else s

def execSpiSessionTimeout (t : Nat) (s : State) : Host.Outcome State Fault Refusal := event t s (fun s => s.sessionTimeout)

/-! ## Latches (R426) -/

/-- The end of a hold-off: a pending record becomes writable and the hold-off starts again; else the latch is idle. -/
def State.latchEnd (s : State) (n src : Nat) : State :=
  let p := s.part n
  match tget src p.ev.latches with
  | none => s
  | some l =>
    if s.now < l.holdEnd then s
    else match l.pending with
      | none => s.setPart n { p with ev := { p.ev with latches := tdel src p.ev.latches } }
      | some r =>
        let l' : Latch := { holdEnd := s.now + 1000 * p.ev.holdoffUs, pending := none }
        (s.setPart n { p with ev := { p.ev with latches := tset src l' p.ev.latches } }).writeOrHold n r

def execEventHoldoffEnd (t part source : Nat) (s : State) : Host.Outcome State Fault Refusal :=
  event t s (fun s => if part < 8 then s.latchEnd part source else s)

/-! ## The link (R403) -/

/-- Every host ring of every partition stops. -/
def State.linkReset (s : State) : State :=
  { s with
    hst := { s.hst with parts := tmap (fun _ (p : Part) =>
      { p with q := { p.q with linkStop := p.q.enable }, ev := { p.ev with stopped := true } }) s.hst.parts }
    plt := { s.plt with rings := tmap (fun _ (r : DepRing) => { r with stopped := true }) s.plt.rings }
    sch := { s.sch with traces := tmap (fun _ (r : TraceRing) => { r with stopped := true }) s.sch.traces }
    prt := { s.prt with ports := tmap (fun _ (x : PortSt) => { x with
      rxRings := tmap (fun _ (r : HostRing) => { r with stopped := true }) x.rxRings
      txRings := tmap (fun _ (r : HostRing) => { r with stopped := true }) x.txRings }) s.prt.ports }
    rcd := { s.rcd with recs := tmap (fun _ (r : Rec) => { r with ring := r.ring.map (fun (x : StreamRing) => { x with stopped := true }) }) s.rcd.recs } }

def execPcieLinkReset (t : Nat) (s : State) : Host.Outcome State Fault Refusal := event t s (fun s => s.linkReset)

/-! ## DMA (R404) -/

/-- A command that waits for a copy. -/
def Waiting.copies (w : Waiting) (part tag : Nat) : Bool :=
  w.pkt.part == part && w.pkt.tag == tag && (match w.what with
    | .dmaCopy .. => true
    | _ => false)

/-- A command that waits for a transfer with a buffer of its host. -/
def Waiting.buffers (w : Waiting) (part tag : Nat) : Bool :=
  w.pkt.part == part && w.pkt.tag == tag && w.pkt.chan == .queue && (match w.what with
    | .dmaCopy .. => true
    | .recExport _ => true
    | .alcLoad => true
    | .fwLoad => true
    | .cfgLoad => true
    | _ => false)

/-- What a command has begun is given up with its buffer: the record is unlocked, the load ends. -/
def State.bufferLost (s : State) (w : Waiting) : State :=
  match w.what with
  | .recExport n => s.exportDrop n
  | .alcLoad => { s with alc := { s.alc with loading := none } }
  | .fwLoad => { s with fw := { s.fw with loadInFlight := none } }
  | .cfgLoad => { s with cfg := s.cfg.abandon }
  | _ => s

/-- The ring, queue or buffer concerned is disabled; a command that was filling a buffer is answered FAULTED. -/
def State.dmaDisable (s : State) (n : Nat) (x : DmaTarget) : State :=
  match x with
  | .cmdQueue => s.modPart n (fun p => { p with q := { p.q with enable := false, linkStop := true } })
  | .eventRing => s.modPart n (fun p => { p with ev := { p.ev with stopped := true } })
  | .departureRing i =>
    { s with plt := { s.plt with rings := tmap (fun k (r : DepRing) => if k == ringKey n i then { r with stopped := true } else r) s.plt.rings } }
  | .traceRing => { s with sch := { s.sch with traces := tmap (fun k (r : TraceRing) => if k == n then { r with stopped := true } else r) s.sch.traces } }
  | .portRx p => s.modPort p (fun x => { x with rxRings := tmap (fun k (r : HostRing) => if k == n then { r with stopped := true } else r) x.rxRings })
  | .portTx p => s.modPort p (fun x => { x with txRings := tmap (fun k (r : HostRing) => if k == n then { r with stopped := true } else r) x.txRings })
  | .recStream i =>
    { s with rcd := { s.rcd with recs := tmap (fun k (r : Rec) =>
      if k == i && s.holder kindRecorder i == n then { r with ring := r.ring.map (fun (x : StreamRing) => { x with stopped := true }) } else r) s.rcd.recs } }
  | .buffer tag =>
    (s.hst.waiting.filter (fun w => w.buffers n tag)).foldl (fun s w => (s.bufferLost w).finish w stFaulted 76 []) s

/-- A DMA access completed with an error. -/
def State.dmaError (s : State) (n : Nat) (x : DmaTarget) : State :=
  let s1 := (s.dmaDisable n x).modPart n (fun p => { p with q := { p.q with dmaErr := true } })
  let s2 := (s1.evt [n] 0x002 2).free
  s2.2.fault 76 (s2.1 % 4294967296) n

def execDmaCompletionError (t part : Nat) (target : DmaTarget) (s : State) : Host.Outcome State Fault Refusal :=
  event t s (fun s => if part < 8 && s.created part && s.pwr.startupDone then s.dmaError part target else s)

/-- The copy of a command is done: the data are in the buffer before the reply (R404). -/
def State.copyDone (s : State) (w : Waiting) : State :=
  match w.what with
  | .dmaCopy addr data res => (s.copyTo w.pkt addr data).finish w stOk 0 res
  | _ => s

def execDmaCopyDone (t part tag : Nat) (s : State) : Host.Outcome State Fault Refusal :=
  event t s (fun s => match s.hst.waiting.find? (fun w => w.copies part tag) with
    | some w => s.copyDone w
    | none => s)

/-! ## Queue and ring registers (R401, R411 to R413, Table 14-14) -/

/-- A partition's BAR0 takes writes: the partition is CREATED and start-up is done (R401, Table 17-4). -/
def State.barOpen (s : State) (n : Nat) : Bool := decide (n < 8) && s.created n && s.pwr.startupDone

/-- HST_SQ_TAIL: ignored unless a multiple of 32 that posts no more than SQ_SIZE. -/
def State.sqTailWrite (s : State) (n : Nat) (v : W32) : State :=
  let q := (s.part n).q
  if v.toNat % 32 == 0 && (v - q.sqHead).toNat ≤ q.sqSize.toNat then s.modPart n (fun p => { p with q := { p.q with sqTail := v } }) else s

def execHstSqTailWrite (t part value : Nat) (s : State) : Host.Outcome State Fault Refusal :=
  event t s (fun s => if s.barOpen part then s.sqTailWrite part (BitVec.ofNat 32 value) else s)

/-- HST_RQ_HEAD: ignored where it would make free space exceed RQ_SIZE. -/
def State.rqHeadWrite (s : State) (n : Nat) (v : W32) : State :=
  let q := (s.part n).q
  if (q.rqTail - v).toNat ≤ q.rqSize.toNat then s.modPart n (fun p => { p with q := { p.q with rqHead := v } }) else s

def execHstRqHeadWrite (t part value : Nat) (s : State) : Host.Outcome State Fault Refusal :=
  event t s (fun s => if s.barOpen part then s.rqHeadWrite part (BitVec.ofNat 32 value) else s)

/-- HST_EVT_CONS: space is freed, and held records are written. -/
def State.evtConsWrite (s : State) (n : Nat) (v : W32) : State :=
  let e := (s.part n).ev
  if (e.prod - v).toNat ≤ e.size then (s.modPart n (fun p => { p with ev := { p.ev with cons := v } })).drainRing n else s

def execHstEvtConsWrite (t part value : Nat) (s : State) : Host.Outcome State Fault Refusal :=
  event t s (fun s => if s.barOpen part then s.evtConsWrite part (BitVec.ofNat 32 value) else s)

/-- What R411 asks of the ring registers. -/
def QueueRegs.fits (q : QueueRegs) : Bool :=
  powerBetween 4096 1048576 q.sqSize.toNat && powerBetween 16384 1048576 q.rqSize.toNat && q.sqAddr.toNat % 4096 == 0 && q.rqAddr.toNat % 4096 == 0

/-- ENABLE is set: the counts are 0; or CMDQ_ERR. -/
def State.queueEnable (s : State) (n : Nat) : State :=
  let q := (s.part n).q
  if q.enable then s
  else if q.fits then
    s.modPart n (fun p => { p with q := { p.q with enable := true, stopped := false, linkStop := false, sqTail := 0, sqHead := 0, rqTail := 0, rqHead := 0 } })
  else s.modPart n (fun p => { p with q := { p.q with cmdqErr := true } })

def execHstQueueEnable (t part : Nat) (s : State) : Host.Outcome State Fault Refusal :=
  event t s (fun s => if s.barOpen part then s.queueEnable part else s)

/-- ENABLE is cleared: nothing more is taken. -/
def State.queueDisable (s : State) (n : Nat) : State := s.modPart n (fun p => { p with q := { p.q with enable := false } })

def execHstQueueDisable (t part : Nat) (s : State) : Host.Outcome State Fault Refusal :=
  event t s (fun s => if s.barOpen part then s.queueDisable part else s)

end Sys2Proof.Machine
end

