-- ==== Sys2Proof/Machine/BaseOps.lean ====
section
/-!
DEFINITION. What the disciplined bases do with the samples of their sources (12_time R347 to R353), holdover, leap seconds (R356) and steps.
-/
namespace Sys2Proof.Machine

def State.setBase (s : State) (n : Nat) (b : Base) : State := { s with tb := { s.tb with bases := tset n b s.tb.bases } }

/-- A time event on every partition, with the base in bits [1:0] and a type in bits [15:8] (R369). -/
def State.timeEvent (s : State) (src n : Nat) (type : Nat := 0) : State := s.evt s.everyone src (n % 4 + 256 * type)

/-- ±100 ppm in units of a rate. -/
def maxRate : Int := 25600000000000000

def clampRate (x : Int) : Int := max (-maxRate) (min maxRate x)

/-- Give a base a new rate from now on; its reading is continuous (R349). -/
def Base.setRate (b : Base) (now : Stamp) (y : Int) : Base := { b with anchorT := now, anchorR := b.exact now, y }

/-- Step a base by a number of ns. -/
def Base.stepBy (b : Base) (ns : Int) : Base := { b with anchorR := b.anchorR + ns * (baseUnit : Int) }

/-! ## Holdover (R350, R352, R354) -/

/-- A base leaves LOCKED for HOLDOVER; its E at entry is kept, or none where it is saturated. -/
def State.holdover (s : State) (n : Nat) (b : Base) (saturated : Bool) : State :=
  let e := if saturated then none else s.baseErr b
  (s.setBase n { b with state := .holdover, eEntry := e, holdAt := s.now, leftAt := some s.now, run := [], agree := 0, restepped := false }).count .tb 2

/-- Holdover for want of a sample, or of a source. -/
def State.lostSource (s : State) (n : Nat) (b : Base) : State := (s.holdover n b false).timeEvent 0x1F1 n

/-- Return to LOCKED without a step (R351, R353). -/
def State.relocked (s : State) (n : Nat) (b : Base) : State :=
  (s.setBase n { b with state := .locked, refused := none, integral := b.y, errs := [], run := [], agree := 0, restepped := false }).timeEvent 0x1F3 n

/-! ## Acquisition (R348) -/

/-- The least-squares line through offsets against capture times: slope, and intercept at the first capture. None for captures that do not differ. -/
def fitLine (l : List (Stamp × Int)) : Option (Frac × Frac) :=
  match l with
  | [] => none
  | (t0, _) :: _ =>
    let n : Int := l.length
    let xs := l.map (fun e => (e.1 : Int) - (t0 : Int))
    let ys := l.map (·.2)
    let sx := xs.sum
    let sy := ys.sum
    let sxx := (xs.map (fun x => x * x)).sum
    let sxy := ((xs.zip ys).map (fun e => e.1 * e.2)).sum
    let d := n * sxx - sx * sx
    if d ≤ 0 then none
    else
      let m := fReduce (frac (n * sxy - sx * sy) d.toNat)
      some (m, fReduce (fDiv (fSub (frac sy) (fMul m (frac sx))) (frac n)))

/-- The samples agree: slope within ±100 ppm, every offset within 1 µs of the line. One sample agrees with itself. -/
def samplesAgree (l : List (Stamp × Int)) : Bool :=
  match l with
  | [] => true
  | [_] => true
  | (t0, _) :: _ =>
    match fitLine l with
    | none => false
    | some (m, c) =>
      fLe (fAbs m) (frac 1 10000)
      && l.all (fun e => fLe (fAbs (fSub (frac e.2) (fAdd c (fMul m (frac ((e.1 : Int) - (t0 : Int))))))) (frac 1000))

/-- The acquisition step: the base is set to its source's time and its rate to the slope. -/
def State.acquire (s : State) (n : Nat) (b : Base) (cap : Stamp) (src : Int) (l : List (Stamp × Int)) : State :=
  let y := clampRate (((fitLine l).map (fun e => fRound (fMul e.1 (frac (baseUnit : Int))))).getD 0)
  let b1 : Base := { b with
    state := .locked, anchorT := cap, anchorR := src * (baseUnit : Int), y, integral := y, acq := [], run := [], agree := 0, refused := none
    errs := [], lastServo := s.now, lastStep := s.now, restepped := false }
  let s1 := ((s.setBase n b1).count .tb 0).timeEvent 0x1F0 n
  s1.groupsAcquired n

/-- A sample of an UNACQUIRED base. A sample that breaks the agreement is the first of a new count. -/
def State.acqSample (s : State) (n : Nat) (b : Base) (cap : Stamp) (src : Int) : State :=
  let x := (cap, src - (cap : Int))
  let l := if samplesAgree (b.acq ++ [x]) then b.acq ++ [x] else [x]
  if b.set.acqCount ≤ l.length then s.acquire n b cap src l else s.setBase n { b with acq := l }

/-! ## The servo and the jump (R349 to R351) -/

/-- T_c in seconds. -/
def timeConstant (source : Nat) : Nat := if source == 1 then 16 else 8

/-- The servo takes a sample that R350 passes to it. -/
def State.servo (s : State) (n : Nat) (b : Base) (cap : Stamp) (o : Int) : State :=
  let tc := timeConstant b.set.source
  let dt : Int := (cap - b.lastServo : Nat)
  let i := clampRate (b.integral + o * dt * (256 / (tc * tc : Nat) : Nat))
  let y := clampRate (i + o * (512000000000 / tc : Nat))
  (s.dueNoted n).setBase n { b.setRate s.now y with integral := i, lastServo := cap, errs := (o :: b.errs).take 16, run := [] }

/-- The median of a list, with an even number the mean of the two middle values to nearest, ties to even. -/
def medianOf (l : List Int) : Int :=
  let q := sortBy (fun (a b : Int) => decide (a ≤ b)) l
  let n := q.length
  if n % 2 == 1 then (q[n / 2]?).getD 0
  else
    let x := (q[n / 2 - 1]?).getD 0 + (q[n / 2]?).getD 0
    if x % 2 == 0 then x / 2 else if x / 2 % 2 == 0 then x / 2 else x / 2 + 1

/-- The jump is refused: HOLDOVER with TIME_JUMP_REFUSED; a step made before ends its say on the return to LOCKED. -/
def State.refuseJump (s : State) (n : Nat) (b : Base) (run : List Int) : State :=
  let s1 := if b.state == .locked then s.holdover n b false else s.setBase n b
  let b1 := (s1.base n).getD b
  ((s1.setBase n { b1 with refused := some (medianOf run), run := [], agree := 0, restepped := false }).count .tb 1).timeEvent 0x1F2 n

/-- A sample of a valid base, judged by R350 and R351. -/
def State.judgeSample (s : State) (n : Nat) (b : Base) (cap : Stamp) (o : Int) : State :=
  if (b.set.jumpNs : Int) < (o.natAbs : Int) then
    let s1 := s.count .tb 3
    let run := if b.run.all (fun x => decide (0 < x) == decide (0 < o)) then b.run ++ [o] else [o]
    if b.refused.isNone && b.set.jumpCount ≤ run.length then s1.refuseJump n { b with agree := 0 } run
    else s1.setBase n { b with run, agree := 0 }
  else if b.state == .locked then s.servo n b cap o
  else if b.restepped || b.set.acqCount ≤ b.agree + 1 then s.relocked n b
  else s.setBase n { b with run := [], agree := b.agree + 1 }

/-! ## Steps (R353) -/

/-- A step after acquisition: counted, TB_RESTEPPED, the refusal cleared, and for a step forward the instants it has passed (R137). -/
def State.restepped (s : State) (n : Nat) (b : Base) (o : Int) : State :=
  let b1 : Base := { b.stepBy o with refused := none, run := [], agree := 0, lastStep := s.now
                                     restepped := b.state == .holdover }
  let s1 := (((s.dueNoted n).setBase n b1).count .tb 0).timeEvent 0x1F4 n
  if 0 < o then s1.groupsStepped n else s1

/-- The reply of `TB_RESTEP`. -/
def restepReply (o : Int) (t : Stamp) : List Byte := le 8 (twos 64 o) ++ le 8 t

/-- A `TB_RESTEP` HOW 1 of a base that waits for a sample after its receipt, at most LOSS_S later (R353). -/
def Waiting.restepFor (w : Waiting) (n : Nat) (cap : Stamp) : Bool :=
  match w.what with
  | .restep k d => k == n && decide (w.pkt.recv < cap) && decide (cap ≤ d)
  | _ => false

/-- A `TB_RESTEP` HOW 1 of a base whose sample has not come within LOSS_S (R353). -/
def Waiting.restepLost (w : Waiting) (n : Nat) (cap : Stamp) : Bool :=
  match w.what with
  | .restep k d => k == n && decide (d < cap)
  | _ => false

/-- A sample of a source: its time at a capture. -/
def State.tbSample (s0 : State) (n : Nat) (cap : Stamp) (src : Int) (acc : Frac) : State :=
  let s := s0.finishAll (fun w => w.restepLost n cap) stWrongState 0 (fun _ => [])
  match s.base n with
  | none => s
  | some b0 =>
    let b : Base := { b0 with acc, lastSample := some cap }
    match b.state with
    | .disabled => s
    | .unacquired => s.acqSample n b cap src
    | _ =>
      let o := src - b.reading cap
      let b1 : Base := { b with offset := o }
      if s.hst.waiting.any (fun w => w.restepFor n cap) then
        (s.restepped n b1 o).finishAll (fun w => w.restepFor n cap) stOk 0 (fun _ => restepReply o s.now)
      else s.judgeSample n b1 cap o

/-! ## Leap seconds (R356) -/

def dayNs : Int := 86400000000000

/-- Day number of 1 January of a year, from 1970. -/
def jan1 (y : Nat) : Nat := 365 * (y - 1970) + (y - 1969) / 4 - (y - 1901) / 100 + (y - 1601) / 400

def leapYear (y : Nat) : Bool := y % 4 == 0 && (y % 100 != 0 || y % 400 == 0)

/-- The first 1 January or 1 July after a day. -/
def nextHalfYear (d : Nat) : Nat :=
  let y := 1970 + d * 400 / 146097
  let l := [y - 1, y, y + 1].flatMap (fun y => [jan1 (Nat.max y 1970), jan1 (Nat.max y 1970) + 181 + b2n (leapYear (Nat.max y 1970))])
  (least (l.filter (fun x => decide (d < x)))).getD (d + 1)

/-- A leap second is announced for the end of a UTC day, given as the day number of the day after. -/
def State.leapAnnounce (s : State) (n : Nat) (del : Bool) (endDay : Nat) : State :=
  match s.base n with
  | none => s
  | some b =>
    let at_ := (endDay : Int) * dayNs + (b.utcOffset : Int) * 1000000000 - (if del then 1000000000 else 0)
    if b.leap.isSome then s.setBase n { b with leap := some (del, at_.toNat), leapDir := del }
    else (s.setBase n { b with leap := some (del, at_.toNat), leapDir := del }).timeEvent 0x1F5 n 2

/-- The UTC day of a reading of a base. -/
def Base.utcDay (b : Base) (ns : Int) : Nat := ((ns - (b.utcOffset : Int) * 1000000000) / dayNs).toNat

/-- Announced by a source for the end of the present UTC day of a valid base. -/
def State.leapToday (s : State) (n : Nat) (del : Bool) : State :=
  match s.base n with
  | some b => if b.valid then s.leapAnnounce n del (b.utcDay (b.reading s.now) + 1) else s
  | none => s

/-- UTC_OFFSET given by a source or a setting; TIME_NOTICE of type 4 where it changes. -/
def State.utcOffsetGiven (s : State) (n v : Nat) (given : Bool) : State :=
  match s.base n with
  | none => s
  | some b =>
    let s1 := s.setBase n { b with utcOffset := v, utcGiven := given }
    if b.utcOffset == v || b.utcOffset == 0 then s1 else s1.timeEvent 0x1F5 n 4

/-! ## References (R362, R370) -/

/-- The pulse of PPS_OUT stays low while its base is not valid. -/
def State.ppsCheck (s : State) : State :=
  if s.tb.ppsHigh && !(s.tb.ppsBase.any (fun n => (s.base n).any Base.valid)) then { s with tb := { s.tb with ppsHigh := false } } else s

/-- TB_0 goes on on the on-die oscillator, and every valid base enters HOLDOVER with E saturated. -/
def State.refclkHold (s : State) : State :=
  s.tb.bases.foldl (fun s e =>
    if e.2.state == .locked then (s.holdover e.1 e.2 true).timeEvent 0x1F1 e.1
    else if e.2.state == .holdover then s.setBase e.1 { e.2 with eEntry := none } else s) { s with tb := { s.tb with ondie := true } }

/-- REFCLK lost while the PLL uses it (R370). -/
def State.refclkGone (s : State) : State := (s.free.2.faultPair 68 69 s.free.1 0xFF).refclkHold

/-- The PLL locks to EXT10M where REF_SEL asks for it and the 10 MHz is present. -/
def State.pllSelect (s : State) : State :=
  let use := s.tb.ref.refSel == 1 && s.tb.extPresent
  if use == s.tb.extInUse then s
  else
    let s1 := ({ s with tb := { s.tb with extInUse := use } }).timeEvent 0x1F5 0 5
    if use && s1.tb.ondie then (({ s1 with tb := { s1.tb with ondie := false } }).faultClear 68).faultClear 69
    else if !use && s1.tb.refclkLost then s1.refclkGone else s1

end Sys2Proof.Machine
end

