-- ==== Sys2Proof/Machine/Time.lean ====
section
/-!
DEFINITION. The time commands (12_time, 0x0B00 to 0x0B06) and the events of IRIG-B, PPS, the references and leap seconds.
-/
namespace Sys2Proof.Machine

/-- NOT_GRANTED when the caller does not hold TIME_OWNER. -/
def State.timeOwnerOnly (s : State) (h : Pkt) : Option (Nat × Nat) := failIf (s.hst.timeOwner != h.part) stNotGranted 0xF2

/-- A base without settings. -/
def offBase (n : Nat) : Base :=
  { set := { base := n, source := 0, irigLocal := false, todFromIrig := false, ppsOut := false, disable := false, jumpNs := 10000, jumpCount := 4
             acqCount := 8, lossS := 3, utcOffset := 0, srcAccNs := 1000 } }

def State.baseOf (s : State) (n : Nat) : Base := (s.base n).getD (offBase n)

/-! ## TB_REF_SET (R362) -/

def tbRefSet (s : State) (h : Pkt) (p : TbRefSet) : CmdOut :=
  check s
    [ ownerOnly h, badIf (1 < p.refSel) 0, badIf (negOrNan p.rY) 4, badIf (negOrNan p.rD) 8, badIf (negOrNan p.xY) 12, badIf (negOrNan p.xD) 16
    , failIf (p.refSel == 0 && s.tb.bases.any (fun e => e.2.set.source == 3)) stWrongState 0 ]
    (fun _ => ok ({ s with tb := { s.tb with ref := p } }).pllSelect)

def execTbRefSet (h : Pkt) (p : TbRefSet) (s : State) : Host.Outcome State Fault Refusal :=
  cmd (.tbRefSet h p) { op := 0x0B00, len := some 20 } h s (fun s => tbRefSet s h p)

/-! ## TB_SET (Table 12-7) -/

def tbFilled (p : TbSet) : TbSet :=
  { p with jumpNs := if p.jumpNs == 0 then 10000 else p.jumpNs, jumpCount := if p.jumpCount == 0 then 4 else p.jumpCount
           acqCount := if p.acqCount == 0 then 8 else p.acqCount, lossS := if p.lossS == 0 then 3 else p.lossS
           utcOffset := if p.source ≤ 1 && p.utcOffset == 0 then 37 else p.utcOffset, srcAccNs := if p.srcAccNs == 0 then 1000 else p.srcAccNs }

/-- An output group, a stream, a PTP instance in MODE 3 or a timed frame uses a base. -/
def State.baseUsed (s : State) (n : Nat) : Bool :=
  s.plt.groups.any (fun e => e.2.set.tbSel == n) || s.ing.subs.any (fun e => e.2.kind != 3 && e.2.tbSel == n)
  || (tget n s.tb.ptp).any (fun x => x.set.mode == 3)
  || s.prt.ports.any (fun e => e.2.txq.any (fun q => q.2.any (fun f => f.launch.any (fun l => l.1 == n))))

/-- The settings of a base take effect; a base is never stepped by them (R353). -/
def State.tbApply (s : State) (p : TbSet) : State :=
  let n := p.base
  let b := s.baseOf n
  let b1 : Base := { b with set := p, run := [], agree := 0 }
  let s1 : State := { s with tb := { s.tb with ppsBase := if p.ppsOut then some n else if s.tb.ppsBase == some n then none else s.tb.ppsBase } }
  if p.disable then
    ({ s1.setBase n { offBase n with set := { p with source := 0 } } with
        tb := { (s1.setBase n { offBase n with set := { p with source := 0 } }).tb with ppsBase := if s.tb.ppsBase == some n then none else s.tb.ppsBase } }).ppsCheck
  else
    let s2 := match b.state with
      | .locked => if p.source == 0 then (s1.setBase n b1).lostSource n b1 else s1.setBase n b1
      | .holdover => s1.setBase n b1
      | .disabled => s1.setBase n { b1 with state := if p.source == 0 then .disabled else .unacquired, acq := [], tod := none }
      | .unacquired =>
        s1.setBase n { b1 with state := if p.source == 0 then .disabled else .unacquired, acq := [], tod := if p.source == b.set.source then b.tod else none }
    (if p.source == 1 && b.utcGiven then s2 else s2.utcOffsetGiven n p.utcOffset false).ppsCheck

/-- The checks of a setting that a start-up bundle makes too. -/
def State.tbSetChecks (s : State) (p : TbSet) : List (Option (Nat × Nat)) :=
  [ zeroIf (p.base == 0) 0, zeroIf (2 ≤ p.source && p.utcOffset == 0) 12, badIf (3 < p.base) 0, badIf (3 < p.source) 1
  , badIf (p.jumpNs < 1000 || 1000000 < p.jumpNs) 4, badIf (16 < p.jumpCount) 8, badIf (p.acqCount < 2 || 64 < p.acqCount) 9
  , badIf (60 < p.lossS) 10, badIf (p.utcOffset < 10 || 255 < p.utcOffset) 12
  , failIf (p.source == 3 && s.tb.ref.refSel != 1) stWrongState 0 ]

def tbSet (s : State) (h : Pkt) (p0 : TbSet) : CmdOut :=
  let p := tbFilled p0
  if p.disable then
    check s [s.timeOwnerOnly h, zeroIf (p.base == 0) 0, badIf (3 < p.base) 0, failIf (s.baseUsed p.base) stWrongState 0] (fun _ => ok (s.tbApply p))
  else check s (s.timeOwnerOnly h :: s.tbSetChecks p) (fun _ => ok ((s.at h.done).tbApply p))

def execTbSet (h : Pkt) (p : TbSet) (s : State) : Host.Outcome State Fault Refusal :=
  cmd (.tbSet h p) { op := 0x0B01, len := some 24 } h s (fun s => tbSet s h p)

/-! ## TB_RESTEP (R353) -/

def tbRestep (s0 : State) (h : Pkt) (p : TbRestep) : CmdOut :=
  let valid := (s0.base p.base).any Base.valid
  check s0
    [ s0.timeOwnerOnly h, zeroIf (p.how == 2 && p.delta == 0) 8, badIf (p.base == 0 || 3 < p.base) 0, badIf (p.how == 0 || 2 < p.how) 1
    , failIf (!valid) stWrongState 0 ]
    (fun _ =>
      match s0.base p.base with
      | none => refuse s0 stWrongState 0
      | some b =>
        if p.how == 2 then
          let s := s0.at h.done
          ok (s.restepped p.base b p.delta) (restepReply p.delta s.now)
        else .wait s0 (.restep p.base (h.recv + 1000000000 * b.set.lossS)))

def execTbRestep (h : Pkt) (p : TbRestep) (s : State) : Host.Outcome State Fault Refusal :=
  cmd (.tbRestep h p) { op := 0x0B03, len := some 16 } h s (fun s => tbRestep s h p)

/-- No sample within LOSS_S of the receipt of `TB_RESTEP` HOW 1: no step is made. -/
def execTbRestepTimeout (t tb : Nat) (s : State) : Host.Outcome State Fault Refusal :=
  event t s (fun s =>
    let excess := fun (w : Waiting) => match w.what with
      | .restep n d => n == tb && decide (d ≤ s.now)
      | _ => false
    if s.timeUp && s.hst.waiting.any excess then s.finishAll excess stWrongState 0 (fun _ => []) else s)

/-! ## TB_TOD_SET, TB_PORT_DELAY_SET (R361, R364) -/

def tbTodSet (s : State) (h : Pkt) (p : TbTodSet) : CmdOut :=
  let n := p.base
  check s
    [ s.timeOwnerOnly h, zeroIf (p.seconds == 0) 4, badIf (n == 0 || 3 < n) 0, badIf (2 < p.leap) 1
    , failIf ((s.baseOf n).set.source != 3 || (s.baseOf n).set.todFromIrig) stWrongState 0 ]
    (fun _ =>
      match s.base n with
      | none => refuse s stWrongState 0
      | some b =>
        let ns : Int := if b.valid then b.reading s.now else (p.seconds : Int) * 1000000000
        let s1 := if b.state == .unacquired then s.setBase n { b with tod := some (p.seconds, none) } else s
        if p.leap == 0 then
          ok (match s1.base n with
            | some b1 => s1.setBase n { b1 with leap := none }
            | none => s1)
        else ok (s1.leapAnnounce n (p.leap == 2) (nextHalfYear (b.utcDay ns))))

def execTbTodSet (h : Pkt) (p : TbTodSet) (s : State) : Host.Outcome State Fault Refusal :=
  cmd (.tbTodSet h p) { op := 0x0B04, len := some 12 } h s (fun s => tbTodSet s h p)

def tbPortDelaySet (s : State) (h : Pkt) (p : TbPortDelaySet) : CmdOut :=
  check s [ownerOnly h, badIf (23 < p.port) 0, badIf (10000 < p.rxNs) 2, badIf (10000 < p.txNs) 4] (fun _ =>
    ok { s with tb := { s.tb with delays := tset p.port (p.rxNs, p.txNs) s.tb.delays
                                  oldDelays := tset p.port (s.doneAt h, tgetD p.port (0, 0) s.tb.delays) s.tb.oldDelays } })

def execTbPortDelaySet (h : Pkt) (p : TbPortDelaySet) (s : State) : Host.Outcome State Fault Refusal :=
  cmd (.tbPortDelaySet h p) { op := 0x0B05, len := some 8 } h s (fun s => tbPortDelaySet s h p)

/-! ## TB_QUERY (Table 12-8) -/

def BaseState.code : BaseState → Nat
  | .disabled => 0
  | .unacquired => 1
  | .locked => 2
  | .holdover => 3

/-- A signed figure of 32 bits, saturating. -/
def sat32 (v : Int) : Nat := twos 32 (max (-2147483648) (min 2147483647 v))

/-- y in units of 0.001 ppb. -/
def Base.rateFigure (b : Base) : Int := fRound (frac b.y 256000000)

def Base.flags (b : Base) (s : State) (n : Nat) : Nat :=
  b2n b.refused.isSome + 2 * b2n b.leap.isSome + 4 * b2n b.leapDir + 8 * b2n (b.leapUntil.any (fun u => decide (s.now < u)))
  + 16 * b2n (s.tb.ppsBase == some n) + 32 * b2n s.tb.extInUse

def tbQuery (s0 : State) (h : Pkt) (n : Nat) : CmdOut :=
  check s0 [badIf (3 < n) 0] (fun _ =>
    let s := s0.at h.done
    if n == 0 then ok s (zeros 8 ++ le 8 s.now ++ zeros 48)
    else
      let b := s.baseOf n
      let x := tget n s.tb.ptp
      let gm := x.bind (·.gm)
      ok s (le 1 b.state.code ++ le 1 b.set.source ++ le 2 (b.flags s n) ++ le 1 (s.timeCode b) ++ le 1 (s.statQuality b + 16 * s.statUnlock b)
        ++ le 2 b.utcOffset ++ le 8 ((s.reading n).map (twos 64) |>.getD 0) ++ le 4 (s.errNs b) ++ le 4 (sat32 b.offset)
        ++ le 4 (twos 32 b.rateFigure) ++ le 4 (if b.valid then s.unlockNs b / 1000000000 else 0) ++ le 8 ((b.refused.map (twos 64)).getD 0)
        ++ le 8 ((gm.map (·.gmId)).getD 0) ++ le 1 ((gm.map (·.clockClass)).getD 0) ++ le 1 ((x.bind (·.slavePort)).getD 0xFF) ++ zeros 6
        ++ le 8 b.lastStep))

def execTbQuery (h : Pkt) (base : Nat) (s : State) : Host.Outcome State Fault Refusal :=
  cmd (.tbQuery h base) { op := 0x0B06, len := some 4, ro := true, stabled := true } h s (fun s => tbQuery s h base)

/-! ## IRIG-B (R360) -/

/-- IEEE 1344 time quality as an accuracy in ns. -/
def irigAcc (tq : Nat) : Nat := if tq == 0 then 0 else if tq ≤ 11 then 10 ^ (tq - 1) else 100000000000

def irigOk (m : IrigFrame) : Bool := m.widthsOk && (m.hasYear || m.ext1344) && (!m.ext1344 || (m.parityOk && m.tq != 15))

/-- The UTC time of the on-time edge, in ns. -/
def irigUtc (m : IrigFrame) (local_ : Bool) : Int := (m.utcNs : Int) + (if m.ext1344 && local_ then m.localNs else 0)

/-- One base takes an IRIG-B frame as its source, or as the time of day of its PPS. -/
def State.irigOne (s : State) (m : IrigFrame) (n : Nat) (b : Base) : State :=
  let tai := irigUtc m b.set.irigLocal + (b.utcOffset : Int) * 1000000000
  if b.set.source == 2 then
    let s1 := s.setBase n { b with irigDst := m.dst, irigTq := if m.ext1344 then some m.tq else none }
    let s2 := s1.tbSample n m.cap tai (frac (if m.ext1344 then irigAcc m.tq else b.set.srcAccNs))
    if m.ext1344 && m.leapPending then s2.leapToday n m.leapDelete else s2
  else if b.set.source == 3 && b.set.todFromIrig && b.state == .unacquired then
    s.setBase n { b with tod := some ((tai / 1000000000).toNat, some m.cap) }
  else s

/-- The same for the base of a number, where there is one. -/
def State.irigBase (s : State) (m : IrigFrame) (n : Nat) : State :=
  match s.base n with
  | some b => s.irigOne m n b
  | none => s

def execIrigFrameReceived (t : Nat) (m : IrigFrame) (s : State) : Host.Outcome State Fault Refusal :=
  event t s (fun s =>
    if !s.timeUp then s
    else if !irigOk m then s.count .tb 7
    else s.tb.bases.foldl (fun s e => s.irigBase m e.1) s)

/-! ## PPS (R361, R363) -/

/-- Whole seconds between two captures. -/
def secondsBetween (a b : Stamp) : Nat := (b - a + 500000000) / 1000000000

/-- The edge of PPS_IN for one base. -/
def State.ppsOne (s : State) (cap : Stamp) (n : Nat) (b : Base) : State :=
  if b.set.source != 3 then s
  else match b.state with
    | .disabled => s
    | .unacquired =>
      match b.tod with
      | none => s
      | some (sec, at_) =>
        let v := sec + (at_.map (fun c => secondsBetween c cap)).getD 0
        (s.setBase n { b with tod := some (v, some cap) }).tbSample n cap ((v : Int) * 1000000000) (frac b.set.srcAccNs)
    | _ => s.tbSample n cap ((b.reading cap + 500000000) / 1000000000 * 1000000000) (frac b.set.srcAccNs)

/-- The same for the base of a number, where there is one. -/
def State.ppsBase (s : State) (cap n : Nat) : State :=
  match s.base n with
  | some b => s.ppsOne cap n b
  | none => s

def execPpsInEdge (t cap : Nat) (s : State) : Host.Outcome State Fault Refusal :=
  event t s (fun s =>
    if s.timeUp then s.tb.bases.foldl (fun s e => s.ppsBase cap e.1) s else s)

/-- The top of a second of the base that drives PPS_OUT, to ±4 ns. -/
def execPpsOutRise (t tb : Nat) (s : State) : Host.Outcome State Fault Refusal :=
  event t s (fun s =>
    match s.base tb with
    | some b =>
      let f := b.reading s.now % 1000000000
      if s.timeUp && s.tb.ppsBase == some tb && b.valid && (f ≤ 4 || 999999996 ≤ f) then { s with tb := { s.tb with ppsHigh := true, ppsAt := s.now } }
      else s
    | none => s)

/-- 100 ms after the rise. -/
def execPpsOutFall (t : Nat) (s : State) : Host.Outcome State Fault Refusal :=
  event t s (fun s => if s.tb.ppsHigh && s.tb.ppsAt + 100000000 ≤ s.now then { s with tb := { s.tb with ppsHigh := false } } else s)

/-! ## Loss (R352), leap seconds (R356) -/

/-- A LOCKED base without a usable sample for LOSS_S. -/
def execTbSourceLoss (t tb : Nat) (s : State) : Host.Outcome State Fault Refusal :=
  event t s (fun s =>
    match s.base tb with
    | some b =>
      if s.timeUp && b.state == .locked && b.lastSample.all (fun l => decide (l + 1000000000 * b.set.lossS ≤ s.now)) then s.lostSource tb b else s
    | none => s)

/-- The end of the announced UTC day: UTC_OFFSET changes by one and the reading goes on. -/
def execLeapSecondApply (t tb : Nat) (s : State) : Host.Outcome State Fault Refusal :=
  event t s (fun s =>
    match s.base tb with
    | some b =>
      match b.leap with
      | some (del, at_) =>
        if s.timeUp && b.valid && decide ((at_ : Int) ≤ b.reading s.now) then
          (s.setBase tb { b with
            utcOffset := if del then b.utcOffset - 1 else b.utcOffset + 1, leap := none, leapDir := del
            leapUntil := some (s.now + 86400000000000), leaps := (at_, del) :: b.leaps }).timeEvent 0x1F5 tb 3
        else s
      | none => s
    | none => s)

def execLeapOccurredExpiry (t tb : Nat) (s : State) : Host.Outcome State Fault Refusal :=
  event t s (fun s =>
    match s.base tb with
    | some b => if b.leapUntil.any (fun u => decide (u ≤ s.now)) then s.setBase tb { b with leapUntil := none } else s
    | none => s)

/-! ## References (R362, R370) -/

/-- EXT10M stops or is off nominal: the PLL falls back, and where it was in use FS_70 is reported. -/
def execExt10mLoss (t : Nat) (s : State) : Host.Outcome State Fault Refusal :=
  event t s (fun s =>
    let s1 : State := { s with tb := { s.tb with extPresent := false } }
    if s.tb.extInUse && s.timeUp then (s1.free.2.fault 70 s1.free.1 0xFF).pllSelect else s1.pllSelect)

/-- 10 s of valid input. -/
def execExt10mRestore (t : Nat) (s : State) : Host.Outcome State Fault Refusal :=
  event t s (fun s => ({ s with tb := { s.tb with extPresent := true } }).faultClear 70 |>.pllSelect)

def execRefclkLoss (t : Nat) (s : State) : Host.Outcome State Fault Refusal :=
  event t s (fun s =>
    if s.tb.refclkLost then s
    else
      let s1 : State := { s with tb := { s.tb with refclkLost := true } }
      if s.tb.extInUse then s1 else s1.refclkGone)

def execRefclkRestored (t : Nat) (s : State) : Host.Outcome State Fault Refusal :=
  event t s (fun s => (({ s with tb := { s.tb with refclkLost := false, ondie := false } }).faultClear 68).faultClear 69)

/-- A counter or mapping differs from its duplicate: a disciplined base is reloaded and keeps its state. -/
def execTimeBaseCounterFault (t tb : Nat) (s : State) : Host.Outcome State Fault Refusal :=
  event t s (fun s =>
    if !s.timeUp || 3 < tb then s
    else if tb == 0 then ((s.faultPair 68 69 0 0xFF).faultClear 68).faultClear 69
    else
      let s1 := s.fault 70 tb 0xFF
      if s.tb.ref.refSel == 1 && !s.tb.extPresent then s1 else s1.faultClear 70)

end Sys2Proof.Machine
end

