-- ==== Sys2Proof/Machine/Ptp.lean ====
section
/-!
DEFINITION. The PTP instances (12_time R358, R359): their setting, the best master, the messages they take and send. What IEEE 1588-2019 fixes and
the manual only names (the comparison of masters, foreign masters, enumerations) is taken from that standard.
-/
namespace Sys2Proof.Machine

def State.setPtp (s : State) (n : Nat) (x : Ptp) : State := { s with tb := { s.tb with ptp := tset n x s.tb.ptp } }

/-! ## TB_PTP_SET -/

/-- The checks of an instance that a start-up bundle makes too. -/
def State.ptpSetChecks (s : State) (p : TbPtpSet) : List (Option (Nat × Nat)) :=
  let src := (s.baseOf p.base).set.source
  [ zeroIf (p.mode != 0 && p.portMask == 0) 4, badIf (p.base == 0 || 3 < p.base) 0
  , badIf (3 < p.mode || ((p.mode == 1 || p.mode == 2) && src != 1) || (p.mode == 3 && src == 1)) 1, badIf (1 < p.profile) 2, badIf (255 < p.domain) 3
  , badIf (16777216 ≤ p.portMask || (p.mode == 1 && popCount 24 p.portMask != 1)
      || (p.mode != 0 && s.tb.ptp.any (fun e => e.1 != p.base && e.2.set.portMask &&& p.portMask != 0))) 4
  , badIf (1048576 ≤ p.oneStepMask) 8, badIf (4094 < p.vlan) 14, badIf (7 < p.pcp) 16 ]

/-- A setting takes effect: an instance that starts afresh. -/
def State.ptpApply (s : State) (p : TbPtpSet) : State :=
  let s1 := match s.base p.base with
    | some b => s.setBase p.base { b with run := [], agree := 0 }
    | none => s
  if p.mode == 0 then { s1 with tb := { s1.tb with ptp := tdel p.base s1.tb.ptp } } else s1.setPtp p.base { set := p }

def tbPtpSet (s : State) (h : Pkt) (p : TbPtpSet) : CmdOut :=
  check s (s.timeOwnerOnly h :: s.ptpSetChecks p) (fun _ => ok (s.ptpApply p))

def execTbPtpSet (h : Pkt) (p : TbPtpSet) (s : State) : Host.Outcome State Fault Refusal :=
  cmd (.tbPtpSet h p) { op := 0x0B02, len := some 24 } h s (fun s => tbPtpSet s h p)

/-! ## The best master -/

/-- What masters are compared by. -/
def announceKey (a : PtpAnnounce) : List Nat := [a.priority1, a.clockClass, a.accuracy, a.variance, a.priority2, a.gmId, a.steps, a.source]

def Ptp.ownKey (x : Ptp) : List Nat := [x.set.priority1, 248, 0xFE, 0xFFFF, x.set.priority2, Config.clockId, 0, Config.clockId]

/-- The lesser of two lists of numbers comes first. -/
def lexLt : List Nat → List Nat → Bool
  | [], [] => false
  | [], _ => true
  | _, [] => false
  | a :: r, b :: q => if a == b then lexLt r q else decide (a < b)

/-- The best of some masters. -/
def bestOf (l : List PtpAnnounce) : Option PtpAnnounce :=
  l.foldl (fun a b =>
    match a with
    | none => some b
    | some c => if lexLt (announceKey b) (announceKey c) then some b else some c) none

/-- The qualified foreign masters: two Announce messages within four intervals. -/
def Ptp.qualified (x : Ptp) : List PtpAnnounce := (x.foreign.filter (fun e => 2 ≤ e.2.count)).map (·.2.ann)

def Ptp.best (x : Ptp) : Option PtpAnnounce := bestOf x.qualified

/-- Ebest is better by topology than Erbest, the best master of another port, in the data set comparison of IEEE 1588-2019: the same grandmaster, and the
shorter way to it ends in a lower sender, or Erbest comes from behind this clock. -/
def betterByTopology (a b : PtpAnnounce) : Bool :=
  a.gmId == b.gmId &&
  (if a.steps == b.steps then decide (a.source < b.source) || (a.source == b.source && decide (a.port < b.port))
   else a.steps + 1 == b.steps && decide (b.source / 65536 < Config.clockId))

/-- A port of a boundary clock is PASSIVE: it is no slave, and the best master of the clock is better by topology than its own best (R358). -/
def Ptp.isPassive (x : Ptp) (port : Nat) : Bool :=
  x.set.mode == 2 && x.slavePort != some port &&
  x.gm.any (fun a => (bestOf (x.qualified.filter (fun b => b.port == port))).any (betterByTopology a))

/-- clockAccuracy of IEEE 1588-2019 as a time in ns: 0x17 to 0x2F go from 1 ps to 1 s by 2.5 and 4 in turn, 0x30 is 10 s. Another value claims no accuracy that
the base could use: 100 s (log entry 78). -/
def accuracyNs (v : Nat) : Frac :=
  if 0x17 ≤ v && v ≤ 0x2F then frac (10 ^ ((v - 0x17) / 2) * (if (v - 0x17) % 2 == 0 then 10 else 25)) 10000
  else if v == 0x30 then frac 10000000000 else frac 100000000000

/-- The smallest enumeration that covers an error, 0x31 beyond 10 s. -/
def accuracyOf (e : Option Frac) : Nat :=
  match e with
  | none => 0xFE
  | some x => (((List.range 26).map (· + 0x17)).find? (fun v => fLe x (accuracyNs v))).getD 0x31

/-- Judge the masters afresh (R358). -/
def State.bmca (s : State) (n : Nat) : State :=
  match tget n s.tb.ptp with
  | none => s
  | some x =>
    let b := match x.best with
      | some a => if x.set.mode == 1 || lexLt (announceKey a) x.ownKey then some a else none
      | none => none
    let changed := b.isSome && b.map (·.gmId) != x.gm.map (·.gmId)
    let s1 := s.setPtp n { x with gm := b, slavePort := b.map (·.port), awaited := if b.map (·.source) == x.gm.map (·.source) then x.awaited else none }
    if changed then s1.timeEvent 0x1F5 n 1 else s1

/-! ## Messages taken -/

/-- The instance that a port belongs to. -/
def State.ptpOf (s : State) (port : Nat) : Option (Nat × Ptp) := s.tb.ptp.find? (fun e => e.2.set.mode != 0 && e.2.set.portMask.testBit port)

/-- Instances listen on their ports; asleep, on the port only that was the slave port at entry (R371). -/
def State.ptpHears (s : State) (x : Ptp) (port : Nat) : Bool :=
  s.timeUp && ((s.pwr.state != .stabled && s.pwr.state != .waking) || x.keptPort == some port)

/-- A message that an instance does not use. -/
def State.ptpDiscard (s : State) : State := s.count .tb 6

/-- What the parent announces reaches its base while PTP is the base's source: UTC_OFFSET, leap seconds (R359). -/
def State.parentAnnounced (s : State) (n : Nat) (a : PtpAnnounce) : State :=
  if (s.baseOf n).set.source != 1 then s
  else
  let s1 := if a.utcValid then s.utcOffsetGiven n a.utcOffset true else s
  if a.leap61 then s1.leapToday n false else if a.leap59 then s1.leapToday n true else s1

def State.announceTaken (s : State) (m : PtpAnnounce) : State :=
  match s.ptpOf m.port with
  | none => s
  | some (n, x) =>
    if !s.ptpHears x m.port then s
    else
      let s1 := s.sideTake m.port
      if m.domain != x.set.domain || x.set.mode == 3 || 255 ≤ m.steps || m.gmId == Config.clockId then s1.ptpDiscard
      else
        let k := 32 * m.source + m.port
        let f : Foreign := match tget k x.foreign with
          | some f => { ann := m, last := s.now, count := if s.now ≤ f.last + 4000000000 then f.count + 1 else 1 }
          | none => { ann := m, last := s.now, count := 1 }
        let s2 := (s1.setPtp n { x with foreign := tset k f x.foreign }).bmca n
        if ((tget n s2.tb.ptp).bind (·.gm)).any (fun g => g.source == m.source && g.port == m.port) then s2.parentAnnounced n m else s2

def execPtpAnnounceReceived (t : Nat) (m : PtpAnnounce) (s : State) : Host.Outcome State Fault Refusal :=
  event t s (fun s => s.announceTaken m)

/-- No Announce for three intervals: the masters of a port that are silent go. -/
def execPtpAnnounceTimeout (t tb port : Nat) (s : State) : Host.Outcome State Fault Refusal :=
  event t s (fun s =>
    match tget tb s.tb.ptp with
    | some x =>
      if s.timeUp then
        (s.setPtp tb { x with foreign := x.foreign.filter (fun e => e.2.ann.port != port || s.now < e.2.last + 3000000000) }).bmca tb
      else s
    | none => s)

/-- An offset sample of the parent: its time corrected by the peer delay (R347). -/
def State.ptpSample (s : State) (n port : Nat) (cap : Stamp) (origin : Int) : State :=
  let acc := (((tget n s.tb.ptp).bind (·.gm)).map (fun g => accuracyNs g.accuracy)).getD (frac 100000000000)
  s.tbSample n cap (origin + (tget port s.tb.pathDelay).getD 0) acc

/-- The message comes from the parent, on the slave port of an instance whose base follows PTP. -/
def State.fromParent (s : State) (n : Nat) (x : Ptp) (port source domain : Nat) : Bool :=
  domain == x.set.domain && x.slavePort == some port && x.gm.any (fun g => g.source == source) && (s.baseOf n).set.source == 1

def State.syncTaken (s : State) (m : PtpSync) : State :=
  match s.ptpOf m.port with
  | none => s
  | some (n, x) =>
    if !s.ptpHears x m.port then s
    else
      let s1 := s.sideTake m.port
      if !s.fromParent n x m.port m.source m.domain then s1.ptpDiscard
      else
        let cap := m.cap + (s.delayAt m.port m.cap).1
        if m.twoStep then s1.setPtp n { x with awaited := some (m.port, m.source, m.seq, cap) } else s1.ptpSample n m.port cap m.origin

def execPtpSyncReceived (t : Nat) (m : PtpSync) (s : State) : Host.Outcome State Fault Refusal :=
  event t s (fun s => s.syncTaken m)

def State.followUpTaken (s : State) (m : PtpFollowUp) : State :=
  match s.ptpOf m.port with
  | none => s
  | some (n, x) =>
    if !s.ptpHears x m.port then s
    else
      let s1 := s.sideTake m.port
      match x.awaited with
      | some (p, src, seq, cap) =>
        if s.fromParent n x m.port m.source m.domain && p == m.port && src == m.source && seq == m.seq then
          (s1.setPtp n { x with awaited := none }).ptpSample n m.port cap m.origin
        else s1.ptpDiscard
      | none => s1.ptpDiscard

def execPtpFollowUpReceived (t : Nat) (m : PtpFollowUp) (s : State) : Host.Outcome State Fault Refusal :=
  event t s (fun s => s.followUpTaken m)

/-! ## Messages sent -/

/-- Bytes of a PTP message on a port, without FCS. -/
def ptpLen (x : Ptp) (kind : Nat) : Nat :=
  14 + (if x.set.vlan == 0 then 0 else 4) + (if kind == 1 then 64 else if kind == 0 || kind == 4 then 44 else 54)

/-- clockClass that a master announces (R359). -/
def State.ownClass (s : State) (n : Nat) : Nat :=
  match s.base n with
  | none => 248
  | some b =>
    match b.state with
    | .locked =>
      let good := if b.set.source == 1 then ((tget n s.tb.ptp).bind (·.gm)).any (fun g => g.clockClass == 6) else b.set.source == 2 && b.irigTq == some 0
      if good then 6 else 248
    | .holdover => if (s.baseErr b).any (fun e => fLe e (frac 1000)) then 7 else 52
    | _ => 248

/-- The ALTERNATE_TIME_OFFSET_INDICATOR TLV of the parent that an Announce of a boundary clock forwards under PROFILE 1 (Table 12-4). -/
def Ptp.forwardedTlv (x : Ptp) (kind : Nat) : List Byte :=
  if kind == 1 && x.set.mode == 2 && x.set.profile == 1 then (x.gm.map (·.altTlv)).getD [] else []

/-- Queue a PTP message in TXQ_1: kinds 0 Sync, 1 Announce, 2 Pdelay_Req, 3 Pdelay_Resp, 4 Follow_Up, 5 Pdelay_Resp_Follow_Up. -/
def State.ptpSend (s : State) (n : Nat) (x : Ptp) (port kind : Nat) : State :=
  let tlv := x.forwardedTlv kind
  s.txOffer port 1 { what := .ptp n kind (s.ownClass n) (accuracyOf ((s.base n).bind s.baseErr)) tlv, len := ptpLen x kind + tlv.length, launch := none }

/-- The port of an instance is a master: not in MODE 1, and in MODE 2 neither the slave port nor PASSIVE. -/
def Ptp.isMaster (x : Ptp) (port : Nat) : Bool := x.set.mode == 3 || (x.set.mode == 2 && x.slavePort != some port && !x.isPassive port)

/-- An interval timer of an instance on a port runs out. -/
def State.ptpTransmit (s : State) (n : Nat) (x : Ptp) (port : Nat) (kind : PtpKind) : State :=
  match kind with
  | .pdelayReq => s.ptpSend n x port 2
  | .announce => if x.isMaster port then s.ptpSend n x port 1 else s
  | .sync =>
    if !x.isMaster port then s
    else if x.set.oneStepMask.testBit port then s.ptpSend n x port 0 else (s.ptpSend n x port 0).ptpSend n x port 4

def execPtpMessageTransmit (t tb port : Nat) (kind : PtpKind) (s : State) : Host.Outcome State Fault Refusal :=
  event t s (fun s =>
    match tget tb s.tb.ptp with
    | some x => if s.ptpHears x port && x.set.mode != 0 && x.set.portMask.testBit port then s.ptpTransmit tb x port kind else s
    | none => s)

/-- The frames of a peer delay row: the answer of an exchange is two of them in two-step mode. -/
def pdelayFrames : PtpPdelay → Nat
  | .exchange _ _ _ _ true => 2
  | _ => 1

/-- A peer delay message: a request is answered, an exchange gives the mean path delay. -/
def State.pdelayTaken (s : State) (m : PtpPdelay) : State :=
  let port := match m with
    | .request p _ => p
    | .exchange p .. => p
  let domain := match m with
    | .request _ d => d
    | .exchange _ d .. => d
  match s.ptpOf port with
  | none => s
  | some (n, x) =>
    if !s.ptpHears x port then s
    else
      let s1 := if pdelayFrames m == 2 then (s.sideTake port).sideTake port else s.sideTake port
      if domain != x.set.domain then s1.ptpDiscard
      else match m with
        | .request .. =>
          if x.set.oneStepMask.testBit port then s1.ptpSend n x port 3 else (s1.ptpSend n x port 3).ptpSend n x port 5
        | .exchange _ _ rt turn _ =>
          let d := s1.delayAt port s1.cap
          { s1 with tb := { s1.tb with pathDelay := tset port ((rt + (d.1 : Int) - (d.2 : Int) - turn) / 2) s1.tb.pathDelay } }

def execPtpPdelayMessage (t : Nat) (m : PtpPdelay) (s : State) : Host.Outcome State Fault Refusal :=
  event t s (fun s => s.pdelayTaken m)

end Sys2Proof.Machine
end

