-- ==== Sys2Proof/Machine/ResetOps.lean ====
section
/-!
DEFINITION. The cold and the device reset (17_power_states R497, Table 17-3, and every chapter's rule on a reset): what is stripped and what is kept, and
the start of the start-up sequence (R499).
-/
namespace Sys2Proof.Machine

/-- Frames with a launch time that have not started: in transmit queues, in the publisher, in back-off (R371). -/
def State.timedFrames (s : State) : Nat :=
  let timed := fun (l : List TxFrame) => (l.filter (fun f => f.launch.isSome)).length
  (s.prt.ports.map (fun e => (e.2.txq.map (fun q => timed q.2)).sum + timed e.2.pubWaits + timed (e.2.retry.toList.map (·.2)))).sum

/-- The logic pair after a reset: NO_PROGRAM, the program banks as NOR holds them. A swap not yet committed is undone (R284, R290). -/
def State.alcStripped (s : State) : AlcSt :=
  if s.alc.commitDue then { active := s.alc.standby, standby := s.alc.active } else { active := s.alc.active, standby := s.alc.standby }

/-- The signal box after a device reset: the history, the copy in FLT_FIRST, SEQ and the acknowledgements stay, ACTIVE flags and force bits go (R492). -/
def FaultSt.warm (f : FaultSt) : FaultSt :=
  let un := fun (r : FaultRec) => ({ r with active := false } : FaultRec)
  { history := f.history.map un, unackDisplaced := f.unackDisplaced.map un, lost := f.lost, seq := f.seq, first := f.first
    outOfRange := f.outOfRange }

/-- The security core after a reset: the records of NOR, the fuses, the logs and the tamper monitor stay (R438, R446, R457 to R460, R464); `made` says which
entries of the tamper log have reached NOR (01_architecture R33). A failed health test counts until a self-test passes (R436). -/
def SecSt.stripped (x : SecSt) (made : TamperEntry → Bool) : SecSt :=
  { slots := tmap (fun _ (k : KeySlot) => { k with key := none }) x.slots, life := x.life, ownerBoot := x.ownerBoot, ownerHash := x.ownerHash
    revoked := x.revoked, rootSecret := x.rootSecret, storeNonce := x.storeNonce, certified := x.certified, drbgFailed := x.drbgFailed
    tamperLog := x.tamperLog.filter made, lifeLog := x.lifeLog, eraseDue := x.eraseDue, tamperLatched := x.tamperLatched, tamperHold := x.tamperHold
    quoteSeq := x.quoteSeq, tmpMode := x.tmpMode, tmpActive := x.tmpActive, drbgCount := x.drbgCount, lifeChanged := x.lifeChanged }

/-- The base block after a reset: the inputs it watches stay; the timed frames dropped by a device reset are counted (R371). -/
def State.timeStripped (s : State) (cold : Bool) : TimeSt :=
  let drop := BitVec.ofNat 32 s.timedFrames
  { extPresent := s.tb.extPresent, refclkLost := s.tb.refclkLost, ondie := s.tb.refclkLost
    cnt := if cold || tgetD 5 0 s.tb.cnt + drop == 0 then [] else [(5, tgetD 5 0 s.tb.cnt + drop)] }

/-- Hosts after a reset: only the owner partition (R432); what the outside has already taken stays. -/
def HostSt.stripped (x : HostSt) : HostSt :=
  { parts := [(0, { ownerPart with ev := { written := (tgetD 0 {} x.parts).ev.written } })], replies := x.replies, msix := x.msix, dma := x.dma
    spiRead := x.spiRead, spiStatus := x.spiStatus }

/-- Everything is stripped but what Table 17-3 keeps. -/
def State.strip (s : State) (cold : Bool) : State :=
  { s with
    held := [], resuming := false
    hst := s.hst.stripped
    tt := {}
    flt := if cold then { outOfRange := s.flt.outOfRange } else s.flt.warm
    pwr := { state := .starting, pfwLow := s.pwr.pfwLow, pfwSeen := false
             pfwIncomplete := s.pwr.pfwSeen && (s.alcx.pfwCkpt || !s.uncommitted.isEmpty)
             cause := s.pwr.cause, orderly := s.pwr.pfwSeen || s.pwr.pfwLow, lastEntry := 0, porHeld := s.pwr.porHeld, perstHeld := s.pwr.perstHeld }
    fw := { running := s.fw.boot, boot := s.fw.boot, alc := s.fw.boot, minSvn := s.fw.minSvn, bankA := s.fw.bankA, bankB := s.fw.bankB
            mgmtTo := s.fw.boot }
    lat := {}
    sec := s.sec.stripped (fun e => !s.norHeld (.tamper e.seq))
    cfg := { s.cfg.abandon with applied := none }
    alc := s.alcStripped
    alcx := { slots := s.alcx.slots, nextSeq := s.alcx.nextSeq }
    ing := {}
    plt := { frames := s.plt.frames }
    prt := { sent := s.prt.sent }
    sch := { clusters := tmap (fun _ (c : Cluster) => { state := .retired, bank := c.bank, retiredMark := true }) (tfilter (fun k _ => s.markInNor k) s.sch.clusters) }
    tb := s.timeStripped cold
    wch := {}
    nrg := { piLevel := s.nrg.piLevel }
    osc := {}
    coh := {}
    rcd := { exports := s.rcd.exports }
    tap := if cold then {} else s.tap }

/-- The copy of the bundle in force at a start-up that finds both good: the one of higher SEQ (R500). -/
def CfgSt.newest (c : CfgSt) : Option Bundle :=
  match c.copyA, c.copyB with
  | some a, some b => some (if a.seq < b.seq then b else a)
  | some a, none => some a
  | none, b => b

/-- The modes of the tamper sources in force before the bundle of this start-up is applied are those of the stored one (R455, R456). -/
def tamperModesOf (b : Bundle) : Table Nat :=
  b.settings.foldl (fun t x => match x.setting with
    | .tamperMode source mode => tset source mode t
    | _ => t) []

/-- The start-up sequence begins (Table 17-4); its first step measures the fuses (R446, Table 15-4). -/
def State.startBoot (s : State) : State :=
  let s1 : State := { s with
    pwr := { s.pwr with startAt := s.now }
    sec := { s.sec with tmpMode := (s.cfg.newest.map tamperModesOf).getD [] } }
  (if s1.sec.measLog.isEmpty then s1.measureFuses else s1).refreshErr

/-- Everything is stripped, and a pair that had a program goes to NO_PROGRAM by row 10 of Table 09-5: MODE_CHANGED is raised on the holder that the reset leaves
(09_alarm_logic R273). -/
def State.stripped (s : State) (cold : Bool) : State :=
  let s1 := s.strip cold
  if s.alc.state == .noProgram then s1 else s1.evt s1.logicReaders 0x180 (s.alc.state.code + 65536 * 10)

/-- A device reset for a cause of Table 17-10 (R497). A PERST_N or POR_N held low holds the start-up. -/
def State.deviceReset (s : State) (cause : Nat) : State :=
  let s1 := s.stripped false
  let s2 : State := { s1 with pwr := { s1.pwr with cause } }
  if s2.pwr.porHeld || s2.pwr.perstHeld then s2.refreshErr else s2.startBoot

/-- A cold reset: POR_N is low (R497). -/
def State.coldReset (s : State) : State :=
  let s1 := s.stripped true
  let s2 : State := { s1 with pwr := { s1.pwr with cause := 1, porHeld := true, perstHeld := s.pwr.perstHeld } }
  s2.refreshErr

end Sys2Proof.Machine
end

