-- ==== Sys2Proof/Machine/Security.lean ====
section
/-!
DEFINITION. The key and attestation commands and the events of the security core (15_security).
-/
namespace Sys2Proof.Machine

/-! ## Checks of a key's description -/

/-- A combination that Table 15-2 does not allow: the attribute, the type, or else the algorithm is at fault, at the offsets of the three fields. -/
def comboBad (attr type alg oa ot ol : Nat) : List (Option (Nat × Nat)) :=
  [badIf (attr == 0 || 4 < attr) oa, badIf (type == 0 || 4 < type) ot, badIf (!keyCombo attr type alg) ol]

/-- R463 and R458 for a command that loads a key. -/
def loadAllowed (s : State) : List (Option (Nat × Nat)) := [failIf (s.sec.life == .returned) stLocked 1, tamperNeeded s]

/-- A slot in use is changed only with FORCE (R437). -/
def inUse (s : State) (slot : Nat) (force : Bool) : Option (Nat × Nat) := failIf (!force && s.slotInUse slot) stWrongState 0

/-- A refusal with AUTH_FAIL is counted. -/
def authFail (s : State) : CmdOut := .reply (s.secCount 3) stAuthFail 0 []

/-- Start the update of a slot: the reply, with the KCV, follows the commit (R452). -/
def putKey (s : State) (slot : Nat) (k : Key) : CmdOut := .wait (s.keyWrite slot (some k)) (.keyCommit slot (kcv k.bytes ++ zeros 4))

/-! ## KEY_IMPORT -/

/-- The wrapped header and key: TYPE, ATTR, ALG, FLAGS, KEY_ID, then the key. -/
def wrapPlain (k : Key) : List Byte := le 1 k.type ++ le 1 k.attr ++ le 1 k.alg ++ le 1 (b2n k.exportable) ++ le 4 k.keyId ++ k.bytes

/-- A number from little-endian bytes. -/
def leNat : List Byte → Nat
  | [] => 0
  | b :: r => b.toNat + 256 * leNat r

/-- The key of a wrapped plaintext; none where its header or length is not of Table 15-2. -/
def unwrapKey (d : List Byte) : Option Key :=
  let at_ := fun i => (d[i]?.map (·.toNat)).getD 0
  let k : Key := { type := at_ 0, attr := at_ 1, alg := at_ 2, exportable := (at_ 3).testBit 0, keyId := leNat ((d.drop 4).take 4), origin := 2
                   bindMask := 0, boundDigest := 0, bytes := d.drop 8 }
  if keyCombo k.attr k.type k.alg && at_ 3 < 2 && k.bytes.length == keyLen k.type then some k else none

def keyImport (s : State) (h : Pkt) (p : KeyImport) : CmdOut :=
  let wrapped := p.format == 1
  let named := p.slot :: (if wrapped then [p.wrapSlot] else [])
  check s (loadAllowed s) fun _ =>
  onSlots s h named (if wrapped then [p.wrapSlot] else []) fun _ =>
  check s
    ([ failIf (h.paramLen != 16 + p.len) stBadLength 0, s.needs h kindKey p.slot, if wrapped then s.needs h kindKey p.wrapSlot else none
     , zeroIf (p.len == 0) 12, badIf (1 < p.format || (p.format == 0 && h.chan != .queue)) 1 ]
     ++ (if wrapped then
          [ badIf (p.attr != 0) 2, badIf (p.type != 0) 3, badIf (p.alg != 0) 4, badIf p.exportable 5
          , badIf (!(s.key p.wrapSlot).any (fun k => k.attr == 3)) 6, badIf (p.keyId != 0) 8, badIf (p.len != 32 && p.len != 48 && p.len != 80) 12 ]
        else comboBad p.attr p.type p.alg 2 3 4 ++ [badIf (p.len != keyLen p.type) 12])
     ++ [inUse s p.slot p.force, norIdle s])
    fun _ =>
      if wrapped then
        match (s.key p.wrapSlot).bind (fun w => Config.aesUnwrap w.bytes p.key) with
        | none => authFail s
        | some d =>
          match unwrapKey d with
          | none => refuse s stBadParam 16
          | some k => putKey s p.slot k
      else
        putKey s p.slot { attr := p.attr, type := p.type, alg := p.alg, keyId := p.keyId, exportable := p.exportable, origin := 1
                          bindMask := 0, boundDigest := 0, bytes := p.key }

def execKeyImport (h : Pkt) (p : KeyImport) (s : State) : Host.Outcome State Fault Refusal :=
  cmd (.keyImport h p) { op := 0x0D00, len := none } h s (fun s => keyImport s h p)

/-! ## KEY_GENERATE and KEY_DERIVE -/

def keyGenerate (s : State) (h : Pkt) (p : KeyGenerate) : CmdOut :=
  check s (loadAllowed s) fun _ =>
  onSlots s h [p.slot] [] fun _ =>
  check s
    ([s.needs h kindKey p.slot] ++ comboBad p.attr p.type p.alg 1 2 3 ++ [inUse s p.slot p.force, drbgNeeded s, norIdle s])
    fun _ =>
      let d := s.draw (keyLen p.type)
      putKey d.2 p.slot { attr := p.attr, type := p.type, alg := p.alg, keyId := p.keyId, exportable := p.exportable, origin := 3
                          bindMask := 0, boundDigest := 0, bytes := d.1 }

def execKeyGenerate (h : Pkt) (p : KeyGenerate) (s : State) : Host.Outcome State Fault Refusal :=
  cmd (.keyGenerate h p) { op := 0x0D01, len := some 12 } h s (fun s => keyGenerate s h p)

/-- The derived key (R439). -/
def State.derived (s : State) (src : Key) (p : KeyDerive) : List Byte :=
  Config.hkdf src.bytes (p.salt ++ (maskBits 4 p.bindMask).flatMap (fun b => digestBytes (s.bmr b)))
    (p.info ++ le 1 p.type ++ le 1 p.attr ++ le 1 p.alg) (keyLen p.type)

def keyDerive (s : State) (h : Pkt) (p : KeyDerive) : CmdOut :=
  check s (loadAllowed s) fun _ =>
  onSlots s h [p.src, p.dst] [p.src] fun _ =>
  check s
    ([ failIf (h.paramLen != ceilDiv (16 + p.salt.length + p.info.length) 4 * 4) stBadLength 0
     , s.needs h kindKey p.src, s.needs h kindKey p.dst
     , badIf (!(s.key p.src).any (fun k => k.attr == 4)) 0, badIf (p.src == p.dst) 1 ]
     ++ comboBad p.attr p.type p.alg 2 3 4
     ++ [ badIf (15 < p.bindMask) 6, badIf (64 < p.salt.length) 7, badIf (128 < p.info.length) 8, inUse s p.dst p.force, norIdle s ])
    fun _ =>
      match s.key p.src with
      | none => refuse s stBadParam 0
      | some src =>
        putKey s p.dst { attr := p.attr, type := p.type, alg := p.alg, keyId := p.keyId, exportable := p.exportable, origin := 4
                         bindMask := p.bindMask, boundDigest := if p.bindMask == 0 then 0 else s.boundValue p.bindMask, bytes := s.derived src p }

def execKeyDerive (h : Pkt) (p : KeyDerive) (s : State) : Host.Outcome State Fault Refusal :=
  cmd (.keyDerive h p) { op := 0x0D02, len := none } h s (fun s => keyDerive s h p)

/-! ## KEY_WRAP, KEY_DELETE and KEY_QUERY -/

def keyWrapCmd (s : State) (h : Pkt) (p : KeyWrap) : CmdOut :=
  onSlots s h [p.slot, p.wrapSlot] [p.slot, p.wrapSlot] fun _ =>
  check s
    [ s.needs h kindKey p.slot, s.needs h kindKey p.wrapSlot, badIf (!(s.key p.wrapSlot).any (fun k => k.attr == 3)) 1
    , failIf (!(s.key p.slot).any (·.exportable)) stWrongState 0 ]
    fun _ =>
      match s.key p.slot, s.key p.wrapSlot with
      | some k, some w => ok s (le 2 (16 + keyLen k.type) ++ zeros 2 ++ Config.aesWrap w.bytes (wrapPlain k))
      | _, _ => refuse s stWrongState 0

def execKeyWrap (h : Pkt) (p : KeyWrap) (s : State) : Host.Outcome State Fault Refusal :=
  cmd (.keyWrap h p) { op := 0x0D03, len := some 4, ro := true } h s (fun s => keyWrapCmd s h p)

def keyDelete (s : State) (h : Pkt) (p : KeyDelete) : CmdOut :=
  onSlots s h [p.slot] [] fun _ =>
  check s [s.needs h kindKey p.slot, inUse s p.slot p.force, norIdle s] fun _ =>
    if (s.slot p.slot).key.isSome then .wait (s.keyWrite p.slot none) (.keyCommit p.slot []) else ok s

def execKeyDelete (h : Pkt) (p : KeyDelete) (s : State) : Host.Outcome State Fault Refusal :=
  cmd (.keyDelete h p) { op := 0x0D04, len := some 4 } h s (fun s => keyDelete s h p)

/-- Table 15-11. -/
def State.keyReply (s : State) (n : Nat) : List Byte :=
  let x := s.slot n
  let f := fun (g : Key → Nat) => (x.key.map g).getD 0
  let state := if x.updateLost then 3 else if x.unusable then 2 else b2n x.key.isSome
  le 1 n ++ le 1 state ++ le 1 (f (·.attr)) ++ le 1 (f (·.type)) ++ le 1 (f (·.alg))
  ++ le 1 (f (fun k => b2n k.exportable + 2 * b2n (k.bindMask != 0)) + 4 * b2n (s.slotInUse n)) ++ le 1 (f (·.origin)) ++ le 1 (f (·.bindMask))
  ++ le 4 (f (·.keyId)) ++ ((x.key.map (fun k => kcv k.bytes)).getD (zeros 4)) ++ le 8 x.counter ++ le 8 x.changeStamp

def keyQuery (s : State) (h : Pkt) (slot : Nat) : CmdOut :=
  check s [badIf (255 < slot) 0, s.needs h kindKey slot] fun _ =>
    ok (if (s.slot slot).updateLost then s.setSlot slot { s.slot slot with updateLost := false } else s) (s.keyReply slot)

def execKeyQuery (h : Pkt) (slot : Nat) (s : State) : Host.Outcome State Fault Refusal :=
  cmd (.keyQuery h slot) { op := 0x0D05, len := some 4, ro := true } h s (fun s => keyQuery s h slot)

/-! ## Attestation -/

/-- Bytes 0 to 351 of the quote (Table 15-5). -/
def State.quoteBody (s : State) (nonce : List Byte) : List Byte :=
  le 4 0x51544531 ++ le 2 1 ++ le 1 s.sec.life.code ++ le 1 Config.grade.toNat ++ le 8 Config.serial.toNat ++ le 8 s.sec.quoteSeq.toNat ++ le 8 s.now
  ++ nonce ++ digestBytes (s.bmr 0) ++ digestBytes (s.bmr 1) ++ digestBytes (s.bmr 2) ++ digestBytes (s.bmr 3) ++ le 32 s.idPublic.toNat

def attQuote (s : State) (h : Pkt) (nonce : List Byte) : CmdOut :=
  let s1 : State := { s.at h.done with sec := { s.sec with quoteSeq := s.sec.quoteSeq + 1 } }
  ok s1 (s1.quoteBody nonce ++ le 64 (s1.idSign (s1.quoteBody nonce)).toNat)

def execAttQuote (h : Pkt) (nonce : List Byte) (s : State) : Host.Outcome State Fault Refusal :=
  cmd (.attQuote h nonce) { op := 0x0D06, len := some 32, stabled := true, retired := true } h s (fun s => attQuote s h nonce)

def attRespond (s : State) (h : Pkt) (p : AttRespond) : CmdOut :=
  check s [tamperNeeded s] fun _ =>
  onSlots s h [p.slot] [p.slot] fun _ =>
  check s [s.needs h kindKey p.slot, badIf (!(s.key p.slot).any (fun k => k.attr == 1 && k.alg == 5)) 0] fun _ =>
    match s.key p.slot with
    | none => refuse s stBadParam 0
    | some k =>
      ok s (hmacBytes k.bytes (ascii "QV7240-ATT" ++ le 8 Config.serial.toNat ++ p.challenge ++ digestBytes (s.bmr 1) ++ digestBytes (s.bmr 2)))

def execAttRespond (h : Pkt) (p : AttRespond) (s : State) : Host.Outcome State Fault Refusal :=
  cmd (.attRespond h p) { op := 0x0D07, len := some 36, ro := true } h s (fun s => attRespond s h p)

/-! ## TAMPER_CLEAR -/

/-- STATE of a tamper log entry outside a key operation (Table 15-9). -/
def State.tamperState (s : State) : Nat :=
  if s.pwr.state == .stabled || s.pwr.state == .waking then 2 else b2n (s.pwr.startupDone || s.pwr.porHeld)

/-- A clearance (R459): the store is renewed, what remained of it is erased, FS_80 ends and a held start-up resumes. -/
def State.tamperCleared (s : State) : State :=
  let s1 := s.eraseKeys.tamperEntry 0xFF s.tamperState s.tb1Log 0
  let s2 : State := { (s1.draw 32).2 with sec := { (s1.draw 32).2.sec with
    tamperLatched := false, tamperHold := false, storeNonce := some (s1.draw 32).1 } }
  (s2.faultClear 80).evt [0] 0x1FB 5

/-- The signature of a clearance: the owner key of the latest bundle, whose hash is the fused one, over SERIAL and the number of the latest entry (R445, R459). -/
def State.clearanceSigned (s : State) (p : TamperClear) : Bool :=
  s.cfg.latest.any (fun b => b.ownerKey == s.sec.ownerHash)
  && p.sig.any (fun x => s.sec.ownerKey (some x.key) && x.data == .clearance true (s.sec.tamperLog.length - 1))

def tamperClear (s : State) (h : Pkt) (p : TamperClear) : CmdOut :=
  let unsigned := s.sec.life == .blank || s.sec.life == .personalised
  check s
    [ ownerOnly h, badIf (s.sec.tamperLatched && p.seq + 1 != s.sec.tamperLog.length) 0
    , failIf (!s.sec.tamperLatched || !s.sec.tmpActive.isEmpty) stWrongState 0, failIf (!unsigned && !s.clearanceSigned p) stAuthFail 0
    , drbgNeeded s, norIdle s ]
    fun _ => ok (s.at h.done).tamperCleared

def execTamperClear (h : Pkt) (p : TamperClear) (s : State) : Host.Outcome State Fault Refusal :=
  cmd (.tamperClear h p) { op := 0x0D09, len := some 72, stabled := true, tamper := true, blank := true } h s (fun s => tamperClear s h p)

/-! ## LOG_READ -/

def MeasEntry.bytes (e : MeasEntry) : List Byte :=
  le 1 e.reg ++ le 1 e.stage ++ zeros 2 ++ le 4 e.version ++ le 4 e.svn ++ zeros 4 ++ le 8 e.stamp ++ digestBytes e.digest ++ zeros 8

def TamperEntry.bytes (e : TamperEntry) : List Byte :=
  le 4 e.seq ++ le 1 e.source ++ le 1 e.state ++ zeros 2 ++ le 8 e.stamp ++ le 8 e.tb1 ++ le 4 e.value ++ zeros 4

def LifeEntry.bytes (e : LifeEntry) : List Byte :=
  le 4 e.seq ++ le 1 e.fromState ++ le 1 e.toState ++ le 1 e.signer ++ zeros 1 ++ le 8 e.tb1 ++ zeros 16

/-- The entries of a log, each as its bytes, and their size (Table 15-9). -/
def State.logEntries (s : State) (log : Nat) : List (List Byte) × Nat :=
  match log with
  | 0 => (s.sec.measLog.map (·.bytes), 96)
  | 1 => (s.sec.tamperLog.map (·.bytes), 32)
  | 2 => (s.sec.lifeLog.map (·.bytes), 32)
  | _ => ((if s.sec.certified then Config.certificate s.idPublic else []).map (fun b => [b]), 1)

def logRead (s : State) (h : Pkt) (p : LogRead) : CmdOut :=
  check s
    [ failIf ((p.log == 1 || p.log == 2) && !s.observes h.part) stNotGranted 0xF1, badIf (3 < p.log) 0
    , if p.bufLen == 0 then none else stagingOnly h p.bufAddr ]
    fun _ =>
      let l := s.logEntries p.log
      let out := (l.1.drop p.first).take (p.bufLen / l.2)
      let data := out.flatten
      copyOut s p.bufAddr data.length data (le 4 out.length ++ le 4 (p.first + out.length) ++ le 4 l.1.length ++ zeros 4)

def execLogRead (h : Pkt) (p : LogRead) (s : State) : Host.Outcome State Fault Refusal :=
  cmd (.logRead h p) { op := 0x0D0A, len := some 24, ro := true, halt := true, stabled := true, boot := true, tamper := true, blank := true
                       retired := true } h s (fun s => logRead s h p)

/-! ## Events -/

def State.keyWaits (s : State) : Bool := s.hst.waiting.any (fun w => match w.what with
  | .keyCommit .. => true
  | _ => false)

/-- The commit of a key update (R452): the command is answered. While the record goes behind a checkpoint there is no commit (01_architecture R33). -/
def State.keyCommitted (s : State) (slot : Nat) : State :=
  if s.uncommitted.contains slot && !s.norHeld (.key slot) then s.keyFinish slot else s

def execKeyUpdateCommitted (t slot : Nat) (s : State) : Host.Outcome State Fault Refusal := event t s (fun s => s.keyCommitted slot)

def execKeyEraseDone (t : Nat) (s : State) : Host.Outcome State Fault Refusal :=
  event t s (fun s => if s.sec.eraseDue && s.alcx.write.isNone then s.eraseKeys else s)

/-- R436: a failing health test is FS_83, whose detail is not stated. -/
def State.entropyFail (s : State) : State :=
  let s1 : State := { s.free.2 with sec := { s.sec with drbgFailed := true } }
  s1.fault 83 (s.free.1 % 4294967296) 0xFF

def execEntropyHealthFail (t : Nat) (s : State) : Host.Outcome State Fault Refusal := event t s (fun s => s.entropyFail)

/-- R464: a challenge is valid for 10 minutes. -/
def State.challengeOld (s : State) : Bool := s.sec.challenge.any (fun c => decide (c.2 + 600000000000 ≤ s.now))

def execTestChallengeExpiry (t : Nat) (s : State) : Host.Outcome State Fault Refusal :=
  event t s (fun s => if s.challengeOld then { s with sec := { s.sec with challenge := none } } else s)

def execTamperSourceCleared (t code : Nat) (s : State) : Host.Outcome State Fault Refusal :=
  event t s (fun s => { s with sec := { s.sec with tmpActive := s.sec.tmpActive.filter (· != code) } })

/-- R444: both banks are refused during start-up. -/
def State.enterBootHold (s : State) : State :=
  if s.pwr.startupDone || s.pwr.porHeld || s.pwr.perstHeld then s
  else ({ s with sec := { s.sec with bootHold := true } }).refreshErr

def execBootHold (t : Nat) (s : State) : Host.Outcome State Fault Refusal := event t s (fun s => s.enterBootHold)

end Sys2Proof.Machine
end

