-- ==== Sys2Proof/Machine/SafetyOps.lean ====
section
/-!
DEFINITION. What the signal box makes the blocks do (16_safety R472, R482): the restart of the management cores, the reset of a stalled block, the tamper
response (15_security R457 to R460), and the reaction of a block to a record of its source.
-/
namespace Sys2Proof.Machine

/-- The blocks are watched: start-up is done and the device is not asleep (R492). -/
def State.watched (s : State) : Bool := s.pwr.startupDone && s.pwr.state != .stabled && s.pwr.state != .waking

/-! ## Management cores (R472) -/

/-- The management cores restart from their bank: commands in flight are answered FAULTED, loads given up, queued commands wait. -/
def State.mgmtFail (s : State) (src : Nat) : State :=
  let s1 := s.finishAll (fun _ => true) stFaulted src (fun _ => [])
  { s1 with
    fw := { s1.fw with mgmtRestart := true, mgmtTo := s1.fw.running, loadInFlight := none }
    cfg := s1.cfg.abandon
    alc := { s1.alc with loading := none } }

/-! ## Stalled blocks (R472) -/

/-- Writes that no release has taken yet become unusable, so that their departures substitute them (R126, R472). -/
def spoilSlot (chans : List Nat) (x : Slot) : Slot :=
  { x with vals := x.vals.zipIdx.map (fun e => if chans.isEmpty || chans.contains e.2 then { e.1 with usable := false } else e.1) }

def State.spoilSlots (s : State) : State :=
  { s with plt := { s.plt with slots := tmap (fun _ (x : ContractSlots) => { x with slots := x.slots.map (spoilSlot []) }) s.plt.slots } }

/-- FS_19: the slot of a carrier for an instant becomes an unusable write. -/
def State.spoilOne (s : State) (id inst : Nat) (chans : List Nat) : State :=
  { s with plt := { s.plt with slots := s.plt.slots.map (fun e => if e.1 == id then
      (e.1, { e.2 with slots := e.2.slots.map (fun x => if x.inst == inst then spoilSlot chans x else x) }) else e) } }

/-- Items that wait in ingest for their stream's span are lost. -/
def State.ingestStall (s : State) : State :=
  { s with sch := { s.sch with flows := tmap (fun _ (f : Flow) => { f with waiting := [] }) s.sch.flows } }

/-- An uncorrectable error in a point's accumulators or residues, which keep counting (06_metering R201). -/
def State.meterDamage (s : State) (n : Nat) : State :=
  let s1 := s.setMeter n { s.meter n with accFault := true }
  { s1 with nrg := { s1.nrg with accFaultSeen := (s.holder kindMeter n :: s.nrg.accFaultSeen).eraseDups } }

/-- The engines restart as after an uncorrectable error in their state. -/
def State.enginesStall (s : State) : State :=
  let s1 := (s.wch.units.map (·.1)).foldl (fun s n => s.unitRestart n) s
  let s2 := (s1.osc.dets.map (·.1)).foldl (fun s n => s.detRestart n) s1
  ((s2.nrg.points.map (·.1)).foldl (fun s n => s.meterDamage n) s2).modalDiscard.cohDiscard false

/-- A command whose transfer of host memory the DMA engine is making. -/
def Waiting.transfers (w : Waiting) : Bool := w.buffers w.pkt.part w.pkt.tag

/-- The DMA engine restarts: the transfers that commands have begun are given up (DEDUCED: log entry 93). -/
def State.dmaStall (s : State) : State :=
  (s.hst.waiting.filter Waiting.transfers).foldl (fun s w => (s.bufferLost w).finish w stFaulted 37 []) s

/-- The reset of a stalled block, by its source. The output stage drives its pins and repeats its datasets from the outputs of the pair, as before. -/
def State.stallReset (s : State) (src : Nat) : State :=
  match src with
  | 32 => s.ingestStall
  | 33 => s.spoilSlots
  | 34 => s.enginesStall
  | 35 => s.driveAl s.alc.level
  | 36 => s.mgmtFail 36
  | 37 => s.dmaStall
  | _ => s

/-! ## Tamper (15_security R455 to R460) -/

/-- A tamper code counts under the settings in force: MODE 0 disables a TMP input, and the odd input of a mesh is part of it (Table 15-7). -/
def State.tamperArmed (s : State) (code : Nat) : Bool :=
  if code < 4 then
    let mode := tgetD code 0 s.sec.tmpMode
    mode != 0 && mode < 4 && !(code % 2 == 1 && tgetD (code - 1) 0 s.sec.tmpMode == 3)
  else decide (code < 8)

/-- A value outside the limits of Table 15-7, in mV or 0.1 °C, and not a supply falling on a warned power-down (R456). -/
def State.tamperValue (s : State) (code value : Nat) : Bool :=
  let warned := s.pwr.pfwLow || s.pwr.porHeld
  let supply := fun (lo hi : Nat) => decide (hi < value) || (decide (value < lo) && !warned)
  let temp : Int := if value < 2147483648 then value else (value : Int) - 4294967296
  match code with
  | 4 => supply 620 900
  | 5 => supply 700 920
  | 6 => supply 720 900
  | 7 => decide (1400 < temp) || decide (temp < -550)
  | _ => true

/-- A wake in progress is abandoned (R508). -/
def State.wakeAbandon (s : State) : State :=
  if s.pwr.state != .waking then s
  else
    let s1 : State := { s with pwr := { s.pwr with state := .stabled, wake := false, wakeStamp := none, wakeRefused := true } }
    (s1.evtFree [0] 0x01A).finishAll (fun w => w.what == .wake) stTampered 0 (fun _ => [])

/-- The actions of R457 but the record, and the further response of Table 15-8. `shows` says that the source is seen to tamper, which an injection does
not make it. -/
def State.tamperActions (s : State) (code value : Nat) (shows : Bool) : State :=
  let keyOp := fun (w : Waiting) => match w.what with
    | .keyCommit .. => true
    | _ => false
  let st := if s.hst.waiting.any keyOp then 3 else s.tamperState
  let s1 := (s.loseKeys.secCount 1).tamperEntry code st s.tb1Log (if code < 4 then 0 else value)
  let active := if !shows || s1.sec.tmpActive.contains code then s1.sec.tmpActive else code :: s1.sec.tmpActive
  let s2 : State := { s1 with sec := { s1.sec with
    tamperLatched := true, tmpActive := active, tamperHold := s1.sec.tamperHold || !(s1.pwr.startupDone || s1.pwr.porHeld) } }
  let s3 := s2.evt s2.everyone 0x1F8 (code + 256 * st)
  (s3.finishAll keyOp stTampered 0 (fun _ => [])).wakeAbandon.refreshErr

def State.tamperDetected (s : State) (code value : Nat) : State :=
  if s.tamperArmed code && s.tamperValue code value then (s.tamperActions code value true).fault 80 code 0xFF else s

/-! ## Block reactions (R482) -/

/-- A cluster retired by row 11 of Table 11-2 (R335). -/
def State.clusterThird (s : State) (k : Nat) : State :=
  let old := (s.cluster k).state
  if old == .inService then ((s.clusterTo k .retired 11).removeCluster k 6).1.restartItems k
  else if old == .draining then (s.clusterTo k .retired 11).restartItems k
  else if old == .faulted then s.clusterTo k .retired 11 else s

/-- What the block that owns a source does for a real record of it, applied to the unit that the detail names; for a detail that names none,
nothing. Row 8 of Table 09-5 and the halt belong to the record itself. -/
def State.blockReaction (s : State) (src detail : Nat) : State :=
  match src with
  | 8 => s.mgmtFail 8
  | 21 => s.mgmtFail 21
  | 40 => if s.tt.profile == .fixed then ({ s with tt := { s.tt with basisLost := true } }).evtFree s.everyone 0x014 else s
  | 41 => if s.tt.profile == .fixed then ({ s with tt := { s.tt with basisLost := true } }).evtFree s.everyone 0x014 else s
  | 46 => s.unitRestart detail
  | 47 => s.unitRestart detail
  | 48 =>
    if detail < 256 then s.meterDamage detail else s
  | 49 => s.detRestart detail
  | 50 => s.detRestart detail
  | 51 => s.modalDiscard
  | 52 => s.cohDiscard false
  | 53 => s.cohDiscard false
  | 56 => s.alcSettle 56
  | 57 => s.alcSettle 57
  | 58 => s.alcSettle 58
  | 59 => s.alcSettle 59
  | 62 => s.alcSettle 62
  | 64 => s.clusterFaulted (detail % 16)
  | 65 => if detail < 16384 then s.gateHold detail else s
  | 66 => if detail < 16384 then s.gateHold detail else s
  | 67 => s.clusterThird (detail % 16)
  | 68 => if s.tb.extInUse then s else s.refclkHold
  | 69 => if s.tb.extInUse then s else s.refclkHold
  | 72 => if detail < 24 then s.ringEvent detail 0 4 else s
  | 73 => if detail < 24 then s.ringEvent detail 0 4 else s
  | 80 => if detail < 8 then s.tamperActions detail 0 false else s
  | 82 => if detail < 256 then s.setSlot detail { s.slot detail with key := none, bankA := {}, bankB := {} } else s
  | 83 => { s with sec := { s.sec with drbgFailed := true } }
  | 103 => s.deviceReset 5
  | _ => if 32 ≤ src && src ≤ 37 then s.stallReset src else s

end Sys2Proof.Machine
end

