-- ==== Sys2Proof/Machine/SignalBox.lean ====
section
/-!
DEFINITION. The rows of the signal box (16_safety R470 to R492): its commands, supplies and temperature, stalls, memory errors and scrub, the ERR pair,
and self-test.
-/
namespace Sys2Proof.Machine

/-! ## FLT_READ and FLT_HISTORY -/

/-- Table 16-3. -/
def FaultRec.bytes (r : FaultRec) : List Byte :=
  le 2 r.source ++ le 1 r.cls ++ le 1 r.declared ++ le 1 r.effective
  ++ le 1 (b2n r.injected + 2 * b2n r.real + 4 * b2n r.escalated + 8 * b2n r.acked + 16 * b2n r.active + 32 * b2n r.simultaneous + 64 * b2n r.react)
  ++ le 1 r.part ++ zeros 1 ++ le 4 r.seq.toNat ++ le 4 r.detail.toNat ++ le 8 r.stamp ++ le 8 r.ackStamp

def faultBytes (r : Option FaultRec) : List Byte := (r.map (·.bytes)).getD (zeros 32)

/-- The highest effective severity unacknowledged. -/
def State.maxUnack (s : State) : Option Nat :=
  (s.unacked.map (·.effective)).foldl (fun a v => some (Nat.max (a.getD 0) v)) none

/-- Any source of FS_88 to FS_92 is active. -/
def State.selftestFail (s : State) : Bool := [88, 89, 90, 91, 92].any s.faultActive

def State.unackSource (s : State) (src : Nat) : Bool := s.unacked.any (fun r => r.source == src)

/-- Table 16-8. -/
def fltRead (s : State) : CmdOut :=
  ok s (faultBytes s.flt.first ++ bitMap 32 s.faultActive ++ bitMap 32 s.unackSource ++ bitMap 32 (fun i => s.flt.forced.contains i)
    ++ le 4 s.flt.seq.toNat ++ le 1 (s.maxUnack.getD 0xFF) ++ le 1 s.flt.errMin
    ++ le 1 (b2n s.flt.errFault + 2 * b2n s.flt.selftest.isSome + 4 * b2n s.selftestFail) ++ zeros 1 ++ le 8 s.flt.lastTest ++ zeros 16)

def execFltRead (h : Pkt) (s : State) : Host.Outcome State Fault Refusal :=
  cmd (.fltRead h) { op := 0x0E00, len := some 0, ro := true, halt := true, stabled := true } h s (fun s => fltRead s)

def fltHistory (s : State) (p : FltHistory) : CmdOut :=
  check s [badIf (31 < p.first) 0, badIf (32 < p.first + p.count) 1] fun _ =>
    ok s (le 4 s.flt.seq.toNat ++ le 4 s.flt.lost.toNat ++ ((List.range p.count).map (fun i => faultBytes (s.flt.history[p.first + i]?))).flatten)

def execFltHistory (h : Pkt) (p : FltHistory) (s : State) : Host.Outcome State Fault Refusal :=
  cmd (.fltHistory h p) { op := 0x0E03, len := some 4, ro := true, halt := true, stabled := true } h s (fun s => fltHistory s p)

/-! ## FLT_ACK (R475, R479) -/

/-- The unacknowledged records that a command names, but for those stamped in the tick of its receipt. -/
def ackNames (p : FltAck) (recv : Stamp) (r : FaultRec) : Bool :=
  !r.acked && r.stamp / 4 != recv / 4 && (if p.op == 1 then r.source == p.source else if p.op == 2 then r.cls == p.cls else true)

/-- A record of a LEVEL source that is still active is not acknowledged. -/
def State.stillActive (s : State) (r : FaultRec) : Bool := faultLevel r.source && s.faultActive r.source

def State.fltAcked (s : State) (p : FltAck) (recv : Stamp) : State :=
  let sel := fun (r : FaultRec) => ackNames p recv r && !s.stillActive r
  let put := fun (r : FaultRec) => if sel r then ({ r with acked := true, ackStamp := s.now } : FaultRec) else r
  let s1 : State := { s with flt := { s.flt with
    history := s.flt.history.map put, unackDisplaced := s.flt.unackDisplaced.filter (fun r => !sel r) } }
  let first := match s1.flt.first with
    | some q => if p.clearFirst && !s1.unacked.any (fun r => r.seq == q.seq) then none else some q
    | none => none
  ({ s1 with flt := { s1.flt with first } }).refreshErr

def fltAck (s : State) (h : Pkt) (p : FltAck) : CmdOut :=
  let named := s.unacked.filter (ackNames p h.recv)
  let still := (named.filter s.stillActive).length
  check s
    [ failIf (h.part != 0 && !(s.part h.part).safety) stNotGranted 0xF3, badIf (p.op == 0 || 3 < p.op) 0, badIf (p.op == 2 && 11 < p.cls) 1
    , badIf (p.op == 1 && (faultClass p.source).isNone) 2, failIf (p.op == 1 && still != 0) stWrongState 0 ]
    fun _ =>
      let n := named.length - still
      let told := 0 :: (allParts.filter (fun q => q != 0 && s.created q && (s.part q).safety))
      ok (s.during h.done (fun s => (s.fltAcked p h.recv).evt told 0x1FE n)) (le 2 n ++ le 2 still)

def execFltAck (h : Pkt) (p : FltAck) (s : State) : Host.Outcome State Fault Refusal :=
  cmd (.fltAck h p) { op := 0x0E01, len := some 8 } h s (fun s => fltAck s h p)

/-! ## FLT_INJECT (R482, R483) -/

/-- The partition that a record of a source concerns, from the unit that its detail names; 0xFF for the device. -/
def State.concerned (s : State) (src detail : Nat) : Nat :=
  if src == 46 || src == 47 then (if detail < 256 then s.holder kindUnit detail else 0xFF)
  else if src == 48 then (if detail < 256 then s.holder kindMeter detail else 0xFF)
  else if src == 49 || src == 50 then (if detail < 2048 then s.holder kindDetector detail else 0xFF)
  else if src == 51 then s.holder kindModal 0
  else if src == 52 || src == 53 then s.holder kindCoherency 0
  else if 56 ≤ src && src ≤ 62 then s.holder kindLogic 0
  else if src == 82 then (if detail < 256 then s.holder kindKey detail else 0xFF)
  else 0xFF

/-- Setting a force bit records the source once; with REACT the block reacts too. -/
def State.inject (s : State) (p : FltInject) : State :=
  let s1 : State := { s with flt := { s.flt with forced := if s.flt.forced.contains p.source then s.flt.forced else p.source :: s.flt.forced } }
  let s2 := s1.emit 8 (.fault p.source p.detail (s.concerned p.source p.detail) true false p.react)
  if p.react then (s2.blockReaction p.source p.detail).refreshErr else s2

/-- Clearing it ends the hold on a LEVEL source whose condition is not true. -/
def State.uninject (s : State) (src : Nat) : State :=
  let s1 : State := { s with flt := { s.flt with forced := s.flt.forced.filter (· != src) } }
  let s2 : State := if src == 68 || src == 69 then { s1 with tb := { s1.tb with ondie := s1.tb.ondie && s1.tb.refclkLost } } else s1
  if !s.flt.forced.contains src || s.flt.active.contains src then s1 else s2.faultClear src

def fltInject (s : State) (h : Pkt) (p : FltInject) : CmdOut :=
  check s [ownerOnly h, badIf (faultClass p.source).isNone 0, badIf (p.op == 0 || 2 < p.op) 2] fun _ =>
    if p.op == 2 then ok (s.uninject p.source)
    else if p.react && p.source == 103 then .silent (s.inject p)
    else ok (s.inject p)

def execFltInject (h : Pkt) (p : FltInject) (s : State) : Host.Outcome State Fault Refusal :=
  cmd (.fltInject h p) { op := 0x0E02, len := some 8 } h s (fun s => fltInject s h p)

/-! ## FLT_SET and corrections (R476, R484) -/

def hourNs : Nat := 3600000000000

/-- Judge one region's corrections of the latest hour against CE_LIMIT. -/
def State.regionJudge (s : State) (reg : Nat) : State :=
  let x := tgetD reg {} s.flt.regions
  let l := x.stamps.filter (fun t => decide (s.now < t + hourNs))
  let excess := decide (s.flt.ceLimit < l.length)
  let s1 : State := { s with flt := { s.flt with regions := tset reg { stamps := l, excess } s.flt.regions } }
  if excess && !x.excess then s1.free.2.fault 18 s1.free.1 0xFF
  else if !excess && x.excess && !s1.flt.regions.any (fun e => e.2.excess) then s1.faultClear 18 else s1

def State.fltApply (s : State) (p : FltSet) : State :=
  let s1 : State := { s with flt := { s.flt with
    errMin := if p.errMin == 0 then 3 else p.errMin, ceLimit := if p.ceLimit == 0 then 64 else p.ceLimit } }
  ((s1.flt.regions.map (·.1)).foldl (fun s r => s.regionJudge r) s1).refreshErr

def fltSet (s : State) (h : Pkt) (p : FltSet) : CmdOut :=
  check s [ownerOnly h, badIf (3 < p.errMin) 0] fun _ => ok (s.during h.done (fun s => s.fltApply p))

def execFltSet (h : Pkt) (p : FltSet) (s : State) : Host.Outcome State Fault Refusal :=
  cmd (.fltSet h p) { op := 0x0E05, len := some 8 } h s (fun s => fltSet s h p)

/-! ## Supplies and temperature (R470, R471) -/

/-- A supply below its range on a power-down that was warned of is not recorded. -/
def State.quietLow (s : State) (src : Nat) (low : Bool) : Bool := src < 6 && low && (s.pwr.pfwLow || s.pwr.porHeld)

/-- A monitored condition holds. -/
def State.outOfRange (s : State) (src : Nat) (low : Bool) : State :=
  let s1 : State := { s with flt := { s.flt with outOfRange := (src, low) :: s.flt.outOfRange.filter (fun e => e.1 != src) } }
  if s1.quietLow src low then s1 else s1.free.2.fault src s1.free.1 0xFF

/-- It holds no more. -/
def State.inRange (s : State) (src : Nat) : State :=
  ({ s with flt := { s.flt with outOfRange := s.flt.outOfRange.filter (fun e => e.1 != src) } }).faultClear src

/-- The conditions that hold and have no record yet (R470, R492). -/
def State.recheckRange (s : State) : State :=
  (List.range 8).foldl (fun s src => match s.flt.outOfRange.find? (fun e => e.1 == src) with
    | some e => if s.flt.active.contains src then s else s.outOfRange src e.2
    | none => s) s


/-! ## Stalls (R29, R472) -/

/-- The fault and the reset of a stalled block; a cluster is removed, a port reports its own fault. -/
def State.stalled (s : State) (b : StalledBlock) : State :=
  let one := fun (src : Nat) => ((s.free.2.fault src s.free.1 0xFF).stallReset src)
  match b with
  | .ingest => one 32
  | .platform => one 33
  | .engines => one 34
  | .logicOutput => one 35
  | .management => one 36
  | .dma => one 37
  | .cluster k => if k < 16 then (s.fault 64 k 0xFF).clusterFaulted k else s
  | .port p => if p < 24 then s.portFault p 0 else s

def execMgmtLockstepMismatch (t : Nat) (s : State) : Host.Outcome State Fault Refusal :=
  event t s (fun s => if s.watched then (s.free.2.fault 8 s.free.1 0xFF).mgmtFail 8 else s)

/-! ## Memory errors and scrub (R484, R485, R487) -/

/-- The region over which corrections are counted. -/
def regionCode : MemRegion → Nat
  | .platform => 0
  | .cluster _ => 1
  | .waveform => 2
  | .detectors => 2
  | .metering => 2
  | .modal => 2
  | .coherency => 2
  | .logicPair => 2
  | .management => 3
  | .security => 3
  | .portBuffer _ => 4
  | .recorderPool => 5
  | .sidings => 6
  | .history => 7
  | .modalHistory => 8
  | .traceRings => 9
  | .workingStore => 10

/-- DRAM regions. -/
def inDram (r : MemRegion) : Bool := 5 ≤ regionCode r

/-- A counter of the signal box that saturates. -/
def satInc (v : W32) : W32 := if v == 0xFFFFFFFF then v else v + 1

/-- A correctable error: a note with the word's address, counted. -/
def State.corrected (s : State) (x : ScrubStep) : State :=
  let reg := regionCode x.region
  let dram := inDram x.region
  let s1 := s.fault (if dram then 17 else 16) x.addr 0xFF
  let s2 : State := { s1 with flt := { s1.flt with
    ceSram := if dram then s1.flt.ceSram else satInc s1.flt.ceSram
    ceDram := if dram then satInc s1.flt.ceDram else s1.flt.ceDram
    regions := tmod reg {} (fun r => { r with stamps := s1.now :: r.stamps }) s1.flt.regions } }
  s2.regionJudge reg

/-- A damaged frame of a port: the RING event of its partition, and the frame is dropped (13_ports R398). -/
def State.portWord (s : State) (p q place detail : Nat) : State :=
  if q == 8 then ((s.modPort p (fun x => { x with rxq := x.rxq.eraseIdx place })).xoffCheck p).portFaultAt p 0 detail
  else if q == 9 then (if place < (s.port p).side then s.sideTake p else s).portFaultAt p 0 detail
  else match (tgetD q [] (s.port p).txq)[place]? with
    | some f =>
      (((s.modPort p (fun x => { x with txq := tset q ((tgetD q [] x.txq).eraseIdx place) x.txq })).portFault p f.what.ringPart).frameGone p f true).kick p
    | none => s.portFault p 0

/-- An uncorrectable error, reported to the source of the block that owns the word, which reacts by its own rules (R472, R484). Scrub gives the word's address
(R485), an access what the block gives. -/
def State.uncorrectable (s : State) (x : ScrubStep) : State :=
  let d := fun (unit : Nat) => if x.scrub then x.addr else unit
  match x.region with
  | .platform => (s.fault 19 x.addr (((s.carrier x.unit).map (·.part)).getD 0xFF)).spoilOne x.unit x.sub x.pts
  | .cluster k => (s.fault 64 (d k) 0xFF).clusterFaulted k
  | .waveform => s.unitFault x.unit (d x.unit)
  | .detectors => s.detFault x.unit (d x.unit)
  | .metering => (s.fault 48 (d x.unit) (s.holder kindMeter x.unit)).meterDamage x.unit
  | .modal => s.modalDiscard.fault 51 x.addr (s.holder kindModal 0)
  | .modalHistory => s.modalDiscard.fault 51 x.addr (s.holder kindModal 0)
  | .coherency => (s.cohDiscard false).faultPair 52 53 x.addr (s.holder kindCoherency 0)
  | .logicPair => (s.fault (if x.unit == 0 then 58 else 59) x.addr (s.holder kindLogic 0)).alcSettle (if x.unit == 0 then 58 else 59)
  | .management => (s.fault 21 x.addr 0xFF).mgmtFail 21
  | .security => s.fault 83 x.addr 0xFF
  | .portBuffer p => s.portWord p x.unit x.sub (d p)
  | .recorderPool => (s.fault 54 x.addr (s.holder kindRecorder x.unit)).recDamage x.unit (if x.sub == 255 then none else some x.sub) x.pts
  | .sidings =>
    let s1 := s.fault 22 x.addr 0xFF
    { s1 with plt := { s1.plt with sidings := s1.plt.sidings.filter (fun y => !(y.contract == x.unit && y.slot.inst == x.sub)) } }
  | .history =>
    let s1 := s.fault 22 x.addr 0xFF
    { s1 with plt := { s1.plt with history := s1.plt.history.filter (fun y => !(y.group == x.unit && y.inst == x.sub)) } }
  | .traceRings =>
    let s1 := s.fault 22 x.addr x.unit
    match tget x.unit s1.sch.traces with
    | some r => s1.traceLost x.unit r
    | none => s1
  | .workingStore => s.fault 22 x.addr 0xFF

/-- A word that is not uncorrectable, or no more (R485). -/
def State.sound (s : State) (w : Nat × Nat) : State := { s with flt := { s.flt with badWords := s.flt.badWords.filter (· != w) } }

/-- FS_23 on a later read: reads go to the other configuration copy, or to an earlier checkpoint (R472, 09_alarm_logic R283). -/
def State.norBad (s : State) (i : NorItem) : State :=
  let s1 := s.free.2.fault 23 s.free.1 0xFF
  match i with
  | .copy b =>
    let other := if b then s1.cfg.copyA else s1.cfg.copyB
    { s1 with cfg := { s1.cfg with latestIsB := if s1.cfg.latestIsB == b && other.isSome then !b else s1.cfg.latestIsB } }
  | .checkpoint q => { s1 with alcx := { s1.alcx with slots := s1.alcx.slots.filter (fun c => c.seq != q) } }

/-- What reading a word found: scrub tells of an uncorrectable word once, an access every time. -/
def State.finding (s : State) (x : ScrubStep) : State :=
  let w := (regionCode x.region, x.addr)
  match x.finding with
  | .clean => s.sound w
  | .written => s.sound w
  | .selfCheck => s.free.2.fault 83 s.free.1 0xFF
  | .integrity i => s.norBad i
  | .corrected => s.corrected x
  | .uncorrectable =>
    if x.scrub && s.flt.badWords.contains w then s
    else
      let s1 := s.uncorrectable x
      { s1 with flt := { s1.flt with badWords := if s1.flt.badWords.contains w then s1.flt.badWords else w :: s1.flt.badWords } }

/-! ## Held errors (R487) -/

/-- The channels compare: FS_9 for a disagreement, FS_10 while a pin differs from its driven level. -/
def State.errCompare (s : State) (agree readbackOk : Bool) : State :=
  let s1 := if agree then s else s.free.2.fault 9 s.free.1 0xFF
  if readbackOk then s1.faultClear 10 else s1.free.2.fault 10 s1.free.1 0xFF

/-- What a checker has met, evaluated by its own rules. -/
def State.evaluateError (s : State) (e : HeldError) : State :=
  match e with
  | .word x => s.finding x
  | .range src (some low) => s.outOfRange src low
  | .range src none => s.inRange src
  | .stall b => s.stalled b
  | .pins agree readbackOk => s.errCompare agree readbackOk

/-- What a checker meets in its own test slice is held to the slice's end; `part` is the part of the self-test that tests it. -/
def State.judge (s : State) (part : Nat) (inSlice : Bool) (e : HeldError) : State :=
  if inSlice && s.flt.selftest.any (fun q => q.parts.testBit part) then { s with flt := { s.flt with heldErrors := s.flt.heldErrors ++ [e] } }
  else s.evaluateError e

def HeldError.ofRange (src : Nat) (e : HeldError) : Bool :=
  match e with
  | .range n _ => n == src
  | _ => false

/-- A condition ends: after the crossing that is still held, where there is one. -/
def State.rangeEnds (s : State) (src : Nat) : State := s.judge 3 (s.flt.heldErrors.any (·.ofRange src)) (.range src none)

def execSupplyOutOfRange (t source : Nat) (low : Bool) (value : Reading) (s : State) : Host.Outcome State Fault Refusal :=
  event t s (fun s => if source < 6 then s.judge 3 value.inSlice (.range source (some low)) else s)

def execSupplyBackInRange (t source : Nat) (s : State) : Host.Outcome State Fault Refusal :=
  event t s (fun s => if source < 6 then s.rangeEnds source else s)

def execTemperatureLimit (t source : Nat) (excess : Bool) (value : Reading) (s : State) : Host.Outcome State Fault Refusal :=
  event t s (fun s => if source == 6 || source == 7 then
    (if excess then s.judge 3 value.inSlice (.range source (some false)) else s.rangeEnds source) else s)

def execHandshakeStall (t : Nat) (stall : Stall) (s : State) : Host.Outcome State Fault Refusal :=
  event t s (fun s => if s.fabricUp then s.judge 2 stall.inSlice (.stall stall.block) else s)

/-- The last word of a pass: its duration is kept, and an overdue pass is over. -/
def State.passEnd (s : State) (x : ScrubStep) : State :=
  let dram := inDram x.region
  let bit := if dram then 1 else 0
  let excess := if s.flt.scrubOver.testBit bit then s.flt.scrubOver - 2 ^ bit else s.flt.scrubOver
  let f : FaultSt := if dram then { s.flt with dramS := Nat.min 65535 (x.passMs / 1000), dramAt := s.now, scrubOver := excess }
    else { s.flt with sramMs := Nat.min 65535 x.passMs, sramAt := s.now, scrubOver := excess }
  let s1 : State := { s with flt := f }
  if excess == 0 && s.flt.scrubOver != 0 then s1.faultClear 93 else s1

/-- SCRUB_STEP. -/
def State.scrubStep (s : State) (x : ScrubStep) : State :=
  let s1 := s.judge 0 x.inSlice (.word x)
  if x.passEnd && x.scrub then s1.passEnd x else s1

def execScrubStep (t : Nat) (x : ScrubStep) (s : State) : Host.Outcome State Fault Refusal :=
  event t s (fun s => if s.watched then s.scrubStep x else s)

/-- A pass not complete within 1.5 times its period. -/
def State.scrubOverdue (s : State) (dram : Bool) : State :=
  let bit := if dram then 1 else 0
  let due := if dram then s.flt.dramAt + 90000000000 else s.flt.sramAt + 3000000000
  if s.now < due || s.flt.scrubOver.testBit bit then s
  else
    let s1 : State := { s with flt := { s.flt with scrubOver := s.flt.scrubOver + 2 ^ bit } }
    s1.free.2.fault 93 s1.free.1 0xFF

def execScrubOverdue (t : Nat) (dram : Bool) (s : State) : Host.Outcome State Fault Refusal :=
  event t s (fun s => if s.watched then s.scrubOverdue dram else s)

def execCeHourWindow (t : Nat) (region : MemRegion) (s : State) : Host.Outcome State Fault Refusal :=
  event t s (fun s => if s.watched then s.regionJudge (regionCode region) else s)

/-! ## The ERR pair (R479, R480, Table 16-5) -/

/-- At multiples of 500 µs both pins change while the pair is in health. -/
def State.errToggle (s : State) : State :=
  if s.flt.errFault || s.now % 500000 != 0 || s.now < s.flt.nextToggle then s
  else { s with flt := { s.flt with errP := !s.flt.errP, errN := s.flt.errP, nextToggle := s.now + 500000 } }

def execErrToggle (t : Nat) (s : State) : Host.Outcome State Fault Refusal := event t s (fun s => s.errToggle)

def execErrChannelCompare (t : Nat) (compare : ErrCompare) (readbackOk : Bool) (s : State) : Host.Outcome State Fault Refusal :=
  event t s (fun s => if s.pwr.porHeld || s.pwr.perstHeld then s else s.judge 4 compare.inSlice (.pins compare.agree readbackOk))

/-! ## Self-test (R486) -/

/-- All five parts. -/
def allTests : Nat := 31

def fltSelftest (s : State) (h : Pkt) (parts : Nat) : CmdOut :=
  check s [ownerOnly h, badIf (31 < parts) 0, failIf s.flt.selftest.isSome stBusy 0] fun _ =>
    let p := if parts == 0 then allTests else parts
    .wait { s with flt := { s.flt with selftest := some { parts := p, requested := true, start := s.now } } } (.selftest p)

def execFltSelftest (h : Pkt) (parts : Nat) (s : State) : Host.Outcome State Fault Refusal :=
  cmd (.fltSelftest h parts) { op := 0x0E04, len := some 4 } h s (fun s => fltSelftest s h parts)

/-- Every hour counted from STARTUP_DONE. -/
def State.hourlyTest (s : State) : State :=
  if s.watched && s.flt.selftest.isNone && s.pwr.startupAt < s.now && (s.now - s.pwr.startupAt) % hourNs == 0 then
    { s with flt := { s.flt with selftest := some { parts := allTests, requested := false, start := s.now } } }
  else s

def execSelftestHourly (t : Nat) (s : State) : Host.Outcome State Fault Refusal := event t s (fun s => s.hourlyTest)

/-- The end of a slice: what was held is evaluated, oldest first. -/
def State.sliceEnd (s : State) : State :=
  s.flt.heldErrors.foldl (fun s x => s.evaluateError x) { s with flt := { s.flt with heldErrors := [] } }

def execSelftestSliceEnd (t : Nat) (s : State) : Host.Outcome State Fault Refusal := event t s (fun s => if s.watched then s.sliceEnd else s)

/-- The outcome of a test of some parts: the sources of Table 16-2 for parts that failed, cleared for parts that passed. -/
def State.testOutcome (s : State) (parts failed : Nat) : State :=
  let s1 := (maskBits 5 parts).foldl (fun s p =>
    if failed.testBit p then s.free.2.fault (88 + p) s.free.1 0xFF else s.faultClear (88 + p)) s
  if (maskBits 5 parts).any failed.testBit then s1 else { s1 with sec := { s1.sec with drbgFailed := false } }

/-- The lowest source of the parts that failed. -/
def failedSource (failed : Nat) : Nat := 88 + ((maskBits 5 failed).head?.getD 0)

/-- SELFTEST_DONE. -/
def State.selftestDone (s : State) (failed : Nat) : State :=
  match s.flt.selftest with
  | none => s
  | some q =>
    let f := failed &&& q.parts
    let s0 := s.sliceEnd
    let s1 := ({ s0 with flt := { s0.flt with
      selftest := none, lastTest := s.now, lastPeriodic := if q.requested then s0.flt.lastPeriodic else s.now } }).testOutcome q.parts f
    let s2 := if q.requested then s1 else s1.faultClear 94
    let s3 := s2.evt [0] 0x1FF (b2n q.requested + 256 * f)
    let mine := fun (w : Waiting) => match w.what with
      | .selftest _ => true
      | _ => false
    s3.finishAll mine (if f == 0 then stOk else stFaulted) (if f == 0 then 0 else failedSource f) (fun _ => le 1 f ++ zeros 3)

def execSelftestDone (t failed : Nat) (s : State) : Host.Outcome State Fault Refusal :=
  event t s (fun s => if s.watched then s.selftestDone failed else s)

/-- FS_94: 70 minutes without a periodic test. -/
def State.selftestOverdue (s : State) : State :=
  if s.now < s.flt.lastPeriodic + 4200000000000 then s else s.free.2.fault 94 s.free.1 0xFF

def execSelftestOverdue (t : Nat) (s : State) : Host.Outcome State Fault Refusal :=
  event t s (fun s => if s.watched then s.selftestOverdue else s)

/-! ## Tamper -/

def execTamperDetected (t code value : Nat) (s : State) : Host.Outcome State Fault Refusal := event t s (fun s => s.tamperDetected code value)

end Sys2Proof.Machine
end

