-- ==== Sys2Proof/Machine/Startup.lean ====
section
/-!
DEFINITION. Start-up (17_power_states R496 to R501, Table 17-4): the reset pins, what the boot found, the application of the configuration bundle, and
STARTUP_DONE.
-/
namespace Sys2Proof.Machine

/-! ## Reset pins (R497) -/

def execPorNFall (t : Nat) (s : State) : Host.Outcome State Fault Refusal := event t s (fun s => s.coldReset)

/-- The release of POR_N: TB_0 counts from 0 (12_time R371) and start-up begins. -/
def State.porRelease (s : State) : State :=
  if !s.pwr.porHeld then s
  else
    let s1 : State := { s with now := 0, cap := 0, pwr := { s.pwr with porHeld := false } }
    if s1.pwr.perstHeld then s1.refreshErr else s1.startBoot

def execPorNRelease (_t : Nat) (s : State) : Host.Outcome State Fault Refusal := .next s.porRelease

/-- PERST_N low holds a device reset; under a held POR_N it changes nothing more. -/
def State.perstAssert (s : State) : State :=
  let s1 : State := { s with pwr := { s.pwr with perstHeld := true } }
  if s.pwr.perstHeld || s.pwr.porHeld then s1 else s1.deviceReset 2

def execPerstNAssert (t : Nat) (s : State) : Host.Outcome State Fault Refusal := event t s (fun s => s.perstAssert)

/-- Its release starts the sequence from the strip of SRAM on. -/
def State.perstRelease (s : State) : State :=
  let s1 : State := { s with pwr := { s.pwr with perstHeld := false } }
  if !s.pwr.perstHeld || s.pwr.porHeld then s1 else s1.startBoot

def execPerstNRelease (t : Nat) (s : State) : Host.Outcome State Fault Refusal := event t s (fun s => s.perstRelease)

/-! ## The bundle (R500, R501) -/

/-- A bundle that names another profile than Fixed and gives SAFETY is not valid. -/
def bundleUnsafe (b : Bundle) : Bool :=
  b.profile != 0 && b.settings.any (fun x => match x.setting with
    | .priv p => p.op == 1 && p.priv == 3
    | _ => false)

/-- What start-up makes of a stored copy: usable, failed in its integrity, or refused. -/
inductive CopyState where
  | absent
  | good (b : Bundle)
  | corrupt
  | refused
  deriving DecidableEq, Repr

def copyState (c : Option Bundle) (ok refused : Bool) : CopyState :=
  match c with
  | none => .absent
  | some b => if !ok then .corrupt else if refused || bundleUnsafe b then .refused else .good b

/-- The valid copy of higher SEQ. -/
def chooseCopy (a b : CopyState) : Option Bundle :=
  match a, b with
  | .good x, .good y => some (if x.seq < y.seq then y else x)
  | .good x, _ => some x
  | _, .good y => some y
  | _, _ => none

/-- The packet in whose name a setting is made. -/
def State.bundlePkt (s : State) (part len : Nat) : Pkt :=
  { recvNs := s.now, doneNs := s.now, part, chan := .queue, tag := 0, version := 1, paramLen := len, ackPending := false, fence := false }

/-- The state that a command's own rules give; a setting they refuse is left out. -/
def CmdOut.settled (o : CmdOut) (s : State) : State :=
  match o with
  | .reply s1 st _ _ => if st == stOk then s1 else s
  | .wait s1 _ => s1
  | .silent s1 => s1

/-- A change that raises nothing: event latches stay as they were (14_hosts R432). -/
def State.quiet (old new : State) : State :=
  { new with hst := { new.hst with parts := tmap (fun n (p : Part) => { p with ev := (old.part n).ev }) new.hst.parts } }

/-- A grant of key slots by the bundle: start-up has reloaded the slots before (15_security R438), and gives them to their holder as they are (DEDUCED: log entry
181). -/
def State.grantSlots (s : State) (h : Pkt) (p : HstGrant) : State :=
  if h.part == 0 && p.count != 0 && p.dest < 8 && p.first + p.count ≤ kindCount kindKey && !s.absent p.dest then
    { s with hst := { s.hst with grants := { kind := kindKey, first := p.first, count := p.count, dest := p.dest } :: s.hst.grants } }
  else s

/-- A setting of the host block. -/
def State.applyHost (s : State) (h : Pkt) (x : Setting) : Option State :=
  match x with
  | .part p => some ((hstPartCreate s h p).settled s)
  | .grant p => some (if p.kind == kindKey then s.grantSlots h p else (hstGrant s h p).settled s)
  | .share p => some ((hstShareSet s h p).settled s)
  | .priv p => some ((hstPrivSet s h p).settled s)
  | .roShare p => some ((hstRoShare s h p).settled s)
  | .inband p => some (s.inbandSet h.part p)
  | .udpPort n => some { s with hst := { s.hst with udpPort := n } }
  | _ => none

/-- A setting whose command asks for a contract or a key, which start-up does not have yet: its effect. -/
def State.applyLoose (s : State) (x : Setting) : Option State :=
  match x with
  | .sub p => some (s.subWrite (filledSub p))
  | .gooseSub p => some (s.setStation p.station { sub := { p with udpDst := if p.kind == 1 && p.udpDst == 0 then 102 else p.udpDst } })
  | .out p => some { s with plt := { s.plt with outs := tset p.out { set := PltOutSet.filled p } s.plt.outs } }
  | .outMap p types =>
    (tget p.out s.plt.outs).map (fun o =>
      { s with plt := { s.plt with outs := tset p.out { o with blocks := tset p.block p o.blocks, types := tset p.block types o.types } s.plt.outs } })
  | .point p => some ((s.setMeter p.mp ((({ set := p } : Meter)).cleared s.now)).meterRefresh p.mp)
  | .det p => some (s.detQueue p s.now)
  | .sig p => some { s with osc := { s.osc with sigs := tset p.sig { set := p } s.osc.sigs } }
  | .buses p =>
    some { s with coh := { s.coh with nextBuses := s.coh.nextBuses ++ busChanges p s.now } }
  | .recChan p =>
    let r := s.recOf p.recorder
    some (s.setRec p.recorder { r with chans := p.entries.zipIdx.foldl (fun t e => tset (p.first + e.2) e.1 t) r.chans })
  | .flt p => some (s.fltApply p)
  | .tamperMode source mode => some { s with sec := { s.sec with tmpMode := tset source mode s.sec.tmpMode } }
  | .forgetMs ms => some { s with ing := { s.ing with forgetMs := ms } }
  | .startMode m => some { s with alc := { s.alc with startMode := m } }
  | .recoverySlot n => some { s with sec := { s.sec with recoverySlot := some n } }
  | _ => none

/-- A setting by the rules of its command. -/
def State.applyCmd (s : State) (h : Pkt) (x : Setting) : State :=
  match x with
  | .layout p => (ingSetLayout s { h with paramLen := 8 + ceilDiv p.count 4 * 4 } p).settled s
  | .portMode p => (prtModeSet s p h).settled s
  | .portAddr p => (prtAddrSet s p h).settled s
  | .portFilter p => (prtFilterSet s p h).settled s
  | .portTxq p => (prtTxqSet s p h).settled s
  | .ref p => (tbRefSet s h p).settled s
  | .base p => (tbSet s h p).settled s
  | .ptp p => (tbPtpSet s h p).settled s
  | .portDelay p => (tbPortDelaySet s h p).settled s
  | .group p => (pltGroupSet s h p).settled s
  | .policy p => (pltChanPolicy s h p).settled s
  | .unit p => (wchUnitSet s h p).settled s
  | .cmp p => (wchCmpSet s h p).settled s
  | .hx p => (wchHxSet s h p).settled s
  | .pulseIn p => (nrgPiSet s h p).settled s
  | .pulseOut p => (nrgPoSet s h p).settled s
  | .modal p => (oscModalSet s h p).settled s
  | .coh p => (cohSetCmd s h p).settled s
  | .recSet p => (recSet s h p).settled s
  | .recCond p => (recCondSet s h p).settled s
  | .scan p => (alcScanSet s h p).settled s
  | _ => s

/-- One setting of the bundle. -/
def State.applySetting (s : State) (x : BundleSetting) : State :=
  let h := s.bundlePkt x.part 0
  match s.applyHost h x.setting with
  | some s1 => s.quiet s1
  | none => match s.applyLoose x.setting with
    | some s1 => s1
    | none => s.applyCmd h x.setting

/-- The bundle is applied: its profile first, where going into Live makes the first evaluation at once (02_timetable R70), then its settings in order (R501). -/
def State.applyBundle (s : State) (b : Bundle) : State :=
  let profile : Profile := if b.profile == 1 then .live else if b.profile == 2 then .placement else .fixed
  let s0 : State := if profile == .live then s.enterLive.1 else s.withProfile profile
  let s1 : State := { s0 with cfg := { s0.cfg with applied := some b } }
  b.settings.foldl (fun s x => s.applySetting x) (s1.measure 2 5 none (Config.bundleDigest b))

/-! ## The boot (Table 17-4, 15_security R443, R444) -/

/-- A bank from which steps 2 and 3 pass, under the fuses as they are now (R443). -/
def State.bankGood (s : State) (r : StartupReport) (n : Nat) : Bool :=
  (if n == 0 then r.bankAOk else r.bankBOk) && (s.bank n).verified && s.sec.imageSigned (s.bank n).nolivik (s.bank n).owner && decide (s.fw.minSvn ≤ (s.bank n).svn)

/-- The bank that boots, and whether it is the other one. -/
def State.bootBank (s : State) (r : StartupReport) : Option (Nat × Bool) :=
  if s.bankGood r s.fw.boot then some (s.fw.boot, false) else if s.bankGood r (1 - s.fw.boot) then some (1 - s.fw.boot, true) else none

/-- Start-up may end: no reset is held, nothing stopped it. -/
def State.canStartUp (s : State) : Bool :=
  !s.pwr.startupDone && !s.pwr.porHeld && !s.pwr.perstHeld && !s.sec.bootHold && !s.sec.tamperHold && s.flt.haltSource.isNone

/-- Every cluster loads from the bank that boots (17_power_states Table 17-4 step 4); those that are not RETIRED enter IN_SERVICE, or FAULTED where their
self-test failed (R342). -/
def State.startClusters (s : State) (failed bank : Nat) : State :=
  allClusters.foldl (fun s k =>
    let s1 := s.modCluster k (fun c => { c with bank })
    if (s.cluster k).state == .retired then s1
    else if failed.testBit k then s1.clusterTo k .faulted 8 else s1.clusterTo k .inService 7) s

/-- A fault that start-up found, with its detail, none where the manual states none, and the partition concerned. -/
structure StartFault where
  src : Nat
  detail : Option Nat
  part : Nat
  deriving DecidableEq, Repr

def State.recordFound (s : State) (f : StartFault) : State :=
  match f.detail with
  | some d => s.fault f.src d f.part
  | none => s.free.2.fault f.src s.free.1 f.part

/-- Simultaneous faults in their recording order (R473). -/
def State.startOrder (s : State) (a b : StartFault) : Bool :=
  let sev := fun (x : StartFault) => faultSeverity x.src s.safetyPresent
  if sev a != sev b then decide (sev b < sev a) else decide (a.src < b.src)

/-- What start-up reports, the conditions of LEVEL sources among it (R492, R496, R500). -/
def State.startFaults (s : State) (r : StartupReport) (a b : CopyState) (fallback imageBad : Bool) (lostKeys : List Nat) : List StartFault :=
  let dev := fun (c : Bool) (src : Nat) (detail : Option Nat) => if c then [({ src, detail, part := 0xFF } : StartFault)] else []
  let free : Option Nat := none
  let ranges := (List.range 8).filter (fun src => s.flt.outOfRange.any (fun e => e.1 == src && !s.quietLow src e.2))
  ranges.flatMap (fun src => dev true src free)
  ++ dev (a == .corrupt) 23 free ++ dev (b == .corrupt) 23 free ++ (r.ckptBad.filter (fun q => s.alcx.slots.any (fun c => c.seq == q))).flatMap (fun _ => dev true 23 free)
  ++ dev imageBad 61 free
  ++ r.conditions.flatMap (fun c => match c with
    | .belowRated k => dev (s.tt.profile == .fixed) (s.bySafety 40 41) (some k)
    | .apart k => dev true 42 (some k)
    | .readback n => if n < 8 then [{ src := 62, detail := some n, part := s.holder kindLogic 0 }] else []
    | .baseFault tb => dev true 70 (some tb))
  ++ (allClusters.filter (fun k => r.clustersFailed.testBit k && (s.cluster k).state != .retired)).flatMap (fun k => dev true 64 (some k))
  ++ dev (s.tb.refclkLost && !s.tb.extInUse) (s.bySafety 68 69) free
  ++ dev (s.sec.tamperLatched) 80 (s.sec.tamperLog.getLast?.map (·.source)) ++ dev fallback 81 free
  ++ lostKeys.map (fun n => ({ src := 82, detail := some n, part := s.holder kindKey n } : StartFault))
  ++ (maskBits 5 r.selftestFailed).flatMap (fun p => dev true (88 + p) free)
  ++ dev r.supplyLost 96 free ++ dev s.pwr.pfwIncomplete 97 free
  ++ dev (a == .refused) 101 free ++ dev (b == .refused) 101 free ++ dev (chooseCopy a b).isNone 102 free

/-- The ACTIVE image is verified again (09_alarm_logic R284): the pair stays in NO_PROGRAM, or enters STOP and START_MODE applies. -/
def State.startImage (s : State) (imageOk : Bool) : State × Bool :=
  match s.alc.active with
  | none => (s, false)
  | some im =>
    if (s.imageBad im imageOk false).isSome then (s.evtFree s.logicReaders 0x18A, true)
    else
      let s1 := (s.measure 3 6 none im.digest).rebind.alcTo .stop 1
      (if s1.alc.startMode == 1 then s1.alcRun false s1.now else if s1.alc.startMode == 2 then s1.alcRun true s1.now else s1, false)

/-- The state of a block whose condition start-up has found true. -/
def State.conditionFound (s : State) (c : BlockCondition) : State :=
  match c with
  | .belowRated _ =>
    if s.tt.profile == .fixed && !s.tt.basisLost then ({ s with tt := { s.tt with basisLost := true } }).evtFree s.everyone 0x014 else s
  | .apart k => { s with tt := { s.tt with pairs := tset k { (tgetD k {} s.tt.pairs) with disagree := true } s.tt.pairs } }
  | .readback n => { s with alc := { s.alc with readbackErr := s.alc.readbackErr ||| 2 ^ (n % 8), readbackBad := s.alc.readbackBad ||| 2 ^ (n % 8) } }
  | .baseFault _ => s

/-- STARTUP_DONE: the rest of the sequence in its order, then the faults it found, and the end of start-up unless one of them halts the device. -/
def State.startupEnd (s : State) (r : StartupReport) (bank : Nat) (fallback : Bool) : State :=
  let a := copyState s.cfg.copyA r.copyAOk r.copyARefused
  let b := copyState s.cfg.copyB r.copyBOk r.copyBRefused
  let s1 : State := { s with
    fw := { s.fw with running := bank, alc := bank, mgmtTo := bank }
    sec := { s.sec with fallback, drbgFailed := s.sec.drbgFailed && maskBits 5 r.selftestFailed != [] }
    pwr := { s.pwr with lostSupply := r.supplyLost }
    flt := { s.flt with startupTestOk := maskBits 5 r.selftestFailed == [], lastTest := s.now, lastPeriodic := s.now } }
  let lost := s1.uncommitted
  let bad := s1.lostRecords r.keyBad
  let s2 := (((s1.measureFirmware bank).reloadKeys r.keyBad).startClusters r.clustersFailed bank)
  let s3 := match chooseCopy a b with
    | some c => s2.applyBundle c
    | none => s2
  let faults0 := s3.startFaults r a b fallback false bad
  let s4 : State := { s3 with alcx := { s3.alcx with slots := s3.alcx.slots.filter (fun c => !r.ckptBad.contains c.seq) } }
  let im := s4.startImage r.imageOk
  let faults := sortBy s3.startOrder (faults0 ++ (if im.2 then [{ src := 61, detail := none, part := s3.holder kindLogic 0 }] else []))
  let s5 := r.conditions.foldl (fun s c => s.conditionFound c) (faults.foldl (fun s f => s.recordFound f) im.1.rebind)
  if s5.flt.haltSource.isSome then s5.refreshErr
  else
    let s6 : State := { s5 with
      pwr := { s5.pwr with state := .running, startupDone := true, startupAt := s5.now, startupMs := (s5.now - s5.pwr.startAt) / 1000000 }
      flt := { s5.flt with sramAt := s5.now, dramAt := s5.now } }
    let s7 := ((s6.evt [0] 0x1FF (256 * (r.selftestFailed % 32))).evtFree s6.everyone 0x01F).tellLostKeys lost
    let s8 := match s7.sec.lifeChanged with
      | some c => ({ s7 with sec := { s7.sec with lifeChanged := none } }).evt s7.everyone 0x1F9 (c.1 + 16 * c.2)
      | none => s7
    (if fallback then s8.evt [0] 0x1FB 1 else s8).refreshErr

/-- Start-up completes from a good bank; when both fail, the device is held (R444). -/
def State.startUp (s : State) (r : StartupReport) : State :=
  if !s.canStartUp then s
  else match s.bootBank r with
    | some b => s.startupEnd r b.1 b.2
    | none => s.enterBootHold

def execStartupDone (t : Nat) (r : StartupReport) (s : State) : Host.Outcome State Fault Refusal := event t s (fun s => s.startUp r)

end Sys2Proof.Machine
end

