-- ==== Sys2Proof/Machine/Power.lean ====
section
/-!
DEFINITION. Power-fail warning, the Stabled state and wake (17_power_states R494, R495, R502 to R508, and every chapter's rule on Stabled).
-/
namespace Sys2Proof.Machine

/-! ## PFW_N (R282, R494, R495) -/

/-- The checkpoint of a falling PFW_N: one in progress is abandoned, commands that wait for one are refused, and the last completed scan is written. -/
def State.pfwCheckpoint (s : State) : State :=
  if s.alc.state == .noProgram then s
  else
    let again := fun (c : CkptCause) => c == .exchange
    let cut := (s.alcx.write.map (fun w => w.cause)).toList
    let s1 := s.ckptReply stBusy []
    let s2 : State := { s1 with alcx := { s1.alcx with write := none, ckptDue := (cut ++ s1.alcx.ckptDue).filter again, pfwCkpt := true } }
    s2.ckptStart .powerFail

def State.pfwFall (s : State) : State :=
  if s.pwr.pfwLow then s
  else
    let ran := (s.alc.state == .run || s.alc.state == .hold) && s.flt.haltSource.isNone
    let s1 : State := { s with pwr := { s.pwr with pfwLow := true, pfwSeen := true } }
    let s2 := (s1.evtFree s1.everyone 0x016).alcStopNow (some stWrongState)
    let s3 : State := { s2 with alcx := { s2.alcx with powerFailStop := s2.alcx.powerFailStop || ran } }
    if s3.fabricUp then s3.pfwCheckpoint else s3

def execPfwNFall (t : Nat) (s : State) : Host.Outcome State Fault Refusal := event t s (fun s => s.pfwFall)

/-- PFW_N rises without a reset: writes resume, the pair stays in STOP, and supplies that are low are recorded (R471). -/
def State.pfwRise (s : State) : State :=
  if !s.pwr.pfwLow then s
  else
    let s1 : State := { s with pwr := { s.pwr with pfwLow := false } }
    let s2 := s1.evtFree s1.everyone 0x017
    let s3 := if s2.alcx.powerFailStop then
        ({ s2 with alcx := { s2.alcx with powerFailStop := false } }).evtFree s2.logicReaders 0x18F
      else s2
    s3.ckptNext.recheckRange

def execPfwNRise (t : Nat) (s : State) : Host.Outcome State Fault Refusal := event t s (fun s => s.pfwRise)

/-! ## PWR_STABLED (R504, R505) -/

def State.loadRunning (s : State) : Bool := s.fw.loadInFlight.isSome || s.cfg.loading.isSome

/-- t_c is the receipt stamp: the reply and STABLED_ENTRY, then the pair stops with its checkpoint. -/
def State.enterStabled (s : State) (tc : Stamp) : State :=
  let s1 : State := { s with pwr := { s.pwr with state := .entering, entryAt := tc, wakeKept := false } }
  let ran := s.alc.state == .run || s.alc.state == .hold
  let s2 := (s1.evtFree s1.everyone 0x018).alcStopNow (some stWrongState)
  let s3 := if ran then s2.ckptWant .stop else s2
  let s4 := s3.dropForces
  { s4 with alc := { s4.alc with breaks := [] } }

def pwrStabled (s : State) (h : Pkt) (force : Bool) : CmdOut :=
  check s
    [ ownerOnly h
    , failIf (s.pwr.state != .running || s.fw.mgmtRestart || allClusters.any (fun k => (s.cluster k).state == .updating)
        || ((s.alc.state == .run || s.alc.state == .hold) && !force)) stWrongState 0
    , failIf s.loadRunning stBusy 0 ]
    fun _ => ok (s.enterStabled h.recv) (le 8 h.recv)

def execPwrStabled (h : Pkt) (force : Bool) (s : State) : Host.Outcome State Fault Refusal :=
  cmd (.pwrStabled h force) { op := 0x0F00, len := some 4 } h s (fun s => pwrStabled s h force)

/-! ## The strip on entry -/

/-- Platform: groups, outputs, rings and policies stay; slots, sidings and history go (R147). -/
def PlatformSt.asleep (x : PlatformSt) : PlatformSt :=
  { x with
    groups := tmap (fun _ (g : Group) =>
      { g with state := if g.state == .departing then .waitTime else g.state, first := none, last := none, house := [], released := [], resumed := true }) x.groups
    slots := [], sidings := [], history := [], latest := [], delivered := [] }

/-- Ingest: subscriptions and stations stay; the duplicate table, replay windows and counters of streams and stations go (R104, R113);
a subscription that takes simulated frames only goes on doing so until its entry is rewritten (R101). -/
def IngestSt.asleep (x : IngestSt) : IngestSt :=
  { x with
    dup := []
    streams := tmap (fun _ (y : StreamSt) => { layout := y.layout, pend := y.pend, past := y.past, mismatch := y.mismatch, stored := y.stored, confRev := y.confRev, simInUse := y.simInUse, simSeen := y.simSeen }) x.streams
    stations := tmap (fun _ (y : Station) => { sub := y.sub, simInUse := y.simInUse, simSeen := y.simSeen }) x.stations }

/-- Waveform chain: units, comparators and taps keep their settings; filter states go (R181). -/
def WaveSt.asleep (x : WaveSt) : WaveSt :=
  { x with units := tmap (fun _ (u : WUnit) => u.stop) x.units, cmps := tmap (fun _ (c : Cmp) => { set := c.set }) x.cmps
           taps := tmap (fun _ (t : HxTap) => { t with z := [], last := none }) x.taps }

/-- Metering: settings stay, counts and accumulators go (R202). -/
def MeterSt.asleep (x : MeterSt) : MeterSt :=
  { x with points := tmap (fun _ (m : Meter) => { set := m.set }) x.points, pis := tmap (fun _ (p : PulseIn) => { set := p.set, closed := p.closed }) x.pis
           pos := tmap (fun _ (o : PulseOut) => { set := o.next.getD o.set }) x.pos }

/-- Oscillation: settings stay; filters, windows, modes and alarm states go (R228). -/
def OscSt.asleep (x : OscSt) : OscSt :=
  { x with dets := tmap (fun _ (d : Detector) => { set := d.set, next := d.next }) x.dets, sigs := tmap (fun _ (g : ModalSig) => { set := g.set }) x.sigs
           modes := [], nextId := 1, bandsDone := 0, excludedAny := false }

/-- Coherency: settings stay; windows, candidates, islands and the main component go (R252). -/
def CohSt.asleep (x : CohSt) : CohSt :=
  { x with buses := tmap (fun _ (b : Bus) => { set := b.set }) x.buses, eval := {}, prev := {}, prevBuses := [], prevFirst := true, prevId := 1, first := true, stale := false
           nextId := 1 }

/-- Recorders: settings, rings and the armed state stay; segments and records go (R318). -/
def RecSt.asleep (x : RecSt) : RecSt :=
  { x with recs := tmap (fun _ (r : Rec) =>
      { set := r.set, chans := r.chans, conds := tmap (fun _ (c : Cond) => { set := c.set }) r.conds, state := r.state, tb := r.tb, rate := r.rate
        seq := r.seq, missedSeen := r.missedSeen, ring := r.ring, types := r.types }) x.recs }

/-- Clusters and scheduler: cluster memory goes; a cluster whose items in flight are gone is drained (R342, Table 11-2 row 2). -/
def State.clustersAsleep (s : State) : State :=
  let s1 : State := { s with sch := { s.sch with clusters := tmap (fun _ (c : Cluster) => c.cleared s.now) s.sch.clusters, flows := [] } }
  allClusters.foldl (fun s k => if (s.cluster k).state == .draining then s.clusterTo k .drained 2 else s) s1

/-- Ports: all but those that stay alive take their links down and lose their queues (R399). -/
def State.portsAsleep (s0 : State) : State :=
  let s : State := { s0 with tb := { s0.tb with ptp := tmap (fun _ (x : Ptp) => { x with keptPort := x.slavePort }) s0.tb.ptp } }
  let down := (s.prt.ports.map (·.1)).filter (fun p => !s.keptAlive p)
  let s1 := down.foldl (fun s p => (s.linkDownOp p 2).modPort p (fun x => { x with rxq := [], txq := [], side := 0, pubWaits := [] })) s
  { s1 with prt := { s1.prt with ingestQ := [] } }

/-- The signal box: every source but those of Stabled is inactive, and the self-test is suspended (R492). -/
def State.sourcesAsleep (s : State) : State :=
  let s1 := (s.flt.active.filter (fun src => !stabledSource src)).foldl (fun s src => s.faultClear src) s
  { s1 with flt := { s1.flt with selftest := none, heldErrors := [], scrubOver := 0 } }

/-- Commands in flight whose work has been given up are answered; a key update and a partition reset go on. -/
def State.waitersAsleep (s : State) : State :=
  s.finishAll (fun w => match w.what with
    | .keyCommit .. => false
    | .partReset _ => false
    | .wake => false
    | _ => true) stWrongState 0 (fun _ => [])

/-- A wake starts, or is refused while TAMPER_LATCHED is set (R506, R508). -/
def State.wakeStart (s : State) : State :=
  if s.sec.tamperLatched then
    let s1 : State := { s with pwr := { s.pwr with wakeRefused := true, wake := false, wakeKept := false } }
    (s1.evtFree [0] 0x01A).finishAll (fun w => w.what == .wake) stTampered 0 (fun _ => [])
  else { s with pwr := { s.pwr with state := .waking, wake := true, wakeKept := false, wakeStamp := some s.now } }

/-- A request: kept on the way in, taken in Stabled, without effect in any other state. -/
def State.wakeRequest (s : State) : State :=
  if s.pwr.state == .entering then { s with pwr := { s.pwr with wakeKept := true } }
  else if s.pwr.state == .stabled then s.wakeStart else s

/-- STABLED_ENTRY_DONE. -/
def State.stabledDone (s : State) : State :=
  if s.pwr.state != .entering then s
  else
    let s1 := (s.waitersAsleep.clustersAsleep).portsAsleep.sourcesAsleep
    let s2 : State := { s1 with
      plt := s1.plt.asleep, ing := s1.ing.asleep, wch := s1.wch.asleep, nrg := s1.nrg.asleep, osc := s1.osc.asleep, coh := s1.coh.asleep, rcd := s1.rcd.asleep
      hst := { s1.hst with loads := [], placed := tmap (fun _ (p : PlacedStream) => { p with active := false, seen := false, work := [] }) s1.hst.placed }
      tt := { s1.tt with ratios := [], pairs := [], readings := [], ratedSince := none, basisLost := false }
      alc := { s1.alc with scan := none, heldTrig := none, holdSite := none, stopAt := false, readbackBad := 0 }
      pwr := { s1.pwr with state := .stabled, lastEntry := s1.pwr.entryAt } }
    let s3 := ((s2.stripKeys s2.stabledSlot).driveAl 0).refreshErr
    if s3.pwr.wakeKept then s3.wakeStart else s3

def execStabledEntryDone (t : Nat) (s : State) : Host.Outcome State Fault Refusal := event t s (fun s => s.stabledDone)

/-! ## Requests for a wake -/

/-- WAKE_N must stay low for 10 µs. -/
def execWakeNFall (t lowNs : Nat) (s : State) : Host.Outcome State Fault Refusal :=
  event t s (fun s => if lowNs < 10000 then s else s.wakeRequest)

/-- PWR_CTRL.WAKE is written by partition 0 in Stabled (R514). -/
def State.wakeWrite (s : State) (part value : Nat) : State :=
  if part == 0 && value.testBit 0 && s.pwr.state == .stabled then s.wakeStart else s

def execPwrCtrlWakeWrite (t part value : Nat) (s : State) : Host.Outcome State Fault Refusal := event t s (fun s => s.wakeWrite part value)

/-- The reply of `PWR_WAKE`. -/
def State.wakeReply (s : State) (us : Nat) : List Byte := le 8 s.pwr.lastWake ++ le 4 us ++ zeros 4

def pwrWake (s : State) (h : Pkt) : CmdOut :=
  check s [ownerOnly h] fun _ =>
    if s.pwr.state == .stabled || s.pwr.state == .entering || s.pwr.state == .waking then
      let s1 := s.wakeRequest
      if s1.pwr.state == .stabled then .reply s1 stTampered 0 [] else .wait s1 .wake
    else ok s (s.wakeReply 0)

def execPwrWake (h : Pkt) (s : State) : Host.Outcome State Fault Refusal :=
  cmd (.pwrWake h) { op := 0x0F01, len := some 0, stabled := true } h s (fun s => pwrWake s h)

/-! ## The end of a wake (Table 17-6, R507) -/

/-- The clusters after their self-tests; answers those that were in service and failed. A failure is a cluster fault of one in service (row 9 of Table 11-2), and
row 8 of one in TESTING; a DRAINED one goes there by row 5 first, each change with its event (DESIGN CHOICE: log entry 144). -/
def State.wakeClusters (s : State) (failed : Nat) : State × List Nat :=
  allClusters.foldl (fun a k =>
    let st := (a.1.cluster k).state
    if st == .retired then a
    else if failed.testBit k then
      let s1 := a.1.fault 64 k 0xFF
      if st == .faulted then (s1, a.2)
      else if st == .inService || st == .draining then (s1.clusterTo k .faulted 9, if st == .inService then a.2 ++ [k] else a.2)
      else ((if st == .testing then s1 else s1.clusterTo k .testing 5).clusterTo k .faulted 8, a.2)
    else if st == .testing then (a.1.clusterTo k .inService 7, a.2) else a) (s, [])

/-- Contracts that held resources are admitted again where they were (R75): CHANGE_STAMP is the wake's, REASON stays (DESIGN CHOICE: log entry 147). -/
def State.readmit (s : State) : State :=
  { s with tt := { s.tt with contracts := tmap (fun _ (c : Contract) => if c.isHeld then { c with state := .admitted, change := s.now } else c) s.tt.contracts } }

/-- Groups depart from the first instant more than 1 ms after wake, where their base is valid (R121, R147). -/
def State.wakeGroups (s : State) : State :=
  (s.tb.bases.map (·.1)).foldl (fun s n => if (s.base n).any Base.valid then s.groupsAcquired n else s) s

/-- Metering points and pulse inputs start as after a clear (R202). -/
def State.wakeMeters (s : State) : State :=
  let s1 := s.nrg.points.foldl (fun s e => s.setMeter e.1 (e.2.cleared s.now)) s
  (s1.nrg.pis.foldl (fun s e => s.setPi e.1 (s.checkFrom e.2 s.now)) s1).metersRefresh

/-- Recorders that were armed are armed again (R318). -/
def State.wakeRecorders (s : State) : State :=
  s.rcd.recs.foldl (fun s e =>
    if e.2.state == .armed || e.2.state == .filling || e.2.state == .waitSlot then s.recArmed e.1 e.2 s.now else s) s

/-- The pair: START_MODE in STOP; the pins are driven again (R263, R284). -/
def State.wakePair (s : State) : State :=
  let level := match s.alc.active with
    | some im => if s.alc.state == .noProgram then 0 else alLevels im.alSafe im.alInvert
    | none => 0
  let s1 := s.driveAl level
  if s.alc.state != .stop || s.flt.haltSource.isSome then s1
  else if s.alc.startMode == 1 then s1.alcRun false s1.now else if s.alc.startMode == 2 then s1.alcRun true s1.now else s1

/-- WAKE_DONE. -/
def State.wakeEnd (s : State) (found : WakeFound) (clustersFailed : Nat) : State :=
  let us := (s.now - s.pwr.wakeStamp.getD s.now) / 1000
  let s1 := (({ s with flt := { s.flt with lastTest := s.now, lastPeriodic := s.now, sramAt := s.now, dramAt := s.now } }).testOutcome allTests found.selftest).evt
    [0] 0x1FF (256 * (found.selftest % 32))
  let c := s1.wakeClusters clustersFailed
  let s2 : State := { (c.1.wakeKeys found.keyBad).readmit with pwr := { c.1.pwr with
    state := if c.1.flt.haltSource.isSome then .halted else .running, wake := false, wakeKept := false, wakeStamp := none, lastWake := s.now, wakeUs := Nat.min us 65535 } }
  let s3 := c.2.foldl (fun s k => (s.removeCluster k 6).1) s2
  let s4 := (s3.wch.units.map (·.1)).foldl (fun s n => s.unitRefresh n) s3
  let s5 := s4.wakeMeters.wakeRecorders.wakeGroups.wakePair
  let s6 := if s5.tb.refclkLost && !s5.tb.extInUse then s5.free.2.faultPair 68 69 s5.free.1 0xFF else s5
  let s7 := allParts.foldl (fun s n => s.drainRing n) (s6.evtFree s6.everyone 0x019)
  (s7.finishAll (fun w => w.what == .wake) stOk 0 (fun _ => s7.wakeReply us)).refreshErr

/-- A failed retention check makes a device reset (R508). -/
def State.wakeDone (s : State) (retentionOk : Bool) (found : WakeFound) (clustersFailed : Nat) : State :=
  if s.pwr.state != .waking then s
  else if retentionOk then s.wakeEnd found clustersFailed
  else (s.free.2.fault 103 s.free.1 0xFF).deviceReset 5

def execWakeDone (t : Nat) (retentionOk : Bool) (found : WakeFound) (clustersFailed : Nat) (s : State) : Host.Outcome State Fault Refusal :=
  event t s (fun s => s.wakeDone retentionOk found clustersFailed)

/-! ## PWR_QUERY (Table 17-8) -/

def PwrState.code : PwrState → Nat
  | .starting => 0
  | .running => 1
  | .entering => 2
  | .stabled => 3
  | .waking => 4
  | .halted => 5

/-- RUNNING differs from BOOT. -/
def State.commitPending (s : State) : Bool := s.fw.running != s.fw.boot

def pwrQuery (s : State) : CmdOut :=
  ok s (le 1 s.pwr.state.code ++ le 1 s.pwr.cause ++ le 1 (s.fw.running + 2 * s.fw.boot + 4 * s.fw.alc)
    ++ le 1 (b2n s.pwr.pfwLow + 2 * b2n s.commitPending) ++ le 4 s.fw.minSvn ++ le 2 s.pwr.startupMs ++ le 2 s.pwr.wakeUs ++ zeros 4
    ++ le 8 s.pwr.lastEntry ++ le 8 s.pwr.lastWake ++ zeros 8)

def execPwrQuery (h : Pkt) (s : State) : Host.Outcome State Fault Refusal :=
  cmd (.pwrQuery h) { op := 0x0F02, len := some 0, ro := true, stabled := true } h s (fun s => pwrQuery s)

end Sys2Proof.Machine
end

