-- ==== Sys2Proof/Machine/Firmware.lean ====
section
/-!
DEFINITION. Resets by command, life-cycle transitions (15_security R461 to R464), in-service update and configuration bundles (17_power_states R497, R509 to
R513).
-/
namespace Sys2Proof.Machine

/-! ## DEV_RESET -/

def devReset (s : State) (h : Pkt) (kind : Nat) : CmdOut :=
  check s [ownerOnly h, badIf (kind != 1) 0] fun _ => .silent ((s.at h.done).deviceReset 3)

def execDevReset (h : Pkt) (kind : Nat) (s : State) : Host.Outcome State Fault Refusal :=
  cmd (.devReset h kind) { op := 0x000B, len := some 4, halt := true, boot := true } h s (fun s => devReset s h kind)

/-! ## LC_TRANSITION -/

/-- Table 15-9a: the code of the signer of a transition (0 Nolivik, 1 owner); none for one that the table does not give. -/
def lcSigner (old : LifeCycle) (dest : Nat) : Option Nat :=
  match old, dest with
  | .blank, 1 => some 0
  | .personalised, 2 => some 1
  | .deployed, 3 => some 1
  | .deployed, 4 => some 1
  | .returned, 4 => some 0
  | _, _ => none

def lifeOf (code : Nat) : LifeCycle :=
  match code with
  | 0 => .blank
  | 1 => .personalised
  | 2 => .deployed
  | 3 => .returned
  | _ => .retired

/-- An entry of the life-cycle log. -/
def State.lifeEntry (s : State) (dest signer : Nat) : State :=
  let e : LifeEntry := { seq := s.sec.lifeLog.length, fromState := s.sec.life.code, toState := dest, signer, tb1 := s.tb1Log }
  { s with sec := { s.sec with lifeLog := s.sec.lifeLog ++ [e] } }

/-- Customer keys, retained data, program banks and checkpoints are stripped, and the bundle where the table says so. -/
def State.lcStrip (s : State) (bundle : Bool) : State :=
  let s1 : State := { s.eraseKeys with
    alc := { s.alc with active := none, standby := none, commitDue := false }
    alcx := { s.alcx with slots := [] } }
  if bundle then { s1 with cfg := {} } else s1

/-- The SHA-512 of the owner key that signed. -/
def signerHash (x : Signature) : Option Nat :=
  match x.key with
  | .other h => some h
  | .root _ => none

/-- RS is drawn and fused, and the identity certificate written (Table 15-9a). -/
def State.personalised (s : State) : State :=
  { (s.draw 32).2 with sec := { (s.draw 32).2.sec with rootSecret := (s.draw 32).1, certified := true } }

/-- A transition after its reply: the log entry, the fuses, the strip and the device reset (R462). A reply that waits at the service port stays there. -/
def State.lcApply (s : State) (p : LcTransition) (signer : Nat) : State :=
  let old := s.sec.life
  let s1 := s.lifeEntry p.dest signer
  let fuse := p.dest == 2
  let s2 : State := { s1 with sec := { s1.sec with
    life := lifeOf p.dest, lifeChanged := some (old.code, p.dest), ownerBoot := s1.sec.ownerBoot || (fuse && p.ownerBoot)
    ownerHash := if fuse then (p.sig.bind signerHash).getD s1.sec.ownerHash else s1.sec.ownerHash } }
  let s3 := if p.dest == 1 then s2.personalised else s2.lcStrip (p.dest != 2)
  let s4 := s3.deviceReset 4
  { s4 with hst := { s4.hst with spiReplies := s3.hst.spiReplies } }

/-- The signature of a transition: the key of its signer over SERIAL, FROM, TO and LC_SEQ (R461). The owner key of a transition to DEPLOYED is the one that it
fuses. -/
def State.moveSigned (s : State) (p : LcTransition) (signer : Nat) : Bool :=
  p.sig.any (fun x => x.data == .transition true s.sec.life.code p.dest p.lcSeq
    && (if signer == 0 then s.sec.nolivikKey (some x.key)
        else if p.dest == 2 then (signerHash x).isSome else s.sec.ownerKey (some x.key)))

def lcMove (s : State) (h : Pkt) (p : LcTransition) : CmdOut :=
  match lcSigner s.sec.life p.dest with
  | none => refuse s stBadParam 1
  | some signer =>
    check s
      [ badIf (p.ownerBoot && p.dest != 2) 2, badIf (p.lcSeq != s.sec.lifeLog.length) 4 ]
      fun _ =>
        if !s.moveSigned p signer then authFail s
        else check s [if p.dest == 1 then drbgNeeded s else none, norIdle s] fun _ =>
          let s1 := s.at h.done
          .silent ((s1.putReply h 0x0D08 stOk 0 s1.now (zeros 32)).lcApply p signer)

/-- OP 2: a fresh challenge (R464). -/
def lcChallenge (s : State) : CmdOut :=
  check s [failIf (s.sec.life != .returned) stWrongState 0, drbgNeeded s] fun _ =>
    let d := s.draw 32
    let s1 : State := { d.2 with sec := { d.2.sec with challenge := some (d.1, s.now) } }
    ok s1 d.1

/-- The signature of a test unlock: a key of Nolivik over SERIAL and the challenge (R464). -/
def State.testSigned (s : State) (p : LcTransition) : Bool :=
  p.sig.any (fun x => s.sec.nolivikKey (some x.key) && s.sec.challenge.any (fun c => x.data == .test true c.1))

/-- OP 3: the challenge serves once, and for 10 minutes (R464). -/
def lcUnlock (s : State) (h : Pkt) (p : LcTransition) : CmdOut :=
  check s [failIf (s.sec.life != .returned) stWrongState 0, norIdle s] fun _ =>
    let live := s.sec.challenge.isSome && !s.challengeOld
    let s1 : State := { s with sec := { s.sec with challenge := none } }
    if !live || !s.testSigned p then authFail s1
    else
      let s2 := (s1.at h.done).lifeEntry s.sec.life.code 2
      let s3 : State := { s2 with sec := { s2.sec with testUnlocked := true } }
      ok (s3.evt [0] 0x1FB 4) (zeros 32)

def lcTransition (s : State) (h : Pkt) (p : LcTransition) : CmdOut :=
  check s
    [ ownerOnly h, tamperNeeded s, badIf (p.op == 0 || 3 < p.op) 0, badIf (p.op != 1 && p.dest != 0) 1, badIf (p.op != 1 && p.ownerBoot) 2 ]
    fun _ => if p.op == 1 then lcMove s h p else if p.op == 2 then lcChallenge s else lcUnlock s h p

def execLcTransition (h : Pkt) (p : LcTransition) (s : State) : Host.Outcome State Fault Refusal :=
  cmd (.lcTransition h p) { op := 0x0D08, len := some 72, blank := true } h s (fun s => lcTransition s h p)

/-! ## FW_LOAD (R443, R444, R509) -/

def State.setBank (s : State) (n : Nat) (b : Bank) : State :=
  if n == 0 then { s with fw := { s.fw with bankA := b } } else { s with fw := { s.fw with bankB := b } }

/-- The bank a package goes to: the one that is not running, or in BOOT_HOLD the one named. -/
def State.fwTarget (s : State) (p : FwLoad) : Nat := if p.recovery then p.bank else 1 - s.fw.running

def fwLoad (s : State) (h : Pkt) (p : FwLoad) : CmdOut :=
  check s
    [ ownerOnly h, failIf (s.sec.bootHold && !p.recovery) stLocked 1, zeroIf (p.imageLen == 0) 0, badIf (16777216 < p.imageLen) 0
    , badIf (if p.recovery then decide (1 < p.bank) else p.bank != 0) 5, stagingOnly h p.imageAddr
    , failIf (p.recovery && !s.sec.bootHold) stWrongState 0
    , failIf (!p.recovery && s.commitPending && s.fwTarget p == s.fw.boot) stWrongState 0
    , failIf s.loadRunning stBusy 0, norIdle s ]
    fun _ =>
      let s1 : State := { s with fw := { s.fw with loadInFlight := some p } }
      .wait (if p.recovery then s1 else s1.setBank (s.fwTarget p) {}) .fwLoad

def execFwLoad (h : Pkt) (p : FwLoad) (s : State) : Host.Outcome State Fault Refusal :=
  cmd (.fwLoad h p) { op := 0x0F03, len := some 24, boot := true } h s (fun s => fwLoad s h p)

/-- The status of a package that was written and read back. -/
def State.fwStatus (s : State) (v : FwVerify) : Nat :=
  if !v.formatOk then stBadParam
  else if !s.sec.imageSigned v.nolivik v.owner then stAuthFail
  else if v.svn < s.fw.minSvn then stBadParam else stOk

/-- FW_LOAD_VERIFIED: a package that fails leaves its bank without a verified one; the fault detail is not stated. In BOOT_HOLD nothing is written until
the package has been verified (R445). -/
def State.fwVerified (s : State) (v : FwVerify) : State :=
  match s.fw.loadInFlight with
  | none => s
  | some p =>
    let n := s.fwTarget p
    let s1 : State := { s with fw := { s.fw with loadInFlight := none } }
    let done := fun (s : State) (st d : Nat) (res : List Byte) => s.finishAll (fun w => w.what == .fwLoad) st d (fun _ => res)
    let st := s.fwStatus v
    if p.recovery && st != stOk then done s1 st 0 []
    else if !v.writeOk then
      let s2 := s1.setBank n {}
      done (s2.free.2.fault 98 s2.free.1 0xFF) stFaulted 98 []
    else if st != stOk then done s1 st 0 []
    else
      let s2 := s1.setBank n { verified := true, version := v.version, svn := v.svn, raiseSvn := v.raiseSvn, digest := v.digest, nolivik := v.nolivik, owner := v.owner }
      done (s2.evtFree [0] 0x01B) stOk 0 (le 1 n ++ zeros 3 ++ le 4 v.version ++ le 4 v.svn ++ zeros 4)

/-- The package is in its bank, behind a checkpoint that is being written (01_architecture R33). -/
def execFwLoadVerified (t : Nat) (v : FwVerify) (s : State) : Host.Outcome State Fault Refusal :=
  event t s (fun s => if s.alcx.write.isNone then s.fwVerified v else s)

/-! ## FW_CLUSTER_UPDATE (Table 11-2 rows 3 and 4) -/

def fwClusterUpdate (s : State) (h : Pkt) (cluster : Nat) : CmdOut :=
  check s [ownerOnly h, badIf (15 < cluster) 0, failIf ((s.cluster cluster).state != .drained) stWrongState 0] fun _ =>
    .wait (s.clusterTo cluster .updating 3) (.clusterUpdate cluster)

def execFwClusterUpdate (h : Pkt) (cluster : Nat) (s : State) : Host.Outcome State Fault Refusal :=
  cmd (.fwClusterUpdate h cluster) { op := 0x0F04, len := some 4 } h s (fun s => fwClusterUpdate s h cluster)

/-- A failed load leaves the cluster with the bank it had; its fault names the cluster. -/
def State.clusterLoaded (s : State) (k : Nat) (good : Bool) : State :=
  let mine := fun (w : Waiting) => w.what == .clusterUpdate k
  let s1 := s.clusterTo k .drained 4
  if good then
    let s2 := s1.modCluster k (fun c => { c with bank := s.fw.running })
    (s2.evt s2.everyone 0x01C (k + 256 * s.fw.running)).finishAll mine stOk 0 (fun _ => le 1 0 ++ le 1 s.fw.running ++ zeros 2)
  else (s1.free.2.fault 99 s1.free.1 0xFF).finishAll mine stFaulted 99 (fun _ => le 1 1 ++ le 1 (s1.cluster k).bank ++ zeros 2)

def execFwClusterLoadDone (t cluster : Nat) (ok : Bool) (s : State) : Host.Outcome State Fault Refusal :=
  event t s (fun s => if cluster < 16 && s.fabricUp && (s.cluster cluster).state == .updating then s.clusterLoaded cluster ok else s)

/-! ## FW_SWITCH (R509 to R512) -/

/-- OP 1: BUSY while a command of Table 14-8 is in flight or a cluster is UPDATING; the other bank must hold a verified package that MIN_SVN allows. -/
def fwRestart (s : State) : CmdOut :=
  let other := 1 - s.fw.running
  check s
    [ failIf (!(s.bank other).verified || decide ((s.bank other).svn < s.fw.minSvn)) stWrongState 0
    , failIf (s.hst.waiting.any (fun w => w.what.releases) || allClusters.any (fun k => (s.cluster k).state == .updating)) stBusy 0 ]
    fun _ => .wait { s with fw := { s.fw with mgmtRestart := true, mgmtTo := other } } (.mgmtRestart s.fw.running)

/-- R512: every cluster that is not RETIRED and both controllers run the running bank. -/
def State.allSwitched (s : State) : Bool :=
  s.fw.alc == s.fw.running && allClusters.all (fun k => (s.cluster k).state == .retired || (s.cluster k).bank == s.fw.running)

/-- OP 2: the running bank becomes the boot bank, and MIN_SVN rises when the package asks for it. -/
def fwCommit (s : State) : CmdOut :=
  check s [failIf (!s.allSwitched) stWrongState 0, norIdle s] fun _ =>
    let b := s.bank s.fw.running
    let s1 : State := { s with fw := { s.fw with
      boot := s.fw.running, minSvn := if b.raiseSvn then Nat.max s.fw.minSvn b.svn else s.fw.minSvn } }
    ok (s1.evt s1.everyone 0x01D (2 + 256)) (s1.fwReply s.fw.boot s.fw.running)

/-- OP 3: at once in STOP and NO_PROGRAM, at the next scan boundary in RUN. -/
def fwLogic (s : State) (h : Pkt) : CmdOut :=
  match s.alc.state with
  | .run => .wait { s with fw := { s.fw with alcSwitchAt := some h.recv } } (.alcSwitch s.fw.alc)
  | .hold => refuse s stWrongState 0
  | .faulted => refuse s stWrongState 0
  | _ =>
    let s1 := s.alcSwitch
    ok s1 (s1.fwReply s.fw.alc s1.fw.alc)

def fwSwitch (s : State) (h : Pkt) (op : Nat) : CmdOut :=
  check s [ownerOnly h, badIf (op == 0 || 3 < op) 0] fun _ => if op == 1 then fwRestart s else if op == 2 then fwCommit s else fwLogic s h

def execFwSwitch (h : Pkt) (op : Nat) (s : State) : Host.Outcome State Fault Refusal :=
  cmd (.fwSwitch h op) { op := 0x0F05, len := some 4 } h s (fun s => fwSwitch s h op)

/-- MGMT_RESTART_DONE: the cores run; after OP 1 from the other bank, with BMR_1 recomputed (R448, R510). -/
def State.mgmtRestarted (s : State) : State :=
  if !s.fw.mgmtRestart then s
  else
    let old := s.fw.running
    let s1 : State := { s with fw := { s.fw with mgmtRestart := false, running := s.fw.mgmtTo } }
    if s1.fw.running == old then s1
    else
      let s2 := (s1.remeasure s1.fw.running).evt s1.everyone 0x01D 1
      s2.finishAll (fun w => w.what == .mgmtRestart old) stOk 0 (fun _ => s2.fwReply old s2.fw.running)

def execMgmtRestartDone (t : Nat) (s : State) : Host.Outcome State Fault Refusal := event t s (fun s => s.mgmtRestarted)

/-- MGMT_RESTART_TIMEOUT: the cores resume from the old bank (R510). -/
def State.mgmtResumed (s : State) : State :=
  if !s.fw.mgmtRestart then s
  else
    let old := s.fw.running
    let failed := s.fw.mgmtTo != old
    let s1 : State := { s with fw := { s.fw with mgmtRestart := false, mgmtTo := old } }
    if failed then (s1.free.2.fault 100 s1.free.1 0xFF).finishAll (fun w => w.what == .mgmtRestart old) stFaulted 100 (fun _ => []) else s1

def execMgmtRestartTimeout (t : Nat) (s : State) : Host.Outcome State Fault Refusal := event t s (fun s => s.mgmtResumed)

/-! ## CFG_LOAD and CFG_READ (R501, R513) -/

def cfgLoad (s : State) (h : Pkt) (p : CfgLoad) : CmdOut :=
  check s
    [ownerOnly h, zeroIf (p.len == 0) 0, badIf (4194304 < p.len) 0, stagingOnly h p.addr, failIf s.loadRunning stBusy 0, norIdle s]
    fun _ => .wait { s with cfg := { s.cfg with loading := some p } } .cfgLoad

def execCfgLoad (h : Pkt) (p : CfgLoad) (s : State) : Host.Outcome State Fault Refusal :=
  cmd (.cfgLoad h p) { op := 0x0F06, len := some 24 } h s (fun s => cfgLoad s h p)

/-- The owner key of a bundle's signature: the fused one, before DEPLOYED the one that the bundle carries (R513). -/
def State.cfgOwner (s : State) (b : Bundle) : Nat :=
  if s.sec.life == .blank || s.sec.life == .personalised then b.ownerKey else s.sec.ownerHash

/-- The status of a bundle that was written, checked under the owner key (R513). -/
def CfgSt.status (c : CfgSt) (v : CfgVerify) (owner : Nat) : Nat :=
  let newer := fun (x : Option Bundle) => x.all (fun b => decide (b.seq < v.bundle.seq))
  if !v.formatOk then stBadParam
  else if v.signer != some (.other owner) then stAuthFail
  else if !newer c.copyA || !newer c.copyB || bundleUnsafe v.bundle then stBadParam else stOk

def State.cfgVerified (s : State) (v : CfgVerify) : State :=
  if s.cfg.loading.isNone then s
  else
    let done := fun (s : State) (st : Nat) (res : List Byte) => s.finishAll (fun w => w.what == .cfgLoad) st 0 (fun _ => res)
    let st := s.cfg.status v (s.cfgOwner v.bundle)
    if st != stOk then done { s with cfg := s.cfg.abandon } st []
    else
      let toB := s.cfg.targetB
      let c : CfgSt := if toB then { s.cfg with copyB := some v.bundle, loading := none, latestIsB := true }
        else { s.cfg with copyA := some v.bundle, loading := none, latestIsB := false }
      let s1 : State := { s with cfg := c }
      done (s1.evtFree [0] 0x01E) stOk (le 4 v.bundle.seq ++ le 1 (if toB then 1 else 0) ++ zeros 3)

/-- The bundle is in its copy, behind a checkpoint that is being written (01_architecture R33). -/
def execCfgLoadVerified (t : Nat) (v : CfgVerify) (s : State) : Host.Outcome State Fault Refusal :=
  event t s (fun s => if s.alcx.write.isNone then s.cfgVerified v else s)

/-- The bundle applied at the latest start-up, or the latest stored. -/
def CfgSt.which (c : CfgSt) (n : Nat) : Option Bundle := if n == 0 then c.applied else if c.latestIsB then c.copyB else c.copyA

/-- A bundle that does not exist has length 0. -/
def cfgRead (s : State) (h : Pkt) (p : CfgRead) : CmdOut :=
  check s
    [ failIf (!s.observes h.part) stNotGranted 0xF1, badIf (1 < p.which) 0, if p.bufLen == 0 then none else stagingOnly h p.bufAddr ]
    fun _ =>
      match s.cfg.which p.which with
      | none => ok s (zeros 16)
      | some b => copyOut s p.bufAddr p.bufLen (Config.bundleBytes b) (le 4 b.len ++ le 4 b.seq ++ zeros 8)

def execCfgRead (h : Pkt) (p : CfgRead) (s : State) : Host.Outcome State Fault Refusal :=
  cmd (.cfgRead h p) { op := 0x0F07, len := some 24, ro := true } h s (fun s => cfgRead s h p)

end Sys2Proof.Machine
end

