-- ==== Sys2Proof/Machine/Convert.lean ====
section
/-!
DEFINITION. Received fields of C37.118.2 frames converted to channel values (03_ingest Table 03-3). A value is computed exactly, sines and cosines to 128
fraction bits, and rounded once to binary32 (log entries 13 and 130).
-/
namespace Sys2Proof.Machine

/-- A field as a number of its scale: 16-bit counts times the scale, or the binary32 value. -/
def fieldNum (d : ChanDef) : RawField → FloatVal
  | .int16 v => .fin (fMul (frac v.toInt) (frac d.scaleNum d.scaleDen))
  | .float v => f32Val v

/-- The binary32 image of a field after scaling: a binary32 field is taken as it is. -/
def fieldImage (d : ChanDef) : RawField → BitVec 32
  | .int16 v => f32Of (fMul (frac v.toInt) (frac d.scaleNum d.scaleDen))
  | .float v => v

/-- The second part of a channel's scale: the angle of PHSCALE or the offset of ANSCALE. -/
def chanOff (d : ChanDef) : Frac := frac d.offNum d.offDen

/-- An analogue value: 16-bit counts times the scale and plus the offset of ANSCALE. -/
def analogImage (d : ChanDef) : RawField → BitVec 32
  | .int16 v => f32Of (fAdd (fMul (frac v.toInt) (frac d.scaleNum d.scaleDen)) (chanOff d))
  | .float v => v

/-- A rectangular phasor: 16-bit counts times the scale of PHUNIT or PHSCALE, turned back by the angle of PHSCALE. -/
def rectImage (d : ChanDef) (a b : RawField) : W64 :=
  match a, b with
  | .int16 x, .int16 y =>
    if d.offNum == 0 then phasorWord (fieldImage d a) (fieldImage d b)
    else
      let re := fMul (frac x.toInt) (frac d.scaleNum d.scaleDen)
      let im := fMul (frac y.toInt) (frac d.scaleNum d.scaleDen)
      let c := cosRad (chanOff d)
      let s := sinRad (chanOff d)
      phasorWord (f32Of (fAdd (fMul re c) (fMul im s))) (f32Of (fSub (fMul im c) (fMul re s)))
  | _, _ => phasorWord (fieldImage d a) (fieldImage d b)

/-- Magnitude of a polar phasor: unsigned counts. -/
def polarMag (d : ChanDef) : RawField → FloatVal
  | .int16 v => .fin (fMul (frac v.toNat) (frac d.scaleNum d.scaleDen))
  | .float v => f32Val v

/-- Angle of a polar phasor in radians: counts of 10^-4, less the angle of PHSCALE. -/
def polarAngle (d : ChanDef) : RawField → FloatVal
  | .int16 v => .fin (fSub (frac v.toInt 10000) (chanOff d))
  | .float v => f32Val v

/-- Apply a function of a number to an image and round; a NaN stays one, an infinity stays. -/
def mapImage (f : Frac → Frac) : FloatVal → BitVec 32
  | .nan => nan32
  | .inf n => if n then 0xFF800000 else 0x7F800000
  | .fin a => f32Of (f a)

/-- The number of fields a channel takes. -/
def kindFields : ChanKind → Nat
  | .phasorRect => 2
  | .phasorPolar => 2
  | _ => 1

/-- A part of a polar phasor: its magnitude times the sine or cosine of its angle. -/
def polarPart (g : Frac → Frac) (m a : FloatVal) : BitVec 32 :=
  match m, a with
  | .fin m, .fin a => f32Of (fMul m (g a))
  | .inf n, .fin a => if (g a).num == 0 then nan32 else if n != decide ((g a).num < 0) then 0xFF800000 else 0x7F800000
  | _, _ => nan32

/-- A channel converted to its internal format. -/
def convertChan (d : ChanDef) (a b : RawField) : W64 :=
  let fnom : Int := if d.fnom50 then 50 else 60
  match d.kind with
  | .phasorRect => rectImage d a b
  | .phasorPolar =>
    phasorWord (polarPart cosRad (polarMag d a) (polarAngle d b)) (polarPart sinRad (polarMag d a) (polarAngle d b))
  | .freq => match a with
    | .int16 v => floatWord (f32Of (frac v.toInt))
    | .float v => floatWord (mapImage (fun x => fMul (fSub x (frac fnom)) (frac 1000)) (f32Val v))
  | .rocof => match a with
    | .int16 v => floatWord (f32Of (frac v.toInt 100))
    | .float v => floatWord v
  | .analog => floatWord (analogImage d a)
  | .digital => match a with
    | .int16 v => v.zeroExtend 64
    | .float v => (v.extractLsb' 0 16).zeroExtend 64

/-- The channels of a block, field after field; a channel whose fields are missing reads as 0 counts. -/
def convertBlock : List ChanDef → List RawField → List W64
  | [], _ => []
  | d :: r, fs =>
    let n := kindFields d.kind
    convertChan d ((fs[0]?).getD (.int16 0)) ((fs[1]?).getD (.int16 0)) :: convertBlock r (fs.drop n)

end Sys2Proof.Machine
end

