-- ==== Sys2Proof/Machine/IngestFrames.lean ====
section
/-!
DEFINITION. Frames that ingest takes, and its timers (03_ingest R81 to R109, R533).
-/
namespace Sys2Proof.Machine

/-! ## Frames of a stream: rows 4 to 7 of Table 03-18 -/

/-- The stream uses PRP or HSR. -/
def subRedundant (e : IngSubSet) : Bool := e.flags.testBit 5 || e.flags.testBit 6

/-- AUTH_CHECK and REPLAY_CHECK for a stream (R94 to R97): none when the frame is discarded, with the state after. -/
def State.subSecure (s : State) (st : Nat) (e : IngSubSet) (h : FrameHdr) (sec : SpduSec) : State × Bool :=
  if !e.flags.testBit 7 then (s, true)
  else
    let x := s.streamSt st
    let keys := keysAt e x h.arrival
    let owner := s.holder kindStream st
    match s.auth keys.1 keys.2 (x.overlapEnd.all (fun t => decide (h.arrival < t))) sec with
    | .fail => (((s.discard st .authFail).authFailed owner).streamEvent st 0x082, false)
    | .missing => (((s.discard st .authFail).authFailed owner).streamEvent st 0x083, false)
    | a =>
      let s1 := if a == .next then s.nextKeySeen st keys.2 e else s
      match (s1.streamSt st).replay.take sec.number with
      | none => (s1.discard st .replay, false)
      | some r => (s1.modStream st (fun x => { x with replay := r }), true)

/-- The first simulated frame on a subscription (R101). -/
def State.simNoted (s : State) (st : Nat) (e : IngSubSet) (sim : Bool) : State :=
  let x := s.streamSt st
  if !sim then s
  else
    let s1 := s.modStream st (fun x => { x with simSeen := true, simInUse := e.flags.testBit 4 })
    if x.simSeen then s1 else s1.streamEvent st 0x088

/-- Duplicate and simulation checks: none when the frame is discarded. -/
def State.subPasses (s : State) (st : Nat) (e : IngSubSet) (h : FrameHdr) (sim : Bool) : State × Bool :=
  if s.dupSeen (subRedundant e) h then (s.discard st .dup, false)
  else
    let drop := simDrops (e.flags.testBit 4) (s.streamSt st).simInUse sim
    let s1 := s.simNoted st e sim
    if drop then (s1.discard st .sim, false) else (s1, true)

/-! ## INGEST_DATA_FRAME -/

/-- The channel values of a data frame under its layout (R82, R85, Table 03-4). An R-SV frame has no STAT words; the 32-bit quality words that QUAL 1 of
ING_SET_LAYOUT announces set no bit of Table 04-2 (DESIGN CHOICE: log entry 171). -/
def frameVals (f : DataFrame) (l : Layout) (extra : W16) : List ChanVal :=
  (l.blocks.zip f.blocks).flatMap (fun b =>
    let q := extra ||| (if f.rsv then 0 else statQual b.2.stat)
    let usable := f.rsv || !statUnusable b.2.stat
    (b.1.zip (convertBlock b.1 b.2.fields)).map (fun c => chanVal (kindType c.1.kind) c.2 q usable))

/-- What an accepted frame's STAT words lead to: every block's word is kept, with the time quality and leap-second bits (Tables 03-3, 03-4). -/
def State.statWords (s : State) (st : Nat) (f : DataFrame) : State :=
  if f.rsv then s
  else
    let bad := f.blocks.any (fun b => statError b.stat != 0)
    let s1 := if bad && (s.streamSt st).statGood then s.streamEvent st 0x089 else s
    let s2 := s1.modStream st (fun x => { x with
      statGood := !bad, lastStat := ((f.blocks.head?).map (·.stat)).getD 0, stats := f.blocks.map (·.stat), timeQuality := f.timeQuality % 256 })
    if f.blocks.any (fun b => b.stat.getLsbD 10) then
      s2.pmuAuto st (if (tget st s2.ing.subs).any (fun e => e.flags.testBit 3) then 6 else 5)
    else s2

/-- confRev of an R-SV or sampled-value frame (Table 03-6 reason 4): CONF_REV 0 adopts the first one received. Answers whether it differs. -/
def State.confRevCheck (s : State) (st : Nat) (e : IngSubSet) (rev : Nat) : State × Bool :=
  let x := s.streamSt st
  let want := if e.confRev == 0 then x.confRev else some e.confRev
  match want with
  | some w => (s, w != rev)
  | none => (s.modStream st (fun x => { x with confRev := some rev }), false)

/-- Enter CONFIG_MISMATCH at an instant unless the stream is in it already. -/
def State.frameMismatch (s : State) (st reason : Nat) (inst : Option Nat) : State :=
  if (s.streamSt st).mismatch.isSome then s else s.mismatched st reason none inst

/-- Row 9 of Table 03-18: TIME_REJECT, whose first since the last ING_STREAM_STATS is told (R84). -/
def State.timeReject (s : State) (st : Nat) : State :=
  let s1 := s.discard st .timeReject
  if (s.streamSt st).timeRejected then s1
  else (s1.modStream st (fun x => { x with timeRejected := true })).streamEvent st 0x086

/-- Rows 9 to 12 and acceptance of a data frame carried by a contract or a placed stream. A frame taken as T off the grid is counted so whatever follows (R84). -/
def State.dataCarried (s : State) (st : Nat) (e : IngSubSet) (id : Nat) (c : Contract) (f : DataFrame) : State :=
  match s.mapInstant e.tbSel c.instRate f with
  | none => s.timeReject st
  | some (inst, off) =>
    if s.entryDrops c inst then s
    else
    let s := if off then s.modStream st (fun x => x.count 9) else s
    if s.shedTakes c inst then s.discard st .noContract
    else
      let r := if f.rsv then s.confRevCheck st e f.confRev else (s, false)
      let s1 := if r.2 then r.1.frameMismatch st 4 (some inst) else r.1
      let x := s1.streamSt st
      if x.mismatch.any (fun m => m.from_.all (fun b => decide (b ≤ inst))) then s1.discard st .mismatch
      else match x.layoutAt inst with
        | none => s1.discard st .layoutErr
        | some l =>
          if f.length != l.frameLen || f.blocks.length != l.blocks.length then s1.discard st .layoutErr
          else
            let unsure := s1.baseUncertain e.tbSel || (!f.rsv && f.timeQuality % 16 == 15)
            let sim := f.rsv && f.sim
            let extra := qIf unsure qTimeUncertain ||| qIf off qOffGrid ||| qIf sim qTest
            let vals := frameVals f l extra
            let s2 := (s1.dupEnter (subRedundant e) f.hdr).statWords st f
            let s3 := s2.modStream st (fun x => { x with uncertain := vals.any (fun v => qHas v.qual qTimeUncertain) })
            let s4 := s3.acceptFrame st id f.hdr.arrival
            s4.emitItem { stream := st, contract := id, fsn := 0, priority := c.priority, emit := s4.now, arrival := f.hdr.arrival, inst, vals
                          last := some (f.hdr.arrival + f.hdr.len * 8000 / Nat.max (s4.port f.hdr.port).speedMbps 1) }

/-- A further ASDU of a frame, as a frame of its own. -/
def asduFrame (f : DataFrame) (a : RsvAsdu) : DataFrame :=
  { f with confRev := a.confRev, ts := a.ts, smpCnt := a.smpCnt, length := a.length, blocks := a.blocks, more := [] }

/-- Every ASDU of a frame, in order: rows 9 to 12 and acceptance are of an ASDU, which holds one instant (DESIGN CHOICE: log entry 114). -/
def State.dataAsdus (s : State) (st : Nat) (e : IngSubSet) (id : Nat) (c : Contract) (f : DataFrame) : State :=
  f.more.foldl (fun s a => s.dataCarried st e id c (asduFrame f a)) (s.dataCarried st e id c f)

/-- A data frame of a stream: rows 1 to 8. -/
def State.dataOf (s : State) (st : Nat) (e : IngSubSet) (f : DataFrame) : State :=
  if !f.supported || 7 < f.more.length then s.discard st .unsupported
  else if !f.rsv && !f.sizeOk then s.discard st .layoutErr
  else if !f.rsv && !f.chkOk then s.discard st .chkErr
  else
    let a := s.subSecure st e f.hdr f.sec
    if !a.2 then a.1
    else
      let b := a.1.subPasses st e f.hdr (f.rsv && f.sim)
      if !b.2 then b.1
      else match b.1.carrierOf st with
        | none => b.1.discard st .noContract
        | some (id, c) => b.1.dataAsdus st e id c f

/-- Ingest must leave a frame in its queue: its stream's item waits, or the hold buffer it would join is full (11_clusters R328, R330). -/
def State.streamHeld (s : State) (st : Nat) : Bool :=
  match s.carrierOf st with
  | some (id, c) => s.ingestHeld st id c.priority
  | none => false

/-- Ingest may handle a frame of a stream that would produce an item: it is the next of that stream's by arrival, its stream is not held, and its port is not
stopped. -/
def State.streamTurn (s : State) (st : Nat) (h : FrameHdr) : Bool :=
  s.rxTurn h (fun e => e.stream == some st) && !s.streamHeld st && !s.portStops h true

/-- A frame that produces no item is handled in its stream's order, where its port is not stopped. -/
def State.quietTurn (s : State) (st : Nat) (h : FrameHdr) : Bool := s.rxTurn h (fun e => e.stream == some st) && !s.portStops h false

/-- The frame of an ingest row came with a VLAN tag. -/
def State.cameTagged (s : State) (h : FrameHdr) : Bool := (s.portFrames h.port).any (fun e => e.arrival == h.arrival && e.tagged)

/-- A frame that matches no subscription is taken unless its port is stopped (R79). -/
def State.takeUnmatched (s : State) (h : FrameHdr) : State := if s.portStops h false then s else (s.rxTake h).unmatched h (s.cameTagged h)

/-- A frame is taken from its receive queue, where it must wait, in its stream's order (01_architecture R19, R34, R81). -/
def State.dataFrame (s : State) (f : DataFrame) : State :=
  if !(s.fabricUp && s.rxWaits f.hdr) then s
  else match s.subOf (if f.rsv then 1 else 0) f.hdr f.id f.svId with
    | none => s.takeUnmatched f.hdr
    | some (st, e) => if s.streamTurn st f.hdr then (s.rxTake f.hdr).dataOf st e f else s

def execIngestDataFrame (t : Nat) (f : DataFrame) (s : State) : Host.Outcome State Fault Refusal :=
  event t s (fun s => s.dataFrame f)

/-! ## INGEST_CONFIG_FRAME (R89 to R92) -/

/-- T_b of a configuration frame: from its arrival stamp, or from its own timestamp while the base gives no reading. -/
def State.boundaryOf (s : State) (tb rate : Nat) (f : ConfigFrame) : Nat :=
  match s.instantAfter tb rate f.hdr.arrival with
  | some i => i
  | none => (f.ts * Nat.max rate 1 / 1000000000 + 1) * rateUnits rate

/-- A defining configuration frame that is malformed. -/
def State.configMalformed (s : State) (st tb : Nat) (f : ConfigFrame) : State :=
  match s.contractOf st with
  | some (_, c) =>
    if c.isHeld then
      let b := s.boundaryOf tb c.instRate f
      s.mismatched st 5 none (some (((s.streamSt st).mismatch.bind (·.from_)).elim b (Nat.min b)))
    else s
  | none => s

/-- A defining configuration frame's layout is checked, and accepted or refused. -/
def State.configLayout (s : State) (st tb : Nat) (l : Layout) (f : ConfigFrame) : State :=
  let x := s.streamSt st
  let latest := (x.pend.map (·.layout)).or x.layout
  if latest == some l && x.mismatch.isNone then s
  else
    let c := (s.contractOf st).filter (fun e => e.2.isHeld)
    let rate := s.streamRate st l.dataRate
    let b := s.boundaryOf tb rate f
    let passed := some b
    match c with
    | none => s.modStream st (fun x => x.accept passed l (some b))
    | some (_, c) =>
      let r := layoutReason 0 c l
      if r == 0 then (s.modStream st (fun x => x.accept passed l (some b))).streamEvent st 0x080 (layoutCount l)
      else s.mismatched st r (some l) (some ((x.mismatch.bind (·.from_)).elim b (Nat.min b)))

/-- A whole configuration or header frame that is processed: stored, and its layout taken when it is the defining one (R89, Table 03-2). -/
def State.configTake (s : State) (st : Nat) (e : IngSubSet) (f : ConfigFrame) : State :=
  let rec_ : StoredFrame := { raw := f.raw, cfgCnt := (f.layout.map (·.cfgCnt)).getD 0, stamp := f.hdr.arrival }
  let s1 := s.modStream st (fun x => { x with parts := none, stored := tset f.type rec_ x.stored })
  let s2 := s1.streamEvent st 0x085 f.type
  if f.type != (if e.flags.testBit 3 then 3 else 2) then s2
  else match f.layout with
    | none => s2.configMalformed st e.tbSel f
    | some l => s2.configLayout st e.tbSel l f

/-- A frame is the next fragment of the CFG-3 frame that is being reassembled. -/
def StreamSt.continues (x : StreamSt) (f : ConfigFrame) : Bool :=
  f.type == 3 && 2 ≤ f.contIdx && x.parts.any (fun p => f.contIdx == p.next || f.contIdx == 0xFFFF)

/-- A configuration or header frame is processed: a whole one is taken; a first fragment of CFG-3 begins a reassembly, a next one goes on with it, and the last
completes it. A fragment out of order and a frame that grows beyond 65,535 bytes end it, counted under LAYOUT_ERR (DESIGN CHOICE: log entry 148). -/
def State.configPart (s : State) (st : Nat) (e : IngSubSet) (f : ConfigFrame) : State :=
  let s1 := (s.dupEnter (subRedundant e) f.hdr).modStream st (fun x => { x with lastCfg := some f.hdr.arrival })
  let all := (((s.streamSt st).parts.map (·.raw)).getD []) ++ f.raw
  let drop := (s1.modStream st (fun x => { x with parts := none })).discardConfig st .layoutErr
  if f.type != 3 || f.contIdx == 0 then s1.configTake st e f
  else if f.contIdx == 1 then (if 65535 < f.raw.length then drop else s1.modStream st (fun x => { x with parts := some { next := 2, raw := f.raw } }))
  else if !(s.streamSt st).continues f || 65535 < all.length then drop
  else if f.contIdx == 0xFFFF then s1.configTake st e { f with raw := all }
  else s1.modStream st (fun x => { x with parts := some { next := f.contIdx + 1, raw := all } })

/-- A configuration or header frame of a stream. The next fragment of a frame is not held to the second of R89, which starts with each frame's first (DEDUCED: log
entry 148). -/
def State.configOf (s : State) (st : Nat) (e : IngSubSet) (f : ConfigFrame) : State :=
  if !f.supported then s.discardConfig st .unsupported
  else if !f.sizeOk then s.discardConfig st .layoutErr
  else if !f.chkOk then s.discardConfig st .chkErr
  else if s.dupSeen (subRedundant e) f.hdr then s.discardConfig st .dup
  else if (s.streamSt st).lastCfg.any (fun t => decide (f.hdr.arrival < t + 1000000000)) && !(s.streamSt st).continues f then s.discardConfig st .cfgRate
  else s.configPart st e f

def State.configFrame (s : State) (f : ConfigFrame) : State :=
  if !(s.fabricUp && s.rxWaits f.hdr) then s
  else match s.subOf 0 f.hdr f.id 0 with
    | none => s.takeUnmatched f.hdr
    | some (st, e) => if s.quietTurn st f.hdr then (s.rxTake f.hdr).configOf st e f else s

def execIngestConfigFrame (t : Nat) (f : ConfigFrame) (s : State) : Host.Outcome State Fault Refusal :=
  event t s (fun s => s.configFrame f)

/-! ## INGEST_SV_FRAME (R99 to R101) -/

/-- Marks of a sample (Tables 03-9, 05-3): bits 0 and 1 of its quality are the validity, bit 11 is test, bit 13 derived (PRESUMED: log entry 45). -/
def svMarks (v : Int) (q : BitVec 32) (unsure sim : Bool) : Nat :=
  let validity := q.toNat % 4
  (if validity == 2 || validity == 3 then 1 else 0) + (if q.getLsbD 11 || sim then 2 else 0) + (if unsure then 4 else 0)
    + (if v == -2147483648 || v == 2147483647 then 8 else 0) + (if validity == 1 then 16 else 0) + (if q.getLsbD 13 then 64 else 0)

/-- An ASDU tells that its samples are not synchronised (Table 03-9). -/
def asduUnsure (a : SvAsdu) : Bool := a.smpSynch != 1 && a.smpSynch != 2

/-- The samples of a frame in order; a count that falls back begins the next second. -/
def svRecords (rate arrival : Nat) (unsure sim : Bool) : Nat → Nat → List SvAsdu → List SampleRec
  | _, _, [] => []
  | second, last, a :: r =>
    let sec := if a.smpCnt < last then second + 1 else second
    { n := sec * rate + a.smpCnt, arrival, vals := a.samples.map (·.1), marks := a.samples.map (fun x => svMarks x.1 x.2 (unsure || asduUnsure a) sim) }
      :: svRecords rate arrival unsure sim sec a.smpCnt r

/-- The grid time of the first sample of a frame, in ns. -/
def svTimeNs (f : SvFrame) (rate : Nat) : Nat :=
  f.second * 1000000000 + ((f.asdus.head?.map (·.smpCnt)).getD 0) * 1000000000 / Nat.max rate 1

/-- confRev of every ASDU of a frame: whether one differs. -/
def State.svRevs (s : State) (st : Nat) (e : IngSubSet) (l : List SvAsdu) : State × Bool :=
  l.foldl (fun a x => let r := a.1.confRevCheck st e x.confRev; (r.1, a.2 || r.2)) (s, false)

/-- A sampled-value frame under a contract: rows 9 to 12, then its samples go to the waveform chain. A frame lies at the instant of its first sample (DESIGN
CHOICE: log entry 115). -/
def State.svCarried (s : State) (st : Nat) (e : IngSubSet) (id : Nat) (c : Contract) (f : SvFrame) : State :=
  if s.tooFuture e.tbSel (svTimeNs f e.svRate) then s.timeReject st
  else if s.shedTakes c (svTimeNs f e.svRate * 1200 / 1000000000) then s.discard st .noContract
  else
    let r := s.svRevs st e f.asdus
    let s1 := if f.asdus.any (fun a => a.smpRate.any (fun v => v != e.svRate)) then r.1.frameMismatch st 2 none
      else if r.2 then r.1.frameMismatch st 4 none else r.1
    if (s1.streamSt st).mismatch.isSome then s1.discard st .mismatch
    else
      let unsure := s1.baseUncertain e.tbSel
      let s2 := (s1.dupEnter (subRedundant e) f.hdr).modStream st (fun x => { x with
        uncertain := unsure || f.asdus.any asduUnsure, svQual := (f.asdus.getLast?.map (fun a => a.samples.map (·.2))).getD x.svQual })
      let s3 := s2.acceptFrame st id f.hdr.arrival
      (svRecords e.svRate f.hdr.arrival unsure f.sim f.second 0 f.asdus).foldl (fun s x => s.waveSample st x) s3

/-- A frame of a sampled-value stream: rows 1 to 8. A malformed ASDU, a number of ASDUs other than 1 to 8 and a smpCnt at or above SV_RATE are counted as
UNSUPPORTED (DESIGN CHOICE: Table 03-18 names no counter for them; log entry 116). -/
def State.svOf (s : State) (st : Nat) (e : IngSubSet) (f : SvFrame) : State :=
  if !f.supported || !f.formatOk || f.asdus.isEmpty || 8 < f.asdus.length
      || f.asdus.any (fun a => decide (e.svRate ≤ a.smpCnt) || a.samples.length != 8) then s.discard st .unsupported
  else
    let b := s.subPasses st e f.hdr f.sim
    if !b.2 then b.1
    else match b.1.carrierOf st with
      | none => b.1.discard st .noContract
      | some (id, c) =>
        if c.rate != e.svRate then (b.1.frameMismatch st 2 none).discard st .noContract
        else b.1.svCarried st e id c f

def State.svFrame (s : State) (f : SvFrame) : State :=
  if !(s.fabricUp && s.rxWaits f.hdr) then s
  else match s.subOf 2 f.hdr f.appId f.svId with
    | none => s.takeUnmatched f.hdr
    | some (st, e) => if s.streamTurn st f.hdr then (s.rxTake f.hdr).svOf st e f else s

def execIngestSvFrame (t : Nat) (f : SvFrame) (s : State) : Host.Outcome State Fault Refusal :=
  event t s (fun s => s.svFrame f)

/-! ## INGEST_GOOSE_FRAME (R94, R95, R101 to R104) -/

/-- A station's frame is discarded by a row of Table 03-18. -/
def State.stationDiscard (s : State) (n : Nat) (x : Station) (d : Discard) : State :=
  (s.setStation n { x with discarded := x.discarded + 1 }).count .ing d.perDevice

/-- The owner is told of a station's frame; the detail is not stated. -/
def State.stationEvent (s : State) (n src : Nat) : State := s.evtFree [s.holder kindStation n] src

/-- Rows 4 and 5 for a station, by the keys in force at the frame's arrival (R97). Both keys stay accepted, since ING_GOOSE_SUB has no overlap that would end, and its AUTH_FAIL sets AUTH_FAIL_SEEN of its partition
(DESIGN CHOICE: log entry 117). -/
def State.stationSecure (s : State) (n : Nat) (x : Station) (f : GooseFrame) : State × Bool :=
  if !(f.rGoose && x.sub.flags.testBit 1) then (s, true)
  else
    let owner := s.holder kindStation n
    let keys := slotsAt (x.sub.keyCur, x.sub.keyNext) x.keyChanges f.hdr.arrival
    match s.auth keys.1 keys.2 true f.sec with
    | .fail => (((s.stationDiscard n x .authFail).authFailed owner).stationEvent n 0x082, false)
    | .missing => (((s.stationDiscard n x .authFail).authFailed owner).stationEvent n 0x083, false)
    | _ =>
      match x.replay.take f.sec.number with
      | none => (s.stationDiscard n x .replay, false)
      | some r => (s.setStation n { x with replay := r }, true)

/-- Rows 6 and 7, then the checks of R102 and the sequence rules. -/
def State.stationPasses (s : State) (n : Nat) (x : Station) (f : GooseFrame) : State :=
  let red := x.sub.flags.testBit 2 || x.sub.flags.testBit 3
  if s.dupSeen red f.hdr then s.stationDiscard n x .dup
  else
    let accept := x.sub.flags.testBit 0
    let drop := simDrops accept x.simInUse f.sim
    let x1 : Station := if f.sim then { x with simSeen := true, simInUse := accept } else x
    let s1 := if f.sim && !x.simSeen then (s.setStation n x1).stationEvent n 0x088 else s.setStation n x1
    if drop then s1.stationDiscard n x1 .sim
    else if !f.dataOk || 64 < f.values.length || f.confRev != x.sub.confRev then s1.stationBad n x1
    else (s1.dupEnter red f.hdr).stationFrame n x1 f

/-- A station's frame is taken in the order of arrival, at equal stamps the lower port's first (R81, R106). -/
def State.gooseFrame (s : State) (f : GooseFrame) : State :=
  if !(s.fabricUp && s.rxWaits f.hdr) then s
  else
    let s1 := s.rxTake f.hdr
    match s.stationOf f.hdr f.rGoose f.appId f.gocbRef with
    | none => s1.unmatched f.hdr (s.cameTagged f.hdr)
    | some (n, x) =>
      if !s.rxTurn f.hdr (fun e => e.station == some n) then s
      else if !f.supported then s1.stationDiscard n x .unsupported
      else
        let a := s1.stationSecure n x f
        if !a.2 then a.1 else a.1.stationPasses n ((tget n a.1.ing.stations).getD x) f

def execIngestGooseFrame (t : Nat) (f : GooseFrame) (s : State) : Host.Outcome State Fault Refusal :=
  event t s (fun s => s.gooseFrame f)

/-! ## Timers -/

/-- A command frame that waited for its second, and "turn on transmission" one second after its request (R88). -/
def State.pmuDeferred (s : State) (st : Nat) : State :=
  match tget st s.ing.subs with
  | none => s
  | some e =>
    let x := s.streamSt st
    let s1 := if x.onAt.any (fun t => decide (t ≤ s.now)) then
        s.modStream st (fun x => { x with onAt := none, waitCmds := x.waitCmds.filter (· != 2) ++ [2] })
      else s
    match (s1.streamSt st).waitCmds with
    | [] => s1
    | c :: r =>
      if !e.flags.testBit 0 then s1.modStream st (fun x => { x with waitCmds := [] })
      else if s1.pmuFree st then (s1.modStream st (fun x => { x with waitCmds := r })).pmuSend st e c else s1

def execPmuCmdDeferred (t stream : Nat) (s : State) : Host.Outcome State Fault Refusal :=
  event t s (fun s => if s.fabricUp then s.pmuDeferred stream else s)

/-- The pair of RESTART_CMD, again every 10 s while the contract stays SUSPENDED (R88). -/
def State.pmuRestart (s : State) (st : Nat) : State :=
  let due := (s.streamSt st).restartAt.any (fun t => decide (t ≤ s.now))
  let suspended := (s.contractOf st).any (fun e => e.2.state == .suspended)
  let asked := (tget st s.ing.subs).any (fun e => e.flags.testBit 2)
  if due && suspended && asked then (s.pmuPair st).modStream st (fun x => { x with restartAt := some (s.now + 10000000000) }) else s

def execPmuRestartRepeat (t stream : Nat) (s : State) : Host.Outcome State Fault Refusal :=
  event t s (fun s => if s.fabricUp then s.pmuRestart stream else s)

/-- The silence limit of a carrier in ns (R108). -/
def silenceNs (timeoutMs rate : Nat) : Nat := if timeoutMs == 0 then 5000000000 / Nat.max rate 1 else 1000000 * timeoutMs

/-- The silence limit of a stream has passed: no accepted frame since, and none that waits for ingest arrived in time. -/
def State.silent (s : State) (st timeoutMs rate : Nat) : Bool :=
  match (s.streamSt st).lastArrival with
  | none => false
  | some a =>
    let limit := a + silenceNs timeoutMs rate
    decide (limit < s.now) && !s.anyFrame (fun _ x => x.stream == some st && decide (x.arrival ≤ limit))

/-- A contract falls silent: SUSPENDED, with RESTART_CMD's pair. -/
def State.suspend (s : State) (id : Nat) (c : Contract) : State :=
  let s1 := s.contractTo id .suspended 2 true
  if (tget c.stream s1.ing.subs).any (fun e => e.flags.testBit 2) then
    (s1.pmuPair c.stream).modStream c.stream (fun x => { x with restartAt := some (s.now + 10000000000) })
  else s1

/-- SILENCE_CHECK, at every multiple of 1 ms. -/
def State.silenceCheck (s : State) : State :=
  let s1 := s.tt.contracts.foldl (fun s e =>
    if e.2.state == .active && s.silent e.2.stream e.2.timeoutMs e.2.rate then s.suspend e.1 e.2 else s) s
  s1.hst.placed.foldl (fun s e =>
    if e.2.active && s.silent e.1 e.2.timeoutMs e.2.rate then
      ({ s with hst := { s.hst with placed := tset e.1 { e.2 with active := false } s.hst.placed } }).houseCheckAll e.2.groupMask
    else s) s1

def execSilenceCheck (t : Nat) (s : State) : Host.Outcome State Fault Refusal :=
  event t s (fun s => if s.fabricUp && t % 1000000 == 0 then s.silenceCheck else s)

/-- The overlap of a key rotation ends (R96). -/
def execKeyRotationOverlapEnd (t stream : Nat) (s : State) : Host.Outcome State Fault Refusal :=
  event t s (fun s => if (s.streamSt stream).overlapEnd.any (fun e => decide (e ≤ s.now)) then s.rotateKey stream else s)

/-- Sequence numbers leave the duplicate table FORGET_MS after they entered it, and a source with none left frees its entry (R106). -/
def State.dupForget (s : State) : State :=
  let ns := s.forgetNs
  let keep := s.ing.dup.map (fun d => { d with seqs := d.seqs.filter (fun q => decide (s.now < q.2 + ns)) })
  { s with ing := { s.ing with dup := keep.filter (fun d => !d.seqs.isEmpty) } }

def execDupEntryForget (t : Nat) (s : State) : Host.Outcome State Fault Refusal := event t s (fun s => s.dupForget)

/-- A station's time is over: its deadline has passed, and no frame of its that arrived in time waits for ingest (R103, R104). -/
def State.stationOver (s : State) (n : Nat) (x : Station) : Bool :=
  x.deadline.any (fun d => decide (d < s.now)
    && !s.anyFrame (fun _ e => e.station == some n && decide (e.arrival ≤ d)))

/-- The timeAllowedtoLive of a healthy station has passed without a frame that arrived in time (R103). -/
def State.talExpiry (s : State) (n : Nat) : State :=
  match tget n s.ing.stations with
  | some x => if s.fabricUp && x.state == .healthy && s.stationOver n x then s.stationDrop n x else s
  | none => s

def execStationTalExpiry (t station : Nat) (s : State) : Host.Outcome State Fault Refusal := event t s (fun s => s.talExpiry station)

/-- The first frame of a waiting station has had no successor within its timeAllowedtoLive (R104). -/
def State.waitExpiry (s : State) (n : Nat) : State :=
  match tget n s.ing.stations with
  | some x =>
    if s.fabricUp && x.state == .firstSeen && s.stationOver n x then
      s.setStation n { x with state := .waiting, deadline := none }
    else s
  | none => s

def execStationWaitTimeout (t station : Nat) (s : State) : Host.Outcome State Fault Refusal := event t s (fun s => s.waitExpiry station)

end Sys2Proof.Machine
end

