-- ==== Sys2Proof/Machine/RegisterReads.lean ====
section
/-!
DEFINITION. What a read of BAR0 returns (14_hosts R401, R402, R431, R532, Table 14-2, and the register tables of every chapter). A register is given as its
32-bit word by partition and offset.
-/
namespace Sys2Proof.Machine

/-- A word from fields, each with its lowest bit and its width. -/
def regWord (l : List (Nat × Nat × Nat)) : Nat := l.foldl (fun a f => a + f.2.2 % 2 ^ f.2.1 * 2 ^ f.1) 0

def lowWord (v : Nat) : Nat := v % 4294967296
def highWord (v : Nat) : Nat := v / 4294967296 % 4294967296

/-- LO at even words, HI at odd ones, of an array of pairs from an offset on. -/
def pairWord (base o : Nat) (f : Nat → Nat) : Nat :=
  let v := f ((o - base) / 8)
  if (o - base) % 8 == 0 then lowWord v else highWord v

/-- Register `o` lies in an array of `n` registers of a stride from a base on. -/
def inArray (o base n stride : Nat) : Bool := decide (base ≤ o) && decide (o < base + n * stride)

def countOf {α : Type} (l : List α) (f : α → Bool) : Nat := (l.filter f).length

/-! ## DEV_ and TT_ (R39, R431, R76) -/

def State.devReg (s : State) (o : Nat) : Nat :=
  if o == 0x000 then regWord [(0, 16, 0x7240), (16, 1, Config.grade.toNat), (20, 4, Config.stepping.toNat)]
  else if o == 0x004 then
    regWord [(0, 1, b2n s.forceInd), (1, 3, s.sec.life.code), (4, 1, b2n s.flt.errFault), (5, 1, b2n s.pwr.startupDone), (6, 1, b2n s.fw.mgmtRestart)]
  else if o == 0x008 then lowWord Config.serial.toNat
  else if o == 0x00C then highWord Config.serial.toNat
  else if o == 0x010 then regWord [(0, 16, (s.bank s.fw.running).version), (16, 1, s.fw.running)]
  else if o == 0x200 then regWord [(0, 1, b2n s.lat.enable), (8, 6, s.lat.excess)]
  else if inArray o 0x210 6 4 then tgetD ((o - 0x210) / 4) 0 s.lat.max
  else 0

def State.ttReg (s : State) (full : Bool) (o : Nat) : Nat :=
  if o == 0x000 then regWord [(0, 2, s.tt.profile.code), (8, 1, b2n s.safetyPresent)]
  else if o == 0x004 then
    regWord [(0, 1, b2n s.tt.basisLost), (1, 1, b2n s.belowRated), (2, 1, b2n s.tt.shedSeen), (3, 1, b2n (s.tt.pairs.any (fun e => e.2.disagree))), (16, 16, s.tt.evalSeq.toNat)]
  else if o == 0x008 then Config.ratedCode.toNat
  else if o == 0x014 then 65011712
  else if inArray o 0x040 32 4 then tgetD ((o - 0x040) / 4) 0 s.tt.ratios % 65536
  else if !full then 0
  else if o == 0x010 then lowWord s.contractBytes
  else if o == 0x018 then regWord [(0, 15, s.heldContracts.length), (16, 16, s.tt.shedTotal.toNat)]
  else if o == 0x01C then s.chCommit % 524288
  else if inArray o 0x100 16 8 then
    let k := (o - 0x100) / 8
    if (o - 0x100) % 8 == 0 then lowWord (s.commit k) else lowWord (s.limit k)
  else 0

/-! ## ING_ and PLT_ (R110, R144) -/

/-- Streams of a partition in CONFIG_MISMATCH. -/
def State.mismatches (s : State) (part : Nat) : Nat := countOf s.ing.streams (fun e => e.2.mismatch.isSome && s.holder kindStream e.1 == part)

def State.ingReg (s : State) (part : Nat) (full : Bool) (o : Nat) : Nat :=
  let sv := s.ing.subs.filter (fun e => e.2.kind == 2)
  if o == 0x004 then
    regWord [(0, 1, b2n (decide (4096 ≤ s.ing.dup.length))), (1, 1, b2n (decide (0 < s.mismatches part))), (2, 1, b2n (s.ing.authFailSeen.contains part)), (16, 16, s.mismatches part)]
  else if !full then 0
  else if o == 0x000 then s.ing.unknownToHost % 16777216
  else if o == 0x008 then s.ing.forgetMs % 65536
  else if o == 0x00C then regWord [(0, 21, (sv.map (fun e => e.2.svRate)).sum), (21, 9, sv.length)]
  else if inArray o 0x040 13 4 then (tgetD ((o - 0x040) / 4) 0 s.ing.cnt).toNat
  else 0

/-- A share is exhausted when a record of one channel would not fit. -/
def State.sidingsFull (s : State) (part : Nat) : Bool :=
  decide (0 < s.sidingsUsed part) && decide ((s.part part).sidingsMib * 1048576 < s.sidingsUsed part + 80)

def State.pltReg (s : State) (part : Nat) (full : Bool) (o : Nat) : Nat :=
  if o == 0x000 then
    regWord ([(0, 1, b2n (s.sidingsFull part)), (1, 1, b2n (s.plt.overrunSeen.contains part)), (2, 1, b2n (s.plt.dupSeen.contains part))]
      ++ (List.range 16).map (fun g => (16 + g, 1, b2n ((s.group g).any (fun x => x.state == .departing)))))
  else if o == 0x004 then lowWord (ceilDiv (s.sidingsUsed part) 1024)
  else if inArray o 0x040 8 4 then (if full then (tgetD ((o - 0x040) / 4) 0 s.plt.cnt).toNat else 0)
  else if inArray o 0x100 16 4 then lowWord (((s.group ((o - 0x100) / 4)).map (fun x => x.seq)).getD 0)
  else if inArray o 0x200 4 8 then
    match tget (ringKey part ((o - 0x200) / 8)) s.plt.rings with
    | some r => if (o - 0x200) % 8 == 0 then r.prod.toNat else r.cons.toNat
    | none => 0
  else 0

/-! ## WCH_, NRG_ and OSC_ (R178, R198, R224) -/

/-- WCH_UNIT_STATE_n. -/
def WUnit.stateWord (u : WUnit) : Nat :=
  let code := match u.state with
    | .idle => 1
    | .running => 2
    | .refused => 3
  regWord [(0, 2, code), (2, 1, b2n u.mode1), (3, 1, b2n (u.frozen || u.limited || u.mode1)), (8, 8, u.reason), (16, 14, u.set.stream)]

/-- The comparators 32g to 32g + 31 of a partition's units. -/
def State.cmpWord (s : State) (part g : Nat) (f : Cmp → Bool) : Nat :=
  maskOf ((List.range 32).map (fun i => s.holds part kindUnit ((32 * g + i) / 8) && (tget (32 * g + i) s.wch.cmps).any f))

def State.wchReg (s : State) (part : Nat) (full : Bool) (o : Nat) : Nat :=
  let own := s.wch.units.filter (fun e => s.holds part kindUnit e.1)
  if o == 0x000 then regWord [(0, 9, countOf own (fun e => e.2.mode1)), (16, 9, countOf own (fun e => e.2.state == .running))]
  else if inArray o 0x040 6 8 then (if full then pairWord 0x040 o (fun n => (tgetD n 0 s.wch.cnt).toNat) else 0)
  else if inArray o 0x100 64 4 then s.cmpWord part ((o - 0x100) / 4) (fun c => c.asserted)
  else if inArray o 0x200 64 4 then s.cmpWord part ((o - 0x200) / 4) (fun c => c.changed)
  else if inArray o 0x400 256 8 then
    let n := (o - 0x400) / 8
    match if s.holds part kindUnit n then tget n s.wch.units else none with
    | some u => if (o - 0x400) % 8 == 0 then u.stateWord else (f32Of (frac u.fTrack 1000000)).toNat
    | none => 0
  else 0

def State.nrgReg (s : State) (part o : Nat) : Nat :=
  let own := s.nrg.points.filter (fun e => s.holds part kindMeter e.1)
  if o == 0x000 then
    regWord [(0, 1, b2n (own.any (fun e => e.2.code == 3))), (1, 1, b2n (s.nrg.gapSeen.contains part)), (2, 1, b2n (s.nrg.mismatchSeen.contains part))
      , (3, 1, b2n (s.nrg.accFaultSeen.contains part)), (16, 9, countOf own (fun e => e.2.code == 2))]
  else if o == 0x008 then maskOf ((List.range 16).map (fun i => s.holds part kindPulseIn i && s.nrg.piLevel.testBit i))
  else if inArray o 0x100 16 8 then
    pairWord 0x100 o (fun n => if s.holds part kindPulseIn n then ((tget n s.nrg.pis).map (fun x => x.count.toNat)).getD 0 else 0)
  else if inArray o 0x200 8 4 then
    match if s.holds part kindPulseOut ((o - 0x200) / 4) then tget ((o - 0x200) / 4) s.nrg.pos else none with
    | some p => regWord [(0, 16, p.pending), (16, 1, b2n (p.phase == .active)), (17, 1, b2n p.lostSeen)]
    | none => 0
  else 0

def State.oscReg (s : State) (part : Nat) (full : Bool) (o : Nat) : Nat :=
  let sees := s.reads part kindModal 0
  let alarm := fun (b : Nat) => s.osc.modes.any (fun e => e.2.alarm && e.2.cand.band == b)
  let dets := fun (g : Nat) (f : Detector → Bool) => maskOf ((s.ownDets part g).map (fun d => d.any f))
  if o == 0x000 then
    regWord ([(0, 1, b2n (s.holds part kindModal 0)), (16, 12, countOf s.osc.dets (fun e => e.2.asserted && s.holds part kindDetector e.1))]
      ++ (if sees then [(1, 1, b2n (alarm 0)), (2, 1, b2n (alarm 1)), (3, 1, b2n (alarm 2)), (4, 1, b2n s.osc.overrunSeen), (5, 1, b2n s.osc.excludedAny)]
        else []))
  else if o == 0x004 then (if sees then lowWord s.osc.seq else 0)
  else if o == 0x008 then (if sees then maskOf ((List.range 32).map (fun i => (tget i s.osc.modes).any (fun m => m.alarm))) else 0)
  else if inArray o 0x040 6 4 then (if full then (tgetD ((o - 0x040) / 4) 0 s.osc.cnt).toNat else 0)
  else if inArray o 0x100 64 4 then dets ((o - 0x100) / 4) (fun d => d.asserted)
  else if inArray o 0x200 64 4 then dets ((o - 0x200) / 4) (fun d => d.changed)
  else 0

/-! ## COH_, ALC_ and REC_ (R248, R291, R314) -/

def State.cohReg (s : State) (part : Nat) (full : Bool) (o : Nat) : Nat :=
  let e := s.coh.eval
  if inArray o 0x040 6 4 then (if full then (tgetD ((o - 0x040) / 4) 0 s.coh.cnt).toNat else 0)
  else if !s.reads part kindCoherency 0 then 0
  else if o == 0x000 then
    regWord [(0, 1, b2n (s.holds part kindCoherency 0)), (1, 1, b2n (s.coh.set.any (fun x => x.enable))), (2, 1, b2n e.noMain), (3, 1, b2n s.coh.stale)
      , (4, 1, b2n s.coh.discardSeen), (8, 6, e.islands.length), (16, 7, e.cands.length)]
  else if o == 0x004 then lowWord s.coh.seq
  else if o == 0x008 then maskOf ((List.range 32).map (fun i => (tget i e.islands).isSome))
  else if o == 0x00C then regWord [(0, 12, e.mainLabel), (16, 13, e.mainMembers)]
  else if inArray o 0x100 128 4 then
    let w := (o - 0x100) / 4
    maskOf ((List.range 32).map (fun i => e.islands.any (fun x => x.2.members.contains (32 * w + i) || x.2.held.contains (32 * w + i))))
  else 0

/-- A force is active on an alarm pin. -/
def State.pinForced (s : State) (n : Nat) : Bool :=
  s.alc.active.any (fun im => im.points.any (fun p => p.kind == .alarmPin n && (tget p.id s.alc.forces).isSome))

/-- An alarm pin stands at its safe value; without a program there is none. -/
def State.pinSafe (s : State) (n : Nat) : Bool :=
  let safe := match s.alc.active with
    | some im => alLevels im.alSafe im.alInvert
    | none => 0
  s.alc.state != .noProgram && s.alc.level.testBit n == safe.testBit n

/-- A station is mapped by the program in force, in whatever state the pair is, and neither dropped out nor in bad configuration (Table 09-11). -/
def State.stationOk (s : State) (n : Nat) : Bool :=
  s.alc.active.any (fun im => im.map.any (fun e => (e.kind == 9 || e.kind == 10) && e.index == n)) && (tget n s.ing.stations).any (fun x => x.state != .dropped && !x.badConfig)

def State.alcReg (s : State) (part : Nat) (full : Bool) (o : Nat) : Nat :=
  let id := if s.alc.state == .noProgram then 0 else ((s.alc.active.map (fun im => im.programId)).getD 0)
  if !s.reads part kindLogic 0 then 0
  else if o == 0x000 then
    regWord [(0, 3, s.alc.state.code), (3, 1, b2n s.safetyOp), (4, 1, b2n s.forceInd), (5, 1, b2n s.alcx.errPending), (6, 1, b2n s.standbyImage.isSome)
      , (7, 1, b2n s.alc.exchange.isSome), (8, 1, b2n s.alcx.overSeen), (9, 1, b2n s.alcx.fallbackSeen), (10, 1, b2n s.alcx.ckptFailSeen), (16, 9, s.alc.forces.length)]
  else if o == 0x004 then lowWord id
  else if o == 0x008 then highWord id
  else if o == 0x00C then lowWord s.alcx.lastScanNs
  else if o == 0x010 then
    let eight := fun (f : Nat → Bool) => maskOf ((List.range 8).map f)
    regWord [(0, 8, s.alc.level), (8, 8, eight s.pinForced), (16, 8, eight s.pinSafe), (24, 8, s.alc.readbackErr)]
  else if inArray o 0x020 4 4 then maskOf ((List.range 32).map (fun i => s.stationOk (8 * (o - 0x020) + i)))
  else if inArray o 0x040 8 4 then (if full then (tgetD ((o - 0x040) / 4) 0 s.alcx.cnt).toNat else 0)
  else 0

def State.recReg (s : State) (part : Nat) (full : Bool) (o : Nat) : Nat :=
  if o == 0x004 then s.segments 64 (some part) % 8192
  else if inArray o 0x040 7 4 then (if full then (tgetD ((o - 0x040) / 4) 0 s.rcd.cnt).toNat else 0)
  else if inArray o 0x100 64 4 then
    match if s.holds part kindRecorder ((o - 0x100) / 4) then s.recorder ((o - 0x100) / 4) else none with
    | some r => regWord [(0, 3, r.state.code), (3, 1, b2n r.missedSeen), (8, 8, r.held.length), (16, 8, recSlots r.set)]
    | none => 0
  else if inArray o 0x400 64 8 then
    let n := (o - 0x400) / 8
    match (if s.holds part kindRecorder n then s.recorder n else none).bind (fun r => r.ring) with
    | some q => if (o - 0x400) % 8 == 0 then q.prod.toNat else q.cons.toNat
    | none => 0
  else 0

/-! ## SCH_ and TB_ (R339, R367) -/

def State.schReg (s : State) (part : Nat) (full : Bool) (o : Nat) : Nat :=
  if o == 0x000 then
    regWord ((List.range 16).map (fun k => (k, 1, b2n (s.inService k)))
      ++ [(16, 1, b2n s.sch.holdSeen), (17, 1, b2n s.sch.restartSeen), (18, 1, b2n s.sch.gateFaultSeen)])
  else if inArray o 0x040 6 4 then (if full then (tgetD ((o - 0x040) / 4) 0 s.sch.cnt).toNat else 0)
  else if inArray o 0x100 16 4 then
    let k := (o - 0x100) / 4
    regWord [(0, 3, (s.cluster k).state.code), (8, 2, Nat.min 3 (s.recentFaults k).length), (16, 1, (s.cluster k).bank)]
  else if inArray o 0x200 16 8 then
    let c := s.cluster ((o - 0x200) / 8)
    let p := if (o - 0x200) % 8 == 0 then 0 else 2
    if full then regWord [(0, 13, (c.list p).length), (16, 13, (c.list (p + 1)).length)] else 0
  else if o == 0x300 then ((tget part s.sch.traces).map (fun r => r.prod.toNat)).getD 0
  else if o == 0x304 then ((tget part s.sch.traces).map (fun r => r.cons.toNat)).getD 0
  else 0

/-- The reading of a base as 64 bits; 0 while it is invalid. -/
def State.nowWord (s : State) (n : Nat) : Nat := if n == 0 then s.now else ((s.reading n).map (twos 64)).getD 0

/-- TB_STATE_n. -/
def State.tbWord (s : State) (n : Nat) : Nat :=
  let b := s.baseOf n
  regWord [(0, 3, b.state.code), (3, 1, b2n b.refused.isSome), (4, 2, b.set.source), (8, 4, s.timeCode b), (12, 3, s.statQuality b), (15, 2, s.statUnlock b)
    , (17, 1, b2n b.leap.isSome), (18, 1, b2n b.leapDir), (19, 1, b2n (b.leapUntil.any (fun u => decide (s.now < u))))]

def State.tbReg (s : State) (full : Bool) (o : Nat) : Nat :=
  if o < 0x020 then pairWord 0 o s.nowWord
  else if o == 0x024 then regWord [(0, 1, b2n s.tb.extInUse), (1, 1, b2n s.tb.extPresent), (2, 1, b2n s.tb.ondie)]
  else if inArray o 0x040 8 4 then (if full then (tgetD ((o - 0x040) / 4) 0 s.tb.cnt).toNat else 0)
  else if inArray o 0x110 3 16 then
    let n := (o - 0x100) / 16
    let b := s.baseOf n
    if o % 16 == 0 then s.tbWord n
    else if o % 16 == 4 then s.errNs b
    else if o % 16 == 8 then sat32 b.offset else twos 32 b.rateFigure
  else 0

/-! ## HST_ and the MSI-X table (R429, R431) -/

def State.hstId (s : State) (part : Nat) : Nat := regWord [(0, 3, part), (3, 1, b2n (part == 0)), (4, 2, (s.part part).state.code)]

/-- Four routing bytes. -/
def routeWord (t : Table Nat) (n : Nat) : Nat := regWord ((List.range 4).map (fun k => (8 * k, 8, tgetD (4 * n + k) 0 t)))

def State.hstReg (s : State) (part o : Nat) : Nat :=
  let p := s.part part
  let q := p.q
  let e := p.ev
  if o == 0x000 then s.hstId part
  else if o == 0x004 then
    regWord [(0, 1, b2n q.enable), (1, 1, b2n q.cmdqErr), (2, 1, b2n (!e.heldEvents.isEmpty)), (3, 1, b2n (!e.heldAlarms.isEmpty)), (4, 1, b2n p.ib.enable)
      , (5, 1, b2n q.dmaErr), (16, 16, (s.inFlight part).length)]
  else if o == 0x010 then lowWord q.sqAddr.toNat
  else if o == 0x014 then highWord q.sqAddr.toNat
  else if o == 0x018 then q.sqSize.toNat
  else if o == 0x01C then q.sqTail.toNat
  else if o == 0x020 then q.sqHead.toNat
  else if o == 0x030 then lowWord q.rqAddr.toNat
  else if o == 0x034 then highWord q.rqAddr.toNat
  else if o == 0x038 then q.rqSize.toNat
  else if o == 0x03C then q.rqTail.toNat
  else if o == 0x040 then q.rqHead.toNat
  else if o == 0x050 then lowWord q.wbAddr.toNat
  else if o == 0x054 then highWord q.wbAddr.toNat
  else if o == 0x060 then b2n q.enable
  else if o == 0x070 then e.prod.toNat
  else if o == 0x074 then e.cons.toNat
  else if o == 0x078 then e.holdoffUs % 131072
  else if inArray o 0x080 3 4 then routeWord e.ringRoute ((o - 0x080) / 4)
  else if o == 0x090 then e.heldAlarms.length % 2097152
  else if o == 0x094 then p.ib.drop.toNat
  else if inArray o 0x100 128 4 then routeWord e.route ((o - 0x100) / 4)
  else 0

/-- A word of the MSI-X table: the vector control word of an entry has its mask bit set after a reset (PRESUMED). -/
def Part.msixWord (p : Part) (i : Nat) : Nat := (tgetD i (if i % 4 == 3 then 1 else 0) p.msixTable).toNat

/-! ## KEY_, FLT_, PWR_ and PRT_ (R465, R490, R514, R396) -/

def State.keyReg (s : State) (part : Nat) (full : Bool) (o : Nat) : Nat :=
  if o == 0x000 then
    regWord [(0, 1, b2n s.sec.tamperLatched), (1, 1, b2n s.sec.tamperHold), (2, 1, b2n s.sec.testUnlocked), (3, 1, b2n s.sec.ownerBoot), (4, 1, b2n s.sec.fallback)
      , (5, 1, b2n s.sec.updateLostSeen), (6, 1, b2n s.sec.signMissingSeen)
      , (8, 9, countOf s.sec.slots (fun e => e.2.key.isSome && s.holder kindKey e.1 == part))]
  else if o == 0x004 then
    regWord ((List.range 4).map (fun n => (4 * n, 2, tgetD n 0 s.sec.tmpMode)) ++ (List.range 8).map (fun i => (16 + i, 1, b2n (s.sec.tmpActive.contains i))))
  else if inArray o 0x040 5 8 then (if full then pairWord 0x040 o (fun n => (tgetD n 0 s.sec.cnt).toNat) else 0)
  else 0

/-- A 32-bit word of a byte list. -/
def listWord (l : List Byte) (i : Nat) : Nat := leNat ((l.drop (4 * i)).take 4)

/-- 32 bits of a test of source numbers. -/
def maskWord (n : Nat) (f : Nat → Bool) : Nat := maskOf ((List.range 32).map (fun i => f (32 * n + i)))

def State.fltReg (s : State) (o : Nat) : Nat :=
  if o == 0x000 then
    regWord [(0, 1, b2n s.flt.errFault), (1, 1, b2n s.flt.selftest.isSome), (2, 1, b2n s.selftestFail), (3, 1, b2n s.flt.haltSource.isSome)
      , (8, 3, s.maxUnack.getD 0), (11, 1, b2n (!s.unacked.isEmpty)), (16, 6, s.flt.history.length)]
  else if inArray o 0x020 8 4 then listWord (faultBytes s.flt.first) ((o - 0x020) / 4)
  else if inArray o 0x040 8 4 then maskWord ((o - 0x040) / 4) s.faultActive
  else if inArray o 0x060 8 4 then maskWord ((o - 0x060) / 4) s.unackSource
  else if inArray o 0x080 8 4 then maskWord ((o - 0x080) / 4) (fun i => s.flt.forced.contains i)
  else if o == 0x0A0 then s.flt.seq.toNat
  else if o == 0x0A4 then regWord [(0, 16, s.flt.sramMs), (16, 16, s.flt.dramS)]
  else if o == 0x0A8 then s.flt.ceSram.toNat
  else if o == 0x0AC then s.flt.ceDram.toNat
  else 0

def State.pwrReg (s : State) (o : Nat) : Nat :=
  if o == 0x000 then regWord [(0, 3, s.pwr.state.code), (3, 1, b2n s.pwr.pfwLow), (4, 1, b2n s.pwr.pfwSeen), (5, 1, b2n s.pwr.wakeRefused)]
  else if o == 0x004 then regWord [(0, 4, s.pwr.cause), (4, 1, b2n s.pwr.orderly), (5, 1, b2n s.pwr.lostSupply)]
  else if o == 0x008 then b2n s.pwr.wake
  else if o == 0x00C then regWord [(0, 1, s.fw.running), (1, 1, s.fw.boot), (2, 1, s.fw.alc), (3, 1, b2n s.commitPending)]
  else if o == 0x010 then lowWord s.fw.minSvn
  else if o == 0x014 then regWord [(0, 16, s.pwr.startupMs), (16, 16, s.pwr.wakeUs)]
  else 0

def State.prtReg (s : State) (part : Nat) (full : Bool) (p o : Nat) : Nat :=
  let x := s.port p
  let ring := fun (t : Table HostRing) (f : HostRing → W32) =>
    if s.holds part kindPort p then ((tget part t).map (fun r => (f r).toNat)).getD 0 else 0
  if 23 < p then 0
  else if o == 0x000 then
    regWord ([(0, 1, b2n x.link), (1, 3, (x.mode.map (fun m => m.mode)).getD 0), (4, 1, b2n (x.mode.isSome && x.fullDuplex)), (5, 1, b2n (s.paused p)), (6, 1, b2n x.xoff)
      , (7, 1, b2n x.fecLock), (8, 1, b2n x.rxDropSeen), (9, 1, b2n x.ringEmptySeen), (10, 1, b2n x.txDropSeen), (11, 1, b2n x.linkDownSeen)
      , (12, 1, b2n (x.mode.any (fun m => m.mgmt)))] ++ (if full then [(16, 13, x.rxq.length)] else []))
  else if inArray o 0x100 55 4 then (if full then (tgetD ((o - 0x100) / 4) 0 x.cnt).toNat else 0)
  else if o == 0x300 then ring x.rxRings (fun r => r.tail)
  else if o == 0x304 then ring x.rxRings (fun r => r.head)
  else if o == 0x308 then ring x.txRings (fun r => r.tail)
  else if o == 0x30C then ring x.txRings (fun r => r.head)
  else 0

/-! ## The functions of the endpoint (Table 14-1) -/

/-- The Device ID of PF_n. -/
def pcieDeviceId (n : Nat) : Nat := if n == 0 then 0x7240 else 0x7241

/-- The class code of every function: signal processing controller, other. -/
def pcieClass : Nat := 0x118000

/-! ## BAR0 (R401, R402, R532) -/

/-- The live word at an offset, for a partition that exists. -/
def State.windowReg (s : State) (part off : Nat) : Nat :=
  let full := s.observes part
  let o := off % 4096
  match off / 4096 with
  | 0x00 => s.devReg o
  | 0x01 => s.ttReg full o
  | 0x02 => s.ingReg part full o
  | 0x03 => s.pltReg part full o
  | 0x04 => s.wchReg part full o
  | 0x05 => s.nrgReg part o
  | 0x06 => s.oscReg part full o
  | 0x07 => s.cohReg part full o
  | 0x08 => s.alcReg part full o
  | 0x09 => s.recReg part full o
  | 0x0A => s.schReg part full o
  | 0x0B => s.tbReg full o
  | 0x0C => s.hstReg part o
  | 0x10 => s.keyReg part full o
  | 0x11 => s.fltReg o
  | 0x12 => s.pwrReg o
  | 0x20 => if o < 1024 then (s.part part).msixWord (o / 4) else 0
  | 0x21 => if o == 0 then lowWord (s.part part).msixPending.toNat else if o == 4 then highWord (s.part part).msixPending.toNat else 0
  | w => if 0x18 ≤ w && w < 0x20 then s.prtReg part full ((off - 0x18000) / 1024) (off % 1024) else 0

/-- While a partition is ABSENT, and until start-up is done, only HST_ID reads (R401, Table 17-4). -/
def State.liveReg (s : State) (part off : Nat) : Nat :=
  if off == 0xC000 then s.hstId part
  else if (s.part part).state == .absent || !s.pwr.startupDone then 0 else s.windowReg part off

/-- Where a partition's shadow of a register is kept. -/
def shadowKey (part off : Nat) : Nat := 1048576 * part + off

/-- A captured register still reads as other than 0 in the partition. -/
def State.shadowSeen (s : State) (part off : Nat) : Bool :=
  match off / 4096 with
  | 0x05 => s.holds part kindPulseIn ((off - 0x5100) / 8)
  | 0x08 => s.reads part kindLogic 0 && s.observes part
  | 0x0B => decide (off < 0xB020) || s.observes part
  | _ => s.observes part

/-- One 32-bit read and what it leaves: a shadow serves one read; a read of TB_NOW_LO_n without a snapshot latches TB_NOW_HI_n (R367). -/
def State.readWord (s : State) (part off : Nat) : Nat × State :=
  let key := shadowKey part off
  let put := fun (t : Table Nat) => ({ s with hst := { s.hst with shadow := t } } : State)
  match tget key s.hst.shadow with
  | some v => (if s.shadowSeen part off then v else 0, put (tdel key s.hst.shadow))
  | none =>
    if 0xB000 ≤ off && off < 0xB020 && off % 8 == 0 && (s.part part).state != .absent && s.pwr.startupDone then
      (s.liveReg part off, put (tset (shadowKey part (off + 4)) (s.liveReg part (off + 4)) s.hst.shadow))
    else (s.liveReg part off, s)

/-- A read of 8, 16, 32 or 64 bits: a narrow one returns the bytes addressed, a wide one a pair from one instant. An unaligned read, or one of another
width, is not accepted and returns 0. -/
def State.barRead (s : State) (part off width : Nat) : Nat × State :=
  if width == 64 && off % 8 == 0 then
    let a := s.readWord part off
    let b := a.2.readWord part (off + 4)
    (a.1 + 4294967296 * b.1, b.2)
  else if (width == 32 && off % 4 == 0) || (width == 16 && off % 2 == 0) || width == 8 then
    let a := s.readWord part (off / 4 * 4)
    (a.1 / 2 ^ (8 * (off % 4)) % 2 ^ width, a.2)
  else (0, s)

end Sys2Proof.Machine
end

