-- ==== Sys2Proof/Machine/Registers.lean ====
section
/-!
DEFINITION. Writes of BAR0 registers, snapshots, and the one read that is a row (00_scope R15, R16, 14_hosts R401, R402, R431, R532, and every chapter's rule
on its registers).
-/
namespace Sys2Proof.Machine

/-! ## Snapshots (R532) -/

/-- Offsets of `n` registers from a base on. -/
def regOffsets (base n : Nat) : List Nat := (List.range n).map (fun i => base + 4 * i)

/-- Capture registers at one instant into the partition's shadow, in place of every unread one. -/
def State.snap (s : State) (part : Nat) (offs : List Nat) : State :=
  { s with hst := { s.hst with shadow := offs.foldl (fun t o => tset (shadowKey part o) (s.liveReg part o) t) s.hst.shadow } }

/-- A write of 1 to bit 0 of a snapshot register of a partition that has its BAR0. -/
def State.snapIf (s : State) (part value : Nat) (allowed : Bool) (offs : List Nat) : State :=
  if value.testBit 0 && allowed && s.barOpen part then s.snap part offs else s

def State.ingSnap (s : State) (part value : Nat) : State := s.snapIf part value (part == 0) (regOffsets 0x2040 13)
def State.pltSnap (s : State) (part value : Nat) : State := s.snapIf part value true (regOffsets 0x3040 8)
def State.wchSnap (s : State) (part value : Nat) : State := s.snapIf part value true (regOffsets 0x4040 12)
def State.nrgSnap (s : State) (part value : Nat) : State := s.snapIf part value true (regOffsets 0x5100 32)
def State.oscSnap (s : State) (part value : Nat) : State := s.snapIf part value true (regOffsets 0x6040 6)
def State.cohSnap (s : State) (part value : Nat) : State := s.snapIf part value true (regOffsets 0x7040 6)
def State.alcSnap (s : State) (part value : Nat) : State := s.snapIf part value true (regOffsets 0x8040 8)
def State.recSnap (s : State) (part value : Nat) : State := s.snapIf part value true (regOffsets 0x9040 7)
def State.schSnap (s : State) (part value : Nat) : State := s.snapIf part value true (regOffsets 0xA040 6)
def State.tbSnap (s : State) (part value : Nat) : State := s.snapIf part value true (regOffsets 0xB040 8)
def State.nowSnap (s : State) (part value : Nat) : State := s.snapIf part value true (regOffsets 0xB000 8)
def State.keySnap (s : State) (part value : Nat) : State := s.snapIf part value true (regOffsets 0x10040 10)
def State.prtSnap (s : State) (part port value : Nat) : State :=
  s.snapIf part value (decide (port < 24)) (regOffsets (0x18100 + 1024 * port) 55)

def execIngCntSnapWrite (t part value : Nat) (s : State) : Host.Outcome State Fault Refusal := event t s (fun s => s.ingSnap part value)
def execPltCntSnapWrite (t part value : Nat) (s : State) : Host.Outcome State Fault Refusal := event t s (fun s => s.pltSnap part value)
def execWchCntSnapWrite (t part value : Nat) (s : State) : Host.Outcome State Fault Refusal := event t s (fun s => s.wchSnap part value)
def execNrgSnapWrite (t part value : Nat) (s : State) : Host.Outcome State Fault Refusal := event t s (fun s => s.nrgSnap part value)
def execOscCntSnapWrite (t part value : Nat) (s : State) : Host.Outcome State Fault Refusal := event t s (fun s => s.oscSnap part value)
def execCohCntSnapWrite (t part value : Nat) (s : State) : Host.Outcome State Fault Refusal := event t s (fun s => s.cohSnap part value)
def execAlcCntSnapWrite (t part value : Nat) (s : State) : Host.Outcome State Fault Refusal := event t s (fun s => s.alcSnap part value)
def execRecCntSnapWrite (t part value : Nat) (s : State) : Host.Outcome State Fault Refusal := event t s (fun s => s.recSnap part value)
def execSchCntSnapWrite (t part value : Nat) (s : State) : Host.Outcome State Fault Refusal := event t s (fun s => s.schSnap part value)
def execTbCntSnapWrite (t part value : Nat) (s : State) : Host.Outcome State Fault Refusal := event t s (fun s => s.tbSnap part value)
def execTbNowSnapWrite (t part value : Nat) (s : State) : Host.Outcome State Fault Refusal := event t s (fun s => s.nowSnap part value)
def execKeyCntSnapWrite (t part value : Nat) (s : State) : Host.Outcome State Fault Refusal := event t s (fun s => s.keySnap part value)
def execPrtCntSnapWrite (t part port value : Nat) (s : State) : Host.Outcome State Fault Refusal := event t s (fun s => s.prtSnap part port value)

/-- A read of TB_NOW_LO_n: what it returns stands in `barValue`. -/
def State.nowRead (s : State) (part tb : Nat) : State :=
  if part < 8 && tb < 4 then
    let r := s.barRead part (0xB000 + 8 * tb) 32
    { r.2 with hst := { r.2.hst with barValue := r.1 } }
  else s

def execTbNowLoRead (t part tb : Nat) (s : State) : Host.Outcome State Fault Refusal := event t s (fun s => s.nowRead part tb)

/-! ## Latency monitors (01_architecture R39, R40) -/

/-- DEV_LATMON_CTRL: ENABLE is written, CLEAR sets every maximum to 0, OVER bits are cleared by 1; by the owner partition. What is measured in the tick of the
write stands after it (R40, 00_scope R16). -/
def State.latmonWrite (s : State) (part value : Nat) : State :=
  if part == 0 && s.barOpen part then
    { s with lat := { s.lat with
        enable := value.testBit 0
        max := if value.testBit 1 then (if s.lat.tick == s.now then s.lat.tickMax else []) else s.lat.max
        excess := maskOf ((List.range 6).map (fun i => s.lat.excess.testBit i
          && (!value.testBit (8 + i) || (s.lat.tick == s.now && s.lat.tickOver.testBit i)))) } }
  else s

def execLatmonClearWrite (t part value : Nat) (s : State) : Host.Outcome State Fault Refusal := event t s (fun s => s.latmonWrite part value)

/-! ## Trace ring (11_clusters R337) -/

/-- SCH_TRACE_CONS: a value that would make the free space exceed the ring is ignored. -/
def State.traceConsWrite (s : State) (part value : Nat) : State :=
  match tget part s.sch.traces with
  | none => s
  | some r =>
    let v := BitVec.ofNat 32 value
    if s.barOpen part && decide ((r.prod - v).toNat ≤ r.set.ringSize) then
      { s with sch := { s.sch with traces := tset part { r with cons := v } s.sch.traces } }
    else s

def execSchTraceConsWrite (t part value : Nat) (s : State) : Host.Outcome State Fault Refusal := event t s (fun s => s.traceConsWrite part value)

/-! ## Fields cleared by writing 1, one window at a time -/

/-- The bits of a 32-bit register that a write leaves set, from its number within the array. -/
def keptBit (value i : Nat) : Bool := !value.testBit i

/-- A mark kept per partition is taken away by the bit that shows it. -/
def unmark (part value bit : Nat) (l : List Nat) : List Nat := if value.testBit bit then l.filter (· != part) else l

def State.wchWrite (s : State) (part o value : Nat) : State :=
  if o == 0x03C then s.wchSnap part value
  else if inArray o 0x200 64 4 then
    let g := (o - 0x200) / 4
    { s with wch := { s.wch with cmps := tmap (fun n (c : Cmp) =>
        if n / 32 == g && s.holds part kindUnit (n / 8) && value.testBit (n % 32) then { c with changed := false } else c) s.wch.cmps } }
  else s

def State.nrgWrite (s : State) (part o value : Nat) : State :=
  if o == 0x03C then s.nrgSnap part value
  else if o == 0x000 then
    { s with nrg := { s.nrg with gapSeen := unmark part value 1 s.nrg.gapSeen, mismatchSeen := unmark part value 2 s.nrg.mismatchSeen
                                 accFaultSeen := unmark part value 3 s.nrg.accFaultSeen } }
  else if inArray o 0x200 8 4 then
    let n := (o - 0x200) / 4
    { s with nrg := { s.nrg with pos := tmap (fun i (p : PulseOut) =>
        if i == n && s.holds part kindPulseOut n && value.testBit 17 then { p with lostSeen := false } else p) s.nrg.pos } }
  else s

def State.oscWrite (s : State) (part o value : Nat) : State :=
  if o == 0x03C then s.oscSnap part value
  else if o == 0x000 then
    { s with osc := { s.osc with overrunSeen := s.osc.overrunSeen && !(value.testBit 4 && s.holds part kindModal 0) } }
  else if inArray o 0x200 64 4 then
    let g := (o - 0x200) / 4
    { s with osc := { s.osc with dets := tmap (fun n (d : Detector) =>
        if n / 32 == g && s.holds part kindDetector n && value.testBit (n % 32) then { d with changed := false } else d) s.osc.dets } }
  else s

def State.cohWrite (s : State) (part o value : Nat) : State :=
  if o == 0x03C then s.cohSnap part value
  else if o == 0x000 then
    { s with coh := { s.coh with discardSeen := s.coh.discardSeen && !(value.testBit 4 && s.holds part kindCoherency 0) } }
  else s

def State.alcWrite (s : State) (part o value : Nat) : State :=
  if o == 0x03C then s.alcSnap part value
  else if !s.holds part kindLogic 0 then s
  else if o == 0x000 then
    { s with alcx := { s.alcx with overSeen := s.alcx.overSeen && !value.testBit 8, fallbackSeen := s.alcx.fallbackSeen && !value.testBit 9
                                   ckptFailSeen := s.alcx.ckptFailSeen && !value.testBit 10 } }
  else if o == 0x010 then
    { s with alc := { s.alc with readbackErr := maskOf ((List.range 8).map (fun i => s.alc.readbackErr.testBit i && !value.testBit (24 + i))) } }
  else s

def State.recWrite (s : State) (part o value : Nat) : State :=
  if o == 0x03C then s.recSnap part value
  else if inArray o 0x100 64 4 then
    let n := (o - 0x100) / 4
    { s with rcd := { s.rcd with recs := tmap (fun i (r : Rec) =>
        if i == n && s.holds part kindRecorder n && value.testBit 3 then { r with missedSeen := false } else r) s.rcd.recs } }
  else if inArray o 0x400 64 8 && o % 8 == 4 then s.recConsWrite part ((o - 0x400) / 8) value
  else s

def State.schWrite (s : State) (part o value : Nat) : State :=
  if o == 0x03C then s.schSnap part value
  else if o == 0x304 then s.traceConsWrite part value
  else if o == 0x000 && part == 0 then
    { s with sch := { s.sch with holdSeen := s.sch.holdSeen && !value.testBit 16, restartSeen := s.sch.restartSeen && !value.testBit 17
                                 gateFaultSeen := s.sch.gateFaultSeen && !value.testBit 18 } }
  else s

def State.keyRegWrite (s : State) (part o value : Nat) : State :=
  if o == 0x03C then s.keySnap part value
  else if o == 0x000 && part == 0 then
    { s with sec := { s.sec with updateLostSeen := s.sec.updateLostSeen && !value.testBit 5, signMissingSeen := s.sec.signMissingSeen && !value.testBit 6 } }
  else s

def State.pwrWrite (s : State) (part o value : Nat) : State :=
  if o == 0x008 then s.wakeWrite part value
  else if o == 0x000 && part == 0 then
    { s with pwr := { s.pwr with pfwSeen := s.pwr.pfwSeen && !value.testBit 4, wakeRefused := s.pwr.wakeRefused && !value.testBit 5 } }
  else s

/-- FORGET_MS: 0 is read as 400, above 4,000 as 4,000. -/
def forgetOf (v : Nat) : Nat := if v % 65536 == 0 then 400 else Nat.min 4000 (v % 65536)

def State.ingWrite (s : State) (part o value : Nat) : State :=
  if part != 0 then s
  else if o == 0x03C then s.ingSnap part value
  else if o == 0x000 then { s with ing := { s.ing with unknownToHost := value % 16777216 } }
  else if o == 0x004 then { s with ing := { s.ing with authFailSeen := unmark part value 2 s.ing.authFailSeen } }
  else if o == 0x008 then { s with ing := { s.ing with forgetMs := forgetOf value } }
  else s

def State.pltRegWrite (s : State) (part o value : Nat) : State :=
  if o == 0x03C then s.pltSnap part value
  else if o == 0x000 then
    { s with plt := { s.plt with overrunSeen := unmark part value 1 s.plt.overrunSeen, dupSeen := unmark part value 2 s.plt.dupSeen } }
  else if inArray o 0x200 4 8 && o % 8 == 4 then s.ringConsWrite part ((o - 0x200) / 8) value
  else s

def State.ttWrite (s : State) (part o value : Nat) : State :=
  if part == 0 && o == 0x004 then { s with tt := { s.tt with shedSeen := s.tt.shedSeen && !value.testBit 2 } } else s

def State.prtWrite (s : State) (part p o value : Nat) : State :=
  if 23 < p then s
  else if o == 0x03C then s.prtSnap part p value
  else if o == 0x300 then s.rxTailWrite part p { tail := value, bufs := [] }
  else if o == 0x000 && part == 0 then
    s.modPort p (fun x => { x with rxDropSeen := x.rxDropSeen && !value.testBit 8, ringEmptySeen := x.ringEmptySeen && !value.testBit 9
                                   txDropSeen := x.txDropSeen && !value.testBit 10, linkDownSeen := x.linkDownSeen && !value.testBit 11 })
  else s

/-! ## HST_ registers and the MSI-X table (R411, R429, R431) -/

/-- HOLDOFF_US as it is read: 10 to 100,000. -/
def holdoffOf (v : Nat) : Nat := Nat.min 100000 (Nat.max 10 (v % 131072))

/-- One half of a 64-bit address. -/
def setLow (a : W64) (v : Nat) : W64 := BitVec.ofNat 64 (highWord a.toNat * 4294967296 + lowWord v)
def setHigh (a : W64) (v : Nat) : W64 := BitVec.ofNat 64 (lowWord v * 4294967296 + lowWord a.toNat)

/-- The routing bytes of a word: vector in bits [5:0], ENABLE in bit 7, bit 6 reserved. -/
def setRoutes (t : Table Nat) (n value count : Nat) : Table Nat :=
  (List.range 4).foldl (fun t k =>
    let b := value / 2 ^ (8 * k) % 256
    if 4 * n + k < count then tset (4 * n + k) (b % 64 + b / 128 * 128) t else t) t

/-- An address or size register, ignored while ENABLE is 1. -/
def QueueRegs.write (q : QueueRegs) (o value : Nat) : QueueRegs :=
  if q.enable then q
  else if o == 0x010 then { q with sqAddr := setLow q.sqAddr value }
  else if o == 0x014 then { q with sqAddr := setHigh q.sqAddr value }
  else if o == 0x018 then { q with sqSize := BitVec.ofNat 32 value }
  else if o == 0x030 then { q with rqAddr := setLow q.rqAddr value }
  else if o == 0x034 then { q with rqAddr := setHigh q.rqAddr value }
  else if o == 0x038 then { q with rqSize := BitVec.ofNat 32 value }
  else if o == 0x050 then { q with wbAddr := setLow q.wbAddr value }
  else if o == 0x054 then { q with wbAddr := setHigh q.wbAddr value }
  else q

def State.hstWrite (s : State) (part o value : Nat) : State :=
  if o == 0x004 then
    s.modPart part (fun p => { p with q := { p.q with cmdqErr := p.q.cmdqErr && !value.testBit 1, dmaErr := p.q.dmaErr && !value.testBit 5 } })
  else if o == 0x01C then s.sqTailWrite part (BitVec.ofNat 32 value)
  else if o == 0x040 then s.rqHeadWrite part (BitVec.ofNat 32 value)
  else if o == 0x060 then (if value.testBit 0 then s.queueEnable part else s.queueDisable part)
  else if o == 0x074 then s.evtConsWrite part (BitVec.ofNat 32 value)
  else if o == 0x078 then s.modPart part (fun p => { p with ev := { p.ev with holdoffUs := holdoffOf value } })
  else if inArray o 0x080 3 4 then s.modPart part (fun p => { p with ev := { p.ev with ringRoute := setRoutes p.ev.ringRoute ((o - 0x080) / 4) value 9 } })
  else if inArray o 0x100 128 4 then s.modPart part (fun p => { p with ev := { p.ev with route := setRoutes p.ev.route ((o - 0x100) / 4) value 512 } })
  else s.modPart part (fun p => { p with q := p.q.write o value })

/-- A word of the MSI-X table; of the vector control word only the mask bit is kept. Unmasking a pending vector sends it. -/
def State.msixWrite (s : State) (part i value : Nat) : State :=
  let v := if i % 4 == 3 then value % 2 else if i % 4 == 0 then value / 4 * 4 else value
  let s1 := s.modPart part (fun p => { p with msixTable := tset i (BitVec.ofNat 32 v) p.msixTable })
  let n := i / 4
  if i % 4 == 3 && v == 0 && (s1.part part).msixPending.getLsbD n then
    let s2 := s1.modPart part (fun p => { p with msixPending := p.msixPending &&& ~~~BitVec.ofNat 64 (2 ^ n) })
    { s2 with hst := { s2.hst with msix := (part, n) :: s2.hst.msix } }
  else s1

/-! ## REGISTER_WRITE -/

/-- One 32-bit write. A register that has a row of its own is written as by that row; the frames of PRT_TX_TAIL and the buffers of PRT_RX_TAIL come only with
their rows. -/
def State.writeWord (s : State) (part off value : Nat) : State :=
  let o := off % 4096
  match off / 4096 with
  | 0x00 => if o == 0x200 then s.latmonWrite part value else s
  | 0x01 => s.ttWrite part o value
  | 0x02 => s.ingWrite part o value
  | 0x03 => s.pltRegWrite part o value
  | 0x04 => s.wchWrite part o value
  | 0x05 => s.nrgWrite part o value
  | 0x06 => s.oscWrite part o value
  | 0x07 => s.cohWrite part o value
  | 0x08 => s.alcWrite part o value
  | 0x09 => s.recWrite part o value
  | 0x0A => s.schWrite part o value
  | 0x0B => if o == 0x020 then s.nowSnap part value else if o == 0x03C then s.tbSnap part value else s
  | 0x0C => s.hstWrite part o value
  | 0x10 => s.keyRegWrite part o value
  | 0x12 => s.pwrWrite part o value
  | 0x20 => if o < 1024 then s.msixWrite part (o / 4) value else s
  | w => if 0x18 ≤ w && w < 0x20 then s.prtWrite part ((off - 0x18000) / 1024) (off % 1024) value else s

/-- Rows at one stamp are in order: what an earlier row set precedes the access and is cleared by it, what a later row sets stays set (R16; DESIGN CHOICE: log
entry 123). An aligned write of 32 or 64 bits, the low word first; another is ignored (R402), as is every write to a partition without its BAR0 (R401). -/
def State.barWrite (s : State) (part off width value : Nat) : State :=
  if !s.barOpen part then s
  else if width == 32 && off % 4 == 0 then s.writeWord part off (lowWord value)
  else if width == 64 && off % 8 == 0 then (s.writeWord part off (lowWord value)).writeWord part (off + 4) (highWord value)
  else s

def execRegisterWrite (t part offset width value : Nat) (s : State) : Host.Outcome State Fault Refusal :=
  event t s (fun s => s.barWrite part offset width value)

end Sys2Proof.Machine
end

