-- ==== Sys2Proof/Machine/Scans.lean ====
section
/-!
DEFINITION. The events of the logic pair (09_alarm_logic): triggers, the end of a scan, the watchdog, repeats of datasets, readback, and
checkpoints.
-/
namespace Sys2Proof.Machine

/-! ## Triggers (R269, R272) -/

/-- S3 of a departure of the trigger group is complete: a trigger, and the figure of the latency monitor of stage S3. -/
def State.departureTrigger (s : State) (group instant : Nat) (x : ScanStart) : State :=
  match s.alc.setting, (s.group group).bind (fun g => g.released.find? (fun e => e.1 == instant)) with
  | some st, some rel =>
    if st.trig == 0 && st.group == group then
      let snap := ((s.alc.decided.find? (fun d => d.inst == instant)).map (·.vals)).getD []
      let s1 : State := { s with alc := { s.alc with decided := s.alc.decided.filter (fun d => decide (instant < d.inst)) } }
      (s1.latency 3 (s.now - rel.2.1) (some 1000000)).scanTrigger { byGroup := some group, instant, snap } x
    else s
  | _, _ => s

def execScanTriggerDeparture (t group instant : Nat) (x : ScanStart) (s : State) : Host.Outcome State Fault Refusal :=
  event t s (fun s => if s.fabricUp then s.departureTrigger group instant x else s)

/-- A tick of PERIOD_US, counted from the latest transition to RUN. -/
def State.periodicTrigger (s : State) (x : ScanStart) : State :=
  match s.alc.setting, s.alcx.runStamp with
  | some st, some r =>
    if st.trig == 1 && r < s.now && (s.now - r) % Nat.max (1000 * st.periodUs) 1 == 0 then s.scanTrigger { byGroup := none, instant := s.now } x else s
  | _, _ => s

def execScanTriggerPeriodic (t : Nat) (x : ScanStart) (s : State) : Host.Outcome State Fault Refusal :=
  event t s (fun s => if s.fabricUp then s.periodicTrigger x else s)

/-! ## The end of a scan -/

/-- Both controllers have finished; neither stands at a site. -/
def execScanEnd (t : Nat) (r : ScanResult) (x : ScanStart) (s : State) : Host.Outcome State Fault Refusal :=
  event t s (fun s =>
    match s.alc.scan, s.alc.active with
    | some c, some im =>
      if s.fabricUp && s.alc.state == .run && c.sites.a.isNone && c.sites.b.isNone then s.scanEnds c im r x else s
    | _, _ => s)

/-- t_s + 2 × B has passed before both controllers have finished; the watchdog is suspended in HOLD. -/
def execScanWatchdog (t : Nat) (s : State) : Host.Outcome State Fault Refusal :=
  event t s (fun s =>
    match s.alc.scan with
    | some c => if s.fabricUp && s.alc.state == .run && c.ts + c.haltNs + 2000 * c.budgetUs ≤ s.now then s.scanLate c else s
    | none => s)

/-! ## Repeats (R266, R267) -/

/-- The next repeat of a dataset. While a force is active that the last frame did not show, the frame carries test TRUE and is a change (R266, R267). -/
def State.gooseRepeat (s : State) (n : Nat) (e : AlcPub) : State :=
  let q := tgetD n {} s.alc.pubs
  if s.forceInd && !q.test then s.publish n e q.members true none
  else
  let i := Nat.min (2 * q.intervalMs) e.maxMs
  let q' : PubState := { q with sqNum := nextSqNum q.sqNum, intervalMs := i, nextAt := q.nextAt + 1000000 * i }
  ({ s with alc := { s.alc with pubs := tset n q' s.alc.pubs } }).pubFrame n e none

def execGooseRepeat (t dataset : Nat) (s : State) : Host.Outcome State Fault Refusal :=
  event t s (fun s =>
    match (s.alc.active.bind (fun im => im.pubs[dataset]?)), tget dataset s.alc.pubs with
    | some e, some q =>
      if s.fabricUp && s.alc.state != .noProgram && q.published && q.nextAt ≤ s.now then s.gooseRepeat dataset e else s
    | _, _ => s)

/-! ## Readback (R264) -/

/-- A pin differs from its driven level for more than 100 µs. -/
def execAlReadbackMismatch (t n : Nat) (s : State) : Host.Outcome State Fault Refusal :=
  event t s (fun s =>
    if s.fabricUp && n < 8 then
      let s1 : State := { s with alc := { s.alc with readbackErr := s.alc.readbackErr ||| 2 ^ n, readbackBad := s.alc.readbackBad ||| 2 ^ n } }
      (s1.free.2.fault 62 s1.free.1 (s1.holder kindLogic 0)).alcSettle 62
    else s)

/-- The pin follows its driven level again. -/
def execAlReadbackRestored (t n : Nat) (s : State) : Host.Outcome State Fault Refusal :=
  event t s (fun s =>
    if s.fabricUp && s.alc.readbackBad.testBit n then
      let bad := s.alc.readbackBad - 2 ^ n
      let s1 : State := { s with alc := { s.alc with readbackBad := bad } }
      if bad == 0 then s1.faultClear 62 else s1
    else s)

/-! ## Checkpoints (R281) -/

/-- A 10 s mark counted from the transition to RUN. -/
def execCheckpointPeriodic (t : Nat) (s : State) : Host.Outcome State Fault Refusal :=
  event t s (fun s =>
    if s.fabricUp && s.alc.state == .run && s.alcx.runStamp.any (fun r => r < s.now && (s.now - r) % 10000000000 == 0) then s.ckptWant .periodic
    else s)

/-- A write ends. It goes on under PFW_N and on the way into Stabled. -/
def execCheckpointWriteDone (t : Nat) (ok : Bool) (s : State) : Host.Outcome State Fault Refusal :=
  event t s (fun s => if s.pwr.startupDone then (s.ckptDone ok).stopExchange else s)

end Sys2Proof.Machine
end

