-- ==== Sys2Proof/Machine/TestPort.lean ====
section
/-!
DEFINITION. The test port (18_package R518). The controller and its registers are those of IEEE 1149.1 (PRESUMED): the manual names the standard and gives
no more.
-/
namespace Sys2Proof.Machine

/-- The controller's next state at a rising edge of TCK. -/
def tapNext (x : TapState) (tms : Bool) : TapState :=
  match x, tms with
  | .testLogicReset, true => .testLogicReset
  | .testLogicReset, false => .runTestIdle
  | .runTestIdle, true => .selectDr
  | .runTestIdle, false => .runTestIdle
  | .selectDr, true => .selectIr
  | .selectDr, false => .captureDr
  | .captureDr, true => .exit1Dr
  | .captureDr, false => .shiftDr
  | .shiftDr, true => .exit1Dr
  | .shiftDr, false => .shiftDr
  | .exit1Dr, true => .updateDr
  | .exit1Dr, false => .pauseDr
  | .pauseDr, true => .exit2Dr
  | .pauseDr, false => .pauseDr
  | .exit2Dr, true => .updateDr
  | .exit2Dr, false => .shiftDr
  | .updateDr, true => .selectDr
  | .updateDr, false => .runTestIdle
  | .selectIr, true => .testLogicReset
  | .selectIr, false => .captureIr
  | .captureIr, true => .exit1Ir
  | .captureIr, false => .shiftIr
  | .shiftIr, true => .exit1Ir
  | .shiftIr, false => .shiftIr
  | .exit1Ir, true => .updateIr
  | .exit1Ir, false => .pauseIr
  | .pauseIr, true => .exit2Ir
  | .pauseIr, false => .pauseIr
  | .exit2Ir, true => .updateIr
  | .exit2Ir, false => .shiftIr
  | .updateIr, true => .selectDr
  | .updateIr, false => .runTestIdle

/-- R518: boundary scan is offered in BLANK, PERSONALISED and RETURNED. -/
def State.boundaryScan (s : State) : Bool := s.sec.life != .deployed && s.sec.life != .retired

/-- The instruction of a code: all ones is BYPASS, as is every code that is not served. -/
def State.tapDecode (s : State) (ir : List Bool) : TapInstr :=
  if ir.all id then .bypass
  else if ir == Config.tapIdcodeIr then .idcode
  else if Config.tapBoundaryIr ir && s.boundaryScan then .boundary (ir.foldr (fun b n => 2 * n + if b then 1 else 0) 0)
  else .bypass

/-- A boundary scan instruction that the life-cycle state no longer offers is BYPASS. -/
def State.tapInstr (s : State) : TapInstr :=
  match s.tap.instr with
  | .boundary c => if s.boundaryScan then .boundary c else .bypass
  | i => i

/-- What Capture-DR takes, bit 0 first, and the uses of free values it makes. -/
def State.tapCapture (s : State) : List Bool × Nat :=
  match s.tapInstr with
  | .bypass => ([false], 0)
  | .idcode => (true :: (List.range 31).map (fun i => Config.tapIdcode.getLsbD i), 0)
  | .boundary _ => ((List.range Config.tapCells).map (Config.tapPins s.freeCount), 1)

/-- Shift a register by one: TDI enters at its far end. -/
def tapShift (r : List Bool) (tdi : Bool) : List Bool := r.drop 1 ++ [tdi]

/-- What the rising edge does in the present state. -/
def State.tapRise (s : State) (tdi : Bool) : State :=
  match s.tap.state with
  | .captureDr =>
    let c := s.tapCapture
    { s with freeCount := s.freeCount + c.2, tap := { s.tap with drShift := c.1 } }
  | .shiftDr => { s with tap := { s.tap with drShift := tapShift s.tap.drShift tdi } }
  | .captureIr => { s with tap := { s.tap with irShift := true :: false :: Config.tapIrCapture.take Config.tapIrExtra } }
  | .shiftIr => { s with tap := { s.tap with irShift := tapShift s.tap.irShift tdi } }
  | _ => s

/-- What the falling edge does in the state that was entered: updates, and TDO. -/
def State.tapFall (s : State) : State :=
  match s.tap.state with
  | .testLogicReset => { s with tap := { s.tap with instr := .idcode, tdo := none } }
  | .updateIr => { s with tap := { s.tap with instr := s.tapDecode s.tap.irShift, tdo := none } }
  | .updateDr =>
    match s.tapInstr with
    | .boundary _ => { s with tap := { s.tap with pins := s.tap.drShift, tdo := none } }
    | _ => { s with tap := { s.tap with tdo := none } }
  | .shiftDr => { s with tap := { s.tap with tdo := s.tap.drShift.head? } }
  | .shiftIr => { s with tap := { s.tap with tdo := s.tap.irShift.head? } }
  | _ => { s with tap := { s.tap with tdo := none } }

/-- One cycle of TCK; TRST_N low holds the test port reset. -/
def State.tapCycle (s : State) (trst tms tdi : Bool) : State :=
  if trst then { s with tap := {} }
  else
    let s1 := s.tapRise tdi
    ({ s1 with tap := { s1.tap with state := tapNext s.tap.state tms } }).tapFall

def execTestPortAccess (t : Nat) (trst tms tdi : Bool) (s : State) : Host.Outcome State Fault Refusal := event t s (fun s => s.tapCycle trst tms tdi)

end Sys2Proof.Machine
end

