-- ==== Sys2Proof/Machine/Dispatch.lean ====
section
/-!
DEFINITION. Which meaning each command or event has.
-/
namespace Sys2Proof.Machine

def exec (i : Instr) (s : State) : Host.Outcome State Fault Refusal :=
  match i with
  | .devIdentify h => Sys2Proof.Machine.execDevIdentify h s
  | .hstPartCreate h p => Sys2Proof.Machine.execHstPartCreate h p s
  | .hstPartDelete h p => Sys2Proof.Machine.execHstPartDelete h p s
  | .hstPartReset h p => Sys2Proof.Machine.execHstPartReset h p s
  | .hstGrant h p => Sys2Proof.Machine.execHstGrant h p s
  | .hstShareSet h p => Sys2Proof.Machine.execHstShareSet h p s
  | .hstPrivSet h p => Sys2Proof.Machine.execHstPrivSet h p s
  | .hstRoShare h p => Sys2Proof.Machine.execHstRoShare h p s
  | .hstGrantQuery h p => Sys2Proof.Machine.execHstGrantQuery h p s
  | .hstEvtRingSet h p => Sys2Proof.Machine.execHstEvtRingSet h p s
  | .hstInbandSet h p => Sys2Proof.Machine.execHstInbandSet h p s
  | .devReset h kind => Sys2Proof.Machine.execDevReset h kind s
  | .hstStageWrite h offset len data => Sys2Proof.Machine.execHstStageWrite h offset len data s
  | .hstStageRead h offset len => Sys2Proof.Machine.execHstStageRead h offset len s
  | .hstNop h data => Sys2Proof.Machine.execHstNop h data s
  | .ttPropose h p => Sys2Proof.Machine.execTtPropose h p s
  | .ttRelease h contract => Sys2Proof.Machine.execTtRelease h contract s
  | .ttQuery h contract => Sys2Proof.Machine.execTtQuery h contract s
  | .ttReplace h p => Sys2Proof.Machine.execTtReplace h p s
  | .ttSetProfile h p => Sys2Proof.Machine.execTtSetProfile h p s
  | .ttCheckRemoval h cluster => Sys2Proof.Machine.execTtCheckRemoval h cluster s
  | .ttList h p => Sys2Proof.Machine.execTtList h p s
  | .ingSubSet h p => Sys2Proof.Machine.execIngSubSet h p s
  | .ingSubClear h stream => Sys2Proof.Machine.execIngSubClear h stream s
  | .ingSetLayout h p => Sys2Proof.Machine.execIngSetLayout h p s
  | .ingPmuCmd h p => Sys2Proof.Machine.execIngPmuCmd h p s
  | .ingGetConfig h p => Sys2Proof.Machine.execIngGetConfig h p s
  | .ingStreamStats h p => Sys2Proof.Machine.execIngStreamStats h p s
  | .ingGooseSub h p => Sys2Proof.Machine.execIngGooseSub h p s
  | .pltGroupSet h p => Sys2Proof.Machine.execPltGroupSet h p s
  | .pltGroupQuery h group => Sys2Proof.Machine.execPltGroupQuery h group s
  | .pltChanPolicy h p => Sys2Proof.Machine.execPltChanPolicy h p s
  | .pltRingSet h p => Sys2Proof.Machine.execPltRingSet h p s
  | .pltOutSet h p => Sys2Proof.Machine.execPltOutSet h p s
  | .pltOutMap h p => Sys2Proof.Machine.execPltOutMap h p s
  | .pltHistoryRead h p => Sys2Proof.Machine.execPltHistoryRead h p s
  | .wchUnitSet h p => Sys2Proof.Machine.execWchUnitSet h p s
  | .wchUnitQuery h unit => Sys2Proof.Machine.execWchUnitQuery h unit s
  | .wchCmpSet h p => Sys2Proof.Machine.execWchCmpSet h p s
  | .wchCmpRead h p => Sys2Proof.Machine.execWchCmpRead h p s
  | .wchHxSet h p => Sys2Proof.Machine.execWchHxSet h p s
  | .nrgPointSet h p => Sys2Proof.Machine.execNrgPointSet h p s
  | .nrgPointRead h mp => Sys2Proof.Machine.execNrgPointRead h mp s
  | .nrgAccClear h mp => Sys2Proof.Machine.execNrgAccClear h mp s
  | .nrgPiSet h p => Sys2Proof.Machine.execNrgPiSet h p s
  | .nrgPoSet h p => Sys2Proof.Machine.execNrgPoSet h p s
  | .oscDetSet h p => Sys2Proof.Machine.execOscDetSet h p s
  | .oscDetRead h p => Sys2Proof.Machine.execOscDetRead h p s
  | .oscModalSet h p => Sys2Proof.Machine.execOscModalSet h p s
  | .oscSigSet h p => Sys2Proof.Machine.execOscSigSet h p s
  | .oscModeRead h p => Sys2Proof.Machine.execOscModeRead h p s
  | .cohSet h p => Sys2Proof.Machine.execCohSet h p s
  | .cohBusSet h p => Sys2Proof.Machine.execCohBusSet h p s
  | .cohIslandRead h p => Sys2Proof.Machine.execCohIslandRead h p s
  | .cohBusRead h p => Sys2Proof.Machine.execCohBusRead h p s
  | .alcLoad h p => Sys2Proof.Machine.execAlcLoad h p s
  | .alcExchange h dryRun => Sys2Proof.Machine.execAlcExchange h dryRun s
  | .alcMode h p => Sys2Proof.Machine.execAlcMode h p s
  | .alcScanSet h p => Sys2Proof.Machine.execAlcScanSet h p s
  | .alcForce h p => Sys2Proof.Machine.execAlcForce h p s
  | .alcBreak h p => Sys2Proof.Machine.execAlcBreak h p s
  | .alcQuery h => Sys2Proof.Machine.execAlcQuery h s
  | .alcVarRead h p => Sys2Proof.Machine.execAlcVarRead h p s
  | .alcCheckpoint h => Sys2Proof.Machine.execAlcCheckpoint h s
  | .recSet h p => Sys2Proof.Machine.execRecSet h p s
  | .recChanSet h p => Sys2Proof.Machine.execRecChanSet h p s
  | .recCondSet h p => Sys2Proof.Machine.execRecCondSet h p s
  | .recArm h p => Sys2Proof.Machine.execRecArm h p s
  | .recQuery h rcd => Sys2Proof.Machine.execRecQuery h rcd s
  | .recExport h p => Sys2Proof.Machine.execRecExport h p s
  | .recRelease h p => Sys2Proof.Machine.execRecRelease h p s
  | .recStreamSet h p => Sys2Proof.Machine.execRecStreamSet h p s
  | .schDrain h p => Sys2Proof.Machine.execSchDrain h p s
  | .schRejoin h p => Sys2Proof.Machine.execSchRejoin h p s
  | .schRetire h p => Sys2Proof.Machine.execSchRetire h p s
  | .schTraceSet h p => Sys2Proof.Machine.execSchTraceSet h p s
  | .schObsRead h p => Sys2Proof.Machine.execSchObsRead h p s
  | .tbRefSet h p => Sys2Proof.Machine.execTbRefSet h p s
  | .tbSet h p => Sys2Proof.Machine.execTbSet h p s
  | .tbPtpSet h p => Sys2Proof.Machine.execTbPtpSet h p s
  | .tbRestep h p => Sys2Proof.Machine.execTbRestep h p s
  | .tbTodSet h p => Sys2Proof.Machine.execTbTodSet h p s
  | .tbPortDelaySet h p => Sys2Proof.Machine.execTbPortDelaySet h p s
  | .tbQuery h base => Sys2Proof.Machine.execTbQuery h base s
  | .prtModeSet h p => Sys2Proof.Machine.execPrtModeSet h p s
  | .prtAddrSet h p => Sys2Proof.Machine.execPrtAddrSet h p s
  | .prtFilterSet h p => Sys2Proof.Machine.execPrtFilterSet h p s
  | .prtRxringSet h p => Sys2Proof.Machine.execPrtRxringSet h p s
  | .prtTxringSet h p => Sys2Proof.Machine.execPrtTxringSet h p s
  | .prtTxqSet h p => Sys2Proof.Machine.execPrtTxqSet h p s
  | .prtQuery h port => Sys2Proof.Machine.execPrtQuery h port s
  | .prtCntRead h port => Sys2Proof.Machine.execPrtCntRead h port s
  | .keyImport h p => Sys2Proof.Machine.execKeyImport h p s
  | .keyGenerate h p => Sys2Proof.Machine.execKeyGenerate h p s
  | .keyDerive h p => Sys2Proof.Machine.execKeyDerive h p s
  | .keyWrap h p => Sys2Proof.Machine.execKeyWrap h p s
  | .keyDelete h p => Sys2Proof.Machine.execKeyDelete h p s
  | .keyQuery h slot => Sys2Proof.Machine.execKeyQuery h slot s
  | .attQuote h nonce => Sys2Proof.Machine.execAttQuote h nonce s
  | .attRespond h p => Sys2Proof.Machine.execAttRespond h p s
  | .lcTransition h p => Sys2Proof.Machine.execLcTransition h p s
  | .tamperClear h p => Sys2Proof.Machine.execTamperClear h p s
  | .logRead h p => Sys2Proof.Machine.execLogRead h p s
  | .fltRead h => Sys2Proof.Machine.execFltRead h s
  | .fltAck h p => Sys2Proof.Machine.execFltAck h p s
  | .fltInject h p => Sys2Proof.Machine.execFltInject h p s
  | .fltHistory h p => Sys2Proof.Machine.execFltHistory h p s
  | .fltSelftest h parts => Sys2Proof.Machine.execFltSelftest h parts s
  | .fltSet h p => Sys2Proof.Machine.execFltSet h p s
  | .pwrStabled h force => Sys2Proof.Machine.execPwrStabled h force s
  | .pwrWake h => Sys2Proof.Machine.execPwrWake h s
  | .pwrQuery h => Sys2Proof.Machine.execPwrQuery h s
  | .fwLoad h p => Sys2Proof.Machine.execFwLoad h p s
  | .fwClusterUpdate h cluster => Sys2Proof.Machine.execFwClusterUpdate h cluster s
  | .fwSwitch h op => Sys2Proof.Machine.execFwSwitch h op s
  | .cfgLoad h p => Sys2Proof.Machine.execCfgLoad h p s
  | .cfgRead h p => Sys2Proof.Machine.execCfgRead h p s
  | .q31StreamAdd h p => Sys2Proof.Machine.execQ31StreamAdd h p s
  | .q31StreamRemove h stream => Sys2Proof.Machine.execQ31StreamRemove h stream s
  | .q31StreamQuery h stream => Sys2Proof.Machine.execQ31StreamQuery h stream s
  | .q31LoadRead h => Sys2Proof.Machine.execQ31LoadRead h s
  | .q31Rebalance h => Sys2Proof.Machine.execQ31Rebalance h s
  | .malformedPacket h opcode => Sys2Proof.Machine.execMalformedPacket h opcode s
  | .unknownOpcode h opcode => Sys2Proof.Machine.execUnknownOpcode h opcode s
  | .pendingReply t part tag => Sys2Proof.Machine.execPendingReply t part tag s
  | .inbandMessage t m => Sys2Proof.Machine.execInbandMessage t m s
  | .spiWriteMessage t m => Sys2Proof.Machine.execSpiWriteMessage t m s
  | .spiReadReply t => Sys2Proof.Machine.execSpiReadReply t s
  | .spiReadStatus t => Sys2Proof.Machine.execSpiReadStatus t s
  | .spiSessionTimeout t => Sys2Proof.Machine.execSpiSessionTimeout t s
  | .eventHoldoffEnd t part source => Sys2Proof.Machine.execEventHoldoffEnd t part source s
  | .pcieFlr t part => Sys2Proof.Machine.execPcieFlr t part s
  | .pcieLinkReset t => Sys2Proof.Machine.execPcieLinkReset t s
  | .dmaCompletionError t part target => Sys2Proof.Machine.execDmaCompletionError t part target s
  | .dmaCopyDone t part tag => Sys2Proof.Machine.execDmaCopyDone t part tag s
  | .hstSqTailWrite t part value => Sys2Proof.Machine.execHstSqTailWrite t part value s
  | .hstRqHeadWrite t part value => Sys2Proof.Machine.execHstRqHeadWrite t part value s
  | .hstEvtConsWrite t part value => Sys2Proof.Machine.execHstEvtConsWrite t part value s
  | .hstQueueEnable t part => Sys2Proof.Machine.execHstQueueEnable t part s
  | .hstQueueDisable t part => Sys2Proof.Machine.execHstQueueDisable t part s
  | .pltRingConsWrite t part ring value => Sys2Proof.Machine.execPltRingConsWrite t part ring value s
  | .recStreamConsWrite t part rcd value => Sys2Proof.Machine.execRecStreamConsWrite t part rcd value s
  | .schTraceConsWrite t part value => Sys2Proof.Machine.execSchTraceConsWrite t part value s
  | .prtRxTailWrite t part port post => Sys2Proof.Machine.execPrtRxTailWrite t part port post s
  | .prtTxTailWrite t part port value descs => Sys2Proof.Machine.execPrtTxTailWrite t part port value descs s
  | .pwrCtrlWakeWrite t part value => Sys2Proof.Machine.execPwrCtrlWakeWrite t part value s
  | .latmonClearWrite t part value => Sys2Proof.Machine.execLatmonClearWrite t part value s
  | .ingCntSnapWrite t part value => Sys2Proof.Machine.execIngCntSnapWrite t part value s
  | .pltCntSnapWrite t part value => Sys2Proof.Machine.execPltCntSnapWrite t part value s
  | .wchCntSnapWrite t part value => Sys2Proof.Machine.execWchCntSnapWrite t part value s
  | .nrgSnapWrite t part value => Sys2Proof.Machine.execNrgSnapWrite t part value s
  | .oscCntSnapWrite t part value => Sys2Proof.Machine.execOscCntSnapWrite t part value s
  | .cohCntSnapWrite t part value => Sys2Proof.Machine.execCohCntSnapWrite t part value s
  | .alcCntSnapWrite t part value => Sys2Proof.Machine.execAlcCntSnapWrite t part value s
  | .recCntSnapWrite t part value => Sys2Proof.Machine.execRecCntSnapWrite t part value s
  | .schCntSnapWrite t part value => Sys2Proof.Machine.execSchCntSnapWrite t part value s
  | .tbCntSnapWrite t part value => Sys2Proof.Machine.execTbCntSnapWrite t part value s
  | .tbNowSnapWrite t part value => Sys2Proof.Machine.execTbNowSnapWrite t part value s
  | .prtCntSnapWrite t part port value => Sys2Proof.Machine.execPrtCntSnapWrite t part port value s
  | .keyCntSnapWrite t part value => Sys2Proof.Machine.execKeyCntSnapWrite t part value s
  | .tbNowLoRead t part tb => Sys2Proof.Machine.execTbNowLoRead t part tb s
  | .registerWrite t part offset width value => Sys2Proof.Machine.execRegisterWrite t part offset width value s
  | .portRxFrame t f => Sys2Proof.Machine.execPortRxFrame t f s
  | .linkUp t port speedMbps full fecLock => Sys2Proof.Machine.execLinkUp t port speedMbps full fecLock s
  | .linkDown t port => Sys2Proof.Machine.execLinkDown t port s
  | .sgmiiControlWord t port link full speedMbps => Sys2Proof.Machine.execSgmiiControlWord t port link full speedMbps s
  | .mdioPoll t port link full speedMbps => Sys2Proof.Machine.execMdioPoll t port link full speedMbps s
  | .pauseExpiry t port => Sys2Proof.Machine.execPauseExpiry t port s
  | .xoffRepeat t port => Sys2Proof.Machine.execXoffRepeat t port s
  | .txFrameEnd t port csLost damaged => Sys2Proof.Machine.execTxFrameEnd t port csLost damaged s
  | .txLaunchTime t port => Sys2Proof.Machine.execTxLaunchTime t port s
  | .txCollision t port late => Sys2Proof.Machine.execTxCollision t port late s
  | .backoffExpiry t port => Sys2Proof.Machine.execBackoffExpiry t port s
  | .ingestDataFrame t f => Sys2Proof.Machine.execIngestDataFrame t f s
  | .ingestConfigFrame t f => Sys2Proof.Machine.execIngestConfigFrame t f s
  | .ingestSvFrame t f => Sys2Proof.Machine.execIngestSvFrame t f s
  | .ingestGooseFrame t f => Sys2Proof.Machine.execIngestGooseFrame t f s
  | .outCommandFrame t f => Sys2Proof.Machine.execOutCommandFrame t f s
  | .pmuCmdDeferred t stream => Sys2Proof.Machine.execPmuCmdDeferred t stream s
  | .pmuRestartRepeat t stream => Sys2Proof.Machine.execPmuRestartRepeat t stream s
  | .silenceCheck t => Sys2Proof.Machine.execSilenceCheck t s
  | .keyRotationOverlapEnd t stream => Sys2Proof.Machine.execKeyRotationOverlapEnd t stream s
  | .dupEntryForget t => Sys2Proof.Machine.execDupEntryForget t s
  | .stationTalExpiry t station => Sys2Proof.Machine.execStationTalExpiry t station s
  | .stationWaitTimeout t station => Sys2Proof.Machine.execStationWaitTimeout t station s
  | .itemComplete t stream fsn => Sys2Proof.Machine.execItemComplete t stream fsn s
  | .itemAbort t stream fsn => Sys2Proof.Machine.execItemAbort t stream fsn s
  | .platformWrite t stream fsn => Sys2Proof.Machine.execPlatformWrite t stream fsn s
  | .departureRelease t group instant => Sys2Proof.Machine.execDepartureRelease t group instant s
  | .sidingsRecordFree t => Sys2Proof.Machine.execSidingsRecordFree t s
  | .departureOverdue t group instant => Sys2Proof.Machine.execDepartureOverdue t group instant s
  | .modalRefresh t blocks => Sys2Proof.Machine.execModalRefresh t blocks s
  | .modalOverrun t => Sys2Proof.Machine.execModalOverrun t s
  | .scanTriggerDeparture t group instant x => Sys2Proof.Machine.execScanTriggerDeparture t group instant x s
  | .scanTriggerPeriodic t x => Sys2Proof.Machine.execScanTriggerPeriodic t x s
  | .scanEnd t r x => Sys2Proof.Machine.execScanEnd t r x s
  | .scanWatchdog t => Sys2Proof.Machine.execScanWatchdog t s
  | .gooseRepeat t dataset => Sys2Proof.Machine.execGooseRepeat t dataset s
  | .alReadbackMismatch t n => Sys2Proof.Machine.execAlReadbackMismatch t n s
  | .checkpointPeriodic t => Sys2Proof.Machine.execCheckpointPeriodic t s
  | .checkpointWriteDone t ok => Sys2Proof.Machine.execCheckpointWriteDone t ok s
  | .exchangeCommitDone t => Sys2Proof.Machine.execExchangeCommitDone t s
  | .alcLoadVerified t v => Sys2Proof.Machine.execAlcLoadVerified t v s
  | .recPointEvaluate t rcd => Sys2Proof.Machine.execRecPointEvaluate t rcd s
  | .recComplete t rcd => Sys2Proof.Machine.execRecComplete t rcd s
  | .recExportDone t rcd slot => Sys2Proof.Machine.execRecExportDone t rcd slot s
  | .piLevelAccepted t n level => Sys2Proof.Machine.execPiLevelAccepted t n level s
  | .piCrossCheck t n => Sys2Proof.Machine.execPiCrossCheck t n s
  | .poPulsePhaseEnd t n => Sys2Proof.Machine.execPoPulsePhaseEnd t n s
  | .sentinelReading t sentinel ratio => Sys2Proof.Machine.execSentinelReading t sentinel ratio s
  | .basisRestored t => Sys2Proof.Machine.execBasisRestored t s
  | .liveEvaluation t => Sys2Proof.Machine.execLiveEvaluation t s
  | .liveUrgentEvaluation t cluster => Sys2Proof.Machine.execLiveUrgentEvaluation t cluster s
  | .clusterFault t cluster cause => Sys2Proof.Machine.execClusterFault t cluster cause s
  | .clusterDrained t cluster => Sys2Proof.Machine.execClusterDrained t cluster s
  | .clusterSelftestDone t cluster result => Sys2Proof.Machine.execClusterSelftestDone t cluster result s
  | .clusterFaultAgeout t cluster => Sys2Proof.Machine.execClusterFaultAgeout t cluster s
  | .ptpSyncReceived t m => Sys2Proof.Machine.execPtpSyncReceived t m s
  | .irigFrameReceived t m => Sys2Proof.Machine.execIrigFrameReceived t m s
  | .ppsInEdge t cap => Sys2Proof.Machine.execPpsInEdge t cap s
  | .ptpAnnounceReceived t m => Sys2Proof.Machine.execPtpAnnounceReceived t m s
  | .ptpPdelayMessage t m => Sys2Proof.Machine.execPtpPdelayMessage t m s
  | .ptpAnnounceTimeout t tb port => Sys2Proof.Machine.execPtpAnnounceTimeout t tb port s
  | .ptpMessageTransmit t tb port kind => Sys2Proof.Machine.execPtpMessageTransmit t tb port kind s
  | .tbSourceLoss t tb => Sys2Proof.Machine.execTbSourceLoss t tb s
  | .tbRestepTimeout t tb => Sys2Proof.Machine.execTbRestepTimeout t tb s
  | .leapSecondApply t tb => Sys2Proof.Machine.execLeapSecondApply t tb s
  | .leapOccurredExpiry t tb => Sys2Proof.Machine.execLeapOccurredExpiry t tb s
  | .ext10mLoss t => Sys2Proof.Machine.execExt10mLoss t s
  | .ext10mRestore t => Sys2Proof.Machine.execExt10mRestore t s
  | .refclkLoss t => Sys2Proof.Machine.execRefclkLoss t s
  | .ppsOutRise t tb => Sys2Proof.Machine.execPpsOutRise t tb s
  | .ppsOutFall t => Sys2Proof.Machine.execPpsOutFall t s
  | .tamperDetected t code value => Sys2Proof.Machine.execTamperDetected t code value s
  | .keyEraseDone t => Sys2Proof.Machine.execKeyEraseDone t s
  | .keyUpdateCommitted t slot => Sys2Proof.Machine.execKeyUpdateCommitted t slot s
  | .entropyHealthFail t => Sys2Proof.Machine.execEntropyHealthFail t s
  | .testChallengeExpiry t => Sys2Proof.Machine.execTestChallengeExpiry t s
  | .supplyOutOfRange t source low value => Sys2Proof.Machine.execSupplyOutOfRange t source low value s
  | .temperatureLimit t source excess value => Sys2Proof.Machine.execTemperatureLimit t source excess value s
  | .handshakeStall t stall => Sys2Proof.Machine.execHandshakeStall t stall s
  | .scrubStep t x => Sys2Proof.Machine.execScrubStep t x s
  | .scrubOverdue t dram => Sys2Proof.Machine.execScrubOverdue t dram s
  | .ceHourWindow t region => Sys2Proof.Machine.execCeHourWindow t region s
  | .errToggle t => Sys2Proof.Machine.execErrToggle t s
  | .errChannelCompare t compare readbackOk => Sys2Proof.Machine.execErrChannelCompare t compare readbackOk s
  | .selftestHourly t => Sys2Proof.Machine.execSelftestHourly t s
  | .selftestSliceEnd t => Sys2Proof.Machine.execSelftestSliceEnd t s
  | .selftestDone t failed => Sys2Proof.Machine.execSelftestDone t failed s
  | .selftestOverdue t => Sys2Proof.Machine.execSelftestOverdue t s
  | .porNFall t => Sys2Proof.Machine.execPorNFall t s
  | .porNRelease t => Sys2Proof.Machine.execPorNRelease t s
  | .perstNAssert t => Sys2Proof.Machine.execPerstNAssert t s
  | .perstNRelease t => Sys2Proof.Machine.execPerstNRelease t s
  | .startupDone t r => Sys2Proof.Machine.execStartupDone t r s
  | .pfwNFall t => Sys2Proof.Machine.execPfwNFall t s
  | .pfwNRise t => Sys2Proof.Machine.execPfwNRise t s
  | .wakeNFall t lowNs => Sys2Proof.Machine.execWakeNFall t lowNs s
  | .stabledEntryDone t => Sys2Proof.Machine.execStabledEntryDone t s
  | .wakeDone t retentionOk found clustersFailed => Sys2Proof.Machine.execWakeDone t retentionOk found clustersFailed s
  | .partitionResetDone t part => Sys2Proof.Machine.execPartitionResetDone t part s
  | .mgmtRestartDone t => Sys2Proof.Machine.execMgmtRestartDone t s
  | .mgmtRestartTimeout t => Sys2Proof.Machine.execMgmtRestartTimeout t s
  | .fwLoadVerified t v => Sys2Proof.Machine.execFwLoadVerified t v s
  | .fwClusterLoadDone t cluster ok => Sys2Proof.Machine.execFwClusterLoadDone t cluster ok s
  | .cfgLoadVerified t v => Sys2Proof.Machine.execCfgLoadVerified t v s
  | .supplyBackInRange t source => Sys2Proof.Machine.execSupplyBackInRange t source s
  | .refclkRestored t => Sys2Proof.Machine.execRefclkRestored t s
  | .timeBaseCounterFault t tb => Sys2Proof.Machine.execTimeBaseCounterFault t tb s
  | .mgmtLockstepMismatch t => Sys2Proof.Machine.execMgmtLockstepMismatch t s
  | .alReadbackRestored t n => Sys2Proof.Machine.execAlReadbackRestored t n s
  | .tamperSourceCleared t code => Sys2Proof.Machine.execTamperSourceCleared t code s
  | .cohEvaluationOverdue t instant => Sys2Proof.Machine.execCohEvaluationOverdue t instant s
  | .bootHold t => Sys2Proof.Machine.execBootHold t s
  | .ptpFollowUpReceived t m => Sys2Proof.Machine.execPtpFollowUpReceived t m s
  | .testPortAccess t trst tms tdi => Sys2Proof.Machine.execTestPortAccess t trst tms tdi s

end Sys2Proof.Machine
end

