-- ==== Sys2Proof/Machine/Step.lean ====
section
/-!
DEFINITION. One step of the block: the command at the front of the queue, else a held command that may start, else nothing.
-/
namespace Sys2Proof.Machine

/-- The state in which a held command is run. -/
def resumeState (s : State) (x : HeldCmd) (rest : List HeldCmd) : State :=
  { s with held := rest, resuming := true, hst := { s.hst with interim := x.pendingSent } }

def step (s : State) : Host.Outcome State Fault Refusal :=
  match s.pending with
  | c :: rest => exec c { s with pending := rest }
  | [] =>
    match pickHeld s [] s.held with
    | some (x, rest) => exec x.row (resumeState s x rest)
    | none => .next s

/-- A table word spells no command (Decode.lean), so it puts none at the front of the queue. -/
def State.withFetchWord (s : State) (nbits w : Nat) : State :=
  match decodeTableWord nbits w with
  | some c => { s with pending := c :: s.pending }
  | none => s

end Sys2Proof.Machine
end

