-- ==== Sys2Proof/WellFormed.lean ====
section
/-!
DEFINITION. Which commands and events there can be: packets as Table 14-4 and the three channels allow them, and event operands within the range of what
they number (Table 14-3 and the chapters). A meaning does not rely on it: it answers for every operand.
-/
namespace Sys2Proof

/-- A packet that a channel can bring (14_hosts Table 14-4, R422): it comes from one of eight partitions, the service port acts for partition 0, its fields fit
their widths, and it is completed no sooner than it was received. -/
def Pkt.wf (h : Pkt) : Bool :=
  decide (h.part < 8) && (h.chan != .spi || h.part == 0) && decide (h.recvNs ≤ h.doneNs) && decide (h.tag < 4294967296) && decide (h.version < 256)
  && decide (h.paramLen < 65536)

def Instr.wf (i : Instr) : Bool :=
  match i with
  | .devIdentify h => h.wf
  | .hstPartCreate h _ => h.wf
  | .hstPartDelete h _ => h.wf
  | .hstPartReset h _ => h.wf
  | .hstGrant h _ => h.wf
  | .hstShareSet h _ => h.wf
  | .hstPrivSet h _ => h.wf
  | .hstRoShare h _ => h.wf
  | .hstGrantQuery h _ => h.wf
  | .hstEvtRingSet h _ => h.wf
  | .hstInbandSet h _ => h.wf
  | .devReset h _ => h.wf
  | .hstStageWrite h _ _ _ => h.wf
  | .hstStageRead h _ _ => h.wf
  | .hstNop h _ => h.wf
  | .ttPropose h _ => h.wf
  | .ttRelease h _ => h.wf
  | .ttQuery h _ => h.wf
  | .ttReplace h _ => h.wf
  | .ttSetProfile h _ => h.wf
  | .ttCheckRemoval h _ => h.wf
  | .ttList h _ => h.wf
  | .ingSubSet h _ => h.wf
  | .ingSubClear h _ => h.wf
  | .ingSetLayout h _ => h.wf
  | .ingPmuCmd h _ => h.wf
  | .ingGetConfig h _ => h.wf
  | .ingStreamStats h _ => h.wf
  | .ingGooseSub h _ => h.wf
  | .pltGroupSet h _ => h.wf
  | .pltGroupQuery h _ => h.wf
  | .pltChanPolicy h _ => h.wf
  | .pltRingSet h _ => h.wf
  | .pltOutSet h _ => h.wf
  | .pltOutMap h _ => h.wf
  | .pltHistoryRead h _ => h.wf
  | .wchUnitSet h _ => h.wf
  | .wchUnitQuery h _ => h.wf
  | .wchCmpSet h _ => h.wf
  | .wchCmpRead h _ => h.wf
  | .wchHxSet h _ => h.wf
  | .nrgPointSet h _ => h.wf
  | .nrgPointRead h _ => h.wf
  | .nrgAccClear h _ => h.wf
  | .nrgPiSet h _ => h.wf
  | .nrgPoSet h _ => h.wf
  | .oscDetSet h _ => h.wf
  | .oscDetRead h _ => h.wf
  | .oscModalSet h _ => h.wf
  | .oscSigSet h _ => h.wf
  | .oscModeRead h _ => h.wf
  | .cohSet h _ => h.wf
  | .cohBusSet h _ => h.wf
  | .cohIslandRead h _ => h.wf
  | .cohBusRead h _ => h.wf
  | .alcLoad h _ => h.wf
  | .alcExchange h _ => h.wf
  | .alcMode h _ => h.wf
  | .alcScanSet h _ => h.wf
  | .alcForce h _ => h.wf
  | .alcBreak h _ => h.wf
  | .alcQuery h => h.wf
  | .alcVarRead h _ => h.wf
  | .alcCheckpoint h => h.wf
  | .recSet h _ => h.wf
  | .recChanSet h _ => h.wf
  | .recCondSet h _ => h.wf
  | .recArm h _ => h.wf
  | .recQuery h _ => h.wf
  | .recExport h _ => h.wf
  | .recRelease h _ => h.wf
  | .recStreamSet h _ => h.wf
  | .schDrain h _ => h.wf
  | .schRejoin h _ => h.wf
  | .schRetire h _ => h.wf
  | .schTraceSet h _ => h.wf
  | .schObsRead h _ => h.wf
  | .tbRefSet h _ => h.wf
  | .tbSet h _ => h.wf
  | .tbPtpSet h _ => h.wf
  | .tbRestep h _ => h.wf
  | .tbTodSet h _ => h.wf
  | .tbPortDelaySet h _ => h.wf
  | .tbQuery h _ => h.wf
  | .prtModeSet h _ => h.wf
  | .prtAddrSet h _ => h.wf
  | .prtFilterSet h _ => h.wf
  | .prtRxringSet h _ => h.wf
  | .prtTxringSet h _ => h.wf
  | .prtTxqSet h _ => h.wf
  | .prtQuery h _ => h.wf
  | .prtCntRead h _ => h.wf
  | .keyImport h _ => h.wf
  | .keyGenerate h _ => h.wf
  | .keyDerive h _ => h.wf
  | .keyWrap h _ => h.wf
  | .keyDelete h _ => h.wf
  | .keyQuery h _ => h.wf
  | .attQuote h _ => h.wf
  | .attRespond h _ => h.wf
  | .lcTransition h _ => h.wf
  | .tamperClear h _ => h.wf
  | .logRead h _ => h.wf
  | .fltRead h => h.wf
  | .fltAck h _ => h.wf
  | .fltInject h _ => h.wf
  | .fltHistory h _ => h.wf
  | .fltSelftest h _ => h.wf
  | .fltSet h _ => h.wf
  | .pwrStabled h _ => h.wf
  | .pwrWake h => h.wf
  | .pwrQuery h => h.wf
  | .fwLoad h _ => h.wf
  | .fwClusterUpdate h _ => h.wf
  | .fwSwitch h _ => h.wf
  | .cfgLoad h _ => h.wf
  | .cfgRead h _ => h.wf
  | .q31StreamAdd h _ => h.wf
  | .q31StreamRemove h _ => h.wf
  | .q31StreamQuery h _ => h.wf
  | .q31LoadRead h => h.wf
  | .q31Rebalance h => h.wf
  | .malformedPacket h _ => h.wf
  | .unknownOpcode h _ => h.wf
  | .pendingReply _ part _ => decide (part < 8)
  | .inbandMessage _ _ => true
  | .spiWriteMessage _ _ => true
  | .spiReadReply _ => true
  | .spiReadStatus _ => true
  | .spiSessionTimeout _ => true
  | .eventHoldoffEnd _ part source => decide (part < 8) && decide (source < 512)
  | .pcieFlr _ part => decide (part < 8)
  | .pcieLinkReset _ => true
  | .dmaCompletionError _ part _ => decide (part < 8)
  | .dmaCopyDone _ part _ => decide (part < 8)
  | .hstSqTailWrite _ part _ => decide (part < 8)
  | .hstRqHeadWrite _ part _ => decide (part < 8)
  | .hstEvtConsWrite _ part _ => decide (part < 8)
  | .hstQueueEnable _ part => decide (part < 8)
  | .hstQueueDisable _ part => decide (part < 8)
  | .pltRingConsWrite _ part ring _ => decide (part < 8) && decide (ring < 4)
  | .recStreamConsWrite _ part rcd _ => decide (part < 8) && decide (rcd < 64)
  | .schTraceConsWrite _ part _ => decide (part < 8)
  | .prtRxTailWrite _ part port _ => decide (part < 8) && decide (port < 24)
  | .prtTxTailWrite _ part port _ _ => decide (part < 8) && decide (port < 24)
  | .pwrCtrlWakeWrite _ part _ => decide (part < 8)
  | .latmonClearWrite _ part _ => decide (part < 8)
  | .ingCntSnapWrite _ part _ => decide (part < 8)
  | .pltCntSnapWrite _ part _ => decide (part < 8)
  | .wchCntSnapWrite _ part _ => decide (part < 8)
  | .nrgSnapWrite _ part _ => decide (part < 8)
  | .oscCntSnapWrite _ part _ => decide (part < 8)
  | .cohCntSnapWrite _ part _ => decide (part < 8)
  | .alcCntSnapWrite _ part _ => decide (part < 8)
  | .recCntSnapWrite _ part _ => decide (part < 8)
  | .schCntSnapWrite _ part _ => decide (part < 8)
  | .tbCntSnapWrite _ part _ => decide (part < 8)
  | .tbNowSnapWrite _ part _ => decide (part < 8)
  | .prtCntSnapWrite _ part port _ => decide (part < 8) && decide (port < 24)
  | .keyCntSnapWrite _ part _ => decide (part < 8)
  | .tbNowLoRead _ part tb => decide (part < 8) && decide (tb < 4)
  | .registerWrite _ part offset width _ => decide (part < 8) && decide (offset < 1048576) && (width == 8 || width == 16 || width == 32 || width == 64)
  | .portRxFrame _ _ => true
  | .linkUp _ port _ _ _ => decide (port < 24)
  | .linkDown _ port => decide (port < 24)
  | .sgmiiControlWord _ port _ _ _ => decide (port < 24)
  | .mdioPoll _ port _ _ _ => decide (port < 24)
  | .pauseExpiry _ port => decide (port < 24)
  | .xoffRepeat _ port => decide (port < 24)
  | .txFrameEnd _ port _ _ => decide (port < 24)
  | .txLaunchTime _ port => decide (port < 24)
  | .txCollision _ port _ => decide (port < 24)
  | .backoffExpiry _ port => decide (port < 24)
  | .ingestDataFrame _ _ => true
  | .ingestConfigFrame _ _ => true
  | .ingestSvFrame _ _ => true
  | .ingestGooseFrame _ _ => true
  | .outCommandFrame _ _ => true
  | .pmuCmdDeferred _ stream => decide (stream < 16384)
  | .pmuRestartRepeat _ stream => decide (stream < 16384)
  | .silenceCheck _ => true
  | .keyRotationOverlapEnd _ stream => decide (stream < 16384)
  | .dupEntryForget _ => true
  | .stationTalExpiry _ station => decide (station < 128)
  | .stationWaitTimeout _ station => decide (station < 128)
  | .itemComplete _ stream fsn => decide (stream < 16384) && decide (fsn < 4294967296)
  | .itemAbort _ stream fsn => decide (stream < 16384) && decide (fsn < 4294967296)
  | .platformWrite _ stream fsn => decide (stream < 16384) && decide (fsn < 4294967296)
  | .departureRelease _ group _ => decide (group < 16)
  | .sidingsRecordFree _ => true
  | .departureOverdue _ group _ => decide (group < 16)
  | .modalRefresh _ _ => true
  | .modalOverrun _ => true
  | .scanTriggerDeparture _ group _ _ => decide (group < 16)
  | .scanTriggerPeriodic _ _ => true
  | .scanEnd _ _ _ => true
  | .scanWatchdog _ => true
  | .gooseRepeat _ dataset => decide (dataset < 64)
  | .alReadbackMismatch _ n => decide (n < 8)
  | .checkpointPeriodic _ => true
  | .checkpointWriteDone _ _ => true
  | .exchangeCommitDone _ => true
  | .alcLoadVerified _ _ => true
  | .recPointEvaluate _ rcd => decide (rcd < 64)
  | .recComplete _ rcd => decide (rcd < 64)
  | .recExportDone _ rcd slot => decide (rcd < 64) && decide (slot < 256)
  | .piLevelAccepted _ n _ => decide (n < 16)
  | .piCrossCheck _ n => decide (n < 16)
  | .poPulsePhaseEnd _ n => decide (n < 8)
  | .sentinelReading _ sentinel _ => decide (sentinel < 32)
  | .basisRestored _ => true
  | .liveEvaluation _ => true
  | .liveUrgentEvaluation _ cluster => decide (cluster < 16)
  | .clusterFault _ cluster cause => decide (cluster < 16) && decide (cause < 3)
  | .clusterDrained _ cluster => decide (cluster < 16)
  | .clusterSelftestDone _ cluster _ => decide (cluster < 16)
  | .clusterFaultAgeout _ cluster => decide (cluster < 16)
  | .ptpSyncReceived _ _ => true
  | .irigFrameReceived _ _ => true
  | .ppsInEdge _ _ => true
  | .ptpAnnounceReceived _ _ => true
  | .ptpPdelayMessage _ _ => true
  | .ptpAnnounceTimeout _ tb port => decide (tb < 4) && decide (port < 24)
  | .ptpMessageTransmit _ tb port _ => decide (tb < 4) && decide (port < 24)
  | .tbSourceLoss _ tb => decide (tb < 4)
  | .tbRestepTimeout _ tb => decide (tb < 4)
  | .leapSecondApply _ tb => decide (tb < 4)
  | .leapOccurredExpiry _ tb => decide (tb < 4)
  | .ext10mLoss _ => true
  | .ext10mRestore _ => true
  | .refclkLoss _ => true
  | .ppsOutRise _ tb => decide (tb < 4)
  | .ppsOutFall _ => true
  | .tamperDetected _ code _ => decide (code < 8)
  | .keyEraseDone _ => true
  | .keyUpdateCommitted _ slot => decide (slot < 256)
  | .entropyHealthFail _ => true
  | .testChallengeExpiry _ => true
  | .supplyOutOfRange _ source _ _ => decide (source < 8)
  | .temperatureLimit _ source _ _ => decide (source < 8)
  | .handshakeStall _ _ => true
  | .scrubStep _ _ => true
  | .scrubOverdue _ _ => true
  | .ceHourWindow _ _ => true
  | .errToggle _ => true
  | .errChannelCompare _ _ _ => true
  | .selftestHourly _ => true
  | .selftestSliceEnd _ => true
  | .selftestDone _ failed => decide (failed < 32)
  | .selftestOverdue _ => true
  | .porNFall _ => true
  | .porNRelease _ => true
  | .perstNAssert _ => true
  | .perstNRelease _ => true
  | .startupDone _ _ => true
  | .pfwNFall _ => true
  | .pfwNRise _ => true
  | .wakeNFall _ _ => true
  | .stabledEntryDone _ => true
  | .wakeDone _ _ _ _ => true
  | .partitionResetDone _ part => decide (part < 8)
  | .mgmtRestartDone _ => true
  | .mgmtRestartTimeout _ => true
  | .fwLoadVerified _ _ => true
  | .fwClusterLoadDone _ cluster _ => decide (cluster < 16)
  | .cfgLoadVerified _ _ => true
  | .supplyBackInRange _ source => decide (source < 8)
  | .refclkRestored _ => true
  | .timeBaseCounterFault _ tb => decide (tb < 4)
  | .mgmtLockstepMismatch _ => true
  | .alReadbackRestored _ n => decide (n < 8)
  | .tamperSourceCleared _ code => decide (code < 8)
  | .cohEvaluationOverdue _ _ => true
  | .bootHold _ => true
  | .ptpFollowUpReceived _ _ => true
  | .testPortAccess _ _ _ _ => true

end Sys2Proof
end

