-- ==== Sys2Proof/Safety.lean ====
section
/-!
DEFINITION. The terms in which claims about the block are made: when a command's own rules start, how it is answered, the moves the life cycle
may make, and the form that a state keeps.
-/
namespace Sys2Proof.Machine

/-- The state in which a command's own rules start to apply: it has arrived, or it is the held command resumed now, nothing bars its start
(14_hosts R412, R413, R415, 02_timetable R58) and nothing turns it away (R416, R424, R444, R445, R463, R477, R503). -/
def State.started (s : State) (c : CmdInfo) (h : Pkt) : Option State :=
  let s0 := s.at h.recv
  let r : Option State :=
    if s.resuming then some { s0 with resuming := false }
    else match s0.arrive h c.op with
      | some s1 => if s1.startsNow h c.op then some s1.fresh else none
      | none => none
  r.filter (fun s1 => (s1.turnedAway c h).isNone)

/-- The state after the answer to a command whose effect leaves `s`: the PENDING reply where one is due (R414), and the reply itself with the
completion stamp (R415). -/
def State.answered (s : State) (c : CmdInfo) (h : Pkt) (status detail : Nat) (res : List Byte) : State :=
  (s.pendingFirst c h (Nat.max s.now h.done)).putReply h c.op status detail (Nat.max s.now h.done) res

/-- The state after a command that waits: it stands among the commands in flight (R413). -/
def State.waitsFor (s : State) (c : CmdInfo) (h : Pkt) (what : WaitFor) : State :=
  { s with hst := { s.hst with waiting := s.hst.waiting ++ [{ pkt := h, opcode := c.op, what, pendingSent := s.hst.interim }] } }

/-- The state after the answer of PLT_GROUP_SET whose effect leaves `s`: the first instant concerned, or, where no instant is, a free value, and the number
of members (04_platform R118, R120, R121). -/
def State.groupAnswered (s : State) (h : Pkt) (n : Nat) (first : Option Nat) : State :=
  let c : CmdInfo := { op := 0x0300, len := some 24 }
  match first with
  | some i => s.answered c h stOk 0 (le 8 (instNs i) ++ le 2 (s.members n).length ++ zeros 2)
  | none => s.free.2.answered c h stOk 0 (le 8 s.free.1 ++ le 2 (s.members n).length ++ zeros 2)

/-- The moves of the life cycle: it stays, or moves as Table 15-9a gives (15_security R461). -/
def LifeMove (a b : LifeCycle) : Prop :=
  b = a ∨ (a = .blank ∧ b = .personalised) ∨ (a = .personalised ∧ b = .deployed) ∨ (a = .deployed ∧ b = .returned)
  ∨ (a = .deployed ∧ b = .retired) ∨ (a = .returned ∧ b = .retired)

/-- A key slot that a command may use for an attribute: held by the caller, its key of that attribute (15_security R433), neither UNUSABLE (R440) nor marked
UPDATE_LOST (R454). -/
def State.slotFit (s : State) (h : Pkt) (n attr : Nat) : Prop :=
  s.holds h.part kindKey n = true ∧ (s.key n).any (fun k => k.attr == attr) = true ∧ (s.slot n).updateLost = false ∧ (s.slot n).unusable = false

/-- A command may name a host address: its own queue's, or the staging window's (14_hosts R423). -/
def addrFit (h : Pkt) (addr : Nat) : Prop := h.chan = .queue ∨ 9223372036854775808 ≤ addr

/-- The figure that 07_oscillation R215 gives the resampler of a band at a source rate, for claims that take it: wherever the resampled instant `t` falls among
the source samples, a component at half the band rate or above, up to half the source rate, passes with at most 1 ÷ 1000 (60 dB) of the gain at 0 Hz. -/
def ResamplerAttenuates (band rate : Nat) : Prop :=
  ∀ (t : Int) (f : ℝ), (bandRate band : ℝ) ≤ 2 * f → 2 * f ≤ rate →
    let sum := fun (w : ℝ → ℝ) => ((resamplerSpan rate band t).map (fun k =>
      (Config.resampleTap band rate (sampleNs k rate - t).natAbs : ℝ) * w (2 * Real.pi * f * ((sampleNs k rate - t : Int) : ℝ) / 1000000000))).sum
    (sum Real.cos) ^ 2 + (sum Real.sin) ^ 2 ≤ (sum (fun _ => 1) / 1000) ^ 2

/-- Every staging buffer is in canonical form. -/
def State.stagingWf (s : State) : Prop := ∀ e ∈ s.hst.staging, Memory.wf e.2 = true

/-- Pieces of the state that few commands may touch: the life cycle with its log and the owner's fuses; the security version with the boot bank; the test
port; the staging buffers; the grants of resources; TIME_OWNER; the frequency reference; the port delays; the test challenge; ERR_MIN. -/
inductive Piece where
  | life
  | version
  | testPort
  | staging
  | grants
  | timeOwner
  | reference
  | delays
  | challenge
  | errMin
  deriving DecidableEq, Repr

/-- A piece is the same in two states. -/
def Piece.same (x : Piece) (t s : State) : Prop :=
  match x with
  | .life => t.sec.life = s.sec.life ∧ t.sec.lifeLog = s.sec.lifeLog ∧ t.sec.ownerHash = s.sec.ownerHash
  | .version => t.fw.minSvn = s.fw.minSvn ∧ t.fw.boot = s.fw.boot
  | .testPort => t.tap = s.tap
  | .staging => t.hst.staging = s.hst.staging
  | .grants => t.hst.grants = s.hst.grants
  | .timeOwner => t.hst.timeOwner = s.hst.timeOwner
  | .reference => t.tb.ref = s.tb.ref
  | .delays => t.tb.delays = s.tb.delays
  | .challenge => t.sec.challenge = s.sec.challenge
  | .errMin => t.flt.errMin = s.flt.errMin

/-- What a device reset takes away of the pieces (17_power_states R497). -/
def resetPieces : List Piece := [.staging, .grants, .timeOwner, .reference, .delays, .challenge, .errMin]

/-- The pieces that a row may change; a row that may end in a reset (17_power_states R497, 16_safety R477) may change those of a reset. -/
def mayChange (i : Instr) : List Piece :=
  match i with
  | .devReset .. | .fltInject .. | .scrubStep .. | .selftestSliceEnd .. | .selftestDone .. | .perstNAssert .. | .wakeDone .. => resetPieces
  | .lcTransition .. => .life :: resetPieces
  | .porNFall .. => .testPort :: resetPieces
  | .testPortAccess .. => [.testPort]
  | .fwSwitch .. => [.version]
  | .hstPartDelete .. => [.staging, .grants, .timeOwner]
  | .hstPartReset .. | .hstStageWrite .. | .pcieFlr .. | .dmaCopyDone .. | .recExportDone .. => [.staging]
  | .hstGrant .. => [.grants]
  | .hstPrivSet .. => [.timeOwner]
  | .startupDone .. => [.grants, .timeOwner, .reference, .delays, .errMin]
  | .tbRefSet .. => [.reference]
  | .tbPortDelaySet .. => [.delays]
  | .fltSet .. => [.errMin]
  | .testChallengeExpiry .. => [.challenge]
  | _ => []

end Sys2Proof.Machine
end

