-- ==== Sys2Proof/Certificates/Slice0/Obligations.lean ====
section
/-!
DEFINITION. The statements for the provers. What a command does is said of the state in which its own rules start (`State.started`) and of the answer that
its effect is given (`State.answered`), so that every such statement says that `exec` answers a next state, and which one.
-/
open Sys2Proof Sys2Proof.Machine

/-- One step takes the command at the front of the queue and runs it on the state with the rest of the queue. -/
def Obligations.StepRunsTheFrontCommand : Prop :=
  ∀ (c : Instr) (rest : List Instr) (s : State), step { s with pending := c :: rest } = exec c { s with pending := rest }

/-- Every command of every row answers a next state and leaves the queue alone, so the queue is served first in, first out; with an empty queue a held
command that may start is resumed, and else nothing happens (a choice of the model: log entries 1 and 2). -/
def Obligations.StepServesTheQueue : Prop :=
  (∀ (c : Instr) (s : State), ∃ t, exec c s = .next t ∧ t.pending = s.pending) ∧
  (∀ s : State, s.pending = [] → pickHeld s [] s.held = none → step s = .next s) ∧
  (∀ (s : State) (x : HeldCmd) (rest : List HeldCmd), s.pending = [] → pickHeld s [] s.held = some (x, rest) →
    step s = exec x.row { s with held := rest, resuming := true, hst := { s.hst with interim := x.pendingSent } }) ∧
  (∀ s t : State, step s = .next t → t.pending = s.pending.drop 1)

/-- TT_PROPOSE, TT_RELEASE, TT_QUERY, TT_REPLACE, TT_CHECK_REMOVAL and TT_LIST complete: a proposal that passes every check of R534 is recorded as
ADMITTED, or only judged as a trial; a release frees the record; a replacement moves the contract to the cluster chosen; the others change nothing but
their reply. -/
def Obligations.TimetableCommandsComplete : Prop :=
  (∀ (h : Pkt) (p : TtPropose) (s s1 : State) (k after : Nat),
    s.started { op := 0x0100, len := some 32 } h = some s1 →
    firstBad (s1.proposeForm p) = none → s1.holds h.part kindStream p.stream = true → s1.proposeEntry p = none →
    s1.underContract p.stream = false → s1.proposeGroups p = none →
    s1.tt.contracts.length - b2n (s1.contractOf p.stream).isSome < 16384 → s1.admission (s1.proposed h p) = .fits k after →
    (p.flags = 1 → exec (.ttPropose h p) s = .next (s1.answered { op := 0x0100, len := some 32 } h stOk 0
      (proposeReply 0xFFFF k 0 (s1.proposed h p).cost (s1.proposed h p).bytes after (s1.limit k)))) ∧
    (p.flags = 0 → exec (.ttPropose h p) s = .next ((s1.admitContract (s1.proposed h p) k).1.answered { op := 0x0100, len := some 32 } h stOk 0
      (proposeReply (s1.admitContract (s1.proposed h p) k).2 k 1 (s1.proposed h p).cost (s1.proposed h p).bytes after (s1.limit k))))) ∧
  (∀ (h : Pkt) (id : Nat) (s s1 : State) (c : Contract),
    s.started { op := 0x0101, len := some 4 } h = some s1 →
    s1.tt.profile ≠ .placement → tget id s1.tt.contracts = some c → c.part = h.part →
    exec (.ttRelease h id) s = .next ((s1.freeContract id).answered { op := 0x0101, len := some 4 } h stOk 0 (le 1 c.state.code ++ zeros 3))) ∧
  (∀ (h : Pkt) (id : Nat) (s s1 : State) (c : Contract),
    s.started { op := 0x0102, len := some 4, ro := true } h = some s1 →
    tget id s1.tt.contracts = some c → (c.part = h.part ∨ s1.shared kindStream c.stream h.part = true) →
    exec (.ttQuery h id) s = .next (s1.answered { op := 0x0102, len := some 4, ro := true } h stOk 0 (queryReply id c))) ∧
  (∀ (h : Pkt) (p : TtReplace) (s s1 : State) (c : Contract) (k after : Nat),
    s.started { op := 0x0103, len := some 4 } h = some s1 →
    s1.tt.profile ≠ .placement → tget p.contract s1.tt.contracts = some c → c.part = h.part → c.state ≠ .shed →
    s1.chooseCluster c.cost p.clusterMask (fun j => s1.commit j - (if j == c.cluster then c.cost else 0)) [] = some (k, after) →
    exec (.ttReplace h p) s = .next
      ((if k = c.cluster then s1.setContract p.contract { c with clusterMask := p.clusterMask, cluster := k }
        else (s1.setContract p.contract { c with clusterMask := p.clusterMask, cluster := k }).moveItems c.cluster p.contract).answered
        { op := 0x0103, len := some 4 } h stOk 0 (le 1 c.cluster ++ le 1 k ++ zeros 2 ++ le 4 c.cost ++ le 4 after))) ∧
  (∀ (h : Pkt) (k : Nat) (s s1 : State),
    s.started { op := 0x0105, len := some 4, ro := true } h = some s1 → h.part = 0 → k < 16 → s1.tt.profile ≠ .placement →
    exec (.ttCheckRemoval h k) s = .next (s1.answered { op := 0x0105, len := some 4, ro := true } h stOk 0
      (le 2 (s1.removalPlan k).1.length ++ le 2 (s1.removalPlan k).2.length
        ++ le 2 (((s1.removalPlan k).2.head?.map (·.1)).getD 0xFFFF) ++ zeros 2))) ∧
  (∀ (h : Pkt) (p : TtList) (s s1 : State),
    s.started { op := 0x0106, len := some 8, ro := true } h = some s1 → p.count ≤ 1000 → (p.filter ≤ 5 ∨ p.filter = 0xFF) →
    ∃ res, exec (.ttList h p) s = .next (s1.answered { op := 0x0106, len := some 8, ro := true } h stOk 0 res))

/-- TT_SET_PROFILE by Table 02-6a: the same profile changes nothing; Fixed and Live exchange under the conditions of the table; Placement is entered with
no contract held. The sentinels and Live evaluations: a reading is stored and judged; a basis that has been at rated speed for 1 s is restored; at a
multiple of 100 ms every cluster is evaluated, and one that is overcommitted without its margin at once. -/
def Obligations.ProfileAndSpeedRowsComplete : Prop :=
  (∀ (h : Pkt) (p : TtSetProfile) (s s1 : State), s.started { op := 0x0104, len := some 4 } h = some s1 → h.part = 0 →
    (p.profile < 3 → profileOf p.profile = s1.tt.profile →
      exec (.ttSetProfile h p) s = .next (s1.answered { op := 0x0104, len := some 4 } h stOk 0
        (le 1 s1.tt.profile.code ++ le 1 s1.tt.profile.code ++ le 2 0))) ∧
    (p.profile = 1 → s1.tt.profile = .fixed → s1.safetyPresent = false →
      exec (.ttSetProfile h p) s = .next (((s1.enterLive.1).evt s1.enterLive.1.everyone 0x013 (0 + 256 * 1)).answered { op := 0x0104, len := some 4 } h stOk 0
        (le 1 0 ++ le 1 1 ++ le 2 s1.enterLive.2))) ∧
    (p.profile = 0 → s1.tt.profile = .live → s1.belowRated = false → (∀ k ∈ allClusters, s1.commit k ≤ 3400000) →
      exec (.ttSetProfile h p) s = .next (((s1.withProfile .fixed).evt (s1.withProfile .fixed).everyone 0x013 (1 + 256 * 0)).answered
        { op := 0x0104, len := some 4 } h stOk 0 (le 1 1 ++ le 1 0 ++ le 2 0))) ∧
    (p.profile = 2 → s1.tt.profile ≠ .placement → s1.safetyPresent = false → s1.heldContracts = [] →
      exec (.ttSetProfile h p) s = .next (((s1.withProfile .placement).evt (s1.withProfile .placement).everyone 0x013 (s1.tt.profile.code + 256 * 2)).answered
        { op := 0x0104, len := some 4 } h stOk 0 (le 1 s1.tt.profile.code ++ le 1 2 ++ le 2 0))) ∧
    (p.profile = 0 → s1.tt.profile = .placement → s1.hst.placed = [] →
      exec (.ttSetProfile h p) s = .next (((s1.withProfile .fixed).evt (s1.withProfile .fixed).everyone 0x013 (2 + 256 * 0)).answered
        { op := 0x0104, len := some 4 } h stOk 0 (le 1 2 ++ le 1 0 ++ le 2 0)))) ∧
  ((∀ (t n r : Nat) (s : State), (s.at t).fabricUp = true → n < 32 → n % 2 = 0 → ((s.at t).takeRatio n r).belowRated = false →
    exec (.sentinelReading t n r) s = .next ((s.at t).takeRatio n r)) ∧
  (∀ (t n r : Nat) (s : State), (s.at t).fabricUp = true → n < 32 → n % 2 = 1 → (((s.at t).takeRatio n r).judgePair (n / 2)).belowRated = false →
    exec (.sentinelReading t n r) s = .next (((s.at t).takeRatio n r).judgePair (n / 2))) ∧
  (∀ (t r : Nat) (s : State), (s.at t).fabricUp = true → s.tt.basisLost = true → s.tt.ratedSince = some r → r + 1000000000 ≤ (s.at t).now →
    exec (.basisRestored t) s = .next
      (((({ s.at t with tt := { s.tt with basisLost := false } }).faultClear 40).faultClear 41).evtFree
        (({ s.at t with tt := { s.tt with basisLost := false } }).faultClear 40).everyone 0x015)) ∧
  (∀ (t : Nat) (s : State), (s.at t).fabricUp = true → s.tt.profile = .live → t % 100000000 = 0 → (∀ e, s.tt.evalTick = some e → e < t) →
    exec (.liveEvaluation t) s = .next (({ s.at t with tt := { s.tt with evalTick := some t } } : State).evaluate allClusters).1) ∧
  (∀ (t k : Nat) (s : State), (s.at t).fabricUp = true → s.tt.profile = .live → k < 16 → (s.at t).clusterRatio k * 4000 < (s.at t).commit k →
    exec (.liveUrgentEvaluation t k) s = .next ((s.at t).evaluate [k]).1))

/-- ING_SUB_SET writes an entry that is in range, meets no other entry, fits the figures of R83 and names keys the caller may use; ING_SUB_CLEAR drops one
that is under no contract, with the items of its stream. The other ingest commands complete: a layout is set from its T_b on (R90), a command frame is
sent when the last was sent a second ago (R88), a stored frame is copied out, the statistics are read and cleared, and a remote station is entered or
deleted (R102). -/
def Obligations.IngestCommandRowsComplete : Prop :=
  ((∀ (h : Pkt) (p0 p : IngSubSet) (s s1 : State),
    let c : CmdInfo := { op := 0x0200, len := some 128 }
    s.started c h = some s1 → p = filledSub p0 → p.stream < 16384 → s1.holds h.part kindStream p.stream = true → p.kind ≤ 2 → 1 ≤ p.tbSel → p.tbSel ≤ 3 →
    1 ≤ p.portMask → p.portMask < 16777216 → ((p.flags.testBit 5 = true ∨ p.flags.testBit 6 = true) → popCount 24 p.portMask = 2) →
    (∀ e ∈ s1.ing.subs, e.1 ≠ p.stream → subsMeet p e.2 = false) → p.flags < 512 → ¬(p.flags.testBit 5 = true ∧ p.flags.testBit 6 = true) →
    (p.kind ≠ 1 → p.flags.testBit 7 = false ∧ p.flags.testBit 8 = false) → (p.vlan ≤ 4094 ∨ p.vlan = 0xFFFF) →
    (p.kind = 0 → 1 ≤ p.id ∧ p.id < 65535 ∧ p.svId = 0) → (p.kind = 2 → p.srcIp = 0 ∧ p.dstIp = 0 ∧ p.udpDst = 0) →
    (p.flags.testBit 0 = true → p.selfId ≠ 0) → (if p.kind = 2 then p.svRate ∈ [4000, 4800, 12800, 14400] else p.svRate = 0) →
    (p.flags.testBit 7 = true → s1.slotFit h p.keyCur 2 ∧ (p.keyNext = 0xFF ∨ s1.slotFit h p.keyNext 2)) → p.rotOverlapMs ≤ 60000 →
    (s1.underContract p.stream = false ∨ (tget p.stream s1.ing.subs).any (fun o => subFrozenSame o p) = true) → s1.svFits p = true →
    exec (.ingSubSet h p0) s = .next (((s1.at h.done).subWrite p).answered c h stOk 0 [])) ∧
  (∀ (h : Pkt) (st : Nat) (s s1 : State),
    let c : CmdInfo := { op := 0x0201, len := some 4 }
    s.started c h = some s1 → st < 16384 → s1.holds h.part kindStream st = true → (tget st s1.ing.subs).isSome = true → s1.underContract st = false →
    exec (.ingSubClear h st) s = .next ((s1.subDrop st).answered c h stOk 0 []))) ∧
  ((∀ (h : Pkt) (p : IngSetLayout) (s s1 : State) (e : IngSubSet),
    let c : CmdInfo := { op := 0x0202, len := none }
    s.started c h = some s1 → h.paramLen = 8 + ceilDiv p.count 4 * 4 → p.stream < 16384 → s1.holds h.part kindStream p.stream = true → 1 ≤ p.count →
    p.count ≤ 256 → p.types.length = p.count → p.qual ≤ 1 → (∀ t ∈ p.types, t ≤ 5) → tget p.stream s1.ing.subs = some e → e.kind = 1 →
    s1.contractOf p.stream = none →
    exec (.ingSetLayout h p) s = .next (((s1.at h.done).layoutSet p.stream (layoutOf e p)).answered c h stOk 0 [])) ∧
  (∀ (h : Pkt) (p : IngPmuCmd) (s s1 : State) (e : IngSubSet),
    let c : CmdInfo := { op := 0x0203, len := some 4 }
    s.started c h = some s1 → p.stream < 16384 → s1.holds h.part kindStream p.stream = true → 1 ≤ p.cmd → p.cmd ≤ 6 →
    tget p.stream s1.ing.subs = some e → e.kind = 0 → e.flags.testBit 0 = true →
    (∀ t, (s1.streamSt p.stream).lastCmd = some t → t + 1000000000 ≤ s1.now) →
    exec (.ingPmuCmd h p) s = .next ((s1.pmuSend p.stream e p.cmd).answered c h stOk 0 [])) ∧
  (∀ (h : Pkt) (p : IngGetConfig) (s s1 : State),
    let c : CmdInfo := { op := 0x0204, len := some 16, ro := true }
    s.started c h = some s1 → p.stream < 16384 → s1.reads h.part kindStream p.stream = true → 1 ≤ p.which → p.which ≤ 4 →
    (p.bufLen = 0 ∨ addrFit h p.bufAddr) →
    (tget p.which (s1.streamSt p.stream).stored = none → exec (.ingGetConfig h p) s = .next (s1.answered c h stOk 0 (zeros 16))) ∧
    (∀ f, tget p.which (s1.streamSt p.stream).stored = some f → p.bufLen = 0 →
      exec (.ingGetConfig h p) s = .next (s1.answered c h stOk 0 (le 4 f.raw.length ++ le 2 f.cfgCnt ++ zeros 2 ++ le 8 f.stamp))) ∧
    (∀ f, tget p.which (s1.streamSt p.stream).stored = some f → p.bufLen ≠ 0 →
      exec (.ingGetConfig h p) s = .next
        (s1.waitsFor c h (.dmaCopy p.bufAddr (f.raw.take p.bufLen) (le 4 f.raw.length ++ le 2 f.cfgCnt ++ zeros 2 ++ le 8 f.stamp))))) ∧
  (∀ (h : Pkt) (p : IngStreamStats) (s s1 : State),
    let c : CmdInfo := { op := 0x0205, len := some 4, ro := !p.clear }
    s.started c h = some s1 → p.stream < 16384 → s1.holds h.part kindStream p.stream = true →
    exec (.ingStreamStats h p) s = .next
      ((s1.modStream p.stream (fun x => { x with timeRejected := false, cnt := if p.clear then [] else x.cnt })).answered c h stOk 0
        (s1.statsReply p.stream))) ∧
  (∀ (h : Pkt) (p : IngGooseSub) (s s1 : State),
    let c : CmdInfo := { op := 0x0206, len := some 100 }
    s.started c h = some s1 → p.station ≤ 127 → s1.holds h.part kindStation p.station = true → s1.stationMapped p.station = false →
    (p.kind = 0xFF → exec (.ingGooseSub h p) s = .next
      (({ s1 with ing := { s1.ing with stations := tdel p.station s1.ing.stations } } : State).answered c h stOk 0 [])) ∧
    (p.kind = 0 → p.flags < 16 → ¬(p.flags.testBit 2 = true ∧ p.flags.testBit 3 = true) → 1 ≤ p.portMask → p.portMask < 16777216 →
      (∀ e ∈ s1.ing.stations, e.1 ≠ p.station → stationsMeet p e.2.sub = false) → (p.vlan ≤ 4094 ∨ p.vlan = 0xFFFF) → p.udpDst = 0 → p.gocbRef ≠ 0 →
      (p.flags.testBit 1 = true → s1.slotFit h p.keyCur 2 ∧ (p.keyNext = 0xFF ∨ s1.slotFit h p.keyNext 2)) →
      exec (.ingGooseSub h p) s = .next (((s1.at h.done).stationWrite p.station p).answered c h stOk 0 []) ∧
        ∃ keys, (s1.at h.done).stationWrite p.station p = (s1.at h.done).setStation p.station { sub := p, keyChanges := keys })))

/-- Frames that wait for ingest, none of their stream or station to be handled before them (R19, R81) and their port not stopped (R330): one that no entry
matches is only taken and counted; a data frame of a carried stream that is whole, not authenticated and not simulated goes on to its contract, each of its ASDUs, and likewise a
sampled-value frame; a configuration frame is put together, stored and judged; a frame of a remote station goes to the station's checks. Ingest timers: a command frame that waited for its second is sent; RESTART_CMD's pair is sent again while the contract is SUSPENDED; every
millisecond silence is judged; a key rotation ends; old sequence numbers leave the duplicate table; a station drops out, or stops waiting, when its
time is over and no frame of its that arrived in time waits. -/
def Obligations.IngestEventRowsComplete : Prop :=
  ((∀ (t : Nat) (f : DataFrame) (s : State), (s.at t).fabricUp = true → (s.at t).rxWaits f.hdr = true →
    (s.at t).subOf (if f.rsv then 1 else 0) f.hdr f.id f.svId = none → (s.at t).portStops f.hdr false = false →
    exec (.ingestDataFrame t f) s = .next (((s.at t).rxTake f.hdr).unmatched f.hdr ((s.at t).cameTagged f.hdr))) ∧
  (∀ (t : Nat) (f : DataFrame) (s : State) (st id : Nat) (e : IngSubSet) (k : Contract), (s.at t).fabricUp = true → (s.at t).rxWaits f.hdr = true →
    (s.at t).subOf (if f.rsv then 1 else 0) f.hdr f.id f.svId = some (st, e) → (s.at t).streamTurn st f.hdr = true → f.supported = true →
    f.more.length ≤ 7 → (f.rsv = false → f.sizeOk = true ∧ f.chkOk = true) → e.flags.testBit 7 = false → subRedundant e = false →
    (f.rsv && f.sim) = false → (((s.at t).rxTake f.hdr).streamSt st).simInUse = false → ((s.at t).rxTake f.hdr).carrierOf st = some (id, k) →
    exec (.ingestDataFrame t f) s = .next (((s.at t).rxTake f.hdr).dataAsdus st e id k f)) ∧
  (∀ (t : Nat) (f : ConfigFrame) (s : State) (st : Nat) (e : IngSubSet), (s.at t).fabricUp = true → (s.at t).rxWaits f.hdr = true →
    (s.at t).subOf 0 f.hdr f.id 0 = some (st, e) → (s.at t).quietTurn st f.hdr = true → f.supported = true → f.sizeOk = true → f.chkOk = true →
    subRedundant e = false → (((s.at t).rxTake f.hdr).streamSt st).lastCfg = none →
    exec (.ingestConfigFrame t f) s = .next (((s.at t).rxTake f.hdr).configPart st e f) ∧
    (f.type ≠ 3 ∨ f.contIdx = 0 → ((s.at t).rxTake f.hdr).configPart st e f =
      (((s.at t).rxTake f.hdr).modStream st (fun x => { x with lastCfg := some f.hdr.arrival })).configTake st e f)) ∧
  (∀ (t : Nat) (f : SvFrame) (s : State) (st id : Nat) (e : IngSubSet) (k : Contract), (s.at t).fabricUp = true → (s.at t).rxWaits f.hdr = true →
    (s.at t).subOf 2 f.hdr f.appId f.svId = some (st, e) → (s.at t).streamTurn st f.hdr = true → f.supported = true → f.formatOk = true →
    f.asdus ≠ [] → f.asdus.length ≤ 8 → (∀ a ∈ f.asdus, a.smpCnt < e.svRate ∧ a.samples.length = 8) → subRedundant e = false → f.sim = false →
    (((s.at t).rxTake f.hdr).streamSt st).simInUse = false → ((s.at t).rxTake f.hdr).carrierOf st = some (id, k) → k.rate = e.svRate →
    exec (.ingestSvFrame t f) s = .next (((s.at t).rxTake f.hdr).svCarried st e id k f)) ∧
  (∀ (t : Nat) (f : GooseFrame) (s : State) (n : Nat) (x : Station), (s.at t).fabricUp = true → (s.at t).rxWaits f.hdr = true →
    (s.at t).stationOf f.hdr f.rGoose f.appId f.gocbRef = some (n, x) → (s.at t).rxTurn f.hdr (fun e => e.station == some n) = true →
    f.supported = true → f.rGoose = false → tget n ((s.at t).rxTake f.hdr).ing.stations = some x →
    exec (.ingestGooseFrame t f) s = .next (((s.at t).rxTake f.hdr).stationPasses n x f))) ∧
  ((∀ (t st cmd : Nat) (rest : List Nat) (s : State) (e : IngSubSet), (s.at t).fabricUp = true → tget st s.ing.subs = some e → e.flags.testBit 0 = true →
    (s.streamSt st).onAt = none → (s.streamSt st).waitCmds = cmd :: rest → (s.at t).pmuFree st = true →
    exec (.pmuCmdDeferred t st) s = .next (((s.at t).modStream st (fun x => { x with waitCmds := rest })).pmuSend st e cmd)) ∧
  (∀ (t st id due : Nat) (s : State) (e : IngSubSet) (k : Contract), (s.at t).fabricUp = true → tget st s.ing.subs = some e → e.flags.testBit 2 = true →
    (s.streamSt st).restartAt = some due → due ≤ (s.at t).now → s.contractOf st = some (id, k) → k.state = .suspended →
    exec (.pmuRestartRepeat t st) s = .next
      (((s.at t).pmuPair st).modStream st (fun x => { x with restartAt := some ((s.at t).now + 10000000000) }))) ∧
  (∀ (t : Nat) (s : State), (s.at t).fabricUp = true → t % 1000000 = 0 → exec (.silenceCheck t) s = .next (s.at t).silenceCheck) ∧
  (∀ (t st due : Nat) (s : State), (s.streamSt st).overlapEnd = some due → due ≤ (s.at t).now →
    exec (.keyRotationOverlapEnd t st) s = .next ((s.at t).rotateKey st)) ∧
  (∀ (t : Nat) (s : State), ∃ u, exec (.dupEntryForget t) s = .next u ∧
    ∀ d ∈ u.ing.dup, d.seqs ≠ [] ∧ ∀ q ∈ d.seqs, (s.at t).now < q.2 + (s.at t).forgetNs) ∧
  (∀ (t n : Nat) (s : State) (x : Station), (s.at t).fabricUp = true → tget n s.ing.stations = some x → (s.at t).stationOver n x = true →
    (x.state = .healthy → exec (.stationTalExpiry t n) s = .next ((s.at t).stationDrop n x)) ∧
    (x.state = .firstSeen → exec (.stationWaitTimeout t n) s = .next ((s.at t).setStation n { x with state := .waiting, deadline := none }))))

/-- Groups: deleted when nothing names them, disabled, enabled (they depart, or wait for their base), or given a new budget and horizon while they depart,
the new budget from the first instant due more than 1 ms after completion, the new horizon for frames that arrive after it; and queried (R118 to R121).
The reply carries the first instant concerned. Policies, departure rings and history: PLT_CHAN_POLICY sets the policy of each channel named from its
completion on (R131); PLT_RING_SET places a ring of the caller's partition anew; a consumer count is taken when it leaves no more than the ring free
(R139); PLT_HISTORY_READ copies a record out. -/
def Obligations.GroupAndPlatformCommandsComplete : Prop :=
  ((∀ (h : Pkt) (p : PltGroupSet) (s s1 : State),
    let c : CmdInfo := { op := 0x0300, len := some 24 }
    s.started c h = some s1 → h.part = 0 → p.group ≤ 15 → p.delete = true →
    (s1.group p.group = none → exec (.pltGroupSet h p) s = .next (s1.answered c h stOk 0 (zeros 12))) ∧
    ((s1.group p.group).isSome = true → s1.groupNamed p.group = false →
      exec (.pltGroupSet h p) s = .next
        (({ s1 with plt := { s1.plt with groups := tdel p.group s1.plt.groups } } : State).groupAnswered h p.group none))) ∧
  (∀ (h : Pkt) (p0 p : PltGroupSet) (s s1 : State) (g0 : Group),
    let c : CmdInfo := { op := 0x0300, len := some 24 }
    let t := s1.doneAt h
    s.started c h = some s1 → h.part = 0 →
    p = PltGroupSet.filled p0 → p.delete = false → p.group ≤ 15 → 1 ≤ p.tbSel → p.tbSel ≤ 3 → p.rate ∈ frameRates → 1000 ≤ p.waitUs → p.waitUs ≤ 500000 → p.horizonMs ≤ 10000 →
    (∀ g, s1.group p.group = some g → g.state ≠ .disabled → g.set.tbSel = p.tbSel ∧ g.set.rate = p.rate) →
    (∀ e ∈ s1.members p.group, (e.1 < 65536 → p.waitUs ≤ e.2.deadlineUs) ∧ e.2.instRate % Nat.max p.rate 1 = 0) →
    g0 = ((s1.group p.group).map (fun g => { g with set := p })).getD { set := p } →
    (p.enable = false → exec (.pltGroupSet h p0) s = .next
      ((((s1.setGroup p.group { g0 with state := .disabled, first := none, last := none, house := [], released := [] }).freeSlots).metersRefresh).groupAnswered
        h p.group none)) ∧
    (p.enable = true → (∀ g, s1.group p.group = some g → g.state = .disabled) →
      exec (.pltGroupSet h p0) s = .next
        ((s1.groupEnable p.group g0 t).groupAnswered h p.group (((s1.groupEnable p.group g0 t).group p.group).bind (·.first)))) ∧
    (∀ (g g1 : Group) (w : Group × Option Nat), p.enable = true → s1.group p.group = some g → g.state ≠ .disabled →
      w = (if g.set.waitUs = p.waitUs then (g0, g0.nextInst) else s1.groupWait g0 p.waitUs t) →
      g1 = (if g.set.horizonMs = p.horizonMs then w.1 else { w.1 with horizons := (t, p.horizonMs) :: w.1.horizons }) →
      exec (.pltGroupSet h p0) s = .next ((s1.setGroup p.group g1).groupAnswered h p.group w.2))) ∧
  (∀ (h : Pkt) (n : Nat) (s s1 : State),
    let c : CmdInfo := { op := 0x0301, len := some 4, ro := true }
    s.started c h = some s1 → n ≤ 15 →
    (s1.group n = none → exec (.pltGroupQuery h n) s = .next (s1.answered c h stOk 0 (zeros 40))) ∧
    (∀ g, s1.group n = some g → exec (.pltGroupQuery h n) s = .next (s1.answered c h stOk 0
      (le 1 g.state.code ++ le 1 (b2n g.set.enable + 2 * b2n g.set.fullHouse) ++ le 1 g.set.tbSel ++ zeros 1 ++ le 4 g.set.rate
        ++ le 4 g.set.waitUs ++ le 4 g.set.horizonMs ++ le 8 ((g.last.map instNs).getD 0) ++ le 8 g.seq ++ le 2 (s1.members n).length ++ zeros 6))))) ∧
  ((∀ (h : Pkt) (p : PltChanPolicy) (s s1 : State),
    let c : CmdInfo := { op := 0x0302, len := some 8 }
    s.started c h = some s1 → p.stream < 16384 → s1.holds h.part kindStream p.stream = true → 1 ≤ p.count → p.first + p.count ≤ 256 → p.policy ≤ 2 →
    (p.policy = 1 → p.holdLimit ≠ 0) →
    exec (.pltChanPolicy h p) s = .next (({ s1 with plt := { s1.plt with policy := (List.range p.count).foldl (fun m i =>
      tmod (chanKey p.stream (p.first + i)) [] ((s1.doneAt h, p.policy, p.holdLimit) :: ·) m) s1.plt.policy } } : State).answered c h stOk 0 [])) ∧
  (∀ (h : Pkt) (p : PltRingSet) (s s1 : State),
    let c : CmdInfo := { op := 0x0303, len := some 32 }
    s.started c h = some s1 → p.ring ≤ 3 → p.groupMask < 65536 →
    (p.ringSize = 0 ∨ (ringSizeOk p.ringSize = true ∧ 2 * s1.largestRecord h.part p.groupMask ≤ p.ringSize ∧ addrFit h p.ringAddr ∧ p.ringAddr % 4096 = 0 ∧
      addrFit h p.prodWbAddr ∧ p.prodWbAddr % 8 = 0)) →
    exec (.pltRingSet h p) s = .next
      (({ s1 with plt := { s1.plt with rings := tset (ringKey h.part p.ring) { set := p } s1.plt.rings } } : State).answered c h stOk 0 [])) ∧
  (∀ (t part ring v : Nat) (s : State) (r : DepRing), ring ≤ 3 → tget (ringKey part ring) s.plt.rings = some r →
    ((r.prod - BitVec.ofNat 32 v).toNat ≤ r.set.ringSize →
      exec (.pltRingConsWrite t part ring v) s = .next { s.at t with plt := { s.plt with
        rings := tset (ringKey part ring) { r with cons := BitVec.ofNat 32 v } s.plt.rings } }) ∧
    (r.set.ringSize < (r.prod - BitVec.ofNat 32 v).toNat → exec (.pltRingConsWrite t part ring v) s = .next (s.at t))) ∧
  (∀ (h : Pkt) (p : PltHistoryRead) (s s1 : State) (x : Slice),
    let c : CmdInfo := { op := 0x0306, len := some 32, ro := true }
    s.started c h = some s1 → p.group ≤ 15 → (p.bufLen = 0 ∨ addrFit h p.bufAddr) →
    s1.plt.history.find? (fun x => x.group == p.group && instNs x.inst == p.instant) = some x →
    (p.bufLen = 0 → exec (.pltHistoryRead h p) s = .next (s1.answered c h stOk 0 (le 4 (recordLen (s1.seen h.part x)) ++ zeros 4))) ∧
    (p.bufLen ≠ 0 → exec (.pltHistoryRead h p) s = .next
      (s1.waitsFor c h (.dmaCopy p.bufAddr ((sliceImage (s1.seen h.part x) 0).take p.bufLen) (le 4 (recordLen (s1.seen h.part x)) ++ zeros 4))))))

/-- Output streams: set, enabled with its configuration count raised when its map has changed (R141), deleted when it does not run, and its map written
while it does not run; a command frame for it is obeyed once a second (R143). Writes and departures: the item expected at the gate is let through; a
number that is neither waiting nor in flight holds the gate and is a fault (R327, R329); the next instant of a departing group leaves when it is due
(R124), no group of a lower number being due at the same tick (R128); records whose horizons have ended leave the sidings (R136); a departure overdue by 1 ms is a fault (R146). -/
def Obligations.OutputAndDepartureRowsComplete : Prop :=
  ((∀ (h : Pkt) (p0 p : PltOutSet) (s s1 : State),
    let c : CmdInfo := { op := 0x0304, len := some 64 }
    s.started c h = some s1 → p = PltOutSet.filled p0 → p.out ≤ 63 → s1.holds h.part kindOut p.out = true →
    (p.delete = true → (∀ o, tget p.out s1.plt.outs = some o → o.set.enable = false) →
      exec (.pltOutSet h p0) s = .next
        (({ s1 with plt := { s1.plt with outs := tdel p.out s1.plt.outs } } : State).answered c h stOk 0 [])) ∧
    (p.delete = false → p.idCode ≠ 0 → p.dstMac ≠ 0 → p.dstIp ≠ 0 → p.format ≤ 2 → p.group ≤ 15 → p.port ≤ 23 → p.vlan ≤ 4094 → p.idCode ≤ 65535 →
      (p.format ≤ 1 → p.idCode ≠ 65535) → p.pcp ≤ 7 → p.dscp ≤ 63 → p.sign = false → p.tag ≤ 3 → s1.divOk p = true →
      (tget p.out s1.plt.outs = none →
        exec (.pltOutSet h p0) s = .next
          (({ s1 with plt := { s1.plt with outs := tset p.out { set := p, cfgCnt := 0 } s1.plt.outs } } : State).answered c h stOk 0 [])) ∧
      (∀ o, tget p.out s1.plt.outs = some o → o.set.enable = false → p.enable = true →
        exec (.pltOutSet h p0) s = .next
          (({ s1 with plt := { s1.plt with outs := tset p.out (o.started p) s1.plt.outs } } : State).answered c h stOk 0 [])))) ∧
  (∀ (h : Pkt) (p : PltOutMap) (s s1 : State) (o : Out),
    let c : CmdInfo := { op := 0x0305, len := none }
    s.started c h = some s1 → h.paramLen = 24 + 8 * p.entries.length → p.out ≤ 63 → s1.holds h.part kindOut p.out = true → p.block ≤ 255 →
    tget p.out s1.plt.outs = some o → o.set.enable = false →
    (∀ o' : Out, o' = { o with blocks := tdel p.block o.blocks, types := tdel p.block o.types, mapChanged := true } → p.entries = [] →
      o'.frameLen + 4 ≤ (s1.port o.set.port).maxFrame →
      exec (.pltOutMap h p) s = .next (({ s1 with plt := { s1.plt with outs := tset p.out o' s1.plt.outs } } : State).answered c h stOk 0 [])) ∧
    (∀ o' : Out, o' = { o with blocks := tset p.block p o.blocks, types := tset p.block (p.entries.map s1.mapType) o.types, mapChanged := true } →
      p.entries ≠ [] → p.entries.length ≤ 256 → (∀ e ∈ p.entries, s1.reads h.part kindStream e.stream = true) →
      (o.set.format ≤ 1 → blockOrder (p.entries.map s1.mapType) = true) → o'.frameLen + 4 ≤ (s1.port o.set.port).maxFrame →
      exec (.pltOutMap h p) s = .next (({ s1 with plt := { s1.plt with outs := tset p.out o' s1.plt.outs } } : State).answered c h stOk 0 []))) ∧
  (∀ (t : Nat) (f : OutCommand) (s : State) (n : Nat) (o : Out), (s.at t).fabricUp = true →
    s.plt.outs.find? (fun e => e.2.set.enable && e.2.set.answerCmd && e.2.set.format ≤ 1 && e.2.set.port == f.port
      && e.2.set.dstIp == f.srcIp && e.2.set.udpSrc == f.udpDst && e.2.set.idCode == f.idCode) = some (n, o) →
    1 ≤ f.cmd → f.cmd ≤ 2 →
    (o.lastAnswer = none → exec (.outCommandFrame t f) s = .next
      (({ s.at t with plt := { s.plt with outs := tset n { o with lastAnswer := some (s.at t).now, on := decide (f.cmd = 2) } s.plt.outs } } : State).evtFree
        [s.holder kindOut n] 0x0A9)) ∧
    (∀ a, o.lastAnswer = some a → (s.at t).now < a + 1000000000 → exec (.outCommandFrame t f) s = .next
      { s.at t with plt := { s.plt with outs := tset n { o with ignored := o.ignored + 1 } s.plt.outs } }))) ∧
  ((∀ (t st n : Nat) (s : State), (s.at t).fabricUp = true →
    (∀ x, (s.flow st).gate.find? (fun x => x.fsn == BitVec.ofNat 32 n) = some x → BitVec.ofNat 32 n = (s.flow st).nextWrite →
      exec (.platformWrite t st n) s = .next ((s.at t).gateRelease (s.flow st) x)) ∧
    ((s.flow st).gate.find? (fun x => x.fsn == BitVec.ofNat 32 n) = none → ((s.flow st).nextEmit - (s.flow st).nextWrite).toNat ≤ (BitVec.ofNat 32 n - (s.flow st).nextWrite).toNat →
      exec (.platformWrite t st n) s = .next (((s.at t).gateHold st).faultPair 65 66 st 0xFF))) ∧
  (∀ (t n i rel : Nat) (early : Bool) (s : State) (g : Group), (s.at t).fabricUp = true → s.group n = some g → g.state = .departing → g.nextInst = some i →
    (s.at t).releaseTick g i = some (rel, early) →
    ((s.at t).pastEntry rel = false → (s.at t).lowerFirst n rel = false →
      exec (.departureRelease t n i) s = .next (((s.at t).release n g i rel early).latency 2 ((s.at t).now - rel) (some 20000))) ∧
    (rel + 1000000 ≤ (s.at t).now →
      exec (.departureOverdue t n i) s = .next ((s.at t).free.2.faultPair 44 45 (s.at t).free.1 0xFF))) ∧
  (∀ (t : Nat) (s : State),
    exec (.sidingsRecordFree t) s = .next { s.at t with plt := { s.plt with sidings := s.plt.sidings.filter (fun x => decide ((s.at t).now < x.ends)) } }))

/-- Waveform units: cleared; set, the unit and the figures of its chain refreshed, the reply of a P-class unit (R151 to R153) written out; queried.
Comparators and harmonic taps: a comparator is set and keeps its changed bit and stamp; WCH_CMP_READ gives the caller's comparators of a group of 32
and clears their changed bits on request; a tap is taken or given back by the partition that has it. -/
def Obligations.WaveformRowsComplete : Prop :=
  ((∀ (h : Pkt) (p : WchUnitSet) (s s1 : State) (u : WUnit),
    let c : CmdInfo := { op := 0x0400, len := some 32 }
    s.started c h = some s1 → p.clear = true → p.unit ≤ 255 → s1.holds h.part kindUnit p.unit = true → tget p.unit s1.wch.units = some u →
    s1.underContract u.set.stream = false →
    exec (.wchUnitSet h p) s = .next
      ((({ s1 with wch := { s1.wch with units := tdel p.unit s1.wch.units } } : State).metersRefresh).answered c h stOk 0 (zeros 24))) ∧
  (∀ (h : Pkt) (p0 p : WchUnitSet) (s s1 : State) (u : WUnit) (rate : Option Nat) (g : Geo),
    let c : CmdInfo := { op := 0x0400, len := some 32 }
    let old := tget p.unit s1.wch.units
    let after := ((s1.setUnit p.unit u).unitRefresh p.unit).metersRefresh
    s.started c h = some s1 → p = filledUnitSet p0 → p.clear = false → p.unit ≤ 255 → p.stream ≤ 16383 → s1.holds h.part kindUnit p.unit = true →
    s1.holds h.part kindStream p.stream = true → 1 ≤ p.outSel → p.outSel ≤ 65535 → (∃ e, tget p.stream s1.ing.subs = some e ∧ e.kind = 2) →
    (∀ e, s1.unitOf p.stream = some e → e.1 = p.unit) → (p.fnom60 = true → s1.svRate p.stream ≠ 4000 ∧ s1.svRate p.stream ≠ 12800) →
    p.cls ≤ 1 → p.phase ≤ 1 → p.trackRef ≤ 13 → p.gapFill ≤ 3 → 10 ≤ p.stepLevel → p.stepLevel ≤ 1000 → negOrNan p.trackMin = false →
    -100000 ≤ p.timeCorrNs → p.timeCorrNs ≤ 100000 →
    (s1.underContract p.stream = true ∨ old.any (fun u => s1.underContract u.set.stream) = true → ∀ v, old = some v → unitFrozenSet v.set p = true) →
    rate = (s1.contractOf p.stream).map (fun e => e.2.outRate) → g = geoOf p (s1.svRate p.stream) (rate.getD 50) →
    (∀ e, s1.contractOf p.stream = some e → e.2.isHeld = true →
      refuseReason (s1.svRate p.stream) p.outSel e.2 = 0 ∧ g.ns (g.total (selFreq p.outSel)) + 500000 ≤ e.2.deadlineUs * 1000) →
    (old = none ∧ u = { set := p } ∨ ∃ v, old = some v ∧ u = if v.set.stream = p.stream then { v with set := p } else { set := p }) →
    (p.cls = 0 → exec (.wchUnitSet h p0) s = .next (after.answered c h stOk 0
      (le 2 g.fp ++ le 1 g.r ++ zeros 1 ++ le 4 (g.ns (g.total (selFreq p.outSel))) ++ le 4 (g.ns (g.frontEnd + g.half * g.r)) ++ le 4 (g.ns g.settle)
        ++ le 4 (if p.phase = 0 then 0 else if p.fnom60 then 325000 else 400000) ++ le 1 (popCount 16 p.outSel) ++ zeros 3))) ∧
    (p.cls = 1 → ∃ t res, exec (.wchUnitSet h p0) s = .next (State.answered t c h stOk 0 res) ∧ (t = after ∨ t = after.free.2.free.2.free.2))) ∧
  (∀ (h : Pkt) (n : Nat) (s s1 : State),
    let c : CmdInfo := { op := 0x0401, len := some 4, ro := true }
    s.started c h = some s1 → n ≤ 255 → s1.holds h.part kindUnit n = true →
    (tget n s1.wch.units = none → exec (.wchUnitQuery h n) s = .next (s1.answered c h stOk 0 (zeros 32))) ∧
    (∀ u, tget n s1.wch.units = some u → exec (.wchUnitQuery h n) s = .next (s1.answered c h stOk 0
      (le 1 u.state.code ++ le 1 (b2n u.mode1) ++ le 1 u.reason ++ zeros 1 ++ le 2 u.set.stream ++ le 2 u.set.outSel
        ++ le 4 u.fImage.toNat ++ le 4 u.switches ++ le 8 u.lastSwitch
        ++ le 8 ((u.switchN.map (fun x => twos 64 ((geoOf u.set (s1.svRate u.set.stream) 50).sampleNs u.set x))).getD 0)))))) ∧
  ((∀ (h : Pkt) (p : WchCmpSet) (s s1 : State),
    let c : CmdInfo := { op := 0x0402, len := some 24 }
    s.started c h = some s1 → p.cmp ≤ 2047 → s1.holds h.part kindUnit (p.cmp / 8) = true → p.qty ≤ 15 → p.mode ≤ 3 → (p.mode = 3 → 14 ≤ p.qty) →
    f32Nan p.level = false → negOrNan p.hyst = false →
    (tget p.cmp s1.wch.cmps = none → exec (.wchCmpSet h p) s = .next
      (({ s1 with wch := { s1.wch with cmps := tset p.cmp { set := p } s1.wch.cmps } } : State).answered c h stOk 0 [])) ∧
    (∀ x, tget p.cmp s1.wch.cmps = some x → exec (.wchCmpSet h p) s = .next
      (({ s1 with wch := { s1.wch with cmps := tset p.cmp { set := p, changed := x.changed, stamp := x.stamp } s1.wch.cmps } } : State).answered
        c h stOk 0 []))) ∧
  (∀ (h : Pkt) (p : WchCmpRead) (s s1 : State),
    let c : CmdInfo := { op := 0x0403, len := some 4, ro := !p.clear }
    let res := le 4 (mask32 (fun i => (s1.cmpsOf h.part p.group i).any (·.asserted))) ++ le 4 (mask32 (fun i => (s1.cmpsOf h.part p.group i).any (·.changed)))
      ++ ((List.range 32).map (fun i => le 8 (((s1.cmpsOf h.part p.group i).map (fun c => twos 64 c.stamp)).getD 0))).flatten
    s.started c h = some s1 → p.group ≤ 63 →
    (p.clear = false → exec (.wchCmpRead h p) s = .next (s1.answered c h stOk 0 res)) ∧
    (p.clear = true → exec (.wchCmpRead h p) s = .next
      (({ s1 with wch := { s1.wch with cmps := tmap (fun n x =>
        if n / 32 == p.group && s1.holds h.part kindUnit (n / 8) then { x with changed := false } else x) s1.wch.cmps } } : State).answered c h stOk 0 res))) ∧
  (∀ (h : Pkt) (p : WchHxSet) (s s1 : State),
    let c : CmdInfo := { op := 0x0404, len := some 8 }
    s.started c h = some s1 → p.hx ≤ 63 → p.input ≤ 7 → p.unit ≤ 255 → s1.holds h.part kindUnit p.unit = true →
    (∀ x, tget p.hx s1.wch.taps = some x → x.part = h.part) →
    (p.enable = true → exec (.wchHxSet h p) s = .next
      (({ s1 with wch := { s1.wch with taps := tset p.hx { part := h.part, unit := p.unit, input := p.input } s1.wch.taps } } : State).answered c h stOk 0 [])) ∧
    (p.enable = false → exec (.wchHxSet h p) s = .next
      (({ s1 with wch := { s1.wch with taps := tdel p.hx s1.wch.taps } } : State).answered c h stOk 0 []))))

/-- Metering points: freed, their accumulators set to 0; set afresh, moved (R192) or changed in what moves nothing; read (Table 06-8); cleared as of the
command's completion. Pulse inputs and outputs: an input begins a check interval at the completion of its command; a rise of a Form A input's pin
counts a pulse (R194) and a pin that keeps its level counts none; a check interval ends with the mismatch of R195 judged; an output in its active time
takes the new setting at its end, and a gap follows an active time (R197). -/
def Obligations.MeteringRowsComplete : Prop :=
  ((∀ (h : Pkt) (p : NrgPointSet) (s s1 : State),
    let c : CmdInfo := { op := 0x0500, len := some 32 }
    let n := p.mp
    let old := s1.meter n
    s.started c h = some s1 → n ≤ 255 → s1.holds h.part kindMeter n = true →
    (p.source = 0 → old.set.source = 0 → exec (.nrgPointSet h p) s = .next (s1.answered c h stOk 0 [])) ∧
    (p.source = 0 → old.set.source ≠ 0 → exec (.nrgPointSet h p) s = .next
      (((s1.setMeter n (({ old with set := offPoint n, running := false, lost := false } : Meter).cleared (s1.doneAt h))).nrgEvent kindMeter n 0x103).answered
        c h stOk 0 [])) ∧
    (p.source = 1 ∨ p.source = 2 → (p.source = 1 → p.wiring ≤ 1 ∧ s1.holds h.part kindUnit p.unit = true) →
      (p.source = 2 → (p.wiring = 0 ∨ p.wiring = 2) ∧ p.unit = 0 ∧ firstBad (s1.slicePointChecks h p) = none) → p.unit ≤ 255 → negOrNan p.sFloor = false →
      (old.set.source = 0 → exec (.nrgPointSet h p) s = .next
        (((s1.setMeter n (({ old with set := p, running := false, lost := false } : Meter).cleared (s1.doneAt h))).meterRefresh n).answered c h stOk 0 [])) ∧
      (old.set.source ≠ 0 → pointMoved old.set p = true → exec (.nrgPointSet h p) s = .next
        ((((s1.setMeter n (({ old with set := p, running := false, lost := false } : Meter).cleared (s1.doneAt h))).nrgEvent kindMeter n 0x103).meterRefresh n).answered
          c h stOk 0 [])) ∧
      (old.set.source ≠ 0 → pointMoved old.set p = false → exec (.nrgPointSet h p) s = .next
        (((s1.setMeter n { old with set := p }).meterRefresh n).answered c h stOk 0 [])))) ∧
  (∀ (h : Pkt) (n : Nat) (s s1 : State),
    let c : CmdInfo := { op := 0x0501, len := some 4, ro := true }
    s.started c h = some s1 → n ≤ 255 → s1.reads h.part kindMeter n = true →
    exec (.nrgPointRead h n) s = .next (s1.answered c h stOk 0 (meterReply n (s1.meter n)))) ∧
  (∀ (h : Pkt) (n : Nat) (s s1 : State),
    let c : CmdInfo := { op := 0x0502, len := some 4 }
    s.started c h = some s1 → n ≤ 255 → s1.holds h.part kindMeter n = true →
    exec (.nrgAccClear h n) s = .next (((s1.at h.done).accClear n).answered c h stOk 0 (le 8 ((s1.at h.done).accClear n).now)))) ∧
  ((∀ (h : Pkt) (p0 p : NrgPiSet) (s s1 : State),
    let c : CmdInfo := { op := 0x0503, len := some 24 }
    s.started c h = some s1 →
    p = { p0 with debounce := if p0.debounce == 0 then 10 else p0.debounce, checkS := if p0.checkS == 0 then 900 else p0.checkS } →
    p.pi ≤ 15 → s1.holds h.part kindPulseIn p.pi = true → p.form ≤ 2 → (p.form = 2 → p.pi % 2 = 0 ∧ s1.holds h.part kindPulseIn (p.pi + 1) = true) →
    p.mp ≤ 255 → p.acc ≤ 5 → (p.tolPm ≠ 0 → s1.holds h.part kindMeter p.mp = true ∧ p.weight ≠ 0) → 60 ≤ p.checkS → p.checkS ≤ 86400 →
    exec (.nrgPiSet h p0) s = .next
      ((s1.setPi p.pi (s1.checkFrom { tgetD p.pi { set := p } s1.nrg.pis with
        set := p, closed := if p.form == 2 then closedLine s1.nrg.piLevel p.pi else none } (s1.doneAt h))).answered c h stOk 0 [])) ∧
  (∀ (t n : Nat) (level : Bool) (s : State), (s.at t).fabricUp = true → n ≤ 15 →
    (s.nrg.piLevel.testBit n = level → exec (.piLevelAccepted t n level) s = .next (s.at t)) ∧
    (∀ t0, tget n s.nrg.piAt = some t0 → (s.at t).now < t0 + s.debounceNs n → exec (.piLevelAccepted t n level) s = .next (s.at t)) ∧
    (∀ x, s.nrg.piLevel.testBit n = false → level = true → (s.at t).now % 10000 = 0 →
      (∀ t0, tget n s.nrg.piAt = some t0 → t0 + s.debounceNs n ≤ (s.at t).now) → (∀ y, tget (n - n % 2) s.nrg.pis = some y → y.set.form ≠ 2) → tget n s.nrg.pis = some x → x.set.form = 1 →
      exec (.piLevelAccepted t n level) s = .next
        (({ s.at t with nrg := { s.nrg with piLevel := s.nrg.piLevel + 2 ^ n, piAt := tset n (s.at t).now s.nrg.piAt } } : State).setPi n { x with count := x.count + 1, pulses := x.pulses + 1 }))) ∧
  (∀ (t n : Nat) (s : State) (x : PulseIn) (a : Nat × Nat) (inc : Int), (s.at t).fabricUp = true → tget n s.nrg.pis = some x → x.set.form ≠ 0 → x.set.tolPm ≠ 0 →
    x.checkStart + 1000000000 * x.set.checkS ≤ (s.at t).now → a = s.accTotal x.set.mp x.set.acc →
    inc = (((a.2 + 256 - x.wrapStart) % 256 * 2 ^ 64 + a.1 : Nat) : Int) - (x.accStart : Int) →
    (x.spoilt = true → exec (.piCrossCheck t n) s = .next
      ((s.at t).setPi n ((s.at t).checkFrom { x with skipped := x.skipped + 1 } (x.checkStart + 1000000000 * x.set.checkS)))) ∧
    (x.spoilt = false → piMismatch x.set.tolPm x.set.weight x.pulses inc = false → exec (.piCrossCheck t n) s = .next
      ((s.at t).setPi n ((s.at t).checkFrom x (x.checkStart + 1000000000 * x.set.checkS))))) ∧
  (∀ (h : Pkt) (p0 p : NrgPoSet) (s s1 : State) (o : PulseOut),
    let c : CmdInfo := { op := 0x0504, len := some 24 }
    s.started c h = some s1 → p = { p0 with gapMs := if p0.gapMs == 0 then p0.pulseMs else p0.gapMs } →
    p.po ≤ 7 → s1.holds h.part kindPulseOut p.po = true → p.mp ≤ 255 → s1.holds h.part kindMeter p.mp = true → p.acc ≤ 5 → 1 ≤ p.pulseMs → p.pulseMs ≤ 1000 →
    p.gapMs ≤ 1000 → p.weight ≠ 0 → o = tgetD p.po { set := p } s1.nrg.pos →
    (o.phase = .active → exec (.nrgPoSet h p0) s = .next
      ((s1.setPo p.po { o with spill := 0, pending := 0, backlogSeen := false, lostInBacklog := false, next := some p }).answered c h stOk 0 [])) ∧
    (o.phase ≠ .active → exec (.nrgPoSet h p0) s = .next
      ((s1.setPo p.po { o with spill := 0, pending := 0, backlogSeen := false, lostInBacklog := false, set := p, next := none }).answered c h stOk 0 []))) ∧
  (∀ (t n : Nat) (s : State) (o : PulseOut), (s.at t).fabricUp = true → tget n s.nrg.pos = some o →
    (o.phase = .active → o.phaseAt + 1000000 * o.set.pulseMs ≤ (s.at t).now → exec (.poPulsePhaseEnd t n) s = .next
      ((s.at t).setPo n { o with set := o.next.getD o.set, next := none, phase := .gap, phaseAt := (s.at t).now })) ∧
    (o.phase = .gap → o.phaseAt + 1000000 * o.set.gapMs ≤ (s.at t).now → exec (.poPulsePhaseEnd t n) s = .next
      ((s.at t).setPo n (PulseOut.drive { o with phase := .idle } (s.at t).now))) ∧
    (o.phase = .active → (s.at t).now < o.phaseAt + 1000000 * o.set.pulseMs → exec (.poPulsePhaseEnd t n) s = .next (s.at t)) ∧
    (o.phase = .gap → (s.at t).now < o.phaseAt + 1000000 * o.set.gapMs → exec (.poPulsePhaseEnd t n) s = .next (s.at t))))

/-- The oscillation block. OSC_DET_SET queues the change of a detector, or the freeing of one that is set (`State.detQueue`, R205), and answers with the band,
the window, the samples of its priming and the delay, or with zeros for a freeing, which of a detector that is not set changes nothing. OSC_DET_READ answers
with the caller's detectors of a group of 32 and on request clears their changed bits. OSC_MODAL_SET writes a band and OSC_SIG_SET writes or clears a signal.
OSC_MODE_READ answers with the length of the latest image of modes, and copies the image out where a buffer is named. With the fabric up, a MODAL_REFRESH
stamps the refresh with the latest multiple of 200 ms of the engine's base and counts one on (R216); it changes nothing where that multiple has been refreshed
or no band is enabled. With the fabric up, a MODAL_OVERRUN raises fault 51 after it has discarded the refresh, which leaves every mode stale with its two
counts at 0, and which with no band enabled changes nothing (R217, R227). -/
def Obligations.OscillationRowsComplete : Prop :=
  ((∀ (h : Pkt) (p : OscDetSet) (s s1 : State) (rate nw band : Nat) (lo hi : Frac),
    let c : CmdInfo := { op := 0x0600, len := some 40 }
    s.started c h = some s1 → p.det ≤ 2047 → s1.holds h.part kindDetector p.det = true →
    (p.src = 0xFF → tget p.det s1.osc.dets = none → exec (.oscDetSet h p) s = .next (s1.answered c h stOk 0 (zeros 16))) ∧
    (p.src = 0xFF → (tget p.det s1.osc.dets).isSome = true →
      exec (.oscDetSet h p) s = .next ((s1.detQueue p (s1.doneAt h)).answered c h stOk 0 (zeros 16))) ∧
    (p.src ≤ 2 → rate = s1.srcRate p.src p.group p.sourceId → nw = detWindow p.winMs rate →
      firstBad (s1.sourceChecks h { src := p.src, qty := p.qty, group := p.group, id := p.sourceId, ch := p.ch, refCh := p.refCh, refStream := p.refStream }
        { qty := 3, group := 4, id := 8, ch := 10, refCh := 11, refStream := 12 }) = none →
      p.group ≤ 15 → (p.src = 0 → 30 ≤ rate) → p.order ≠ 0 → p.order ≤ 8 → p.order % 2 = 0 → p.badPm ≤ 1000 →
      f32Num p.fLow = some lo → f32Num p.fHigh = some hi → fLt (frac 0) lo = true → fLt lo hi = true → fLe (fMul (frac 10) hi) (frac (4 * rate)) = true →
      bandOf lo hi p.src rate = some band → 100 ≤ p.winMs → p.winMs ≤ 600000 → 8 ≤ nw → nw ≤ 65536 → posNum p.level = true → negOrNan p.hyst = false →
      extLt (extOf (f32Val p.hyst)) (extOf (f32Val p.level)) = true → (p.src = 0 ∨ s1.fastDets p.det < 512) →
      exec (.oscDetSet h p) s = .next ((s1.detQueue p (s1.doneAt h)).answered c h stOk 0
        (le 1 band ++ zeros 3 ++ le 4 nw ++ le 4 (detPrime p rate) ++ le 4 (s1.detDelay p))))) ∧
  (∀ (h : Pkt) (p : OscDetRead) (s s1 : State),
    let c : CmdInfo := { op := 0x0601, len := some 4, ro := !p.clear }
    let l := s1.ownDets h.part p.group
    let res := le 4 (maskOf (l.map (fun d => d.any (·.asserted)))) ++ le 4 (maskOf (l.map (fun d => d.any (·.changed))))
      ++ (l.map (fun (d : Option Detector) => le 4 ((d.map (fun x => x.amp.toNat)).getD 0))).flatten
      ++ (l.map (fun (d : Option Detector) => le 8 (twos 64 ((d.map (·.stamp)).getD 0)))).flatten
    s.started c h = some s1 → p.group ≤ 63 →
    (p.clear = false → exec (.oscDetRead h p) s = .next (s1.answered c h stOk 0 res)) ∧
    (p.clear = true → exec (.oscDetRead h p) s = .next
      (({ s1 with osc := { s1.osc with dets := tmap (fun n d =>
        if n / 32 == p.group && s1.holds h.part kindDetector n then { d with changed := false } else d) s1.osc.dets } } : State).answered c h stOk 0 res))) ∧
  (∀ (h : Pkt) (p0 p : OscModalSet) (s s1 : State),
    let c : CmdInfo := { op := 0x0602, len := some 32 }
    s.started c h = some s1 → p = { p0 with persistR := if p0.persistR == 0 then 1 else p0.persistR } → p.band ≤ 2 → s1.holds h.part kindModal 0 = true →
    1 ≤ p.tbSel → p.tbSel ≤ 3 → 10 ≤ p.winS → p.winS ≤ 60 → (p.enable = true → p.modes ≠ 0) → p.modes ≤ 32 → p.persistR ≤ 300 → p.lagMs ≤ 5000 →
    within p.zetaMin (-1) 1 = true → negOrNan p.zetaHyst = false → within p.confMin 0 1 = true → within p.eMin 0 1 = true →
    (s1.modalOn = true → ∀ e ∈ s1.osc.bands, e.2.tbSel = p.tbSel) →
    ((s1.osc.bands.filter (fun e => e.1 != p.band)).map (·.2.modes)).sum + p.modes ≤ 32 →
    exec (.oscModalSet h p0) s = .next (({ s1 with osc := { s1.osc with
      bands := tset p.band p (tmap (fun _ b => { b with tbSel := p.tbSel }) s1.osc.bands)
      modes := tmap (fun _ m => if m.cand.band == p.band then { m with low := 0, recovered := 0 } else m) s1.osc.modes
      seq := if p.enable && !s1.modalOn then 0 else s1.osc.seq } } : State).answered c h stOk 0 [])) ∧
  (∀ (h : Pkt) (p : OscSigSet) (s s1 : State),
    let c : CmdInfo := { op := 0x0603, len := some 16 }
    s.started c h = some s1 → p.sig ≤ 511 → s1.holds h.part kindModal 0 = true →
    (p.band = 0xFF → exec (.oscSigSet h p) s = .next (({ s1 with osc := { s1.osc with sigs := tdel p.sig s1.osc.sigs } } : State).answered c h stOk 0 [])) ∧
    (p.band ≤ 2 → p.src ≤ 2 → bandAllows p.band p.src (s1.srcRate p.src p.group p.sourceId) = true →
      firstBad (s1.sourceChecks h { src := p.src, qty := p.qty, group := p.group, id := p.sourceId, ch := p.ch, refCh := p.refCh, refStream := p.refStream }
        { qty := 4, group := 5, id := 6, ch := 8, refCh := 9, refStream := 10 }) = none →
      exec (.oscSigSet h p) s = .next (({ s1 with osc := { s1.osc with sigs := tset p.sig { set := p } s1.osc.sigs } } : State).answered c h stOk 0 [])))) ∧
  ((∀ (h : Pkt) (p : BufRead) (s s1 : State),
    let c : CmdInfo := { op := 0x0604, len := some 16, ro := true }
    let res := le 4 s1.osc.image.length ++ zeros 4 ++ le 8 s1.osc.seq
    s.started c h = some s1 → s1.reads h.part kindModal 0 = true →
    (p.bufLen = 0 → exec (.oscModeRead h p) s = .next (s1.answered c h stOk 0 res)) ∧
    (p.bufLen ≠ 0 → addrFit h p.bufAddr →
      exec (.oscModeRead h p) s = .next (s1.waitsFor c h (.dmaCopy p.bufAddr (s1.osc.image.take p.bufLen) res)))) ∧
  (∀ (t blocks : Nat) (s : State), (s.at t).fabricUp = true →
    (s.modalOn = false → exec (.modalRefresh t blocks) s = .next (s.at t)) ∧
    (∀ e r now, s.osc.bands.filter (fun e => e.2.enable) = e :: r → (s.at t).reading e.2.tbSel = some now →
      (s.osc.seq ≠ 0 → s.osc.refresh = now / 200000000 * 200000000 → exec (.modalRefresh t blocks) s = .next (s.at t)) ∧
      ((s.osc.seq = 0 ∨ s.osc.refresh ≠ now / 200000000 * 200000000) →
        exec (.modalRefresh t blocks) s = .next ((s.at t).modalRefresh blocks) ∧
        ((s.at t).modalRefresh blocks).osc.refresh = now / 200000000 * 200000000 ∧ ((s.at t).modalRefresh blocks).osc.seq = s.osc.seq + 1))) ∧
  (∀ (t : Nat) (s s1 : State), (s.at t).fabricUp = true → s1 = (s.at t).modalDiscard →
    exec (.modalOverrun t) s = .next (s1.free.2.fault 51 s1.free.1 (s1.holder kindModal 0)) ∧
    (s.modalOn = true → s1.osc.modes = tmap (fun _ m => { m with stale := true, low := 0, recovered := 0 }) s.osc.modes) ∧
    (s.modalOn = false → s1 = s.at t)))

/-- The coherency engine: its setting and its buses wait for the next instant that it takes up (R230); its islands and buses are copied out; an evaluation
overdue is discarded, which leaves islands as they were and raises the stale mark, under faults 52 and 53 (R251), and one that is not overdue changes
nothing. -/
def Obligations.CoherencyRowsComplete : Prop :=
  (∀ (h : Pkt) (p0 p : CohSet) (s s1 : State) (g : Group) (nw : Nat),
    let c : CmdInfo := { op := 0x0700, len := some 32 }
    s.started c h = some s1 → p = { p0 with winMs := if p0.winMs == 0 then 500 else p0.winMs } → s1.holds h.part kindCoherency 0 = true → p.group ≤ 15 →
    s1.group p.group = some g → 2 ≤ p.minBuses → p.minBuses ≤ 4096 → 100 ≤ p.winMs → p.winMs ≤ 2000 → nw = cohWindow p.winMs g.set.rate → 2 ≤ nw → nw ≤ 480 →
    posNum p.fCoh = true → posNum p.aCoh = true → posNum p.fSep = true → negOrNan p.fHyst = false →
    extLt (extOf (f32Val p.fHyst)) (extOf (f32Val p.fSep)) = true → negOrNan p.angGrow = false →
    exec (.cohSet h p0) s = .next (({ s1 with coh := { s1.coh with next := s1.coh.next ++ [(p, s1.doneAt h)] } } : State).answered c h stOk 0
      (le 2 nw ++ le 2 s1.coh.busesSet ++ zeros 4))) ∧
  (∀ (h : Pkt) (p : CohBusSet) (s s1 : State),
    let c : CmdInfo := { op := 0x0701, len := none }
    let waiting := s1.coh.nextBuses ++ p.entries.zipIdx.map (fun e => { bus := p.first + e.2, entry := e.1, done := s1.doneAt h })
    s.started c h = some s1 → h.paramLen = 8 + 16 * p.count → s1.holds h.part kindCoherency 0 = true → p.first ≤ 4095 → 1 ≤ p.count → p.count ≤ 253 →
    p.first + p.count ≤ 4096 → p.entries.length = p.count →
    firstBad (((List.range p.entries.length).zip p.entries).flatMap (fun e => s1.busChecks h e.2 (8 + 16 * e.1))) = none →
    exec (.cohBusSet h p) s = .next (({ s1 with coh := { s1.coh with nextBuses := waiting } } : State).answered c h stOk 0 [])) ∧
  (∀ (h : Pkt) (p : BufRead) (s s1 : State),
    let c : CmdInfo := { op := 0x0702, len := some 16, ro := true }
    s.started c h = some s1 → s1.reads h.part kindCoherency 0 = true →
    (p.bufLen = 0 → exec (.cohIslandRead h p) s = .next (s1.answered c h stOk 0 (cohReply s1.coh.image.length s1.coh.seq))) ∧
    (p.bufLen ≠ 0 → addrFit h p.bufAddr → exec (.cohIslandRead h p) s = .next
      (s1.waitsFor c h (.dmaCopy p.bufAddr (s1.coh.image.take p.bufLen) (cohReply s1.coh.image.length s1.coh.seq))))) ∧
  (∀ (h : Pkt) (p : CohBusRead) (s s1 : State),
    let c : CmdInfo := { op := 0x0703, len := some 24, ro := true }
    s.started c h = some s1 → s1.reads h.part kindCoherency 0 = true → p.first + p.count ≤ 4096 →
    (p.bufLen = 0 → exec (.cohBusRead h p) s = .next (s1.answered c h stOk 0 (cohReply (32 + 16 * p.count) s1.coh.seq))) ∧
    (p.bufLen ≠ 0 → addrFit h p.bufAddr → exec (.cohBusRead h p) s = .next
      (s1.waitsFor c h (.dmaCopy p.bufAddr ((s1.coh.busImage p.first p.count).take p.bufLen) (cohReply (32 + 16 * p.count) s1.coh.seq))))) ∧
  (∀ (t instant : Nat) (s : State) (q : CohSet), (s.at t).fabricUp = true → s.coh.set = some q →
    (q.enable = true → s.coh.eval.inst = instant → s.coh.stale = false →
      s.coh.undone.eval = s.coh.prev.restart ∧ s.coh.undone.stale = true ∧ s.coh.undone.discardSeen = true ∧
      ∀ s1 s2 : State, s1 = (({ s.at t with coh := s.coh.undone } : State).cohRedecide instant).count .coh 1 → s2 = s1.evtFree s1.cohReaders 0x169 →
        exec (.cohEvaluationOverdue t instant) s = .next (s2.free.2.faultPair 52 53 s2.free.1 (s2.holder kindCoherency 0))) ∧
    (s.coh.eval.inst ≠ instant → exec (.cohEvaluationOverdue t instant) s = .next (s.at t)))

/-- Images: ALC_LOAD waits for the verification, which writes the image to STANDBY or refuses it and leaves the bank as it was (R257, R258); an exchange
is shown, or applies at once outside RUN and waits for the next scan boundary in RUN (R270); its commit is done once no checkpoint for it is due
(R290). -/
def Obligations.LogicImageRowsComplete : Prop :=
  (∀ (h : Pkt) (p : AlcLoad) (s s1 : State),
    let c : CmdInfo := { op := 0x0800, len := some 24 }
    s.started c h = some s1 → s1.holds h.part kindLogic 0 = true → p.imageLen ≠ 0 → p.imageLen ≤ 1048576 → addrFit h p.imageAddr → s1.pwr.pfwLow = false →
    s1.alc.exchange = none → s1.alc.commitDue = false → s1.alc.loading = none →
    exec (.alcLoad h p) s = .next (({ s1 with alc := { s1.alc with loading := some p } } : State).waitsFor c h .alcLoad)) ∧
  (∀ (t : Nat) (v : AlcVerify) (s s1 : State) (p : AlcLoad), (s.at t).fabricUp = true → s.alc.loading = some p →
    s1 = { s.at t with alc := { s.alc with loading := none } } →
    (s.alcx.write.isSome = true → exec (.alcLoadVerified t v) s = .next (s.at t)) ∧ (s.alcx.write = none → p.imageLen < v.image.totalLen →
      exec (.alcLoadVerified t v) s = .next (s1.finishAll (fun w => w.what == .alcLoad) stBadParam 2 (fun _ => []))) ∧
    (∀ st d, s.alcx.write = none → v.image.totalLen ≤ p.imageLen → (s.at t).imageBad v.image v.sigOk true = some (st, d) →
      exec (.alcLoadVerified t v) s = .next (s1.finishAll (fun w => w.what == .alcLoad) st d (fun _ => []))) ∧
    (s.alcx.write = none → v.image.totalLen ≤ p.imageLen → (s.at t).imageBad v.image v.sigOk true = none →
      exec (.alcLoadVerified t v) s = .next
        ((({ s1 with alc := { s1.alc with standby := some v.image } } : State).evtFree
          ({ s1 with alc := { s1.alc with standby := some v.image } } : State).logicReaders 0x189).finishAll (fun w => w.what == .alcLoad) stOk 0
            (fun _ => le 8 v.image.programId ++ le 4 v.image.version ++ zeros 4)))) ∧
  (∀ (h : Pkt) (dryRun : Bool) (s s1 : State) (new : AlcImage),
    let c : CmdInfo := { op := 0x0801, len := some 8, ro := dryRun }
    let res := (s1.exchangeCounts s1.alc.active new).reply
    s.started c h = some s1 → s1.holds h.part kindLogic 0 = true → s1.alc.standby = some new → s1.alc.state ≠ .hold → s1.alc.state ≠ .faulted →
    s1.alc.exchange = none → s1.alc.commitDue = false → s1.mapReason new true = none →
    (dryRun = true → exec (.alcExchange h dryRun) s = .next (s1.answered c h stOk 0 res)) ∧
    (dryRun = false → s1.alc.state = .run →
      exec (.alcExchange h dryRun) s = .next (({ s1 with alc := { s1.alc with exchange := some h.recv } } : State).waitsFor c h .exchange)) ∧
    (dryRun = false → s1.alc.state = .noProgram → exec (.alcExchange h dryRun) s = .next ((s1.exchangeApply.alcTo .stop 1).answered c h stOk 0 res)) ∧
    (dryRun = false → s1.alc.state = .stop → exec (.alcExchange h dryRun) s = .next (s1.exchangeApply.toSafe.answered c h stOk 0 res))) ∧
  (∀ (t : Nat) (s : State), (s.at t).fabricUp = true →
    (s.alcx.ckptDue.contains .exchange = false → s.alcx.write = none →
      exec (.exchangeCommitDone t) s = .next { s.at t with alc := { s.alc with commitDue := false } }) ∧
    (s.alcx.ckptDue.contains .exchange = true → exec (.exchangeCommitDone t) s = .next (s.at t)))

/-- The pair's commands: RUN from STOP, and STOP from every other state, at once or at the end of the scan in progress (Table 09-4); a scan setting
(R269); a force set, released or all released (R276); break sites set and released, and a halted scan resumed (R275); the queries; a checkpoint asked
for (R281). -/
def Obligations.LogicCommandsComplete : Prop :=
  (∀ (h : Pkt) (p : AlcMode) (s s1 : State),
    let c : CmdInfo := { op := 0x0802, len := some 4 }
    s.started c h = some s1 → s1.holds h.part kindLogic 0 = true →
    (p.mode = 2 → s1.alc.state = .stop → p.restart ≤ 1 → exec (.alcMode h p) s = .next
      (((s1.at h.done).alcRun (p.restart == 1) (s1.doneAt h)).answered c h stOk 0 (le 1 AlcState.stop.code ++ le 1 AlcState.run.code ++ zeros 2))) ∧
    (p.mode = 1 → s1.alc.state = .stop →
      exec (.alcMode h p) s = .next (s1.answered c h stOk 0 (le 1 AlcState.stop.code ++ le 1 AlcState.stop.code ++ zeros 2))) ∧
    (p.mode = 1 → s1.alc.state = .faulted → s1.row8Unacked = false →
      exec (.alcMode h p) s = .next ((s1.alcTo .stop 9).answered c h stOk 0 (le 1 AlcState.faulted.code ++ le 1 AlcState.stop.code ++ zeros 2))) ∧
    (p.mode = 1 → s1.alc.state = .hold →
      exec (.alcMode h p) s = .next ((s1.alcStopped 7).answered c h stOk 0 (le 1 AlcState.hold.code ++ le 1 AlcState.stop.code ++ zeros 2))) ∧
    (p.mode = 1 → s1.alc.state = .run → s1.alc.scan = none →
      exec (.alcMode h p) s = .next ((s1.alcStopped 3).answered c h stOk 0 (le 1 AlcState.run.code ++ le 1 AlcState.stop.code ++ zeros 2))) ∧
    (p.mode = 1 → s1.alc.state = .run → s1.alc.scan.isSome = true → exec (.alcMode h p) s = .next
      (({ s1 with alc := { s1.alc with stopAt := true } } : State).waitsFor c h (.alcStop AlcState.run.code)))) ∧
  (∀ (h : Pkt) (p : AlcScanSet) (s s1 : State),
    let c : CmdInfo := { op := 0x0803, len := some 12 }
    s.started c h = some s1 → s1.holds h.part kindLogic 0 = true → firstBad (s1.scanSetChecks p (scanBudget p)) = none →
    (s1.alc.setting = some (scanSettingOf p) ∨ s1.alc.state = .stop ∨ s1.alc.state = .noProgram) →
    exec (.alcScanSet h p) s = .next ((s1.putScanSet p).answered c h stOk 0 [])) ∧
  (∀ (h : Pkt) (p : AlcForce) (s s1 : State) (im : AlcImage) (f : Table Force),
    let c : CmdInfo := { op := 0x0804, len := some 24 }
    s.started c h = some s1 → s1.holds h.part kindLogic 0 = true → s1.alc.state ≠ .noProgram → s1.alc.active = some im →
    (p.op = 3 → f = []) → (p.op = 2 → f = tdel p.point s1.alc.forces) →
    (p.op = 1 → f = tset p.point (s1.newForce p (s1.doneAt h)) s1.alc.forces) →
    (p.op = 3 ∨ ((p.op = 1 ∨ p.op = 2) ∧ (imagePoint im p.point).any (fun x => x.type == p.type) = true)) →
    (p.op = 1 → tget p.point s1.alc.forces = none → s1.alc.forces.length < 256) →
    exec (.alcForce h p) s = .next (((s1.at h.done).setForces f).answered c h stOk 0 (le 2 f.length ++ zeros 2))) ∧
  (∀ (h : Pkt) (p : AlcBreak) (s s1 : State) (im : AlcImage),
    let c : CmdInfo := { op := 0x0805, len := some 4 }
    s.started c h = some s1 → s1.holds h.part kindLogic 0 = true → s1.alc.active = some im →
    (p.op = 1 → im.sites.contains p.site = true → s1.alc.breaks.contains p.site = false → s1.alc.breaks.length < 8 →
      exec (.alcBreak h p) s = .next (({ s1 with alc := { s1.alc with breaks := p.site :: s1.alc.breaks } } : State).answered c h stOk 0 [])) ∧
    (p.op = 2 → im.sites.contains p.site = true →
      exec (.alcBreak h p) s = .next (({ s1 with alc := { s1.alc with breaks := s1.alc.breaks.filter (· != p.site) } } : State).answered c h stOk 0 [])) ∧
    (p.op = 3 ∨ p.op = 4 → s1.alc.state = .hold → exec (.alcBreak h p) s = .next (((s1.at h.done).scanResume p.next).answered c h stOk 0 []))) ∧
  (∀ (h : Pkt) (s s1 : State),
    let c : CmdInfo := { op := 0x0806, len := some 0, ro := true }
    s.started c h = some s1 → s1.reads h.part kindLogic 0 = true → ∃ res, exec (.alcQuery h) s = .next (s1.answered c h stOk 0 res)) ∧
  (∀ (h : Pkt) (p : AlcVarRead) (s s1 : State) (im : AlcImage),
    let c : CmdInfo := { op := 0x0807, len := some 24, ro := true }
    s.started c h = some s1 → s1.holds h.part kindLogic 0 = true → 1 ≤ p.count → p.count ≤ 64 → addrFit h p.listAddr → addrFit h p.bufAddr →
    s1.alc.state ≠ .noProgram → s1.alc.active = some im → (∀ i ∈ p.ids.take p.count, (s1.pointValue im i).isSome = true) →
    ∃ data, exec (.alcVarRead h p) s = .next (s1.waitsFor c h (.dmaCopy p.bufAddr data []))) ∧
  (∀ (h : Pkt) (s s1 : State),
    let c : CmdInfo := { op := 0x0808, len := some 0 }
    s.started c h = some s1 → s1.holds h.part kindLogic 0 = true → s1.alc.state ≠ .noProgram → s1.pwr.pfwLow = false → s1.alcx.write = none →
    s1.alcx.ckptDue = [] → exec (.alcCheckpoint h) s = .next (((s1.at h.done).ckptWant .command).waitsFor c h .checkpoint))

/-- Scans: a departure of the trigger group, or a tick of the period, triggers a scan (R269); a scan whose controllers agree counts, and its variables,
outputs and what waits for the boundary follow; one whose compare differs, that comes after 2 × B, or in which a controller's self-check fails, is a fault
(R255, R271, R294); the next repeat of a
dataset (R266); readback errors and their end (R264); checkpoints (R281). -/
def Obligations.ScanRowsComplete : Prop :=
  (∀ (t g i : Nat) (x : ScanStart) (s : State) (st : ScanSetting) (gr : Group) (rel : Nat × Stamp × Nat), (s.at t).fabricUp = true → s.alc.setting = some st →
    s.group g = some gr → gr.released.find? (fun e => e.1 == i) = some rel → st.trig = 0 → st.group = g →
    exec (.scanTriggerDeparture t g i x) s = .next
      ((({ s.at t with alc := { s.alc with decided := s.alc.decided.filter (fun d => decide (i < d.inst)) } } : State).latency 3
        ((s.at t).now - rel.2.1) (some 1000000)).scanTrigger
          { byGroup := some g, instant := i, snap := ((s.alc.decided.find? (fun d => d.inst == i)).map (·.vals)).getD [] } x)) ∧
  (∀ (t r : Nat) (x : ScanStart) (s : State) (st : ScanSetting), (s.at t).fabricUp = true → s.alc.setting = some st → s.alcx.runStamp = some r → st.trig = 1 →
    st.periodUs ≠ 0 → r < (s.at t).now → ((s.at t).now - r) % (1000 * st.periodUs) = 0 →
    exec (.scanTriggerPeriodic t x) s = .next ((s.at t).scanTrigger { byGroup := none, instant := (s.at t).now } x)) ∧
  (∀ (t el : Nat) (r : ScanResult) (x : ScanStart) (s : State) (c : Scan) (im : AlcImage) (outA outB : OutputImage), (s.at t).fabricUp = true →
    s.alc.scan = some c → s.alc.active = some im →
    s.alc.state = .run → c.sites = { a := none, b := none } → el = (s.at t).now - c.ts - c.haltNs →
    outA = outputsOf im ((s.at t).ctlRun im c r.a).vars → outB = outputsOf im ((s.at t).ctlRun im c r.b).vars →
    (r.a.selfFail = true → r.b.selfFail = false → exec (.scanEnd t r x) s = .next
      (((s.at t).free.2.fault 58 (s.at t).free.1 ((s.at t).holder kindLogic 0)).alcSettle 58)) ∧
    (r.a.selfFail = false → r.b.selfFail = true → exec (.scanEnd t r x) s = .next
      (((s.at t).free.2.fault 59 (s.at t).free.1 ((s.at t).holder kindLogic 0)).alcSettle 59)) ∧
    (r.a.selfFail = true → r.b.selfFail = true → ∀ s1 : State, s1 = (s.at t).free.2.fault 58 (s.at t).free.1 ((s.at t).holder kindLogic 0) →
      exec (.scanEnd t r x) s = .next ((s1.free.2.fault 59 s1.free.1 (s1.holder kindLogic 0)).alcSettle 58)) ∧
    (r.a.selfFail = false → r.b.selfFail = false → 2000 * c.budgetUs < el → exec (.scanEnd t r x) s = .next
      (((s.at t).free.2.fault 57 (s.at t).free.1 ((s.at t).holder kindLogic 0)).alcSettle 57)) ∧
    (r.a.selfFail = false → r.b.selfFail = false → el ≤ 2000 * c.budgetUs → outA ≠ outB ∨
        crc64 (stateBytes im ((s.at t).ctlRun im c r.a).vars ((s.at t).ctlRun im c r.a).insts)
          ≠ crc64 (stateBytes im ((s.at t).ctlRun im c r.b).vars ((s.at t).ctlRun im c r.b).insts) → exec (.scanEnd t r x) s = .next
      (((s.at t).free.2.fault 56 (s.at t).free.1 ((s.at t).holder kindLogic 0)).alcSettle 56)) ∧
    (∀ s2 : State, r.a.selfFail = false → r.b.selfFail = false → el ≤ 1000 * c.budgetUs → outA = outB →
        crc64 (stateBytes im ((s.at t).ctlRun im c r.a).vars ((s.at t).ctlRun im c r.a).insts)
          = crc64 (stateBytes im ((s.at t).ctlRun im c r.b).vars ((s.at t).ctlRun im c r.b).insts) →
      s2 = { s.at t with alcx := { s.alcx with lastScanNs := el, scans := s.alcx.scans + 1, firstScan := false } } →
      exec (.scanEnd t r x) s = .next
        (((((s2.count .alc 0).scanVars im c r).latency 4 el (some (1000 * c.budgetUs))).scanOutputs im c outA outA.details).scanAfter x))) ∧
  (∀ (t : Nat) (s : State) (c : Scan), (s.at t).fabricUp = true → s.alc.scan = some c → s.alc.state = .run →
    (c.ts + c.haltNs + 2000 * c.budgetUs ≤ (s.at t).now → exec (.scanWatchdog t) s = .next ((s.at t).scanLate c)) ∧
    ((s.at t).now < c.ts + c.haltNs + 2000 * c.budgetUs → exec (.scanWatchdog t) s = .next (s.at t))) ∧
  (∀ (t n : Nat) (s : State) (im : AlcImage) (e : AlcPub) (q : PubState), (s.at t).fabricUp = true → s.alc.active = some im → im.pubs[n]? = some e →
    tget n s.alc.pubs = some q → s.alc.state ≠ .noProgram → q.published = true →
    (q.nextAt ≤ (s.at t).now → exec (.gooseRepeat t n) s = .next ((s.at t).gooseRepeat n e)) ∧
    ((s.at t).now < q.nextAt → exec (.gooseRepeat t n) s = .next (s.at t))) ∧
  (∀ (t n : Nat) (s s1 : State), (s.at t).fabricUp = true → n < 8 →
    s1 = { s.at t with alc := { s.alc with readbackErr := s.alc.readbackErr ||| 2 ^ n, readbackBad := s.alc.readbackBad ||| 2 ^ n } } →
    exec (.alReadbackMismatch t n) s = .next ((s1.free.2.fault 62 s1.free.1 (s1.holder kindLogic 0)).alcSettle 62)) ∧
  (∀ (t n : Nat) (s s1 : State), (s.at t).fabricUp = true → s.alc.readbackBad.testBit n = true →
    s1 = { s.at t with alc := { s.alc with readbackBad := s.alc.readbackBad - 2 ^ n } } →
    (s1.alc.readbackBad = 0 → exec (.alReadbackRestored t n) s = .next (s1.faultClear 62)) ∧
    (s1.alc.readbackBad ≠ 0 → exec (.alReadbackRestored t n) s = .next s1)) ∧
  (∀ (t r : Nat) (s : State), (s.at t).fabricUp = true → s.alc.state = .run → s.alcx.runStamp = some r → r < (s.at t).now →
    ((s.at t).now - r) % 10000000000 = 0 → exec (.checkpointPeriodic t) s = .next ((s.at t).ckptWant .periodic)) ∧
  (∀ (t : Nat) (good : Bool) (s : State), (s.at t).pwr.startupDone = true → exec (.checkpointWriteDone t good) s = .next ((s.at t).ckptDone good))

/-- Recorders: turned off or set, what the new setting leaves kept (R301, R302); channels and conditions set; armed, disarmed or triggered (R304);
queried; slots released, a recorder that waited for one armed; a stream ring set (R303). -/
def Obligations.RecorderCommandsComplete : Prop :=
  (∀ (h : Pkt) (p0 p : RecSet) (s s1 s2 : State) (r : Rec) (n own : Nat),
    let c : CmdInfo := { op := 0x0900, len := some 64 }
    s.started c h = some s1 → p = recFilled p0 → n = p.recorder → n ≤ 63 → s1.holds h.part kindRecorder n = true →
    ((s1.recOf n).state = .disarmed → s2 = s1.recComplete n) → ((s1.recOf n).state ≠ .disarmed → s2 = s1) → r = s2.recOf n → r.idle = true →
    own = s2.holder kindRecorder n →
    (p.kind = 0 → exec (.recSet h p0) s = .next ((s2.setRec n { offRecorder n with seq := r.seq }).answered c h stOk 0 (zeros 8))) ∧
    (1 ≤ p.kind → p.kind ≤ 2 → 1 ≤ p.channels → p.channels ≤ 32 → p.post ≠ 0 → 1 ≤ p.segMib → p.segMib ≤ 4096 → p.avg ≤ 256 →
      (p.streamOut = true → p.pre ≤ recCapacity p / 2) → p.closeMs ≤ 10000 → (p.streamOut = false → recSlots p ≠ 0) →
      s2.segments n (some own) + p.segMib ≤ (s2.part own).poolMib → s2.segments n none + p.segMib ≤ 4096 →
      exec (.recSet h p0) s = .next ((s2.setRec n (r.reset p)).answered c h stOk 0 (le 1 (recSlots p) ++ zeros 3 ++ le 4 (recBytes p))))) ∧
  (∀ (h : Pkt) (p : RecChanSet) (s s1 : State) (r : Rec) (kept : Table RecChan) (grid : Option (Nat × Nat)),
    let c : CmdInfo := { op := 0x0901, len := none }
    s.started c h = some s1 → p.recorder ≤ 63 → h.paramLen = 4 + 24 * p.entries.length → s1.holds h.part kindRecorder p.recorder = true →
    r = s1.recOf p.recorder → r.idle = true → 1 ≤ p.count → p.entries.length = p.count → p.first + p.count ≤ r.set.channels →
    kept = r.chans.filter (fun e => !(decide (p.first ≤ e.1) && decide (e.1 < p.first + p.count))) →
    (∀ e l, kept = e :: l → grid = s1.recGrid r.set.kind e.2) → (kept = [] → grid = p.entries.head?.bind (s1.recGrid r.set.kind)) →
    firstBad (p.entries.zipIdx.flatMap (fun e => s1.recChanChecks h r.set.kind grid e.2 e.1)) = none →
    exec (.recChanSet h p) s = .next ((s1.setRec p.recorder { r.onGrid ((grid.map (·.1)).getD 0) ((grid.map (·.2)).getD 0) with
      chans := p.entries.zipIdx.foldl (fun t e => tset (p.first + e.2) e.1 t) kept
      types := r.types.filter (fun e => kept.any (fun k => k.1 == e.1)) }).answered c h stOk 0 [])) ∧
  (∀ (h : Pkt) (p : RecCondSet) (s s1 : State) (r : Rec),
    let c : CmdInfo := { op := 0x0902, len := some 16 }
    s.started c h = some s1 → p.recorder ≤ 63 → s1.holds h.part kindRecorder p.recorder = true → r = s1.recOf p.recorder →
    (p.cond ≤ 7 ∨ (p.cond = 10 ∧ r.set.kind = 2)) →
    (p.edge = 0 → exec (.recCondSet h p) s = .next ((s1.setRec p.recorder { r with conds := tdel p.cond r.conds }).answered c h stOk 0 [])) ∧
    (p.cond = 10 → p.edge = 1 →
      exec (.recCondSet h p) s = .next ((s1.setRec p.recorder { r with conds := tset p.cond { set := p } r.conds }).answered c h stOk 0 [])) ∧
    (p.cond ≤ 7 → 1 ≤ p.edge → p.edge ≤ 3 → p.chan < r.set.channels → (f64Num p.level).isSome = true → negOrNan p.hyst = false → (f32Num p.hyst).isSome = true →
      exec (.recCondSet h p) s = .next ((s1.setRec p.recorder { r with conds := tset p.cond { set := p } r.conds }).answered c h stOk 0 []))) ∧
  (∀ (h : Pkt) (p : RecArm) (s s1 : State) (r : Rec),
    let c : CmdInfo := { op := 0x0903, len := some 4 }
    s.started c h = some s1 → p.recorder ≤ 63 → s1.holds h.part kindRecorder p.recorder = true → r = s1.recOf p.recorder →
    (p.op = 1 → r.state = .disarmed → (r.set.streamOut = true → r.ringSet = true) → exec (.recArm h p) s = .next
      (((s1.recComplete p.recorder).recArmed p.recorder ((s1.recComplete p.recorder).recOf p.recorder) (s1.doneAt h)).answered c h stOk 0 [])) ∧
    (p.op = 2 → r.idle = false → exec (.recArm h p) s = .next ((s1.setRec p.recorder r.disarm).answered c h stOk 0 [])) ∧
    (∀ ns, p.op = 3 → r.idle = false → s1.readingAt r.tb (s1.doneAt h) = some ns →
      exec (.recArm h p) s = .next ((s1.recTrigger p.recorder 9 ns).answered c h stOk 0 [])) ∧
    (p.op = 3 → r.idle = false → s1.readingAt r.tb (s1.doneAt h) = none →
      exec (.recArm h p) s = .next ((s1.free.2.recTrigger p.recorder 9 s1.free.1).answered c h stOk 0 []))) ∧
  (∀ (h : Pkt) (n : Nat) (s s1 : State),
    let c : CmdInfo := { op := 0x0904, len := some 4, ro := true }
    s.started c h = some s1 → n ≤ 63 → s1.reads h.part kindRecorder n = true →
    exec (.recQuery h n) s = .next (s1.answered c h stOk 0
      (le 1 (s1.recOf n).state.code ++ le 1 (recSlots (s1.recOf n).set) ++ le 1 (s1.recOf n).held.length ++ zeros 5 ++ le 4 (s1.recOf n).store.length ++ zeros 4
        ++ (s1.recOf n).bySeq.flatMap (fun x => le 1 x.slot ++ zeros 1 ++ le 2 x.flags ++ le 2 x.causeMask ++ zeros 2 ++ le 8 x.seq)))) ∧
  (∀ (h : Pkt) (p : RecRelease) (s s1 : State) (r : Rec),
    let c : CmdInfo := { op := 0x0906, len := some 4 }
    s.started c h = some s1 → p.recorder ≤ 63 → s1.holds h.part kindRecorder p.recorder = true → r = s1.recOf p.recorder →
    (p.slot = 0xFF → exec (.recRelease h p) s = .next
      (((s1.setRec p.recorder { r with held := r.held.filter (·.2.exporting) }).recFreed p.recorder (s1.doneAt h)).answered c h stOk 0 [])) ∧
    (∀ x, p.slot ≠ 0xFF → tget p.slot r.held = some x → x.exporting = false → exec (.recRelease h p) s = .next
      (((s1.setRec p.recorder { r with held := tdel p.slot r.held }).recFreed p.recorder (s1.doneAt h)).answered c h stOk 0 []))) ∧
  (∀ (h : Pkt) (p : RecStreamSet) (s s1 : State),
    let c : CmdInfo := { op := 0x0907, len := some 32 }
    s.started c h = some s1 → p.recorder ≤ 63 → s1.holds h.part kindRecorder p.recorder = true → (s1.recOf p.recorder).state ≠ .filling →
    (p.ringSize = 0 ∨ (ringSizeOk p.ringSize = true ∧ addrFit h p.ringAddr ∧ p.ringAddr % 4096 = 0 ∧ addrFit h p.prodWbAddr ∧ p.prodWbAddr % 8 = 0)) →
    exec (.recStreamSet h p) s = .next
      (((s1.setRec p.recorder { s1.recOf p.recorder with ring := some { set := p } }).recDrain p.recorder).answered c h stOk 0 []))

/-- Exports, rings and points: an export locks its record and waits; its end writes each of the two files that fits its buffer, unlocks the record and
answers with both lengths (R312, R313); the holder's
consumer count is taken unless it would free more than the ring (R303); a point of a recorder that stores is evaluated when it is due, and a record is
completed. -/
def Obligations.RecordRowsComplete : Prop :=
  (∀ (h : Pkt) (p : RecExport) (s s1 : State) (r : Rec) (x : Record),
    let c : CmdInfo := { op := 0x0905, len := some 40 }
    s.started c h = some s1 → p.recorder ≤ 63 → s1.reads h.part kindRecorder p.recorder = true → r = s1.recOf p.recorder → tget p.slot r.held = some x →
    p.format ≤ 1 → (p.format = 0 → p.cfgLen = 0 ∨ addrFit h p.cfgAddr) → (p.datLen = 0 ∨ addrFit h p.datAddr) → r.exporting = none →
    exec (.recExport h p) s = .next
      ((s1.setRec p.recorder { r.lock p.slot true with exporting := some {
          req := p, cfg := if p.format = 0 then s1.cfgFile p.recorder x else [], dat := x.data p.recorder p.format } }).waitsFor
        c h (.recExport p.recorder))) ∧
  (∀ (t n slot : Nat) (s s1 s2 : State) (r : Rec) (l : ExportLog) (w : Waiting), (s.at t).fabricUp = true → r = s.recOf n → r.exporting = some l →
    s.hst.waiting.find? (fun w => w.what == .recExport n) = some w → l.req.slot = slot →
    ∀ s3 s4 : State,
      s3 = (if l.req.format = 0 ∧ l.req.cfgLen ≠ 0 ∧ l.cfg.length ≤ l.req.cfgLen then (s.at t).copyTo w.pkt l.req.cfgAddr l.cfg else s.at t) →
      s4 = (if l.req.datLen ≠ 0 ∧ l.dat.length ≤ l.req.datLen then s3.copyTo w.pkt l.req.datAddr l.dat else s3) →
      s1 = s4.setRec n { (s4.recOf n).lock slot false with exporting := none } →
      s2 = { s1 with rcd := { s1.rcd with exports :=
        { l with
          cfg := if l.req.format = 0 ∧ l.req.cfgLen ≠ 0 ∧ l.cfg.length ≤ l.req.cfgLen then l.cfg else []
          dat := if l.req.datLen ≠ 0 ∧ l.dat.length ≤ l.req.datLen then l.dat else [] } :: s1.rcd.exports } } →
      exec (.recExportDone t n slot) s = .next ((s2.recEvent n 0x1C8 slot).finish w stOk 0 (le 4 l.cfg.length ++ zeros 4 ++ le 8 l.dat.length))) ∧
  (∀ (t part n v : Nat) (s : State) (r : Rec) (q : StreamRing), n ≤ 63 → s.recorder n = some r → r.ring = some q → s.holder kindRecorder n = part →
    ((q.prod - BitVec.ofNat 32 v).toNat ≤ q.set.ringSize → exec (.recStreamConsWrite t part n v) s = .next
      (((s.at t).setRec n { r with ring := some { q with cons := BitVec.ofNat 32 v } }).recDrain n)) ∧
    (q.set.ringSize < (q.prod - BitVec.ofNat 32 v).toNat → exec (.recStreamConsWrite t part n v) s = .next (s.at t))) ∧
  (∀ (t n : Nat) (s : State) (r : Rec), (s.at t).fabricUp = true → s.recorder n = some r →
    (r.storing = true → (s.at t).pointDue r = true → exec (.recPointEvaluate t n) s = .next ((s.at t).recEvaluate n r)) ∧
    (r.storing = true → (s.at t).pointDue r = false → exec (.recPointEvaluate t n) s = .next (s.at t))) ∧
  (∀ (t n : Nat) (s : State), (s.at t).fabricUp = true → exec (.recComplete t n) s = .next ((s.at t).recComplete n))

/-- Clusters in and out of service: drained or retired with their contracts moved (R334), refused when no other is in service or a removal would shed
without FORCE; drained with the last item in flight gone; rejoined through a self-test, which fails with result 3 where its firmware is not of the bank that runs, and leaves it IN_SERVICE or FAULTED with
FS_64 (R323).
Faults and items: a cluster fault is FS_64 and the cluster is FAULTED, or RETIRED with fault 67 at the third within 24 h, and faults 24 h old no
longer count (R335); an item that ends waits at the gate, a cancelled one stops at its yield point and writes nothing (R327, R333); traces are set
(R337) and the observation entries of the clusters read (R338). -/
def Obligations.ClusterRowsComplete : Prop :=
  ((∀ (h : Pkt) (p : SchCluster) (s s1 : State) (r : State × Nat × Nat),
    let c : CmdInfo := { op := 0x0A00, len := some 4 }
    s.started c h = some s1 → h.part = 0 → p.cluster ≤ 15 → s1.inService p.cluster = true → (∃ j ∈ allClusters, j ≠ p.cluster ∧ s1.inService j = true) →
    ((s1.removalPlan p.cluster).2 = [] ∨ p.flag = true ∨ s1.tt.profile = .placement) → r = (s1.clusterTo p.cluster .draining 1).removeCluster p.cluster 5 →
    exec (.schDrain h p) s = .next (r.1.answered c h stOk 0 (le 2 r.2.1 ++ le 2 r.2.2 ++ le 2 (r.1.clusterBusy p.cluster) ++ zeros 2))) ∧
  (∀ (h : Pkt) (p : SchCluster) (s s1 : State) (r : State × Nat × Nat),
    let c : CmdInfo := { op := 0x0A02, len := some 4 }
    s.started c h = some s1 → h.part = 0 → p.cluster ≤ 15 →
    ((s1.cluster p.cluster).state = .drained ∨ (s1.cluster p.cluster).state = .faulted →
      exec (.schRetire h p) s = .next ((s1.clusterTo p.cluster .retired 10).answered c h stOk 0 (zeros 8))) ∧
    ((s1.cluster p.cluster).state = .inService → (∃ j ∈ allClusters, j ≠ p.cluster ∧ s1.inService j = true) →
      ((s1.removalPlan p.cluster).2 = [] ∨ p.flag = true ∨ s1.tt.profile = .placement) → r = (s1.clusterTo p.cluster .retired 12).removeCluster p.cluster 5 →
      exec (.schRetire h p) s = .next (r.1.answered c h stOk 0 (le 2 r.2.1 ++ le 2 r.2.2 ++ le 2 (r.1.clusterBusy p.cluster) ++ zeros 2)))) ∧
  (∀ (h : Pkt) (p : SchCluster) (s s1 : State),
    let c : CmdInfo := { op := 0x0A01, len := some 4 }
    s.started c h = some s1 → h.part = 0 → p.cluster ≤ 15 →
    ((s1.cluster p.cluster).state = .drained ∨ (s1.cluster p.cluster).state = .faulted → exec (.schRejoin h p) s = .next
      (((s1.modCluster p.cluster (fun c => c.cleared s1.now)).clusterTo p.cluster .testing 5).waitsFor c h (.rejoin p.cluster))) ∧
    ((s1.cluster p.cluster).state = .retired → p.flag = true → exec (.schRejoin h p) s = .next
      (((s1.modCluster p.cluster (fun c => c.cleared s1.now)).clusterTo p.cluster .testing 6).waitsFor c h (.rejoin p.cluster)))) ∧
  (∀ (t k q result : Nat) (s s1 : State), k < 16 → (s.at t).fabricUp = true → (s.cluster k).state = .testing →
    q = (if result = 0 ∧ (s.cluster k).bank ≠ s.fw.running then 3 else result) →
    (q = 0 → s1 = ((s.at t).clusterTo k .inService 7).setMark k false →
      exec (.clusterSelftestDone t k result) s = .next ((s1.evtFree s1.observers 0x012).finishAll (fun w => w.what == .rejoin k) stOk 0 (fun _ => zeros 4))) ∧
    (q ≠ 0 → exec (.clusterSelftestDone t k result) s = .next
      ((((s.at t).clusterTo k .faulted 8).fault 64 k 0xFF).finishAll (fun w => w.what == .rejoin k) stFaulted 64 (fun _ => le 1 q ++ zeros 3)))) ∧
  (∀ (t k : Nat) (s : State), k < 16 → (s.at t).fabricUp = true → (s.cluster k).state = .draining →
    ((s.at t).clusterBusy k = 0 → exec (.clusterDrained t k) s = .next ((s.at t).clusterTo k .drained 2)) ∧
    ((s.at t).clusterBusy k ≠ 0 → exec (.clusterDrained t k) s = .next (s.at t)))) ∧
  ((∀ (t k cause : Nat) (s s1 : State), k < 16 → (s.at t).fabricUp = true → cause < 3 → s1 = (s.at t).fault 64 k 0xFF →
    exec (.clusterFault t k cause) s = .next (s1.clusterFaulted k) ∧
    ∀ s2 : State, s2 = s1.modCluster k (fun c => { c with faults := s1.recentFaults k ++ [s1.now] }) → (s1.cluster k).state = .inService →
      ((s1.recentFaults k).length < 2 → s1.clusterFaulted k = ((s2.clusterTo k .faulted 9).removeCluster k 6).1.restartItems k) ∧
      (2 ≤ (s1.recentFaults k).length →
        s1.clusterFaulted k = (((s2.clusterTo k .retired 11).fault 67 k 0xFF).removeCluster k 6).1.restartItems k)) ∧
  (∀ (t k : Nat) (s : State), k < 16 →
    exec (.clusterFaultAgeout t k) s = .next ((s.at t).modCluster k (fun c => { c with faults := (s.at t).recentFaults k }))) ∧
  (∀ (t st fsn k core : Nat) (s : State) (r : CoreRun), (s.at t).fabricUp = true → s.coreOf st fsn = some (k, core, r) →
    (r.item.cancelled = true → exec (.itemComplete t st fsn) s = .next ((s.at t).abortRun k core r) ∧
      exec (.itemAbort t st fsn) s = .next ((s.at t).abortRun k core r)) ∧
    (r.item.cancelled = false → exec (.itemComplete t st fsn) s = .next ((s.at t).completeRun k core r) ∧ exec (.itemAbort t st fsn) s = .next (s.at t))) ∧
  (∀ (h : Pkt) (p : SchTraceSet) (s s1 : State),
    let c : CmdInfo := { op := 0x0A03, len := some 32 }
    s.started c h = some s1 → (p.enable = true → p.kindMask ≠ 0) → p.kindMask % 2 = 0 → p.kindMask ≤ 127 → p.count ≤ 64 →
    (p.ringSize = 0 ∨ (ringSizeOk p.ringSize = true ∧ addrFit h p.ringAddr ∧ p.ringAddr % 4096 = 0 ∧ addrFit h p.prodWbAddr ∧ p.prodWbAddr % 8 = 0)) →
    (p.count = 0 ∨ addrFit h p.listAddr) → (∀ i ∈ p.ids.take p.count, s1.holds h.part kindStream i = true) →
    exec (.schTraceSet h p) s = .next (({ s1 with sch := { s1.sch with
      traces := tset h.part { set := { p with ids := p.ids.take p.count } } s1.sch.traces } } : State).answered c h stOk 0 [])) ∧
  (∀ (h : Pkt) (p : SchObsRead) (s s1 : State),
    let c : CmdInfo := { op := 0x0A04, len := some 4, ro := !p.clear }
    let ks := (List.range p.count).map (· + p.first)
    let res := ks.flatMap (fun k => s1.obsEntry k)
    s.started c h = some s1 → s1.observes h.part = true → p.first ≤ 15 → p.first + p.count ≤ 16 →
    (p.clear = false → exec (.schObsRead h p) s = .next (s1.answered c h stOk 0 res)) ∧
    (p.clear = true → exec (.schObsRead h p) s = .next
      ((ks.foldl (fun s k => s.modCluster k (fun c => { c with maxDepth := [], waitMax := [] })) s1).answered c h stOk 0 res))))

/-- Settings of time by command: the reference (R362), a base set or disabled, re-stepped by a delta or by its next sample (R353), told its time of day
and leap second (R361), the delays of a port (R364), and read (Table 12-8). -/
def Obligations.TimeCommandsComplete : Prop :=
  (∀ (h : Pkt) (p : TbRefSet) (s s1 : State),
    let c : CmdInfo := { op := 0x0B00, len := some 20 }
    s.started c h = some s1 → h.part = 0 → p.refSel ≤ 1 → negOrNan p.rY = false → negOrNan p.rD = false → negOrNan p.xY = false → negOrNan p.xD = false →
    (p.refSel = 0 → ∀ e ∈ s1.tb.bases, e.2.set.source ≠ 3) →
    exec (.tbRefSet h p) s = .next ((({ s1 with tb := { s1.tb with ref := p } } : State).pllSelect).answered c h stOk 0 [])) ∧
  (∀ (h : Pkt) (p0 p : TbSet) (s s1 : State),
    let c : CmdInfo := { op := 0x0B01, len := some 24 }
    s.started c h = some s1 → s1.hst.timeOwner = h.part → p = tbFilled p0 →
    (p.disable = true → 1 ≤ p.base → p.base ≤ 3 → s1.baseUsed p.base = false → exec (.tbSet h p0) s = .next ((s1.tbApply p).answered c h stOk 0 [])) ∧
    (p.disable = false → firstBad (s1.tbSetChecks p) = none → exec (.tbSet h p0) s = .next (((s1.at h.done).tbApply p).answered c h stOk 0 []))) ∧
  (∀ (h : Pkt) (p : TbRestep) (s s1 : State) (b : Base),
    let c : CmdInfo := { op := 0x0B03, len := some 16 }
    s.started c h = some s1 → s1.hst.timeOwner = h.part → 1 ≤ p.base → p.base ≤ 3 → s1.base p.base = some b → b.valid = true →
    (p.how = 2 → p.delta ≠ 0 → exec (.tbRestep h p) s = .next
      (((s1.at h.done).restepped p.base b p.delta).answered c h stOk 0 (restepReply p.delta (s1.at h.done).now))) ∧
    (p.how = 1 → exec (.tbRestep h p) s = .next (s1.waitsFor c h (.restep p.base (h.recv + 1000000000 * b.set.lossS))))) ∧
  (∀ (h : Pkt) (p : TbTodSet) (s s1 : State) (b : Base),
    let c : CmdInfo := { op := 0x0B04, len := some 12 }
    s.started c h = some s1 → s1.hst.timeOwner = h.part → 1 ≤ p.base → p.base ≤ 3 → p.seconds ≠ 0 → s1.base p.base = some b → b.set.source = 3 →
    b.set.todFromIrig = false →
    (p.leap = 0 → b.state = .unacquired → exec (.tbTodSet h p) s = .next
      (((s1.setBase p.base { b with tod := some (p.seconds, none) }).setBase p.base { b with tod := some (p.seconds, none), leap := none }).answered
        c h stOk 0 [])) ∧
    (p.leap = 0 → b.state ≠ .unacquired → exec (.tbTodSet h p) s = .next ((s1.setBase p.base { b with leap := none }).answered c h stOk 0 [])) ∧
    (p.leap = 1 ∨ p.leap = 2 → b.valid = true → b.state ≠ .unacquired → exec (.tbTodSet h p) s = .next
      ((s1.leapAnnounce p.base (p.leap == 2) (nextHalfYear (b.utcDay (b.reading s1.now)))).answered c h stOk 0 []))) ∧
  (∀ (h : Pkt) (p : TbPortDelaySet) (s s1 : State),
    let c : CmdInfo := { op := 0x0B05, len := some 8 }
    s.started c h = some s1 → h.part = 0 → p.port ≤ 23 → p.rxNs ≤ 10000 → p.txNs ≤ 10000 →
    exec (.tbPortDelaySet h p) s = .next
      (({ s1 with tb := { s1.tb with
        delays := tset p.port (p.rxNs, p.txNs) s1.tb.delays
        oldDelays := tset p.port (s1.doneAt h, tgetD p.port (0, 0) s1.tb.delays) s1.tb.oldDelays } } : State).answered c h stOk 0 [])) ∧
  (∀ (h : Pkt) (n : Nat) (s s1 : State),
    let c : CmdInfo := { op := 0x0B06, len := some 4, ro := true, stabled := true }
    s.started c h = some s1 →
    (n = 0 → exec (.tbQuery h n) s = .next ((s1.at h.done).answered c h stOk 0 (zeros 8 ++ le 8 (s1.at h.done).now ++ zeros 48))) ∧
    (1 ≤ n → n ≤ 3 → ∃ res, exec (.tbQuery h n) s = .next ((s1.at h.done).answered c h stOk 0 res)))

/-- IRIG-B and PPS: a good frame is offered to every base and a bad one counted (R360); an edge of PPS_IN is offered to every base (R361); PPS_OUT rises
at the top of a second of its base and falls 100 ms later (R363). Bases in time: a re-step without a sample in time ends with WRONG_STATE (R353); a
LOCKED base without a usable sample for LOSS_S has lost its source (R352); a leap second applies at the end of the announced day and is shown for 24 h
(R356). References: losing EXT10M in use is FS_70 and the PLL falls back, its return clears it (R362); losing REFCLK, in use or not, and its return; a
counter that differs from its duplicate is reloaded, FS_70 for a disciplined base, 68 and 69 for TB0 (R370). -/
def Obligations.TimeEventRowsComplete : Prop :=
  ((∀ (t : Nat) (m : IrigFrame) (s : State), (s.at t).timeUp = true →
    (irigOk m = false → exec (.irigFrameReceived t m) s = .next ((s.at t).count .tb 7)) ∧
    (irigOk m = true → exec (.irigFrameReceived t m) s = .next (s.tb.bases.foldl (fun s e => s.irigBase m e.1) (s.at t)))) ∧
  (∀ (t cap : Nat) (s : State), (s.at t).timeUp = true →
    exec (.ppsInEdge t cap) s = .next (s.tb.bases.foldl (fun s e => s.ppsBase cap e.1) (s.at t))) ∧
  (∀ (t n : Nat) (s : State) (b : Base), (s.at t).timeUp = true → s.base n = some b → s.tb.ppsBase = some n → b.valid = true →
    (b.reading (s.at t).now % 1000000000 ≤ 4 ∨ 999999996 ≤ b.reading (s.at t).now % 1000000000 →
      exec (.ppsOutRise t n) s = .next { s.at t with tb := { s.tb with ppsHigh := true, ppsAt := (s.at t).now } }) ∧
    (4 < b.reading (s.at t).now % 1000000000 → b.reading (s.at t).now % 1000000000 < 999999996 → exec (.ppsOutRise t n) s = .next (s.at t))) ∧
  (∀ (t : Nat) (s : State), s.tb.ppsHigh = true →
    (s.tb.ppsAt + 100000000 ≤ (s.at t).now → exec (.ppsOutFall t) s = .next { s.at t with tb := { s.tb with ppsHigh := false } }) ∧
    ((s.at t).now < s.tb.ppsAt + 100000000 → exec (.ppsOutFall t) s = .next (s.at t)))) ∧
  ((∀ (t n : Nat) (s : State) (w : Waiting) (d : Nat) (excess : Waiting → Bool), (s.at t).timeUp = true →
    w ∈ s.hst.waiting → w.what = .restep n d → d ≤ (s.at t).now →
    (∀ w, excess w = match w.what with
      | .restep k d => k == n && decide (d ≤ (s.at t).now)
      | _ => false) →
    exec (.tbRestepTimeout t n) s = .next ((s.at t).finishAll excess stWrongState 0 (fun _ => []))) ∧
  (∀ (t n : Nat) (s : State) (b : Base), (s.at t).timeUp = true → s.base n = some b → b.state = .locked →
    ((∀ l, b.lastSample = some l → l + 1000000000 * b.set.lossS ≤ (s.at t).now) → exec (.tbSourceLoss t n) s = .next ((s.at t).lostSource n b)) ∧
    (∀ l, b.lastSample = some l → (s.at t).now < l + 1000000000 * b.set.lossS → exec (.tbSourceLoss t n) s = .next (s.at t))) ∧
  (∀ (t n at_ : Nat) (del : Bool) (s : State) (b : Base), (s.at t).timeUp = true → s.base n = some b → b.leap = some (del, at_) → b.valid = true →
    ((at_ : Int) ≤ b.reading (s.at t).now → exec (.leapSecondApply t n) s = .next
      (((s.at t).setBase n { b with
        utcOffset := if del then b.utcOffset - 1 else b.utcOffset + 1, leap := none, leapDir := del
        leapUntil := some ((s.at t).now + 86400000000000), leaps := (at_, del) :: b.leaps }).timeEvent 0x1F5 n 3)) ∧
    (b.reading (s.at t).now < (at_ : Int) → exec (.leapSecondApply t n) s = .next (s.at t))) ∧
  (∀ (t n u : Nat) (s : State) (b : Base), s.base n = some b → b.leapUntil = some u →
    (u ≤ (s.at t).now → exec (.leapOccurredExpiry t n) s = .next ((s.at t).setBase n { b with leapUntil := none })) ∧
    ((s.at t).now < u → exec (.leapOccurredExpiry t n) s = .next (s.at t)))) ∧
  ((∀ (t : Nat) (s s1 : State), s1 = { s.at t with tb := { s.tb with extPresent := false } } →
    (s.tb.extInUse = true → (s.at t).timeUp = true → exec (.ext10mLoss t) s = .next ((s1.free.2.fault 70 s1.free.1 0xFF).pllSelect)) ∧
    (s.tb.extInUse = false → exec (.ext10mLoss t) s = .next s1.pllSelect)) ∧
  (∀ (t : Nat) (s : State),
    exec (.ext10mRestore t) s = .next ((({ s.at t with tb := { s.tb with extPresent := true } } : State).faultClear 70).pllSelect)) ∧
  (∀ (t : Nat) (s s1 : State), s1 = { s.at t with tb := { s.tb with refclkLost := true } } →
    (s.tb.refclkLost = true → exec (.refclkLoss t) s = .next (s.at t)) ∧
    (s.tb.refclkLost = false → s.tb.extInUse = true → exec (.refclkLoss t) s = .next s1) ∧
    (s.tb.refclkLost = false → s.tb.extInUse = false → exec (.refclkLoss t) s = .next s1.refclkGone)) ∧
  (∀ (t : Nat) (s : State),
    exec (.refclkRestored t) s = .next ((({ s.at t with tb := { s.tb with refclkLost := false, ondie := false } } : State).faultClear 68).faultClear 69)) ∧
  (∀ (t n : Nat) (s : State), (s.at t).timeUp = true →
    (n = 0 → exec (.timeBaseCounterFault t n) s = .next ((((s.at t).faultPair 68 69 0 0xFF).faultClear 68).faultClear 69)) ∧
    (1 ≤ n → n ≤ 3 → s.tb.ref.refSel ≠ 1 ∨ s.tb.extPresent = true →
      exec (.timeBaseCounterFault t n) s = .next (((s.at t).fault 70 n 0xFF).faultClear 70)) ∧
    (1 ≤ n → n ≤ 3 → s.tb.ref.refSel = 1 → s.tb.extPresent = false → exec (.timeBaseCounterFault t n) s = .next ((s.at t).fault 70 n 0xFF))))

/-- PTP instances: set or removed; a message that an instance hears and does not use is counted; an Announce is noted and the masters judged afresh
(R358), those silent for three intervals dropped; a Sync of the parent is a sample, at once or with its Follow_Up; what a timer of a port sends
(R359); a peer delay measured. -/
def Obligations.PtpRowsComplete : Prop :=
  (∀ (h : Pkt) (p : TbPtpSet) (s s1 : State),
    let c : CmdInfo := { op := 0x0B02, len := some 24 }
    s.started c h = some s1 → s1.hst.timeOwner = h.part → firstBad (s1.ptpSetChecks p) = none →
    exec (.tbPtpSet h p) s = .next ((s1.ptpApply p).answered c h stOk 0 [])) ∧
  (∀ (t : Nat) (m : PtpAnnounce) (s s2 : State) (n : Nat) (x : Ptp), s.ptpOf m.port = some (n, x) → (s.at t).ptpHears x m.port = true →
    (m.domain ≠ x.set.domain → exec (.ptpAnnounceReceived t m) s = .next (((s.at t).sideTake m.port).ptpDiscard)) ∧
    (m.domain = x.set.domain → x.set.mode ≠ 3 → m.steps < 255 → m.gmId ≠ Config.clockId → tget (32 * m.source + m.port) x.foreign = none →
      s2 = (((s.at t).sideTake m.port).setPtp n { x with
        foreign := tset (32 * m.source + m.port) { ann := m, last := (s.at t).now, count := 1 } x.foreign }).bmca n →
      (((tget n s2.tb.ptp).bind (·.gm)).any (fun g => g.source == m.source && g.port == m.port) = true →
        exec (.ptpAnnounceReceived t m) s = .next (s2.parentAnnounced n m)) ∧
      (((tget n s2.tb.ptp).bind (·.gm)).any (fun g => g.source == m.source && g.port == m.port) = false → exec (.ptpAnnounceReceived t m) s = .next s2))) ∧
  (∀ (t n port : Nat) (s : State) (x : Ptp), (s.at t).timeUp = true → tget n s.tb.ptp = some x →
    exec (.ptpAnnounceTimeout t n port) s = .next
      (((s.at t).setPtp n { x with foreign := x.foreign.filter (fun e => e.2.ann.port != port || (s.at t).now < e.2.last + 3000000000) }).bmca n)) ∧
  (∀ (t : Nat) (m : PtpSync) (s : State) (n : Nat) (x : Ptp) (cap : Nat), s.ptpOf m.port = some (n, x) → (s.at t).ptpHears x m.port = true →
    cap = m.cap + (s.delayAt m.port m.cap).1 →
    (s.fromParent n x m.port m.source m.domain = false → exec (.ptpSyncReceived t m) s = .next (((s.at t).sideTake m.port).ptpDiscard)) ∧
    (s.fromParent n x m.port m.source m.domain = true → m.twoStep = true →
      exec (.ptpSyncReceived t m) s = .next (((s.at t).sideTake m.port).setPtp n { x with awaited := some (m.port, m.source, m.seq, cap) })) ∧
    (s.fromParent n x m.port m.source m.domain = true → m.twoStep = false →
      exec (.ptpSyncReceived t m) s = .next (((s.at t).sideTake m.port).ptpSample n m.port cap m.origin))) ∧
  (∀ (t : Nat) (m : PtpFollowUp) (s : State) (n : Nat) (x : Ptp) (cap : Nat), s.ptpOf m.port = some (n, x) → (s.at t).ptpHears x m.port = true →
    (x.awaited = none → exec (.ptpFollowUpReceived t m) s = .next (((s.at t).sideTake m.port).ptpDiscard)) ∧
    (x.awaited = some (m.port, m.source, m.seq, cap) → s.fromParent n x m.port m.source m.domain = true →
      exec (.ptpFollowUpReceived t m) s = .next ((((s.at t).sideTake m.port).setPtp n { x with awaited := none }).ptpSample n m.port cap m.origin))) ∧
  (∀ (t n port : Nat) (kind : PtpKind) (s : State) (x : Ptp), tget n s.tb.ptp = some x → (s.at t).ptpHears x port = true → x.set.mode ≠ 0 →
    x.set.portMask.testBit port = true →
    (kind = .pdelayReq → exec (.ptpMessageTransmit t n port kind) s = .next ((s.at t).ptpSend n x port 2)) ∧
    (kind ≠ .pdelayReq → x.isMaster port = false → exec (.ptpMessageTransmit t n port kind) s = .next (s.at t)) ∧
    (kind = .announce → x.isMaster port = true → exec (.ptpMessageTransmit t n port kind) s = .next ((s.at t).ptpSend n x port 1)) ∧
    (kind = .sync → x.isMaster port = true → x.set.oneStepMask.testBit port = true →
      exec (.ptpMessageTransmit t n port kind) s = .next ((s.at t).ptpSend n x port 0)) ∧
    (kind = .sync → x.isMaster port = true → x.set.oneStepMask.testBit port = false →
      exec (.ptpMessageTransmit t n port kind) s = .next (((s.at t).ptpSend n x port 0).ptpSend n x port 4))) ∧
  (∀ (t port domain n : Nat) (rt turn : Int) (s : State) (x : Ptp) (d : Nat × Nat), s.ptpOf port = some (n, x) → (s.at t).ptpHears x port = true →
    domain = x.set.domain →
    (x.set.oneStepMask.testBit port = true →
      exec (.ptpPdelayMessage t (.request port domain)) s = .next (((s.at t).sideTake port).ptpSend n x port 3)) ∧
    (∀ (two : Bool) (u : State), u = (if two = true then ((s.at t).sideTake port).sideTake port else (s.at t).sideTake port) → d = u.delayAt port u.cap →
      exec (.ptpPdelayMessage t (.exchange port domain rt turn two)) s = .next
        { u with tb := { u.tb with pathDelay := tset port ((rt + (d.1 : Int) - (d.2 : Int) - turn) / 2) u.tb.pathDelay } }))

/-- Each command of a port completes. PRT_MODE_SET with settings that Table 13-1 allows: the settings are those given, MAX_FRAME 0 standing for 9,216; the
link stays up where MODE, FEC and duplex stay and the speed in force is one that the settings allow, the settings before then holding for frames whose
first bit crosses the ball up to the completion stamp, and else it goes down with reason 2; MGMT is taken from every other port (R373, R399).
PRT_ADDR_SET sets the addresses. PRT_FILTER_SET sets or clears a filter that is the caller's or free. PRT_RXRING_SET sets the caller's receive ring.
PRT_TXRING_SET drops the caller's waiting frames, sets its ring and serves the port. PRT_TXQ_SET sets the late rule of a queue. PRT_QUERY and
PRT_CNT_READ change nothing and give the port's figures. -/
def Obligations.PortCommandsComplete : Prop :=
  (∀ (h : Pkt) (p0 p : PrtModeSet) (s s1 s2 s3 : State) (same : Bool) (full : Bool) (x : PortSt),
    let c : CmdInfo := { op := 0x0C00, len := some 16 }
    s.started c h = some s1 → h.part = 0 → p = { p0 with maxFrame := if p0.maxFrame == 0 then 9216 else p0.maxFrame } → p.port ≤ 23 →
    modeFits p.port p.mode = true → fecFits p.mode p.fec = true → (p.an = true → p.mode = 3 ∨ p.mode = 5) →
    (p.half = true → (p.mode = 6 ∨ p.mode = 7) ∧ p.linkSrc = true) → 1518 ≤ p.maxFrame → p.maxFrame ≤ 9216 → p.arrivalTb ≤ 3 → p.phyAddr ≤ 31 →
    (p.mode = 0 → s1.portNamed p.port = false) →
    x = s1.port p.port → full = (if p.mode = 6 ∨ p.mode = 7 then (if p.linkSrc = true then !p.half else x.fullDuplex) else true) →
    (same = true ↔ (∃ m, x.mode = some m ∧ m.mode = p.mode ∧ m.fec = p.fec) ∧ full = x.fullDuplex ∧
      (x.link = false ∨ p.linkSrc = false ∨ modeSpeed p.mode = 0 ∨ modeSpeed p.mode = x.speedMbps)) →
    (same = true → s2 = s1) → (same = false → s2 = s1.linkDownOp p.port 2) →
    (p.mgmt = false → s3 = s2) →
    (p.mgmt = true → s3 = { s2 with prt := { s2.prt with ports := tmap (fun n x =>
      if n == p.port then x else { x with mode := x.mode.map (fun m => { m with mgmt := false }) }) s2.prt.ports } }) →
    exec (.prtModeSet h p0) s = .next ((s3.modPort p.port (fun y => { y with
      mode := some p, fullDuplex := full, oldMode := if same = true then some (s1.doneAt h, y.mode) else none })).answered c h stOk 0 [])) ∧
  (∀ (h : Pkt) (p : PrtAddrSet) (s s1 : State),
    let c : CmdInfo := { op := 0x0C01, len := some 72 }
    s.started c h = some s1 → h.part = 0 → p.port ≤ 23 → p.count ≤ 4 → macGroup p.mac = false →
    (∀ i < (p.addrs.take p.count).length, ipBad (((p.addrs.take p.count)[i]?).getD 0) = false) →
    exec (.prtAddrSet h p) s = .next ((s1.modPort p.port (fun x => { x with mac := p.mac, addrs := p.addrs.take p.count })).answered c h stOk 0 [])) ∧
  (∀ (h : Pkt) (p : PrtFilterSet) (s s1 : State),
    let c : CmdInfo := { op := 0x0C02, len := some 32 }
    s.started c h = some s1 → p.port ≤ 23 → p.filter ≤ 31 → s1.holds h.part kindPort p.port = true →
    (∀ e, tget p.filter (s1.port p.port).filters = some e → e.1 = h.part) →
    exec (.prtFilterSet h p) s = .next ((s1.modPort p.port (fun x => { x with
      filters := if p.enable then tset p.filter (h.part, p) x.filters else tdel p.filter x.filters })).answered c h stOk 0 [])) ∧
  (∀ (h : Pkt) (p : PrtRingSet) (s s1 : State),
    s.started { op := 0x0C03, len := some 32 } h = some s1 → p.port ≤ 23 → s1.holds h.part kindPort p.port = true → p.queue = 0 →
    ringEntriesOk p.entries = true → p.ringAddr % 4096 = 0 → p.headWbAddr % 8 = 0 →
    (p.entries = 0 ∨ (256 ≤ p.bufSize ∧ p.bufSize ≤ 16384 ∧ p.bufSize % 256 = 0 ∧ addrFit h p.ringAddr ∧ addrFit h p.headWbAddr)) →
    exec (.prtRxringSet h p) s = .next ((s1.modPort p.port (fun x => { x with rxRings := tset h.part (ringFrom p) x.rxRings })).answered
      { op := 0x0C03, len := some 32 } h stOk 0 [])) ∧
  (∀ (h : Pkt) (p : PrtRingSet) (s s1 : State),
    s.started { op := 0x0C04, len := some 32 } h = some s1 → p.port ≤ 23 → s1.holds h.part kindPort p.port = true → 4 ≤ p.queue → p.queue ≤ 7 → p.bufSize = 0 →
    ringEntriesOk p.entries = true → p.ringAddr % 4096 = 0 → p.headWbAddr % 8 = 0 → (p.entries = 0 ∨ (addrFit h p.ringAddr ∧ addrFit h p.headWbAddr)) →
    exec (.prtTxringSet h p) s = .next
      ((((s1.dropHostFrames p.port h.part true).modPort p.port (fun x => { x with txRings := tset h.part (ringFrom p) x.txRings })).kick p.port).answered
        { op := 0x0C04, len := some 32 } h stOk 0 [])) ∧
  (∀ (h : Pkt) (p : PrtTxqSet) (s s1 : State),
    let c : CmdInfo := { op := 0x0C05, len := some 4 }
    s.started c h = some s1 → h.part = 0 → p.port ≤ 23 → (p.queue = 2 ∨ (4 ≤ p.queue ∧ p.queue ≤ 7)) → p.lateMode ≤ 1 →
    exec (.prtTxqSet h p) s = .next ((s1.modPort p.port (fun x => { x with lateMode := tset p.queue p.lateMode x.lateMode })).answered c h stOk 0 [])) ∧
  (∀ (h : Pkt) (n : Nat) (s s1 : State),
    (s.started { op := 0x0C06, len := some 4, ro := true } h = some s1 → n ≤ 23 → s1.holds h.part kindPort n = true →
      exec (.prtQuery h n) s = .next (s1.answered { op := 0x0C06, len := some 4, ro := true } h stOk 0
        (le 1 (((s1.port n).mode.map (·.mode)).getD 0) ++ le 1 (((s1.port n).mode.map (·.fec)).getD 0)
          ++ le 1 (b2n (s1.port n).link + 2 * b2n (s1.port n).fullDuplex + 4 * b2n (s1.paused n) + 8 * b2n (s1.port n).xoff) ++ zeros 1
          ++ le 4 (if (s1.port n).link then (s1.port n).speedMbps else 0) ++ le 6 (if (s1.port n).mac = 0 then Config.portMac n else (s1.port n).mac) ++ zeros 2))) ∧
    (s.started { op := 0x0C07, len := some 4, ro := true } h = some s1 → n ≤ 23 → s1.observes h.part = true →
      exec (.prtCntRead h n) s = .next (s1.answered { op := 0x0C07, len := some 4, ro := true } h stOk 0
        (le 8 s1.now ++ ((List.range 55).map (fun i => le 4 (tgetD i 0 (s1.port n).cnt).toNat)).flatten))))

/-- Receiving and links: the holder's ring counts are taken unless they would post more than the ring has; a frame that fails a check of Table 13-2 is
counted and gone, a good one is counted and classified (R376 to R380); links come up as the settings allow and go down (R372, R374, R384), an SGMII word
of half duplex holding the link down, and a change of duplex taking an up link down first (R373). -/
def Obligations.PortReceiveRowsComplete : Prop :=
  (∀ (t part port v : Nat) (bufs : List Nat) (s : State) (r : HostRing), s.holds part kindPort port = true → r = tgetD part {} (s.port port).rxRings →
    ((BitVec.ofNat 32 v - r.head).toNat ≤ r.entries → exec (.prtRxTailWrite t part port { tail := v, bufs := bufs }) s = .next
      ((s.at t).modPort port (fun x => { x with rxRings := tset part { r with
        tail := BitVec.ofNat 32 v
        bufs := (r.bufs ++ bufs.take (BitVec.ofNat 32 v - r.tail).toNat).take (BitVec.ofNat 32 v - r.head).toNat } x.rxRings }))) ∧
    (r.entries < (BitVec.ofNat 32 v - r.head).toNat → exec (.prtRxTailWrite t part port { tail := v, bufs := bufs }) s = .next (s.at t))) ∧
  (∀ (t part port v : Nat) (descs : List TxDesc) (s : State) (r : HostRing), s.holds part kindPort port = true → r = tgetD part {} (s.port port).txRings →
    ((BitVec.ofNat 32 v - r.head).toNat ≤ r.entries → exec (.prtTxTailWrite t part port v descs) s = .next
      (((s.at t).modPort port (fun x => { x with txRings := tset part { r with
        tail := BitVec.ofNat 32 v, descs := r.descs ++ descs.take (BitVec.ofNat 32 v - r.tail).toNat } x.txRings })).kick port)) ∧
    (r.entries < (BitVec.ofNat 32 v - r.head).toNat → exec (.prtTxTailWrite t part port v descs) s = .next (s.at t))) ∧
  (∀ (t : Nat) (f : RxFrame) (s s0 s1 : State), (s.at t).portAlive f.port = true →
    s0 = (s.at t).modPort f.port (fun x => { x with carrierUntil := (s.at t).cap + bitsNs (8 * f.len) x.speedMbps }) →
    (∀ n, s0.rxCheck f = some n → exec (.portRxFrame t f) s = .next (s0.portCount f.port n)) ∧
    (s0.rxCheck f = none → s1 = s0.portCounts f.port (sizeBin f.len :: s0.rxTypes f (s0.rxStamp f.port)) →
      (f.damaged = true → exec (.portRxFrame t f) s = .next (s1.portFault f.port 0)) ∧
      (f.damaged = false → exec (.portRxFrame t f) s = .next (s1.classify f)))) ∧
  (∀ (t port speed : Nat) (full lock : Bool) (s : State) (m : PrtModeSet), (s.at t).mayLink port = true → (s.port port).mode = some m →
    (linkFits m speed full = true → exec (.linkUp t port speed full lock) s = .next ((s.at t).linkUpOp port speed full (lock && m.fec != 0))) ∧
    (linkFits m speed full = false → exec (.linkUp t port speed full lock) s = .next (s.at t))) ∧
  (∀ (t port : Nat) (s : State), exec (.linkDown t port) s = .next ((s.at t).linkDownOp port 2)) ∧
  (∀ (t port speed : Nat) (link full : Bool) (s : State) (m : PrtModeSet), (s.at t).mayLink port = true → (s.port port).mode = some m →
    (m.mode = 4 → speed = 10 ∨ speed = 100 ∨ speed = 1000 →
      (link = true → full = false → exec (.sgmiiControlWord t port link full speed) s = .next ((s.at t).linkDownOp port 3)) ∧
      (link = true → full = true → exec (.sgmiiControlWord t port link full speed) s = .next ((s.at t).linkUpOp port speed true false)) ∧
      (link = false → exec (.sgmiiControlWord t port link full speed) s = .next ((s.at t).linkDownOp port 2))) ∧
    (m.mode = 6 ∨ m.mode = 7 → m.linkSrc = false → speed = 10 ∨ speed = 100 →
      (link = false → exec (.mdioPoll t port link full speed) s = .next ((s.at t).linkDownOp port 2)) ∧
      (link = true → exec (.mdioPoll t port link full speed) s = .next ((s.at t).linkUpOp port speed full false)) ∧
      ((s.port port).link = true → (s.port port).fullDuplex ≠ full →
        (s.at t).linkUpOp port speed full false = ((s.at t).linkDownOp port 2).linkUpOp port speed full false)))

/-- Sending: a received pause ends and the queues go on (R385); a sent PAUSE is repeated at half its time while the receive queue stays at 2,048 (R387); the
end of a frame, the pause that begins there, its counters and what follows it; a launch time; a collision backs off, or ends the frame at the 16th attempt
or when it comes later than one slot time after the frame's start (R388); a back-off's end. -/
def Obligations.PortSendRowsComplete : Prop :=
  (∀ (t port e q : Nat) (s : State), (s.port port).pauseIn = some (e, q) → e ≤ (s.at t).cap →
    exec (.pauseExpiry t port) s = .next ((s.at t).kick port)) ∧
  (∀ (t port u : Nat) (s : State), (s.port port).pauseIn = none → (s.port port).pauseUntil = some u →
    (u ≤ (s.at t).now → exec (.pauseExpiry t port) s = .next (((s.at t).modPort port (fun x => { x with pauseUntil := none })).kick port)) ∧
    ((s.at t).now < u → exec (.pauseExpiry t port) s = .next (s.at t))) ∧
  (∀ (t port : Nat) (s : State),
    ((s.port port).xoff = true → 2048 ≤ (s.port port).rxq.length → (s.at t).mayPause port = true →
      (s.port port).xoffAt + quantaNs 0xFFFF (s.port port).speedMbps / 2 ≤ (s.at t).now →
      exec (.xoffRepeat t port) s = .next
        (((s.at t).modPort port (fun x => { x with pauseOwed := some 0xFFFF, xoffAt := (s.at t).now })).kick port)) ∧
    ((s.port port).rxq.length < 2048 ∨ (s.at t).now < (s.port port).xoffAt + quantaNs 0xFFFF (s.port port).speedMbps / 2 →
      exec (.xoffRepeat t port) s = .next (s.at t))) ∧
  (∀ (t p q : Nat) (csLost : Bool) (s s0 s1 s2 : State) (f : TxFrame) (half : List Nat), (s.port p).sending = some (q, f) →
    s0 = (s.at t).pauseSettle p →
    s1 = (s0.modPort p (fun x => { x with sending := none, gapUntil := s0.cap + bitsNs 96 x.speedMbps })).pauseBegins p →
    ((s.port p).fullDuplex = true → half = []) →
    ((s.port p).fullDuplex = false → half = (if f.collisions = 0 then [] else if f.collisions = 1 then [46] else [47])
      ++ (if f.deferred = true then [50] else []) ++ (if csLost = true then [51] else [])) →
    (s2 = ({ s1 with prt := { s1.prt with sent := { port := p, frame := f, stamp := s0.txStamp p } :: s1.prt.sent } } : State).portCounts p
        ([17 + sizeBin (Nat.max f.len 60 + 4)] ++ s0.txTypes f.what f.data ++ half) →
      exec (.txFrameEnd t p csLost false) s = .next ((s2.frameGone p f false).kick p)) ∧
    exec (.txFrameEnd t p csLost true) s = .next (((s1.portFault p f.what.ringPart).frameGone p f true).kick p)) ∧
  (∀ (t port : Nat) (s : State), exec (.txLaunchTime t port) s = .next ((s.at t).kick port)) ∧
  (∀ (t p q : Nat) (late : Bool) (s s1 : State) (f : TxFrame) (held : List Nat), (s.port p).fullDuplex = false → (s.port p).sending = some (q, f) →
    s1 = (s.at t).modPort p (fun x => { x with sending := none, gapUntil := (s.at t).cap + bitsNs 128 x.speedMbps }) →
    held = (if f.deferred = true then [50] else []) →
    (late = true ↔ (s.port p).startedAt + bitsNs 512 (s.port p).speedMbps < (s.at t).cap) →
    (late = true → exec (.txCollision t p late) s = .next (((s1.portCounts p (48 :: held)).frameGone p f true).kick p)) ∧
    (late = false → 15 ≤ f.collisions → exec (.txCollision t p late) s = .next (((s1.portCounts p (49 :: held)).frameGone p f true).kick p)) ∧
    (late = false → f.collisions < 15 → exec (.txCollision t p late) s = .next (s1.free.2.modPort p (fun x => { x with
      retry := some (q, { f with collisions := f.collisions + 1 })
      backoffUntil := (s.at t).cap + bitsNs 32 (s.port p).speedMbps
        + s1.free.1 % 2 ^ (Nat.min (f.collisions + 1) 10) * bitsNs 512 (s.port p).speedMbps })))) ∧
  (∀ (t port : Nat) (s : State), exec (.backoffExpiry t port) s = .next ((s.at t).kick port))

/-- The commands that only read the hosts' state complete and change nothing but the reply: DEV_IDENTIFY (Table 14-13), HST_NOP, which returns its
parameters, HST_GRANT_QUERY, HST_STAGE_READ, and in Placement Q31_STREAM_QUERY and Q31_LOAD_READ. -/
def Obligations.HostReadsComplete : Prop :=
  (∀ (h : Pkt) (s s1 : State),
    let c : CmdInfo := { op := 0x0000, len := some 0, ro := true, halt := true, stabled := true, boot := true, tamper := true, blank := true, retired := true }
    s.started c h = some s1 →
    exec (.devIdentify h) s = .next (s1.answered c h stOk 0
      (le 2 0x7240 ++ le 1 Config.grade.toNat ++ le 1 Config.stepping.toNat ++ le 1 s1.sec.life.code ++ le 1 h.part ++ le 1 s1.tt.profile.code
        ++ le 1 s1.fw.running ++ le 8 Config.serial.toNat ++ le 4 s1.fwVersion ++ le 4 ((s1.cfg.applied.map (·.seq)).getD 0)
        ++ le 8 (s1.doneAt h)))) ∧
  (∀ (h : Pkt) (data : List Byte) (s s1 : State),
    let c : CmdInfo := { op := 0x000E, len := none, ro := true, halt := true, stabled := true, boot := true, tamper := true, blank := true, retired := true }
    s.started c h = some s1 →
    exec (.hstNop h data) s = .next (s1.answered c h stOk 0 data)) ∧
  (∀ (h : Pkt) (p : HstGrantQuery) (s s1 : State),
    let c : CmdInfo := { op := 0x0008, len := some 8, ro := true }
    s.started c h = some s1 → p.part ≤ 7 → (h.part = p.part ∨ h.part = 0) → p.kind = 0 →
    exec (.hstGrantQuery h p) s = .next (s1.answered c h stOk 0
      (le 4 (s1.part p.part).capacity ++ le 4 (s1.part p.part).platform ++ le 4 (s1.part p.part).sidingsMib ++ le 4 (s1.part p.part).poolMib
        ++ le 1 (s1.privByte p.part) ++ zeros 3))) ∧
  (∀ (h : Pkt) (p : HstGrantQuery) (s s1 : State),
    let c : CmdInfo := { op := 0x0008, len := some 8, ro := true }
    s.started c h = some s1 → p.part ≤ 7 → (h.part = p.part ∨ h.part = 0) → 1 ≤ p.kind → p.kind ≤ 14 →
    ∃ res, exec (.hstGrantQuery h p) s = .next (s1.answered c h stOk 0 res) ∧ res.length = 4020) ∧
  (∀ (h : Pkt) (offset len : Nat) (s s1 : State),
    let c : CmdInfo := { op := 0x000D, len := some 8, ro := true }
    s.started c h = some s1 → 1 ≤ len → len ≤ 4000 → offset + len ≤ stagingSize →
    exec (.hstStageRead h offset len) s = .next (s1.answered c h stOk 0
      ((List.range len).map (fun i => Memory.read (offset + i) (s1.stagingOf h.part))))) ∧
  (∀ (h : Pkt) (stream : Nat) (s s1 : State) (p : PlacedStream),
    let c : CmdInfo := { op := 0x7F02, len := some 4, ro := true }
    s.started c h = some s1 → s1.tt.profile = .placement → stream < 16384 → s1.holds h.part kindStream stream = true →
    tget stream s1.hst.placed = some p →
    exec (.q31StreamQuery h stream) s = .next (s1.answered c h stOk 0
      (le 1 p.cluster ++ le 1 (if p.active then 1 else if p.seen then 2 else 0) ++ le 2 p.channels ++ le 4 p.rate
        ++ le 4 (s1.streamLoad p) ++ zeros 4))) ∧
  (∀ (h : Pkt) (s s1 : State),
    let c : CmdInfo := { op := 0x7F03, len := some 0, ro := true }
    s.started c h = some s1 → s1.tt.profile = .placement →
    exec (.q31LoadRead h) s = .next (s1.answered c h stOk 0
      (allClusters.flatMap (fun k =>
        le 4 (s1.load k) ++ le 2 (s1.hst.placed.filter (fun e => e.2.cluster == k)).length ++ zeros 2))))

/-- Partitions: created with no resources, deleted when nothing is held or by FORCE, reset by themselves (with no reply), by the owner partition (with a
reply when the reset has ended) and by a function level reset; and the end of a reset. HST_GRANT moves resources: after a grant that completes, the
holder of every resource in the range is the destination, and no other resource has another holder than before. A port is shared, not moved (Table
14-3). Shares of capacity, privileges and read-only shares complete: HST_SHARE_SET sets the four figures unless present use is above one (R407);
HST_PRIV_SET changes nothing when the privilege is already so, moves TIME_OWNER whole (R408), and with SAFETY takes the outputs of a pair in HOLD to their
safe values (R274); a read-only share is given, or removed when
the reader does not use it or by FORCE, which clears the uses first, and one that changes nothing changes nothing but the reply (R409). -/
def Obligations.PartitionGrantAndShareRowsComplete : Prop :=
  ((∀ (h : Pkt) (p : HstPart) (s s1 : State),
    let c : CmdInfo := { op := 0x0001, len := some 4 }
    s.started c h = some s1 → h.part = 0 → 1 ≤ p.part → p.part ≤ 7 → (s1.part p.part).state = .absent →
    exec (.hstPartCreate h p) s = .next (((s1.setPart p.part { state := .created }).partEvent p.part 1).answered c h stOk 0 (le 1 1 ++ zeros 3))) ∧
  (∀ (h : Pkt) (p : HstPart) (s s1 : State),
    let c : CmdInfo := { op := 0x0002, len := some 4 }
    s.started c h = some s1 → h.part = 0 → 1 ≤ p.part → p.part ≤ 7 → (s1.part p.part).state ≠ .absent → (p.force = true ∨ s1.holdsAny p.part = false) →
    exec (.hstPartDelete h p) s = .next ((s1.partDelete p.part).answered c h stOk 0 (zeros 4))) ∧
  (∀ (h : Pkt) (p : HstPart) (s s1 : State),
    let c : CmdInfo := { op := 0x0003, len := some 4 }
    s.started c h = some s1 → p.part ≤ 7 → (s1.part p.part).state ≠ .absent →
    (h.part = p.part → exec (.hstPartReset h p) s = .next (s1.partReset p.part)) ∧
    (h.part = 0 → p.part ≠ 0 → (s1.part p.part).state = .created →
      exec (.hstPartReset h p) s = .next ((s1.partReset p.part).waitsFor c h (.partReset p.part))) ∧
    (h.part = 0 → p.part ≠ 0 → (s1.part p.part).state = .resetting →
      exec (.hstPartReset h p) s = .next (s1.waitsFor c h (.partReset p.part)))) ∧
  (∀ (t n : Nat) (s : State), n < 8 → (s.part n).state = .created → s.pwr.startupDone = true →
    exec (.pcieFlr t n) s = .next (((s.at t).partReset n).modPart n (fun p => { p with msixTable := [], msixPending := 0 }))) ∧
  (∀ (t n : Nat) (s : State), (s.part n).state = .resetting →
    exec (.partitionResetDone t n) s = .next
      ((((s.at t).modPart n (fun p => { p with state := .created })).partEvent n 1).finishAll
        (fun w => w.what == .partReset n) stOk 0 (fun _ => le 1 1 ++ zeros 3)))) ∧
  ((∀ (h : Pkt) (p : HstGrant) (s s1 : State),
    let c : CmdInfo := { op := 0x0004, len := some 16 }
    s.started c h = some s1 → h.part = 0 → p.remove = false → p.kind ≠ kindPort → kindCount p.kind ≠ 0 → 1 ≤ p.count →
    p.first + p.count ≤ kindCount p.kind → p.dest ≤ 7 → (s1.part p.dest).state ≠ .absent →
    (p.force = true ∨ (s1.used p.kind).any (s1.movedBy p.kind p.dest p.first p.count).contains = false) →
    ∃ t res, exec (.hstGrant h p) s = .next (State.answered t c h stOk 0 res) ∧
      ∀ kind idx, t.holder kind idx =
        if p.kind = kind ∧ p.first ≤ idx ∧ idx < p.first + p.count then p.dest else s1.holder kind idx) ∧
  (∀ (h : Pkt) (p : HstGrant) (s s1 : State),
    let c : CmdInfo := { op := 0x0004, len := some 16 }
    s.started c h = some s1 → h.part = 0 → p.kind = kindPort → 1 ≤ p.count → p.first + p.count ≤ 24 → p.dest ≤ 7 →
    (s1.part p.dest).state ≠ .absent → (p.force = true ∨ p.remove = false) →
    ∃ t res, exec (.hstGrant h p) s = .next (State.answered t c h stOk 0 res) ∧ t.hst.grants = s1.hst.grants)) ∧
  ((∀ (h : Pkt) (p : HstShareSet) (s s1 : State),
    let c : CmdInfo := { op := 0x0005, len := some 24 }
    s.started c h = some s1 → h.part = 0 → p.part ≤ 7 → (s1.part p.part).state ≠ .absent →
    s1.shareUsed p.part ≤ p.capacity → s1.pltUsed p.part ≤ p.platform → s1.sidingsMibUsed p.part ≤ p.sidingsMib →
    s1.segments 64 (some p.part) ≤ p.poolMib →
    exec (.hstShareSet h p) s = .next (((s1.modPart p.part (fun x =>
      { x with capacity := p.capacity, platform := p.platform, sidingsMib := p.sidingsMib, poolMib := p.poolMib })).grantEvent
        [p.part] 0 p.part false).answered c h stOk 0 [])) ∧
  (∀ (h : Pkt) (p : HstPrivSet) (s s1 : State),
    let c : CmdInfo := { op := 0x0006, len := some 4 }
    s.started c h = some s1 → h.part = 0 → p.part ≤ 7 → (s1.part p.part).state ≠ .absent →
    (p.priv = 2 → p.op = 1 → s1.hst.timeOwner = p.part → exec (.hstPrivSet h p) s = .next (s1.answered c h stOk 0 [])) ∧
    (p.priv = 2 → p.op = 1 → s1.hst.timeOwner ≠ p.part →
      exec (.hstPrivSet h p) s = .next
        ((({ s1 with hst := { s1.hst with timeOwner := p.part } }).grantEvent [p.part, s1.hst.timeOwner] 0xF2 p.part false).answered c h stOk 0 [])) ∧
    (p.priv = 3 → p.op = 1 → s1.tt.profile = .fixed → (s1.part p.part).safety = false →
      ∀ s2 : State, s2 = s1.modPart p.part (fun x => { x with safety := true }) →
      (s2.atSafeValues = false ∨ s1.atSafeValues = true →
        exec (.hstPrivSet h p) s = .next ((s2.grantEvent [p.part] 0xF3 p.part false).answered c h stOk 0 [])) ∧
      (s2.atSafeValues = true → s1.atSafeValues = false →
        exec (.hstPrivSet h p) s = .next ((s2.toSafe.grantEvent [p.part] 0xF3 p.part false).answered c h stOk 0 []))) ∧
    (p.priv = 1 → p.op = 2 → p.part ≠ 0 → (s1.part p.part).observeFull = true →
      exec (.hstPrivSet h p) s = .next
        (((s1.modPart p.part (fun x => { x with observeFull := false })).grantEvent [p.part] 0xF1 p.part false).answered c h stOk 0 []))) ∧
  (∀ (h : Pkt) (p : HstRoShare) (s s1 : State) (others changed : List Nat),
    let c : CmdInfo := { op := 0x0007, len := some 16 }
    s.started c h = some s1 → h.part = 0 → p.kind ∈ [1, 6, 7, 8, 9, 10] → p.dest ≤ 7 → p.op = 1 ∨ p.op = 2 → 1 ≤ p.count →
    p.first + p.count ≤ kindCount p.kind → (s1.part p.dest).state ≠ .absent →
    others = ((List.range p.count).map (p.first + ·)).filter (fun i => s1.holder p.kind i != p.dest) →
    changed = others.filter (fun i => s1.shared p.kind i p.dest != (p.op == 1)) →
    (changed = [] → exec (.hstRoShare h p) s = .next (s1.answered c h stOk 0 [])) ∧
    (changed ≠ [] → p.op = 1 → exec (.hstRoShare h p) s = .next
      (((s1.shareWrite p.kind p.dest true changed).grantEvent [p.dest] p.kind p.first true).answered c h stOk 0 [])) ∧
    (changed ≠ [] → p.op = 2 → (∀ i ∈ changed, s1.shareUsedBy p.dest p.kind i = false) → exec (.hstRoShare h p) s = .next
      (((s1.shareWrite p.kind p.dest false changed).grantEvent [p.dest] p.kind p.first true).answered c h stOk 0 [])) ∧
    (changed ≠ [] → p.op = 2 → p.force = true → exec (.hstRoShare h p) s = .next
      (((((others.filter (fun i => s1.shared p.kind i p.dest && s1.shareUsedBy p.dest p.kind i)).foldl
        (fun x i => x.shareUsesClear p.dest p.kind i) s1).shareWrite p.kind p.dest false changed).grantEvent [p.dest] p.kind p.first true).answered
          c h stOk 0 []))))

/-- HST_EVT_RING_SET places the event ring anew and drains it of what it held; HST_INBAND_SET gives the channel its settings and restarts the replay
window; HST_STAGE_WRITE writes the staging buffer of the caller's partition and no other. -/
def Obligations.HostSettingsComplete : Prop :=
  (∀ (h : Pkt) (p : HstEvtRingSet) (s s1 : State),
    let c : CmdInfo := { op := 0x0009, len := some 24 }
    s.started c h = some s1 →
    (p.ringSize = 0 ∨ (powerBetween 4096 16777216 p.ringSize = true ∧ (p.reserve = 0 ∨ (16 ≤ p.reserve ∧ p.reserve ≤ p.ringSize / 64)) ∧
      addrFit h p.ringAddr ∧ p.ringAddr % 4096 = 0)) →
    exec (.hstEvtRingSet h p) s = .next (((s1.modPart h.part (fun x => { x with ev := { x.ev with
      size := p.ringSize, reserve := if p.reserve = 0 then 64 else p.reserve, addr := p.ringAddr, prod := 0, cons := 0,
      stopped := false } })).drainRing h.part).answered c h stOk 0 [])) ∧
  (∀ (h : Pkt) (p : HstInbandSet) (s s1 : State),
    let c : CmdInfo := { op := 0x000A, len := some 24 }
    s.started c h = some s1 → p.enable = false → p.keyVerify = 0xFF → p.keyVerifyNext = 0xFF → p.keySign = 0xFF → (h.part = 0 ∨ p.udpPort = 0) →
    exec (.hstInbandSet h p) s = .next ((s1.inbandSet h.part p).answered c h stOk 0 [])) ∧
  (∀ (h : Pkt) (p : HstInbandSet) (s s1 : State),
    let c : CmdInfo := { op := 0x000A, len := some 24 }
    s.started c h = some s1 → p.keyVerify ≠ 0xFF → p.keyVerifyNext = 0xFF → p.keySign ≠ 0xFF →
    s1.inbandSlot h.part p.keyVerify 2 = true → s1.inbandSlot h.part p.keySign 1 = true →
    (∀ n ∈ [p.keyVerify, p.keySign], (s1.slot n).updateLost = false ∧ (s1.slot n).unusable = false) → (h.part = 0 ∨ p.udpPort = 0) →
    exec (.hstInbandSet h p) s = .next ((s1.inbandSet h.part p).answered c h stOk 0 [])) ∧
  (∀ (h : Pkt) (offset len : Nat) (data : List Byte) (s s1 : State),
    let c : CmdInfo := { op := 0x000C, len := none }
    s.started c h = some s1 → h.paramLen = 8 + len → data.length = len → 1 ≤ len → len ≤ 4000 → offset + len ≤ stagingSize → s1.stagingWf →
    ∃ t, exec (.hstStageWrite h offset len data) s = .next (State.answered t c h stOk 0 []) ∧
      (∀ a, Memory.read a (t.stagingOf h.part) =
        if offset ≤ a ∧ a < offset + len then data.getD (a - offset) 0 else Memory.read a (s1.stagingOf h.part)) ∧
      (∀ n, n ≠ h.part → t.stagingOf n = s1.stagingOf n))

/-- The QV3100 commands complete in Placement: a stream is added to the least loaded cluster, removed with its work, and all are placed afresh by
Q31_REBALANCE (R430). -/
def Obligations.CompatibilityRowsComplete : Prop :=
  (∀ (h : Pkt) (p : Q31StreamAdd) (s s1 : State) (k : Nat) (e : IngSubSet),
    let c : CmdInfo := { op := 0x7F00, len := some 16 }
    s.started c h = some s1 → s1.tt.profile = .placement → p.stream < 16384 → p.protocol ≤ 2 → p.rate ∈ frameRates → 1 ≤ p.channels → p.channels ≤ 256 →
    s1.holds h.part kindStream p.stream = true → tget p.stream s1.hst.placed = none → tget p.stream s1.ing.subs = some e →
    e.kind = (if p.protocol ≤ 1 then 0 else 1) → (maskBits 16 p.groupMask).all (fun g => (s1.group g).isSome) = true →
    s1.leastLoaded [] = some k → s1.pltCommit + (s1.q31Placed h p k).bytes ≤ 65011712 → s1.chCommit + p.channels ≤ 262144 →
    exec (.q31StreamAdd h p) s = .next
      (({ s1 with hst := { s1.hst with placed := tset p.stream (s1.q31Placed h p k) s1.hst.placed } }).answered c h stOk 0 (le 1 k ++ zeros 3))) ∧
  (∀ (h : Pkt) (stream : Nat) (s s1 : State) (p : PlacedStream),
    let c : CmdInfo := { op := 0x7F01, len := some 4 }
    s.started c h = some s1 → s1.tt.profile = .placement → stream < 16384 → s1.holds h.part kindStream stream = true →
    tget stream s1.hst.placed = some p →
    ∀ s2 : State, s2 = s1.cancelItems (fun x => x.stream == stream) →
      exec (.q31StreamRemove h stream) s = .next
        ((({ s2 with hst := { s2.hst with placed := tdel stream s2.hst.placed }, plt := { s2.plt with slots := tdel (placedKey stream) s2.plt.slots } }
          : State).houseCheckAll p.groupMask).metersRefresh.answered c h stOk 0 [])) ∧
  (∀ (h : Pkt) (s s1 : State),
    let c : CmdInfo := { op := 0x7F04, len := some 0 }
    s.started c h = some s1 → s1.tt.profile = .placement → h.part = 0 →
    exec (.q31Rebalance h) s = .next (s1.rebalance.1.answered c h stOk 0 (le 2 s1.rebalance.2 ++ zeros 2)))

/-- Keys: imported, generated, derived (R438, R439) and deleted by an update that the command waits for (R452); wrapped; queried, the mark UPDATE_LOST
going with the reply. -/
def Obligations.KeyCommandsComplete : Prop :=
  (∀ (h : Pkt) (p : KeyImport) (s s1 : State),
    let c : CmdInfo := { op := 0x0D00, len := none }
    s.started c h = some s1 → s1.sec.life ≠ .returned → s1.sec.tamperLatched = false → h.paramLen = 16 + p.len → p.len ≠ 0 →
    s1.holds h.part kindKey p.slot = true → (s1.slot p.slot).updateLost = false → (p.force = true ∨ s1.slotInUse p.slot = false) → s1.pwr.pfwLow = false →
    (p.format = 0 → h.chan = .queue → 1 ≤ p.attr → p.attr ≤ 4 → 1 ≤ p.type → p.type ≤ 4 → keyCombo p.attr p.type p.alg = true → p.len = keyLen p.type →
      exec (.keyImport h p) s = .next ((s1.keyWrite p.slot (some { attr := p.attr, type := p.type, alg := p.alg, keyId := p.keyId, exportable := p.exportable, origin := 1, bindMask := 0, boundDigest := 0, bytes := p.key })).waitsFor c h (.keyCommit p.slot (kcv p.key ++ zeros 4)))) ∧
    (∀ w, p.format = 1 → s1.slotFit h p.wrapSlot 3 → s1.key p.wrapSlot = some w → p.attr = 0 → p.type = 0 → p.alg = 0 → p.exportable = false → p.keyId = 0 →
      (p.len = 32 ∨ p.len = 48 ∨ p.len = 80) →
      (Config.aesUnwrap w.bytes p.key = none → exec (.keyImport h p) s = .next ((s1.secCount 3).answered c h stAuthFail 0 [])) ∧
      (∀ d, Config.aesUnwrap w.bytes p.key = some d → unwrapKey d = none → exec (.keyImport h p) s = .next (s1.answered c h stBadParam 16 [])) ∧
      (∀ d k, Config.aesUnwrap w.bytes p.key = some d → unwrapKey d = some k →
        exec (.keyImport h p) s = .next ((s1.keyWrite p.slot (some k)).waitsFor c h (.keyCommit p.slot (kcv k.bytes ++ zeros 4)))))) ∧
  (∀ (h : Pkt) (p : KeyGenerate) (s s1 : State) (k : Key),
    let c : CmdInfo := { op := 0x0D01, len := some 12 }
    s.started c h = some s1 → s1.sec.life ≠ .returned → s1.sec.tamperLatched = false → s1.holds h.part kindKey p.slot = true →
    (s1.slot p.slot).updateLost = false → 1 ≤ p.attr → p.attr ≤ 4 → 1 ≤ p.type → p.type ≤ 4 → keyCombo p.attr p.type p.alg = true →
    (p.force = true ∨ s1.slotInUse p.slot = false) → s1.sec.drbgFailed = false → s1.pwr.pfwLow = false →
    k = { attr := p.attr, type := p.type, alg := p.alg, keyId := p.keyId, exportable := p.exportable, origin := 3, bindMask := 0, boundDigest := 0, bytes := (s1.draw (keyLen p.type)).1 } →
    exec (.keyGenerate h p) s = .next
      (((s1.draw (keyLen p.type)).2.keyWrite p.slot (some k)).waitsFor c h (.keyCommit p.slot (kcv k.bytes ++ zeros 4)))) ∧
  (∀ (h : Pkt) (p : KeyDerive) (s s1 : State) (src k : Key),
    let c : CmdInfo := { op := 0x0D02, len := none }
    s.started c h = some s1 → s1.sec.life ≠ .returned → s1.sec.tamperLatched = false → h.paramLen = ceilDiv (16 + p.salt.length + p.info.length) 4 * 4 →
    s1.slotFit h p.src 4 → s1.key p.src = some src → s1.holds h.part kindKey p.dst = true → (s1.slot p.dst).updateLost = false → p.src ≠ p.dst →
    1 ≤ p.attr → p.attr ≤ 4 → 1 ≤ p.type → p.type ≤ 4 → keyCombo p.attr p.type p.alg = true → p.bindMask ≤ 15 → p.salt.length ≤ 64 → p.info.length ≤ 128 →
    (p.force = true ∨ s1.slotInUse p.dst = false) → s1.pwr.pfwLow = false →
    k = { attr := p.attr, type := p.type, alg := p.alg, keyId := p.keyId, exportable := p.exportable, origin := 4, bindMask := p.bindMask, boundDigest := if p.bindMask == 0 then 0 else s1.boundValue p.bindMask, bytes := s1.derived src p } →
    exec (.keyDerive h p) s = .next ((s1.keyWrite p.dst (some k)).waitsFor c h (.keyCommit p.dst (kcv k.bytes ++ zeros 4)))) ∧
  (∀ (h : Pkt) (p : KeyWrap) (s s1 : State) (k w : Key),
    let c : CmdInfo := { op := 0x0D03, len := some 4, ro := true }
    s.started c h = some s1 → s1.slotFit h p.wrapSlot 3 → s1.slotFit h p.slot k.attr → s1.key p.slot = some k → k.exportable = true → s1.key p.wrapSlot = some w →
    exec (.keyWrap h p) s = .next (s1.answered c h stOk 0 (le 2 (16 + keyLen k.type) ++ zeros 2 ++ Config.aesWrap w.bytes (wrapPlain k)))) ∧
  (∀ (h : Pkt) (p : KeyDelete) (s s1 : State),
    let c : CmdInfo := { op := 0x0D04, len := some 4 }
    s.started c h = some s1 → s1.holds h.part kindKey p.slot = true → (s1.slot p.slot).updateLost = false → (p.force = true ∨ s1.slotInUse p.slot = false) →
    s1.pwr.pfwLow = false →
    ((s1.slot p.slot).key = none → exec (.keyDelete h p) s = .next (s1.answered c h stOk 0 [])) ∧
    ((s1.slot p.slot).key.isSome = true → exec (.keyDelete h p) s = .next ((s1.keyWrite p.slot none).waitsFor c h (.keyCommit p.slot [])))) ∧
  (∀ (h : Pkt) (n : Nat) (s s1 : State),
    let c : CmdInfo := { op := 0x0D05, len := some 4, ro := true }
    s.started c h = some s1 → n ≤ 255 → s1.holds h.part kindKey n = true →
    ((s1.slot n).updateLost = false → exec (.keyQuery h n) s = .next (s1.answered c h stOk 0 (s1.keyReply n))) ∧
    ((s1.slot n).updateLost = true →
      exec (.keyQuery h n) s = .next ((s1.setSlot n { s1.slot n with updateLost := false }).answered c h stOk 0 (s1.keyReply n))))

/-- Attestation, clearance and logs: a quote counts QUOTE_SEQ on and signs its body (R447); a response is the HMAC of R448; a clearance renews the key
store and ends FS_80 (R459); the logs are copied out. Events of the security core: the commit of an update answers its command (R452); an erasure that
is due; a failed health test stops the generator, FS_83 (R436); a challenge 10 minutes old expires (R464); a tamper source that is no longer active;
the hold of a start-up whose banks are both refused (R444). -/
def Obligations.SecurityRowsComplete : Prop :=
  ((∀ (h : Pkt) (nonce : List Byte) (s s1 s2 : State),
    let c : CmdInfo := { op := 0x0D06, len := some 32, stabled := true, retired := true }
    s.started c h = some s1 → s2 = { s1.at h.done with sec := { s1.sec with quoteSeq := s1.sec.quoteSeq + 1 } } →
    exec (.attQuote h nonce) s = .next (s2.answered c h stOk 0 (s2.quoteBody nonce ++ le 64 (s2.idSign (s2.quoteBody nonce)).toNat))) ∧
  (∀ (h : Pkt) (p : AttRespond) (s s1 : State) (k : Key),
    let c : CmdInfo := { op := 0x0D07, len := some 36, ro := true }
    s.started c h = some s1 → s1.sec.tamperLatched = false → s1.slotFit h p.slot 1 → s1.key p.slot = some k → k.alg = 5 →
    exec (.attRespond h p) s = .next (s1.answered c h stOk 0
      (hmacBytes k.bytes (ascii "QV7240-ATT" ++ le 8 Config.serial.toNat ++ p.challenge ++ digestBytes (s1.bmr 1) ++ digestBytes (s1.bmr 2))))) ∧
  (∀ (h : Pkt) (p : TamperClear) (s s1 : State),
    let c : CmdInfo := { op := 0x0D09, len := some 72, stabled := true, tamper := true, blank := true }
    s.started c h = some s1 → h.part = 0 → s1.sec.tamperLatched = true → p.seq + 1 = s1.sec.tamperLog.length → s1.sec.tmpActive = [] →
    (s1.sec.life = .blank ∨ s1.sec.life = .personalised ∨ s1.clearanceSigned p = true) → s1.sec.drbgFailed = false → s1.pwr.pfwLow = false →
    exec (.tamperClear h p) s = .next ((s1.at h.done).tamperCleared.answered c h stOk 0 [])) ∧
  (∀ (h : Pkt) (p : LogRead) (s s1 : State) (out : List (List Byte)) (res : List Byte),
    let c : CmdInfo := { op := 0x0D0A, len := some 24, ro := true, halt := true, stabled := true, boot := true, tamper := true, blank := true, retired := true }
    s.started c h = some s1 → p.log ≤ 3 → (p.log = 1 ∨ p.log = 2 → s1.observes h.part = true) → (p.bufLen = 0 ∨ addrFit h p.bufAddr) →
    out = ((s1.logEntries p.log).1.drop p.first).take (p.bufLen / (s1.logEntries p.log).2) →
    res = le 4 out.length ++ le 4 (p.first + out.length) ++ le 4 (s1.logEntries p.log).1.length ++ zeros 4 →
    (out.flatten.length = 0 → exec (.logRead h p) s = .next (s1.answered c h stOk 0 res)) ∧
    (out.flatten.length ≠ 0 → exec (.logRead h p) s = .next (s1.waitsFor c h (.dmaCopy p.bufAddr (out.flatten.take out.flatten.length) res))))) ∧
  ((∀ (t n : Nat) (s : State) (sel : Waiting → Bool) (res : Waiting → List Byte),
    (∀ w, sel w = match w.what with
      | .keyCommit k _ => k == n
      | _ => false) → (∀ w, res w = match w.what with
      | .keyCommit _ b => b
      | _ => []) →
    (s.uncommitted.contains n = true → s.norHeld (.key n) = false → exec (.keyUpdateCommitted t n) s = .next (((s.at t).keyCommit n).finishAll sel stOk 0 res)) ∧
    (s.uncommitted.contains n = false ∨ s.norHeld (.key n) = true → exec (.keyUpdateCommitted t n) s = .next (s.at t))) ∧
  (∀ (t : Nat) (s : State),
    (s.sec.eraseDue = true → s.alcx.write = none → exec (.keyEraseDone t) s = .next (s.at t).eraseKeys) ∧ (s.sec.eraseDue = false ∨ s.alcx.write.isSome = true → exec (.keyEraseDone t) s = .next (s.at t))) ∧
  (∀ (t : Nat) (s s1 : State), s1 = { (s.at t).free.2 with sec := { s.sec with drbgFailed := true } } →
    exec (.entropyHealthFail t) s = .next (s1.fault 83 ((s.at t).free.1 % 4294967296) 0xFF)) ∧
  (∀ (t since : Nat) (s : State) (ch : List Byte), s.sec.challenge = some (ch, since) →
    (since + 600000000000 ≤ (s.at t).now → exec (.testChallengeExpiry t) s = .next { s.at t with sec := { s.sec with challenge := none } }) ∧
    ((s.at t).now < since + 600000000000 → exec (.testChallengeExpiry t) s = .next (s.at t))) ∧
  (∀ (t code : Nat) (s : State), exec (.tamperSourceCleared t code) s = .next
    { s.at t with sec := { s.sec with tmpActive := s.sec.tmpActive.filter (· != code) } }) ∧
  (∀ (t : Nat) (s : State), s.pwr.startupDone = false → s.pwr.porHeld = false → s.pwr.perstHeld = false →
    exec (.bootHold t) s = .next (({ s.at t with sec := { s.sec with bootHold := true } } : State).refreshErr)))

/-- The commands of the signal box: records and history read; records acknowledged, but for those of LEVEL sources still active and of the tick of receipt
(R475); a force bit set or cleared, with the block's reaction where it is asked for (R482, R483), a device reset taking no reply; ERR_MIN and CE_LIMIT
set; a self-test begun. -/
def Obligations.FaultCommandsComplete : Prop :=
  (∀ (h : Pkt) (s s1 : State),
    let c : CmdInfo := { op := 0x0E00, len := some 0, ro := true, halt := true, stabled := true }
    s.started c h = some s1 → exec (.fltRead h) s = .next (s1.answered c h stOk 0
      (faultBytes s1.flt.first ++ bitMap 32 s1.faultActive ++ bitMap 32 s1.unackSource ++ bitMap 32 (fun i => s1.flt.forced.contains i)
        ++ le 4 s1.flt.seq.toNat ++ le 1 (s1.maxUnack.getD 0xFF) ++ le 1 s1.flt.errMin
        ++ le 1 (b2n s1.flt.errFault + 2 * b2n s1.flt.selftest.isSome + 4 * b2n s1.selftestFail) ++ zeros 1 ++ le 8 s1.flt.lastTest ++ zeros 16))) ∧
  (∀ (h : Pkt) (p : FltHistory) (s s1 : State),
    let c : CmdInfo := { op := 0x0E03, len := some 4, ro := true, halt := true, stabled := true }
    s.started c h = some s1 → p.first ≤ 31 → p.first + p.count ≤ 32 → exec (.fltHistory h p) s = .next (s1.answered c h stOk 0
      (le 4 s1.flt.seq.toNat ++ le 4 s1.flt.lost.toNat ++ ((List.range p.count).map (fun i => faultBytes (s1.flt.history[p.first + i]?))).flatten))) ∧
  (∀ (h : Pkt) (p : FltAck) (s s1 : State) (named still : List FaultRec),
    let c : CmdInfo := { op := 0x0E01, len := some 8 }
    let told := 0 :: (allParts.filter (fun q => q != 0 && s1.created q && (s1.part q).safety))
    s.started c h = some s1 → (h.part = 0 ∨ (s1.part h.part).safety = true) → 1 ≤ p.op → p.op ≤ 3 → (p.op = 2 → p.cls ≤ 11) →
    (p.op = 1 → (faultClass p.source).isSome = true ∧ still = []) → named = s1.unacked.filter (ackNames p h.recv) → still = named.filter s1.stillActive →
    exec (.fltAck h p) s = .next ((((s1.at h.done).fltAcked p h.recv).evt told 0x1FE (named.length - still.length)).answered c h stOk 0
      (le 2 (named.length - still.length) ++ le 2 still.length))) ∧
  (∀ (h : Pkt) (p : FltInject) (s s1 : State),
    let c : CmdInfo := { op := 0x0E02, len := some 8 }
    s.started c h = some s1 → h.part = 0 → (faultClass p.source).isSome = true →
    (p.op = 2 → exec (.fltInject h p) s = .next ((s1.uninject p.source).answered c h stOk 0 [])) ∧
    (p.op = 1 → (p.react = false ∨ p.source ≠ 103) → exec (.fltInject h p) s = .next ((s1.inject p).answered c h stOk 0 [])) ∧
    (p.op = 1 → p.react = true → p.source = 103 → exec (.fltInject h p) s = .next (s1.inject p))) ∧
  (∀ (h : Pkt) (p : FltSet) (s s1 : State),
    let c : CmdInfo := { op := 0x0E05, len := some 8 }
    s.started c h = some s1 → h.part = 0 → p.errMin ≤ 3 → exec (.fltSet h p) s = .next (((s1.at h.done).fltApply p).answered c h stOk 0 [])) ∧
  (∀ (h : Pkt) (parts : Nat) (s s1 : State) (n : Nat),
    let c : CmdInfo := { op := 0x0E04, len := some 4 }
    s.started c h = some s1 → h.part = 0 → parts ≤ 31 → s1.flt.selftest = none → (parts = 0 → n = 31) → (parts ≠ 0 → n = parts) →
    exec (.fltSelftest h parts) s = .next
      (({ s1 with flt := { s1.flt with selftest := some { parts := n, requested := true, start := s1.now } } } : State).waitsFor c h (.selftest n)))

/-- Conditions and stalls: a supply or the temperature out of its range is a fault while the power-down was not warned of, and ends in range (R470, R471);
a stalled block is a fault and the reset of the block (R472); the management pair's mismatch is FS_8; a tamper event. Memory errors and scrub: a
finding is judged at once, or held to the end of the checker's own slice as a condition or a stall is (R484, R487), and the last word of a pass keeps its time; a pass overdue is
FS_93; the corrections of an hour are judged against CE_LIMIT. -/
def Obligations.ConditionAndScrubRowsComplete : Prop :=
  ((∀ (t src : Nat) (v : Reading) (low : Bool) (s s1 : State), (v.inSlice && s.flt.selftest.any (fun q => q.parts.testBit 3)) = false →
    s1 = { s.at t with flt := { s.flt with outOfRange := (src, low) :: s.flt.outOfRange.filter (fun e => e.1 != src) } } →
    (src < 6 → s1.quietLow src low = true → exec (.supplyOutOfRange t src low v) s = .next s1) ∧
    (src < 6 → s1.quietLow src low = false → exec (.supplyOutOfRange t src low v) s = .next (s1.free.2.fault src s1.free.1 0xFF)) ∧
    (src = 6 ∨ src = 7 → low = false → exec (.temperatureLimit t src true v) s = .next (s1.free.2.fault src s1.free.1 0xFF))) ∧
  (∀ (t src : Nat) (v : Reading) (s s1 : State), s.flt.heldErrors.any (HeldError.ofRange src) = false →
    s1 = { s.at t with flt := { s.flt with outOfRange := s.flt.outOfRange.filter (fun e => e.1 != src) } } →
    (src < 6 → exec (.supplyBackInRange t src) s = .next (s1.faultClear src)) ∧
    (src = 6 ∨ src = 7 → exec (.temperatureLimit t src false v) s = .next (s1.faultClear src))) ∧
  (∀ (t src : Nat) (x : Stall) (s : State), (s.at t).fabricUp = true → (x.inSlice && s.flt.selftest.any (fun q => q.parts.testBit 2)) = false →
    (x.block = .ingest ∧ src = 32 ∨ x.block = .platform ∧ src = 33 ∨ x.block = .engines ∧ src = 34 ∨ x.block = .logicOutput ∧ src = 35 ∨
        x.block = .management ∧ src = 36 ∨ x.block = .dma ∧ src = 37 →
      exec (.handshakeStall t x) s = .next (((s.at t).free.2.fault src (s.at t).free.1 0xFF).stallReset src)) ∧
    (∀ k, x.block = .cluster k → k < 16 → exec (.handshakeStall t x) s = .next (((s.at t).fault 64 k 0xFF).clusterFaulted k)) ∧
    (∀ p, x.block = .port p → p < 24 → exec (.handshakeStall t x) s = .next ((s.at t).portFault p 0))) ∧
  (∀ (t src : Nat) (low : Bool) (b : StalledBlock) (s : State) (q : SelfTest) (hold : HeldError → State), s.flt.selftest = some q →
    (∀ e, hold e = { s.at t with flt := { s.flt with heldErrors := s.flt.heldErrors ++ [e] } }) →
    (q.parts.testBit 3 = true → ∀ v, (src < 6 → exec (.supplyOutOfRange t src low { value := v, inSlice := true }) s = .next (hold (.range src (some low)))) ∧
      (src = 6 ∨ src = 7 → exec (.temperatureLimit t src true { value := v, inSlice := true }) s = .next (hold (.range src (some false))))) ∧
    (q.parts.testBit 3 = true → s.flt.heldErrors.any (HeldError.ofRange src) = true → ∀ v, (src < 6 → exec (.supplyBackInRange t src) s = .next (hold (.range src none))) ∧
      (src = 6 ∨ src = 7 → exec (.temperatureLimit t src false v) s = .next (hold (.range src none)))) ∧
    (q.parts.testBit 2 = true → (s.at t).fabricUp = true → exec (.handshakeStall t { block := b, inSlice := true }) s = .next (hold (.stall b)))) ∧
  (∀ (t : Nat) (s : State), (s.at t).watched = true →
    exec (.mgmtLockstepMismatch t) s = .next (((s.at t).free.2.fault 8 (s.at t).free.1 0xFF).mgmtFail 8)) ∧
  (∀ (t code value : Nat) (s : State), exec (.tamperDetected t code value) s = .next ((s.at t).tamperDetected code value))) ∧
  ((∀ (t : Nat) (x : ScrubStep) (s s1 : State) (slice : Bool), (s.at t).watched = true → slice = (x.inSlice && s.flt.selftest.any (fun q => q.parts.testBit 0)) →
    (slice = true → s1 = { s.at t with flt := { s.flt with heldErrors := s.flt.heldErrors ++ [.word x] } }) → (slice = false → s1 = (s.at t).finding x) →
    (x.passEnd = true → x.scrub = true → exec (.scrubStep t x) s = .next (s1.passEnd x)) ∧
    (x.passEnd = false ∨ x.scrub = false → exec (.scrubStep t x) s = .next s1)) ∧
  (∀ (t bit due : Nat) (dram : Bool) (s s1 : State), (s.at t).watched = true →
    (dram = true ∧ bit = 1 ∧ due = s.flt.dramAt + 90000000000 ∨ dram = false ∧ bit = 0 ∧ due = s.flt.sramAt + 3000000000) →
    s1 = { s.at t with flt := { s.flt with scrubOver := s.flt.scrubOver + 2 ^ bit } } →
    (due ≤ (s.at t).now → s.flt.scrubOver.testBit bit = false → exec (.scrubOverdue t dram) s = .next (s1.free.2.fault 93 s1.free.1 0xFF)) ∧
    ((s.at t).now < due → exec (.scrubOverdue t dram) s = .next (s.at t))) ∧
  (∀ (t : Nat) (r : MemRegion) (s : State), (s.at t).watched = true → exec (.ceHourWindow t r) s = .next ((s.at t).regionJudge (regionCode r))))

/-- The ERR pair and self-test: both pins change at multiples of 500 µs in health (R479), a disagreement of the channels is FS_9, a pin off its level
FS_10 (R480); a test each hour, its slices, its outcome (R486), and 70 minutes without one FS_94. -/
def Obligations.SelftestRowsComplete : Prop :=
  (∀ (t : Nat) (s : State), s.flt.errFault = false → (s.at t).now % 500000 = 0 → s.flt.nextToggle ≤ (s.at t).now →
    exec (.errToggle t) s = .next { s.at t with flt := { s.flt with errP := !s.flt.errP, errN := s.flt.errP, nextToggle := (s.at t).now + 500000 } }) ∧
  (∀ (t : Nat) (x : ErrCompare) (good : Bool) (s s1 : State), s.pwr.porHeld = false → s.pwr.perstHeld = false →
    ((x.inSlice && s.flt.selftest.any (fun q => q.parts.testBit 4)) = true →
      exec (.errChannelCompare t x good) s = .next { s.at t with flt := { s.flt with heldErrors := s.flt.heldErrors ++ [.pins x.agree good] } }) ∧
    ((x.inSlice && s.flt.selftest.any (fun q => q.parts.testBit 4)) = false →
      (x.agree = true → s1 = s.at t) → (x.agree = false → s1 = (s.at t).free.2.fault 9 (s.at t).free.1 0xFF) →
      (good = true → exec (.errChannelCompare t x good) s = .next (s1.faultClear 10)) ∧
      (good = false → exec (.errChannelCompare t x good) s = .next (s1.free.2.fault 10 s1.free.1 0xFF)))) ∧
  (∀ (t : Nat) (s : State), (s.at t).watched = true → s.flt.selftest = none → s.pwr.startupAt < (s.at t).now →
    ((s.at t).now - s.pwr.startupAt) % hourNs = 0 →
    exec (.selftestHourly t) s = .next { s.at t with flt := { s.flt with selftest := some { parts := allTests, requested := false, start := (s.at t).now } } }) ∧
  (∀ (t : Nat) (s : State), (s.at t).watched = true → exec (.selftestSliceEnd t) s = .next
    (s.flt.heldErrors.foldl (fun s x => s.evaluateError x) { s.at t with flt := { s.flt with heldErrors := [] } })) ∧
  (∀ (t failed f : Nat) (s s1 s2 : State) (q : SelfTest), (s.at t).watched = true → s.flt.selftest = some q → f = failed &&& q.parts →
    s1 = ({ (s.at t).sliceEnd with flt := { (s.at t).sliceEnd.flt with
      selftest := none, lastTest := (s.at t).now, lastPeriodic := if q.requested then (s.at t).sliceEnd.flt.lastPeriodic else (s.at t).now } } : State).testOutcome q.parts f →
    (q.requested = true → s2 = s1) → (q.requested = false → s2 = s1.faultClear 94) →
    ∃ mine : Waiting → Bool, (∀ w, mine w = match w.what with
        | .selftest _ => true
        | _ => false) ∧
      (f = 0 → exec (.selftestDone t failed) s = .next ((s2.evt [0] 0x1FF (b2n q.requested + 256 * f)).finishAll mine stOk 0 (fun _ => le 1 f ++ zeros 3))) ∧
      (f ≠ 0 → exec (.selftestDone t failed) s = .next
        ((s2.evt [0] 0x1FF (b2n q.requested + 256 * f)).finishAll mine stFaulted (failedSource f) (fun _ => le 1 f ++ zeros 3)))) ∧
  (∀ (t : Nat) (s : State), (s.at t).watched = true →
    (s.flt.lastPeriodic + 4200000000000 ≤ (s.at t).now → exec (.selftestOverdue t) s = .next ((s.at t).free.2.fault 94 (s.at t).free.1 0xFF)) ∧
    ((s.at t).now < s.flt.lastPeriodic + 4200000000000 → exec (.selftestOverdue t) s = .next (s.at t)))

/-- DEV_RESET of the owner, with KIND 1, resets the device for cause 3: it starts up anew with no command held, and the command is not answered; another KIND
is refused with BAD_PARAM. LC_TRANSITION with OP 1, for a transition of Table 15-9a and signed, answers, moves the life cycle, adds one entry to its log and
resets the device for cause 4 (R462). In RETURNED, OP 2 draws a challenge and answers with it, and OP 3 with a signed response to a challenge that is not too
old takes the challenge away, unlocks the test port, logs the unlock and raises SECURITY_NOTICE of type 4 (R464). -/
def Obligations.ResetAndLifeComplete : Prop :=
  (∀ (h : Pkt) (kind : Nat) (s s1 t : State),
    let c : CmdInfo := { op := 0x000B, len := some 4, halt := true, boot := true }
    s.started c h = some s1 → h.part = 0 → t = (s1.at h.done).deviceReset 3 →
    (kind = 1 → exec (.devReset h kind) s = .next t ∧
      t.pwr.cause = 3 ∧ t.pwr.startupDone = false ∧ t.held = [] ∧ t.hst.waiting = [] ∧ t.hst.replies = s1.hst.replies) ∧
    (kind ≠ 1 → exec (.devReset h kind) s = .next (s1.answered c h stBadParam 0 []))) ∧
  (∀ (h : Pkt) (p : LcTransition) (s s1 s2 t : State) (old : LifeCycle) (signer : Nat),
    let c : CmdInfo := { op := 0x0D08, len := some 72, blank := true }
    s.started c h = some s1 → h.part = 0 → s1.sec.tamperLatched = false → p.op = 1 → p.ownerBoot = false → p.lcSeq = s1.sec.lifeLog.length →
    s1.moveSigned p signer = true → (p.dest = 1 → s1.sec.drbgFailed = false) → s1.pwr.pfwLow = false → s1.sec.life = old →
    (old, p.dest, signer) ∈ [(LifeCycle.blank, 1, 0), (.personalised, 2, 1), (.deployed, 3, 1), (.deployed, 4, 1), (.returned, 4, 0)] →
    s2 = (s1.at h.done).putReply h 0x0D08 stOk 0 (s1.at h.done).now (zeros 32) → t = s2.lcApply p signer →
    exec (.lcTransition h p) s = .next t ∧ t.sec.life = lifeOf p.dest ∧
      t.sec.lifeLog = s1.sec.lifeLog ++ [{ seq := p.lcSeq, fromState := old.code, toState := p.dest, signer, tb1 := s2.tb1Log }] ∧
      t.pwr.cause = 4 ∧ t.pwr.startupDone = false) ∧
  (∀ (h : Pkt) (p : LcTransition) (s s1 s2 : State),
    let c : CmdInfo := { op := 0x0D08, len := some 72, blank := true }
    s.started c h = some s1 → h.part = 0 → s1.sec.tamperLatched = false → p.dest = 0 → p.ownerBoot = false → s1.sec.life = .returned →
    (p.op = 2 → s1.sec.drbgFailed = false →
      exec (.lcTransition h p) s = .next (({ s1 with sec := { s1.sec with
        drbgCount := s1.sec.drbgCount + 1, challenge := some (Config.random s1.sec.drbgCount 32, s1.now) } }).answered
          c h stOk 0 (Config.random s1.sec.drbgCount 32))) ∧
    (p.op = 3 → s1.testSigned p = true → s1.pwr.pfwLow = false → s1.sec.challenge.isSome = true → s1.challengeOld = false →
      s2 = s1.at h.done →
      exec (.lcTransition h p) s = .next ((({ s2 with sec := { s2.sec with
        challenge := none, testUnlocked := true
        lifeLog := s2.sec.lifeLog ++ [{ seq := s2.sec.lifeLog.length, fromState := LifeCycle.returned.code, toState := LifeCycle.returned.code, signer := 2
                                        tb1 := s2.tb1Log }] } } : State).evt [0] 0x1FB 4).answered c h stOk 0 (zeros 32))))

/-- Firmware: FW_LOAD waits for the verification of its package and gives up what its bank held; a package that passes makes its bank a verified one, and
the command is answered; a cluster that is DRAINED is loaded and returns DRAINED; FW_SWITCH restarts, commits and moves the controllers (R509 to
R512). -/
def Obligations.FirmwareRowsComplete : Prop :=
  (∀ (h : Pkt) (p : FwLoad) (s s1 : State),
    let c : CmdInfo := { op := 0x0F03, len := some 24, boot := true }
    s.started c h = some s1 → h.part = 0 → s1.sec.bootHold = false → p.recovery = false → 1 ≤ p.imageLen → p.imageLen ≤ 16777216 → p.bank = 0 →
    addrFit h p.imageAddr → s1.fw.running = s1.fw.boot → s1.fw.loadInFlight = none → s1.cfg.loading = none →
    s1.pwr.pfwLow = false →
    exec (.fwLoad h p) s = .next
      ((({ s1 with fw := { s1.fw with loadInFlight := some p } } : State).setBank (1 - s1.fw.running) {}).waitsFor c h .fwLoad)) ∧
  (∀ (t : Nat) (v : FwVerify) (s : State) (p : FwLoad),
    s.fw.loadInFlight = some p → p.recovery = false → v.formatOk = true → s.sec.imageSigned v.nolivik v.owner = true →
    s.fw.minSvn ≤ v.svn → v.writeOk = true → s.alcx.write = none →
    exec (.fwLoadVerified t v) s = .next
      ((((({ s.at t with fw := { s.fw with loadInFlight := none } } : State).setBank (1 - s.fw.running)
        { verified := true, version := v.version, svn := v.svn, raiseSvn := v.raiseSvn, digest := v.digest, nolivik := v.nolivik, owner := v.owner }).evtFree [0] 0x01B).finishAll
          (fun w => w.what == .fwLoad) stOk 0
          (fun _ => le 1 (1 - s.fw.running) ++ zeros 3 ++ le 4 v.version ++ le 4 v.svn ++ zeros 4)))) ∧
  (∀ (h : Pkt) (k : Nat) (s s1 : State),
    let c : CmdInfo := { op := 0x0F04, len := some 4 }
    s.started c h = some s1 → h.part = 0 → k < 16 → (s1.cluster k).state = .drained →
    exec (.fwClusterUpdate h k) s = .next ((s1.clusterTo k .updating 3).waitsFor c h (.clusterUpdate k))) ∧
  (∀ (t k : Nat) (s : State), k < 16 → (s.at t).fabricUp = true → (s.cluster k).state = .updating →
    exec (.fwClusterLoadDone t k true) s = .next
      (((((s.at t).clusterTo k .drained 4).modCluster k (fun c => { c with bank := s.fw.running })).evt
        (((s.at t).clusterTo k .drained 4).modCluster k (fun c => { c with bank := s.fw.running })).everyone 0x01C (k + 256 * s.fw.running)).finishAll
          (fun w => w.what == .clusterUpdate k) stOk 0 (fun _ => le 1 0 ++ le 1 s.fw.running ++ zeros 2))) ∧
  (∀ (h : Pkt) (s s1 : State),
    let c : CmdInfo := { op := 0x0F05, len := some 4 }
    s.started c h = some s1 → h.part = 0 →
    ((s1.bank (1 - s1.fw.running)).verified = true → s1.fw.minSvn ≤ (s1.bank (1 - s1.fw.running)).svn → s1.hst.waiting = [] →
      (∀ k ∈ allClusters, (s1.cluster k).state ≠ .updating) →
      exec (.fwSwitch h 1) s = .next
        (({ s1 with fw := { s1.fw with mgmtRestart := true, mgmtTo := 1 - s1.fw.running } } : State).waitsFor c h (.mgmtRestart s1.fw.running))) ∧
    (s1.fw.alc = s1.fw.running → (∀ k ∈ allClusters, (s1.cluster k).state = .retired ∨ (s1.cluster k).bank = s1.fw.running) → s1.pwr.pfwLow = false →
      ∃ t res, exec (.fwSwitch h 2) s = .next (State.answered t c h stOk 0 res) ∧ t.fw.boot = s1.fw.running ∧
        t.fw.minSvn = if (s1.bank s1.fw.running).raiseSvn then Nat.max s1.fw.minSvn (s1.bank s1.fw.running).svn else s1.fw.minSvn) ∧
    ((s1.alc.state = .stop ∨ s1.alc.state = .noProgram) →
      ∃ res, exec (.fwSwitch h 3) s = .next (s1.alcSwitch.answered c h stOk 0 res)) ∧
    (s1.alc.state = .run →
      exec (.fwSwitch h 3) s = .next
        (({ s1 with fw := { s1.fw with alcSwitchAt := some h.recv } } : State).waitsFor c h (.alcSwitch s1.fw.alc)))) ∧
  (∀ (t : Nat) (s : State), s.fw.mgmtRestart = true → s.fw.mgmtTo = s.fw.running →
    exec (.mgmtRestartDone t) s = .next { s.at t with fw := { s.fw with mgmtRestart := false } } ∧
    exec (.mgmtRestartTimeout t) s = .next { s.at t with fw := { s.fw with mgmtRestart := false } }) ∧
  (∀ (t : Nat) (s s1 s2 : State), s.fw.mgmtRestart = true → s.fw.mgmtTo ≠ s.fw.running →
    s1 = { s.at t with fw := { s.fw with mgmtRestart := false, running := s.fw.mgmtTo } } → s2 = (s1.remeasure s.fw.mgmtTo).evt s1.everyone 0x01D 1 →
    exec (.mgmtRestartDone t) s = .next
      (s2.finishAll (fun w => w.what == .mgmtRestart s.fw.running) stOk 0 (fun _ => s2.fwReply s.fw.running s2.fw.running))) ∧
  (∀ (t : Nat) (s s1 : State), s.fw.mgmtRestart = true → s.fw.mgmtTo ≠ s.fw.running →
    s1 = { s.at t with fw := { s.fw with mgmtRestart := false, mgmtTo := s.fw.running } } →
    exec (.mgmtRestartTimeout t) s = .next
      ((s1.free.2.fault 100 s1.free.1 0xFF).finishAll (fun w => w.what == .mgmtRestart s.fw.running) stFaulted 100 (fun _ => [])))

/-- Bundles: CFG_LOAD waits; a bundle that passes is stored in the copy not latest written; CFG_READ answers with nothing for a bundle that does not exist
and with its lengths otherwise (R501, R513). -/
def Obligations.BundleRowsComplete : Prop :=
  (∀ (h : Pkt) (p : CfgLoad) (s s1 : State),
    let c : CmdInfo := { op := 0x0F06, len := some 24 }
    s.started c h = some s1 → h.part = 0 → 1 ≤ p.len → p.len ≤ 4194304 → addrFit h p.addr →
    s1.fw.loadInFlight = none → s1.cfg.loading = none → s1.pwr.pfwLow = false →
    exec (.cfgLoad h p) s = .next (({ s1 with cfg := { s1.cfg with loading := some p } } : State).waitsFor c h .cfgLoad)) ∧
  (∀ (t : Nat) (v : CfgVerify) (s : State), s.cfg.loading.isSome = true → s.cfg.status v (s.cfgOwner v.bundle) = stOk → s.cfg.targetB = false → s.alcx.write = none →
    exec (.cfgLoadVerified t v) s = .next
      ((({ s.at t with cfg := { s.cfg with copyA := some v.bundle, loading := none, latestIsB := false } } : State).evtFree [0] 0x01E).finishAll
        (fun w => w.what == .cfgLoad) stOk 0 (fun _ => le 4 v.bundle.seq ++ le 1 0 ++ zeros 3))) ∧
  (∀ (t : Nat) (v : CfgVerify) (s : State), s.cfg.loading.isSome = true → s.cfg.status v (s.cfgOwner v.bundle) = stOk → s.cfg.targetB = true → s.alcx.write = none →
    exec (.cfgLoadVerified t v) s = .next
      ((({ s.at t with cfg := { s.cfg with copyB := some v.bundle, loading := none, latestIsB := true } } : State).evtFree [0] 0x01E).finishAll
        (fun w => w.what == .cfgLoad) stOk 0 (fun _ => le 4 v.bundle.seq ++ le 1 1 ++ zeros 3))) ∧
  (∀ (h : Pkt) (p : CfgRead) (s s1 : State),
    let c : CmdInfo := { op := 0x0F07, len := some 24, ro := true }
    s.started c h = some s1 → s1.observes h.part = true → p.which ≤ 1 →
    (p.bufLen = 0 ∨ addrFit h p.bufAddr) →
    (s1.cfg.which p.which = none → exec (.cfgRead h p) s = .next (s1.answered c h stOk 0 (zeros 16))) ∧
    (∀ b, s1.cfg.which p.which = some b → p.bufLen = 0 →
      exec (.cfgRead h p) s = .next (s1.answered c h stOk 0 (le 4 b.len ++ le 4 b.seq ++ zeros 8))) ∧
    (∀ b, s1.cfg.which p.which = some b → p.bufLen ≠ 0 →
      exec (.cfgRead h p) s = .next
        (s1.waitsFor c h (.dmaCopy p.bufAddr ((Config.bundleBytes b).take p.bufLen) (le 4 b.len ++ le 4 b.seq ++ zeros 8)))))

/-- A fall of PFW_N is shown and kept, POWER_WARN is raised, a pair that runs or holds and that no halt has stopped stops and is marked as stopped by it, and
the last completed scan is written where an image is active; its rise ends the mark, raises POWER_RESTORED and leaves the pair in its state (R282, R494, R495). -/
def Obligations.PowerWarningRowsComplete : Prop :=
  (∀ (t : Nat) (s u : State), s.pwr.pfwLow = false → u = { s.at t with pwr := { s.pwr with pfwLow := true, pfwSeen := true } } →
    (s.alc.state = .noProgram ∨ s.flt.haltSource.isSome = true → exec (.pfwNFall t) s = .next (u.evtFree u.everyone 0x016)) ∧
    (s.alc.state = .run ∨ s.alc.state = .hold → s.flt.haltSource = none →
      ∃ e, exec (.pfwNFall t) s = .next e ∧ e.pwr = u.pwr ∧ e.alc.state = .stop ∧ e.alcx.powerFailStop = true ∧
        (s.fabricUp = true → ∀ im, s.alc.active = some im →
          ∃ w, e.alcx.write = some w ∧ w.cause = .powerFail ∧ w.ckpt.programId = im.programId ∧ w.ckpt.image = s.alc.retained))) ∧
  (∀ (t : Nat) (s u : State), s.pwr.pfwLow = true → u = { s.at t with pwr := { s.pwr with pfwLow := false } } →
    (s.alcx.powerFailStop = false →
      exec (.pfwNRise t) s = .next ((u.evtFree u.everyone 0x017).ckptNext.recheckRange)) ∧
    (s.alcx.powerFailStop = true → ∀ v, v = { u.evtFree u.everyone 0x017 with alcx := { s.alcx with powerFailStop := false } } →
      exec (.pfwNRise t) s = .next ((v.evtFree (u.evtFree u.everyone 0x017).logicReaders 0x18F).ckptNext.recheckRange)))

/-- PWR_STABLED is answered with its receipt stamp and the device enters Stabled; the entry ends in Stabled, with what SRAM lost empty and the pins
released, or goes on with a wake that was requested meanwhile. WAKE_N low for 10 µs, PWR_CTRL.WAKE and PWR_WAKE start a wake, which PWR_WAKE waits
for; a wake completes, or resets the device where its retention check failed (R502, R504 to R508). PWR_QUERY answers Table 17-8. -/
def Obligations.StabledRowsComplete : Prop :=
  (∀ (h : Pkt) (force : Bool) (s s1 : State),
    let c : CmdInfo := { op := 0x0F00, len := some 4 }
    s.started c h = some s1 → h.part = 0 → s1.pwr.state = .running → s1.fw.mgmtRestart = false → (∀ k ∈ allClusters, (s1.cluster k).state ≠ .updating) →
    (force = true ∨ (s1.alc.state ≠ .run ∧ s1.alc.state ≠ .hold)) → s1.fw.loadInFlight = none → s1.cfg.loading = none →
    exec (.pwrStabled h force) s = .next ((s1.enterStabled h.recv).answered c h stOk 0 (le 8 h.recv))) ∧
  (∀ (t : Nat) (s : State), s.pwr.state = .entering → s.pwr.wakeKept = false →
    ∃ e, exec (.stabledEntryDone t) s = .next e ∧ e.pwr = { s.pwr with state := .stabled, lastEntry := s.pwr.entryAt } ∧
      e.alc.level = 0 ∧ e.alc.scan = none ∧ e.plt.slots = [] ∧ e.plt.sidings = [] ∧ e.plt.history = [] ∧ e.ing.dup = [] ∧ e.osc.modes = [] ∧
      e.coh.eval = {} ∧ e.tt.readings = []) ∧
  (∀ (t : Nat) (s : State), s.pwr.state = .entering → s.pwr.wakeKept = true → s.sec.tamperLatched = false →
    ∃ e, exec (.stabledEntryDone t) s = .next e ∧ e.pwr.state = .waking ∧ e.pwr.wake = true ∧ e.pwr.lastEntry = s.pwr.entryAt) ∧
  (∀ (t lowNs : Nat) (s : State), 10000 ≤ lowNs →
    (s.pwr.state = .entering → exec (.wakeNFall t lowNs) s = .next { s.at t with pwr := { s.pwr with wakeKept := true } }) ∧
    (s.pwr.state = .stabled → s.sec.tamperLatched = false →
      exec (.wakeNFall t lowNs) s = .next
        { s.at t with pwr := { s.pwr with state := .waking, wake := true, wakeKept := false, wakeStamp := some (s.at t).now } })) ∧
  (∀ (t value : Nat) (s : State), value.testBit 0 = true → s.pwr.state = .stabled → s.sec.tamperLatched = false →
    exec (.pwrCtrlWakeWrite t 0 value) s = .next
      { s.at t with pwr := { s.pwr with state := .waking, wake := true, wakeKept := false, wakeStamp := some (s.at t).now } }) ∧
  (∀ (h : Pkt) (s s1 : State),
    let c : CmdInfo := { op := 0x0F01, len := some 0, stabled := true }
    s.started c h = some s1 → h.part = 0 →
    (s1.pwr.state = .running ∨ s1.pwr.state = .halted ∨ s1.pwr.state = .starting →
      exec (.pwrWake h) s = .next (s1.answered c h stOk 0 (le 8 s1.pwr.lastWake ++ le 4 0 ++ zeros 4))) ∧
    (s1.pwr.state = .stabled → s1.sec.tamperLatched = false →
      exec (.pwrWake h) s = .next (({ s1 with pwr := { s1.pwr with state := .waking, wake := true, wakeKept := false, wakeStamp := some s1.now } } : State).waitsFor
        c h .wake))) ∧
  (∀ (t clusters : Nat) (found : WakeFound) (s : State), s.pwr.state = .waking →
    exec (.wakeDone t true found clusters) s = .next ((s.at t).wakeEnd found clusters) ∧
    exec (.wakeDone t false found clusters) s = .next (((s.at t).free.2.fault 103 (s.at t).free.1 0xFF).deviceReset 5)) ∧
  (∀ (h : Pkt) (s s1 : State),
    let c : CmdInfo := { op := 0x0F02, len := some 0, ro := true, stabled := true }
    s.started c h = some s1 →
    exec (.pwrQuery h) s = .next (s1.answered c h stOk 0
      (le 1 s1.pwr.state.code ++ le 1 s1.pwr.cause ++ le 1 (s1.fw.running + 2 * s1.fw.boot + 4 * s1.fw.alc)
        ++ le 1 (b2n s1.pwr.pfwLow + 2 * b2n s1.commitPending) ++ le 4 s1.fw.minSvn ++ le 2 s1.pwr.startupMs ++ le 2 s1.pwr.wakeUs ++ zeros 4
        ++ le 8 s1.pwr.lastEntry ++ le 8 s1.pwr.lastWake ++ zeros 8)))

/-- Errors and timers of the host channels. A malformed packet that was posted to a queue that runs, with room for a reply, is answered BAD_LENGTH with the length
its opcode has and stops the queue with CMDQ_ERR and HOST_ERROR type 1; an opcode that Table 14-7 does not have is answered BAD_OPCODE; an interim reply is
written once, of a waiting command or else of a received one that is held; a latch whose hold-off ends becomes idle, or writes its pending record and starts
again; a link reset stops every enabled command queue, every event ring and every other host ring; a DMA error disables the queue, ring or buffer concerned,
sets DMA_ERR, raises HOST_ERROR type 2 and reports FS_76; a copy that ends answers its command after its data. Where a row finds nothing it is for, only time
passes (R403, R404, R414, R416, R418, R426). -/
def Obligations.ChannelErrorRowsComplete : Prop :=
  (∀ (h : Pkt) (op : Nat) (s u : State) (due : Bool),
    due = (h.chan == .queue && h.part < 8 && (s.part h.part).queueRuns && 32 ≤ ((s.part h.part).q.sqTail - (s.part h.part).q.sqHead).toNat
      && (s.part h.part).q.malformed h.paramLen && (s.at h.recv).replyRoom h) →
    u = (s.at h.recv).putReply h op stBadLength (opcodeLength op) (s.at h.recv).now [] →
    (due = true → exec (.malformedPacket h op) s = .next
      ((u.modPart h.part (fun p => { p with q := { p.q with cmdqErr := true, stopped := true } })).evt [h.part] 0x002 1)) ∧
    (due = false → exec (.malformedPacket h op) s = .next (s.at h.recv))) ∧
  (∀ (h : Pkt) (op : Nat) (s s1 : State),
    let c : CmdInfo := { op := op, len := none, ro := true }
    s.started c h = some s1 → opcodeKnown op = false →
    exec (.unknownOpcode h op) s = .next (s1.answered c h stBadOpcode 2 [])) ∧
  (∀ (t part tag : Nat) (s : State),
    (∀ w, s.pendingDue part tag = some w →
      exec (.pendingReply t part tag) s = .next
        (({ s.at t with hst := { s.hst with waiting := s.hst.waiting.map (fun x => if x == w then { x with pendingSent := true } else x) } } : State).putReply
          w.pkt w.opcode stPending 0 w.pkt.recv [])) ∧
    (∀ x, s.pendingDue part tag = none → (s.at t).pendingHeldDue part tag = some x →
      exec (.pendingReply t part tag) s = .next
        (({ s.at t with held := s.held.map (fun y => if y == x then { y with pendingSent := true } else y) } : State).putReply
          x.pkt x.opcode stPending 0 x.pkt.recv [])) ∧
    (s.pendingDue part tag = none → (s.at t).pendingHeldDue part tag = none → exec (.pendingReply t part tag) s = .next (s.at t))) ∧
  (∀ (t n src : Nat) (s : State),
    (∀ l, n < 8 → tget src (s.part n).ev.latches = some l → l.holdEnd ≤ (s.at t).now → l.pending = none →
      exec (.eventHoldoffEnd t n src) s = .next
        ((s.at t).setPart n { s.part n with ev := { (s.part n).ev with latches := tdel src (s.part n).ev.latches } })) ∧
    (∀ l r, n < 8 → tget src (s.part n).ev.latches = some l → l.holdEnd ≤ (s.at t).now → l.pending = some r →
      exec (.eventHoldoffEnd t n src) s = .next
        (((s.at t).setPart n { s.part n with ev := { (s.part n).ev with
          latches := tset src { holdEnd := (s.at t).now + 1000 * (s.part n).ev.holdoffUs, pending := none } (s.part n).ev.latches } }).writeOrHold n r)) ∧
    (8 ≤ n ∨ tget src (s.part n).ev.latches = none ∨ (∃ l, tget src (s.part n).ev.latches = some l ∧ (s.at t).now < l.holdEnd) →
      exec (.eventHoldoffEnd t n src) s = .next (s.at t))) ∧
  (∀ (t : Nat) (s : State),
    exec (.pcieLinkReset t) s = .next { s.at t with
      hst := { s.hst with parts := tmap (fun _ (p : Part) => { p with q := { p.q with linkStop := p.q.enable }, ev := { p.ev with stopped := true } }) s.hst.parts }
      plt := { s.plt with rings := tmap (fun _ (r : DepRing) => { r with stopped := true }) s.plt.rings }
      sch := { s.sch with traces := tmap (fun _ (r : TraceRing) => { r with stopped := true }) s.sch.traces }
      prt := { s.prt with ports := tmap (fun _ (x : PortSt) => { x with
        rxRings := tmap (fun _ (r : HostRing) => { r with stopped := true }) x.rxRings
        txRings := tmap (fun _ (r : HostRing) => { r with stopped := true }) x.txRings }) s.prt.ports }
      rcd := { s.rcd with recs := tmap (fun _ (r : Rec) => { r with ring := r.ring.map (fun (x : StreamRing) => { x with stopped := true }) }) s.rcd.recs } }) ∧
  (∀ (t n : Nat) (x : DmaTarget) (s u v : State),
    (x = .cmdQueue → u = (s.at t).modPart n (fun p => { p with q := { p.q with enable := false, linkStop := true } })) →
    (x = .eventRing → u = (s.at t).modPart n (fun p => { p with ev := { p.ev with stopped := true } })) →
    (∀ i, x = .departureRing i → u = { s.at t with plt := { s.plt with
      rings := tmap (fun k (r : DepRing) => if k == ringKey n i then { r with stopped := true } else r) s.plt.rings } }) →
    (x = .traceRing → u = { s.at t with sch := { s.sch with
      traces := tmap (fun k (r : TraceRing) => if k == n then { r with stopped := true } else r) s.sch.traces } }) →
    (∀ p, x = .portRx p → u = (s.at t).modPort p (fun y => { y with
      rxRings := tmap (fun k (r : HostRing) => if k == n then { r with stopped := true } else r) y.rxRings })) →
    (∀ p, x = .portTx p → u = (s.at t).modPort p (fun y => { y with
      txRings := tmap (fun k (r : HostRing) => if k == n then { r with stopped := true } else r) y.txRings })) →
    (∀ i, x = .recStream i → u = { s.at t with rcd := { s.rcd with recs := tmap (fun k (r : Rec) => if k == i && (s.at t).holder kindRecorder i == n
      then { r with ring := r.ring.map (fun (y : StreamRing) => { y with stopped := true }) } else r) s.rcd.recs } }) →
    (∀ tag, x = .buffer tag → u = (s.hst.waiting.filter (fun w => w.buffers n tag)).foldl (fun s w => (s.bufferLost w).finish w stFaulted 76 []) (s.at t)) →
    v = (u.modPart n (fun p => { p with q := { p.q with dmaErr := true } })).evt [n] 0x002 2 →
    (n < 8 → s.created n = true → s.pwr.startupDone = true →
      exec (.dmaCompletionError t n x) s = .next (v.free.2.fault 76 (v.free.1 % 4294967296) n)) ∧
    (8 ≤ n ∨ s.created n = false ∨ s.pwr.startupDone = false → exec (.dmaCompletionError t n x) s = .next (s.at t))) ∧
  (∀ (t n tag : Nat) (s : State),
    (∀ w addr data res, s.hst.waiting.find? (fun w => w.copies n tag) = some w → w.what = .dmaCopy addr data res →
      exec (.dmaCopyDone t n tag) s = .next (((s.at t).copyTo w.pkt addr data).finish w stOk 0 res)) ∧
    (s.hst.waiting.find? (fun w => w.copies n tag) = none → exec (.dmaCopyDone t n tag) s = .next (s.at t)))

/-- A verified in-band message enters its window and waits as a request of its partition; another is dropped. A message to the service port waits in the
same way, and opens or closes a session; a reply is read out, the status byte read, and a session ends after 60 s (R419, R420, R422, R424). -/
def Obligations.MessageRowsComplete : Prop :=
  (∀ (t : Nat) (m : ChannelMsg) (s u : State), (s.at t).inbandReaches m = true → s.sec.bootHold = false → s.sec.tamperHold = false →
    u = (s.at t).sideTake m.port →
    (∀ r, u.inbandFits m = true → (u.part m.partition).ib.replay.accept 64 m.seq = some r →
      ∃ e, exec (.inbandMessage t m) s = .next e ∧ (e.part m.partition).ib.replay = r ∧
        e.hst.inbox = u.hst.inbox ++ [{ part := m.partition, port := m.port, ip := m.srcIp, udpPort := m.srcPort, seq := m.seq, opcode := m.opcode, tag := m.tag }]) ∧
    (u.inbandFits m = false → exec (.inbandMessage t m) s = .next (u.messageDropped m.partition)) ∧
    (u.inbandFits m = true → (u.part m.partition).ib.replay.accept 64 m.seq = none →
      exec (.inbandMessage t m) s = .next (u.messageDropped m.partition))) ∧
  (∀ (t : Nat) (m : ChannelMsg) (s : State), s.pwr.porHeld = false → s.hst.spiInbox = [] → m.frameOk = true → m.keySel ≤ 1 →
    (s.spiChecked = false →
      exec (.spiWriteMessage t m) s = .next { s.at t with hst := { s.hst with
        spiSession := if m.session then some (s.at t).now else none
        spiInbox := [{ part := 0, port := m.port, ip := m.srcIp, udpPort := m.srcPort, seq := m.seq, opcode := m.opcode, tag := m.tag }] } }) ∧
    (∀ r, s.spiChecked = true → s.spiVerified m = true → (s.part 0).ib.replay.accept 64 m.seq = some r →
      exec (.spiWriteMessage t m) s = .next (((s.at t).modPart 0 (fun p => { p with ib := { p.ib with replay := r } })).spiTake m)) ∧
    (s.spiChecked = true → s.spiVerified m = false → exec (.spiWriteMessage t m) s = .next ((s.at t).messageDropped 0))) ∧
  (∀ (t : Nat) (s : State), s.pwr.porHeld = false →
    exec (.spiReadReply t) s = .next { s.at t with hst := { s.hst with spiRead := s.hst.spiReplies.head?, spiReplies := s.hst.spiReplies.drop 1 } } ∧
    exec (.spiReadStatus t) s = .next { s.at t with hst := { s.hst with
      spiStatus := b2n (!s.hst.spiReplies.isEmpty) + 2 * b2n (!s.hst.spiInbox.isEmpty) + 4 * b2n s.spiChecked } }) ∧
  (∀ (t x : Nat) (s : State), s.hst.spiSession = some x → x + 60000000000 ≤ (s.at t).now →
    exec (.spiSessionTimeout t) s = .next { s.at t with hst := { s.hst with spiSession := none } })

/-- The queue registers of a partition that is CREATED, after start-up: a tail or head that fits is taken and one that does not is ignored; EVT_CONS frees
space and held records are written; ENABLE with fitting ring registers starts the queue from counts of 0, else sets CMDQ_ERR; clearing it stops the
queue (R411 to R413, R428). -/
def Obligations.QueueRegisterRowsComplete : Prop :=
  (∀ (t n v : Nat) (s : State), s.barOpen n = true →
    (v % 4294967296 % 32 = 0 → (BitVec.ofNat 32 v - (s.part n).q.sqHead).toNat ≤ (s.part n).q.sqSize.toNat →
      exec (.hstSqTailWrite t n v) s = .next ((s.at t).modPart n (fun p => { p with q := { p.q with sqTail := BitVec.ofNat 32 v } }))) ∧
    (v % 4294967296 % 32 ≠ 0 ∨ (s.part n).q.sqSize.toNat < (BitVec.ofNat 32 v - (s.part n).q.sqHead).toNat →
      exec (.hstSqTailWrite t n v) s = .next (s.at t)) ∧
    (((s.part n).q.rqTail - BitVec.ofNat 32 v).toNat ≤ (s.part n).q.rqSize.toNat →
      exec (.hstRqHeadWrite t n v) s = .next ((s.at t).modPart n (fun p => { p with q := { p.q with rqHead := BitVec.ofNat 32 v } }))) ∧
    ((s.part n).q.rqSize.toNat < ((s.part n).q.rqTail - BitVec.ofNat 32 v).toNat → exec (.hstRqHeadWrite t n v) s = .next (s.at t)) ∧
    (((s.part n).ev.prod - BitVec.ofNat 32 v).toNat ≤ (s.part n).ev.size →
      exec (.hstEvtConsWrite t n v) s = .next (((s.at t).modPart n (fun p => { p with ev := { p.ev with cons := BitVec.ofNat 32 v } })).drainRing n)) ∧
    ((s.part n).ev.size < ((s.part n).ev.prod - BitVec.ofNat 32 v).toNat → exec (.hstEvtConsWrite t n v) s = .next (s.at t))) ∧
  (∀ (t n : Nat) (s : State), s.barOpen n = true → (s.part n).q.enable = false →
    ((s.part n).q.fits = true →
      exec (.hstQueueEnable t n) s = .next ((s.at t).modPart n (fun p => { p with q := { p.q with
        enable := true, stopped := false, linkStop := false, sqTail := 0, sqHead := 0, rqTail := 0, rqHead := 0 } }))) ∧
    ((s.part n).q.fits = false →
      exec (.hstQueueEnable t n) s = .next ((s.at t).modPart n (fun p => { p with q := { p.q with cmdqErr := true } })))) ∧
  (∀ (t n : Nat) (s : State), s.barOpen n = true →
    exec (.hstQueueDisable t n) s = .next ((s.at t).modPart n (fun p => { p with q := { p.q with enable := false } })))

/-- TB_NOW_LO_n reads from its snapshot, which one read uses up, or live with TB_NOW_HI_n latched; the latency monitors are enabled, cleared and their
marks taken away by the owner partition, but for what was measured in the tick of the write; SCH_TRACE_CONS takes a value that leaves the free space within the ring; an aligned write of BAR0 of 32 bits
writes one register and of 64 bits two, an unaligned one does nothing, and the registers with a row of their own are written as by it (R39, R40, R337,
R367, R401, R402). -/
def Obligations.RegisterRowsComplete : Prop :=
  (∀ (t n tb : Nat) (s : State), n < 8 → tb < 4 →
    (∀ v, tget (shadowKey n (0xB000 + 8 * tb)) s.hst.shadow = some v →
      exec (.tbNowLoRead t n tb) s = .next { s.at t with hst := { s.hst with
        barValue := v % 4294967296, shadow := tdel (shadowKey n (0xB000 + 8 * tb)) s.hst.shadow } }) ∧
    (tget (shadowKey n (0xB000 + 8 * tb)) s.hst.shadow = none → s.created n = true → s.pwr.startupDone = true →
      exec (.tbNowLoRead t n tb) s = .next { s.at t with hst := { s.hst with
        barValue := (s.at t).liveReg n (0xB000 + 8 * tb) % 4294967296
        shadow := tset (shadowKey n (0xB000 + 8 * tb + 4)) ((s.at t).liveReg n (0xB000 + 8 * tb + 4)) s.hst.shadow } })) ∧
  (∀ (t v : Nat) (s : State), s.barOpen 0 = true →
    exec (.latmonClearWrite t 0 v) s = .next { s.at t with lat := { s.lat with
      enable := v.testBit 0
      max := if v.testBit 1 then (if s.lat.tick = (s.at t).now then s.lat.tickMax else []) else s.lat.max
      excess := maskOf ((List.range 6).map (fun i => s.lat.excess.testBit i
        && (!v.testBit (8 + i) || (s.lat.tick == (s.at t).now && s.lat.tickOver.testBit i)))) } }) ∧
  (∀ (t n v : Nat) (s : State) (r : TraceRing), s.barOpen n = true → tget n s.sch.traces = some r →
    ((r.prod - BitVec.ofNat 32 v).toNat ≤ r.set.ringSize →
      exec (.schTraceConsWrite t n v) s = .next { s.at t with sch := { s.sch with traces := tset n { r with cons := BitVec.ofNat 32 v } s.sch.traces } }) ∧
    (r.set.ringSize < (r.prod - BitVec.ofNat 32 v).toNat → exec (.schTraceConsWrite t n v) s = .next (s.at t))) ∧
  (∀ (t n off v : Nat) (s : State), s.barOpen n = true →
    (off % 4 = 0 → exec (.registerWrite t n off 32 v) s = .next ((s.at t).writeWord n off (v % 4294967296))) ∧
    (off % 8 = 0 → exec (.registerWrite t n off 64 v) s = .next
      (((s.at t).writeWord n off (v % 4294967296)).writeWord n (off + 4) (v / 4294967296 % 4294967296))) ∧
    (off % 4 ≠ 0 → exec (.registerWrite t n off 32 v) s = .next (s.at t) ∧ exec (.registerWrite t n off 64 v) s = .next (s.at t))) ∧
  (∀ (t n v : Nat) (s : State), v < 4294967296 →
    exec (.registerWrite t n 0x0C01C 32 v) s = exec (.hstSqTailWrite t n v) s ∧
    exec (.registerWrite t n 0x0C040 32 v) s = exec (.hstRqHeadWrite t n v) s ∧
    exec (.registerWrite t n 0x0C074 32 v) s = exec (.hstEvtConsWrite t n v) s ∧
    (v.testBit 0 = true → exec (.registerWrite t n 0x0C060 32 v) s = exec (.hstQueueEnable t n) s) ∧
    (v.testBit 0 = false → exec (.registerWrite t n 0x0C060 32 v) s = exec (.hstQueueDisable t n) s) ∧
    exec (.registerWrite t n 0x0A304 32 v) s = exec (.schTraceConsWrite t n v) s ∧
    exec (.registerWrite t n 0x00200 32 v) s = exec (.latmonClearWrite t n v) s ∧
    exec (.registerWrite t n 0x0403C 32 v) s = exec (.wchCntSnapWrite t n v) s)

/-- A fall of POR_N makes a cold reset, which empties what Table 17-3 does not keep and holds the ERR pair at fault; the release of POR_N starts the clock from 0
and the boot, unless PERST_N is low; PERST_N low resets the device for cause 2, and its release starts the boot, while POR_N is not held; start-up completes
from the bank that boots, or the device enters BOOT_HOLD where neither bank is good. Where a pin does not change what the other holds, or start-up may not
end, nothing more happens (R371, R444, R496, R497, R499). -/
def Obligations.StartupRowsComplete : Prop :=
  (∀ (t : Nat) (s e : State), e = (s.at t).coldReset →
    exec (.porNFall t) s = .next e ∧ e.pwr.state = .starting ∧ e.pwr.porHeld = true ∧ e.pwr.cause = 1 ∧ e.pwr.startupDone = false ∧
      e.flt.errFault = true ∧ e.flt.errP = false ∧ e.flt.errN = false ∧ e.flt.history = [] ∧ e.tt = {} ∧ e.ing = {} ∧ e.wch = {} ∧ e.osc = {} ∧ e.coh = {} ∧
      e.tap = {} ∧ e.held = [] ∧ e.hst.waiting = [] ∧ (∀ n k, tget n e.sec.slots = some k → k.key = none) ∧ e.sec.life = s.sec.life ∧
      e.sec.tamperLatched = s.sec.tamperLatched ∧ e.alcx.slots = s.alcx.slots ∧
      (s.cfg.loading = none → e.cfg.copyA = s.cfg.copyA ∧ e.cfg.copyB = s.cfg.copyB)) ∧
  (∀ (t : Nat) (s u : State), u = { s with now := 0, cap := 0, pwr := { s.pwr with porHeld := false } } →
    (s.pwr.porHeld = true → s.pwr.perstHeld = false → exec (.porNRelease t) s = .next u.startBoot) ∧
    (s.pwr.porHeld = true → s.pwr.perstHeld = true → exec (.porNRelease t) s = .next u.refreshErr) ∧
    (s.pwr.porHeld = false → exec (.porNRelease t) s = .next s)) ∧
  (∀ (t : Nat) (s u : State), u = { s.at t with pwr := { s.pwr with perstHeld := true } } →
    (s.pwr.porHeld = false → s.pwr.perstHeld = false → exec (.perstNAssert t) s = .next (u.deviceReset 2)) ∧
    (s.pwr.porHeld = true ∨ s.pwr.perstHeld = true → exec (.perstNAssert t) s = .next u)) ∧
  (∀ (t : Nat) (s u : State), u = { s.at t with pwr := { s.pwr with perstHeld := false } } →
    (s.pwr.porHeld = false → s.pwr.perstHeld = true → exec (.perstNRelease t) s = .next u.startBoot) ∧
    (s.pwr.porHeld = true ∨ s.pwr.perstHeld = false → exec (.perstNRelease t) s = .next u)) ∧
  (∀ (t : Nat) (r : StartupReport) (s : State),
    (∀ b fallback, s.canStartUp = true → s.bootBank r = some (b, fallback) → exec (.startupDone t r) s = .next ((s.at t).startupEnd r b fallback)) ∧
    (s.canStartUp = true → s.bootBank r = none → exec (.startupDone t r) s = .next (s.at t).enterBootHold ∧
      (s.at t).enterBootHold.sec.bootHold = true ∧ (s.at t).enterBootHold.flt.errFault = true ∧ (s.at t).enterBootHold.pwr = s.pwr ∧
      (s.at t).enterBootHold.fw = s.fw) ∧
    (s.canStartUp = false → exec (.startupDone t r) s = .next (s.at t)))

/-- A cycle of TCK moves the controller of IEEE 1149.1 by TMS, shifts the register of its state by one from TDI and touches nothing but the test port;
TRST_N low resets it; in DEPLOYED and RETIRED every instruction it takes is IDCODE or BYPASS (R518; the controller itself is the model's, PRESUMED
from the standard, log entry 104). -/
def Obligations.TestPortRowCompletes : Prop :=
  (∀ (t : Nat) (tms tdi : Bool) (s : State), exec (.testPortAccess t true tms tdi) s = .next { s.at t with tap := {} }) ∧
  (∀ (t : Nat) (tms tdi : Bool) (s : State),
    ∃ e, exec (.testPortAccess t false tms tdi) s = .next e ∧ e.tap.state = tapNext s.tap.state tms ∧
      e = { s.at t with tap := e.tap, freeCount := e.freeCount } ∧
      (s.tap.state = .shiftDr → e.tap.drShift = s.tap.drShift.drop 1 ++ [tdi]) ∧
      (s.tap.state = .shiftIr → e.tap.irShift = s.tap.irShift.drop 1 ++ [tdi]) ∧
      (e.tap.state = .updateIr → s.sec.life = .deployed ∨ s.sec.life = .retired → e.tap.instr = .idcode ∨ e.tap.instr = .bypass))

/-- The commands of the owner partition alone, of any other partition: each answers NOT_GRANTED with detail 0xF0 and changes nothing else, whatever its
parameters (SCH_DRAIN, SCH_RETIRE, SCH_REJOIN, DEV_RESET, LC_TRANSITION, FW_LOAD, FW_CLUSTER_UPDATE, FW_SWITCH, CFG_LOAD, HST_PART_CREATE,
HST_PART_DELETE, HST_GRANT, HST_SHARE_SET, HST_PRIV_SET, PWR_STABLED, PWR_WAKE, TAMPER_CLEAR, FLT_INJECT, FLT_SET, FLT_SELFTEST, TB_REF_SET,
TB_PORT_DELAY_SET, TT_SET_PROFILE, TT_CHECK_REMOVAL, PLT_GROUP_SET). -/
def Obligations.OwnerCommandsRefuseOthers : Prop :=
  ∀ (h : Pkt) (s s1 : State), h.part ≠ 0 →
  (∀ (p : SchCluster), s.started { op := 0x0A00, len := some 4 } h = some s1 →
    exec (.schDrain h p) s = .next (s1.answered { op := 0x0A00, len := some 4 } h stNotGranted 0xF0 [])) ∧
  (∀ (p : SchCluster), s.started { op := 0x0A02, len := some 4 } h = some s1 →
    exec (.schRetire h p) s = .next (s1.answered { op := 0x0A02, len := some 4 } h stNotGranted 0xF0 [])) ∧
  (∀ (p : SchCluster), s.started { op := 0x0A01, len := some 4 } h = some s1 →
    exec (.schRejoin h p) s = .next (s1.answered { op := 0x0A01, len := some 4 } h stNotGranted 0xF0 [])) ∧
  (∀ (kind : Nat), s.started { op := 0x000B, len := some 4, halt := true, boot := true } h = some s1 →
    exec (.devReset h kind) s = .next (s1.answered { op := 0x000B, len := some 4, halt := true, boot := true } h stNotGranted 0xF0 [])) ∧
  (∀ (p : LcTransition), s.started { op := 0x0D08, len := some 72, blank := true } h = some s1 →
    exec (.lcTransition h p) s = .next (s1.answered { op := 0x0D08, len := some 72, blank := true } h stNotGranted 0xF0 [])) ∧
  (∀ (p : FwLoad), s.started { op := 0x0F03, len := some 24, boot := true } h = some s1 →
    exec (.fwLoad h p) s = .next (s1.answered { op := 0x0F03, len := some 24, boot := true } h stNotGranted 0xF0 [])) ∧
  (∀ (cluster : Nat), s.started { op := 0x0F04, len := some 4 } h = some s1 →
    exec (.fwClusterUpdate h cluster) s = .next (s1.answered { op := 0x0F04, len := some 4 } h stNotGranted 0xF0 [])) ∧
  (∀ (op : Nat), s.started { op := 0x0F05, len := some 4 } h = some s1 →
    exec (.fwSwitch h op) s = .next (s1.answered { op := 0x0F05, len := some 4 } h stNotGranted 0xF0 [])) ∧
  (∀ (p : CfgLoad), s.started { op := 0x0F06, len := some 24 } h = some s1 →
    exec (.cfgLoad h p) s = .next (s1.answered { op := 0x0F06, len := some 24 } h stNotGranted 0xF0 [])) ∧
  (∀ (p : HstPart), s.started { op := 0x0001, len := some 4 } h = some s1 →
    exec (.hstPartCreate h p) s = .next (s1.answered { op := 0x0001, len := some 4 } h stNotGranted 0xF0 [])) ∧
  (∀ (p : HstPart), s.started { op := 0x0002, len := some 4 } h = some s1 →
    exec (.hstPartDelete h p) s = .next (s1.answered { op := 0x0002, len := some 4 } h stNotGranted 0xF0 [])) ∧
  (∀ (p : HstGrant), s.started { op := 0x0004, len := some 16 } h = some s1 →
    exec (.hstGrant h p) s = .next (s1.answered { op := 0x0004, len := some 16 } h stNotGranted 0xF0 [])) ∧
  (∀ (p : HstShareSet), s.started { op := 0x0005, len := some 24 } h = some s1 →
    exec (.hstShareSet h p) s = .next (s1.answered { op := 0x0005, len := some 24 } h stNotGranted 0xF0 [])) ∧
  (∀ (p : HstPrivSet), s.started { op := 0x0006, len := some 4 } h = some s1 →
    exec (.hstPrivSet h p) s = .next (s1.answered { op := 0x0006, len := some 4 } h stNotGranted 0xF0 [])) ∧
  (∀ (force : Bool), s.started { op := 0x0F00, len := some 4 } h = some s1 →
    exec (.pwrStabled h force) s = .next (s1.answered { op := 0x0F00, len := some 4 } h stNotGranted 0xF0 [])) ∧
  (s.started { op := 0x0F01, len := some 0, stabled := true } h = some s1 →
    exec (.pwrWake h) s = .next (s1.answered { op := 0x0F01, len := some 0, stabled := true } h stNotGranted 0xF0 [])) ∧
  (∀ (p : TamperClear), s.started { op := 0x0D09, len := some 72, stabled := true, tamper := true, blank := true } h = some s1 →
    exec (.tamperClear h p) s = .next (s1.answered { op := 0x0D09, len := some 72, stabled := true, tamper := true, blank := true } h stNotGranted 0xF0 [])) ∧
  (∀ (p : FltInject), s.started { op := 0x0E02, len := some 8 } h = some s1 →
    exec (.fltInject h p) s = .next (s1.answered { op := 0x0E02, len := some 8 } h stNotGranted 0xF0 [])) ∧
  (∀ (p : FltSet), s.started { op := 0x0E05, len := some 8 } h = some s1 →
    exec (.fltSet h p) s = .next (s1.answered { op := 0x0E05, len := some 8 } h stNotGranted 0xF0 [])) ∧
  (∀ (parts : Nat), s.started { op := 0x0E04, len := some 4 } h = some s1 →
    exec (.fltSelftest h parts) s = .next (s1.answered { op := 0x0E04, len := some 4 } h stNotGranted 0xF0 [])) ∧
  (∀ (p : TbRefSet), s.started { op := 0x0B00, len := some 20 } h = some s1 →
    exec (.tbRefSet h p) s = .next (s1.answered { op := 0x0B00, len := some 20 } h stNotGranted 0xF0 [])) ∧
  (∀ (p : TbPortDelaySet), s.started { op := 0x0B05, len := some 8 } h = some s1 →
    exec (.tbPortDelaySet h p) s = .next (s1.answered { op := 0x0B05, len := some 8 } h stNotGranted 0xF0 [])) ∧
  (∀ (p : TtSetProfile), s.started { op := 0x0104, len := some 4 } h = some s1 →
    exec (.ttSetProfile h p) s = .next (s1.answered { op := 0x0104, len := some 4 } h stNotGranted 0xF0 [])) ∧
  (∀ (cluster : Nat), s.started { op := 0x0105, len := some 4, ro := true } h = some s1 →
    exec (.ttCheckRemoval h cluster) s = .next (s1.answered { op := 0x0105, len := some 4, ro := true } h stNotGranted 0xF0 [])) ∧
  (∀ (p : PltGroupSet), s.started { op := 0x0300, len := some 24 } h = some s1 →
    exec (.pltGroupSet h p) s = .next (s1.answered { op := 0x0300, len := some 24 } h stNotGranted 0xF0 []))

/-- R46: the cost rate of a contract is the least whole number of lane-µs/s not below the exact sum of Table 02-1 (here in hundredths); the record that a
proposal makes carries it, and a cluster's commitment is the sum of the cost rates of the contracts that hold it. -/
def Obligations.CostOfAContract : Prop :=
  (∀ rate channels outRate outChannels n : Nat,
    (costRate 0 rate channels outRate outChannels ≤ n ↔ (400 + 60 * channels) * rate ≤ 100 * n) ∧
    (costRate 1 rate channels outRate outChannels ≤ n ↔ (400 + 75 * channels) * rate ≤ 100 * n) ∧
    (costRate 2 rate channels outRate outChannels ≤ n ↔ (480 + 60 * channels) * rate ≤ 100 * n) ∧
    (costRate 3 rate channels outRate outChannels ≤ n ↔ 160 * rate + (200 + 60 * outChannels) * outRate ≤ 100 * n)) ∧
  (∀ (s : State) (h : Pkt) (p : TtPropose), (s.proposed h p).cost = costRate p.protocol p.rate p.channels p.outRate p.outChannels) ∧
  (∀ (s : State) (k : Nat), s.commit k = ((s.tt.contracts.filter (fun e => e.2.isHeld && e.2.cluster == k)).map (fun e => e.2.cost)).sum)

/-- R76: TT_PROFILE, TT_STATUS, TT_FUSED_RATED and TT_SPEED_n read the same in every partition that has its BAR0; TT_CL_COMMIT_n, TT_CL_LIMIT_n,
TT_PLT_COMMIT, TT_CH_COMMIT and TT_COUNTS read 0 without OBSERVE_FULL; a write to the window by another partition than the owner does nothing. -/
def Obligations.TimetableRegisters : Prop :=
  (∀ (s : State) (n m o : Nat), (s.part n).state ≠ .absent → (s.part m).state ≠ .absent →
    (o = 0 ∨ o = 4 ∨ o = 8 ∨ ∃ i, i < 32 ∧ o = 0x40 + 4 * i) → s.liveReg n (0x1000 + o) = s.liveReg m (0x1000 + o)) ∧
  (∀ (s : State) (n o : Nat), s.observes n = false → (o = 0x10 ∨ o = 0x18 ∨ o = 0x1C ∨ ∃ i, i < 32 ∧ o = 0x100 + 4 * i) → s.liveReg n (0x1000 + o) = 0) ∧
  (∀ (t n o v w : Nat) (s : State), n ≠ 0 → o < 0x1000 → exec (.registerWrite t n (0x1000 + o) w v) s = .next (s.at t))

/-- R474, R473: the history holds the latest 32 records, of simultaneous ones the one of lower declared severity, or of the higher source, as the later; a
record that comes when it is full displaces the oldest, which LOST counts; a displaced record that is
not acknowledged still counts as unacknowledged, and its source's bit stays set in FLT_UNACK_n. -/
def Obligations.HistoryKeepsTheLatest32 : Prop :=
  (∀ (f : FaultSt) (r : FaultRec), f.history.length ≤ 32 →
    (f.push r).history.length ≤ 32 ∧ (f.push r).lost = f.lost + (if f.history.length = 32 then 1 else 0) ∧
    ((∀ q ∈ f.history, q.stamp ≠ r.stamp) → (f.push r).history.head? = some r ∧
      ((f.push r).history.drop 1).map (fun q => (q.source, q.seq, q.stamp, q.acked)) = (f.history.take 31).map (fun q => (q.source, q.seq, q.stamp, q.acked))) ∧
    (∀ q l, f.history = q :: l → q.stamp = r.stamp →
      (r.declared < q.declared ∨ (r.declared = q.declared ∧ q.source ≤ r.source) → (f.push r).history.head? = some r) ∧
      (q.declared < r.declared ∨ (r.declared = q.declared ∧ r.source < q.source) →
        ∃ q', (f.push r).history.head? = some q' ∧ q'.source = q.source ∧ q'.seq = q.seq + 1))) ∧
  (∀ (s : State) (r q : FaultRec), q ∈ s.unacked →
    ∃ q', q' ∈ ({ s with flt := s.flt.push r } : State).unacked ∧ q'.source = q.source ∧ (q.stamp ≠ r.stamp → q'.seq = q.seq) ∧
      (q.source < 256 → (({ s with flt := s.flt.push r } : State).fltReg (0x060 + 4 * (q.source / 32))).testBit (q.source % 32) = true))

/-- R490: the FLT_ registers read the same in every partition that has its BAR0, and every write to them does nothing. -/
def Obligations.SignalBoxRegisters : Prop :=
  (∀ (s : State) (n o : Nat), (s.part n).state ≠ .absent → s.pwr.startupDone = true → o < 0x1000 → s.liveReg n (0x11000 + o) = s.fltReg o) ∧
  (∀ (t n o v w : Nat) (s : State), o < 0x1000 → exec (.registerWrite t n (0x11000 + o) w v) s = .next (s.at t))

/-- R514: the PWR_ registers read the same in every partition that has its BAR0, in every power state; a write by another partition does nothing; of
partition 0, a write of PWR_CTRL.WAKE in Stabled acts, the write-1-to-clear fields of PWR_STATUS act, and nothing else does. -/
def Obligations.PowerRegisters : Prop :=
  (∀ (s : State) (n o : Nat), (s.part n).state ≠ .absent → s.pwr.startupDone = true → o < 0x1000 → s.liveReg n (0x12000 + o) = s.pwrReg o) ∧
  (∀ (t n o v w : Nat) (s : State), n ≠ 0 → o < 0x1000 → exec (.registerWrite t n (0x12000 + o) w v) s = .next (s.at t)) ∧
  (∀ (t o v : Nat) (s : State), s.barOpen 0 = true → o < 0x1000 → o % 4 = 0 → v < 4294967296 →
    (o ≠ 0 → o ≠ 8 → exec (.registerWrite t 0 (0x12000 + o) 32 v) s = .next (s.at t)) ∧
    (o = 0 → exec (.registerWrite t 0 (0x12000 + o) 32 v) s = .next { s.at t with pwr := { s.pwr with
      pfwSeen := s.pwr.pfwSeen && !v.testBit 4, wakeRefused := s.pwr.wakeRefused && !v.testBit 5 } }) ∧
    (o = 8 → s.pwr.state ≠ .stabled ∨ v.testBit 0 = false → exec (.registerWrite t 0 (0x12000 + o) 32 v) s = .next (s.at t)) ∧
    (o = 8 → s.pwr.state = .stabled → v.testBit 0 = true → exec (.registerWrite t 0 (0x12000 + o) 32 v) s = .next (s.at t).wakeStart))

/-- R512: FW_SWITCH OP 2 is refused with WRONG_STATE unless every cluster that is not RETIRED, and both controllers, run the running bank; a commit raises
FW_SWITCHED with bit 8 of its detail set. -/
def Obligations.CommitNeedsEveryBlockSwitched : Prop :=
  ∀ (h : Pkt) (s s1 : State), s.started { op := 0x0F05, len := some 4 } h = some s1 → h.part = 0 →
    (s1.fw.alc ≠ s1.fw.running ∨ (∃ k, k < 16 ∧ (s1.cluster k).state ≠ .retired ∧ (s1.cluster k).bank ≠ s1.fw.running) →
      exec (.fwSwitch h 2) s = .next (s1.answered { op := 0x0F05, len := some 4 } h stWrongState 0 [])) ∧
    (s1.fw.alc = s1.fw.running → (∀ k, k < 16 → (s1.cluster k).state = .retired ∨ (s1.cluster k).bank = s1.fw.running) → s1.pwr.pfwLow = false →
      ∃ (u : State) (detail : Nat) (res : List Byte), u.fw.boot = s1.fw.running ∧ detail.testBit 8 = true ∧ u = { s1 with fw := u.fw } ∧
        exec (.fwSwitch h 2) s = .next ((u.evt u.everyone 0x01D detail).answered { op := 0x0F05, len := some 4 } h stOk 0 res))

/-- A write of 1 to bit 0 of a snapshot register of a partition that has its BAR0 captures the registers that the snapshot covers, all at one instant, in
the partition's shadow, and nothing else; a write without bit 0, or of ING_CNT_SNAP by another partition than the owner, does nothing (R532 and every
chapter's snapshot rule). R532: a snapshot captures its registers at one instant, into a shadow of the partition that wrote it and of no other, in
place of what was unread there; the shadow serves one read and no more, a pair read as 64 bits counting as one read of each; without one a read is
live; and a register that reads as 0 in the partition reads as 0 from its shadow. -/
def Obligations.SnapshotsServeOneRead : Prop :=
  (∀ (t n v : Nat) (s : State), s.barOpen n = true →
    (∀ f offs, (f, offs) ∈ [(Instr.pltCntSnapWrite t n v, regOffsets 0x3040 8), (.wchCntSnapWrite t n v, regOffsets 0x4040 12),
        (.nrgSnapWrite t n v, regOffsets 0x5100 32), (.oscCntSnapWrite t n v, regOffsets 0x6040 6), (.cohCntSnapWrite t n v, regOffsets 0x7040 6),
        (.alcCntSnapWrite t n v, regOffsets 0x8040 8), (.recCntSnapWrite t n v, regOffsets 0x9040 7), (.schCntSnapWrite t n v, regOffsets 0xA040 6),
        (.tbCntSnapWrite t n v, regOffsets 0xB040 8), (.tbNowSnapWrite t n v, regOffsets 0xB000 8), (.keyCntSnapWrite t n v, regOffsets 0x10040 10)] →
      (v.testBit 0 = true → ∃ e, exec f s = .next e ∧ (∀ o ∈ offs, tget (shadowKey n o) e.hst.shadow = some ((s.at t).liveReg n o)) ∧
        e = { s.at t with hst := { s.hst with shadow := e.hst.shadow } }) ∧
      (v.testBit 0 = false → exec f s = .next (s.at t))) ∧
    (v.testBit 0 = true → n = 0 →
      ∃ e, exec (.ingCntSnapWrite t 0 v) s = .next e ∧ (∀ o ∈ regOffsets 0x2040 13, tget (shadowKey 0 o) e.hst.shadow = some ((s.at t).liveReg 0 o)) ∧
        e = { s.at t with hst := { s.hst with shadow := e.hst.shadow } }) ∧
    (∀ p, v.testBit 0 = true → p < 24 →
      ∃ e, exec (.prtCntSnapWrite t n p v) s = .next e ∧
        (∀ o ∈ regOffsets (0x18100 + 1024 * p) 55, tget (shadowKey n o) e.hst.shadow = some ((s.at t).liveReg n o)) ∧
        e = { s.at t with hst := { s.hst with shadow := e.hst.shadow } }) ∧
    (n ≠ 0 → exec (.ingCntSnapWrite t n v) s = .next (s.at t))) ∧
  ((∀ (s : State) (n : Nat) (offs : List Nat),
    (∀ o ∈ offs, tget (shadowKey n o) (s.snap n offs).hst.shadow = some (s.liveReg n o)) ∧
    (∀ m o, n < 8 → m < 8 → o < 1048576 → (∀ x ∈ offs, x < 1048576) → (m ≠ n ∨ o ∉ offs) →
      tget (shadowKey m o) (s.snap n offs).hst.shadow = tget (shadowKey m o) s.hst.shadow)) ∧
  (∀ (s : State) (n off v : Nat), tget (shadowKey n off) s.hst.shadow = some v →
    (s.readWord n off).1 = (if s.shadowSeen n off then v else 0) ∧
    (s.readWord n off).2 = { s with hst := { s.hst with shadow := tdel (shadowKey n off) s.hst.shadow } }) ∧
  (∀ (s : State) (n off : Nat), tget (shadowKey n off) s.hst.shadow = none → (s.readWord n off).1 = s.liveReg n off) ∧
  (∀ (s : State) (n off : Nat), off % 8 = 0 →
    (s.barRead n off 64).1 = (s.readWord n off).1 + 4294967296 * ((s.readWord n off).2.readWord n (off + 4)).1 ∧
    (s.barRead n off 64).2 = ((s.readWord n off).2.readWord n (off + 4)).2) ∧
  (∀ (t : Table Nat) (n off : Nat), (t.map (·.1)).Pairwise (· < ·) →
    tget (shadowKey n off) (tdel (shadowKey n off) t) = none ∧ ((tdel (shadowKey n off) t).map (·.1)).Pairwise (· < ·)))

/-- Each chapter's snapshot register, row by row (R532 and the chapter's own snapshot rule): from a partition that has its BAR0, a write with bit 0 set
completes with the registers of the snapshot captured at the row's stamp in the shadow of that partition and nothing else changed, and a write without
bit 0 completes with nothing changed. ING_CNT_SNAP captures for the owner only (R110); PRT_CNT_SNAP captures the registers of the port named. A write by a
partition whose BAR0 is shut completes with nothing changed. -/
def Obligations.SnapshotRowsComplete : Prop :=
  ∀ (t n v : Nat) (s : State),
    (s.barOpen n = true → v.testBit 0 = true →
      exec (.pltCntSnapWrite t n v) s = .next ((s.at t).snap n (regOffsets 0x3040 8)) ∧
      exec (.wchCntSnapWrite t n v) s = .next ((s.at t).snap n (regOffsets 0x4040 12)) ∧
      exec (.nrgSnapWrite t n v) s = .next ((s.at t).snap n (regOffsets 0x5100 32)) ∧
      exec (.oscCntSnapWrite t n v) s = .next ((s.at t).snap n (regOffsets 0x6040 6)) ∧
      exec (.cohCntSnapWrite t n v) s = .next ((s.at t).snap n (regOffsets 0x7040 6)) ∧
      exec (.alcCntSnapWrite t n v) s = .next ((s.at t).snap n (regOffsets 0x8040 8)) ∧
      exec (.recCntSnapWrite t n v) s = .next ((s.at t).snap n (regOffsets 0x9040 7)) ∧
      exec (.schCntSnapWrite t n v) s = .next ((s.at t).snap n (regOffsets 0xA040 6)) ∧
      exec (.tbCntSnapWrite t n v) s = .next ((s.at t).snap n (regOffsets 0xB040 8)) ∧
      exec (.keyCntSnapWrite t n v) s = .next ((s.at t).snap n (regOffsets 0x10040 10)) ∧
      exec (.tbNowSnapWrite t n v) s = .next ((s.at t).snap n (regOffsets 0xB000 8)) ∧
      exec (.ingCntSnapWrite t n v) s = .next (if n = 0 then (s.at t).snap 0 (regOffsets 0x2040 13) else s.at t) ∧
      ∀ p, p < 24 → exec (.prtCntSnapWrite t n p v) s = .next ((s.at t).snap n (regOffsets (0x18100 + 1024 * p) 55))) ∧
    (s.barOpen n = false ∨ v.testBit 0 = false →
      exec (.pltCntSnapWrite t n v) s = .next (s.at t) ∧
      exec (.wchCntSnapWrite t n v) s = .next (s.at t) ∧
      exec (.nrgSnapWrite t n v) s = .next (s.at t) ∧
      exec (.oscCntSnapWrite t n v) s = .next (s.at t) ∧
      exec (.cohCntSnapWrite t n v) s = .next (s.at t) ∧
      exec (.alcCntSnapWrite t n v) s = .next (s.at t) ∧
      exec (.recCntSnapWrite t n v) s = .next (s.at t) ∧
      exec (.schCntSnapWrite t n v) s = .next (s.at t) ∧
      exec (.tbCntSnapWrite t n v) s = .next (s.at t) ∧
      exec (.keyCntSnapWrite t n v) s = .next (s.at t) ∧
      exec (.tbNowSnapWrite t n v) s = .next (s.at t) ∧
      exec (.ingCntSnapWrite t n v) s = .next (s.at t) ∧ ∀ p, exec (.prtCntSnapWrite t n p v) s = .next (s.at t))

/-- R418: the opcodes of Table 14-7 exist and no other; every other opcode is answered BAD_OPCODE; outside the Placement profile the commands of 0x7Fxx
are answered WRONG_STATE. -/
def Obligations.OpcodesOfTheTable : Prop :=
  (∀ op : Nat, opcodeKnown op = true ↔
    ∃ e ∈ [(0x00, 15), (0x01, 7), (0x02, 7), (0x03, 7), (0x04, 5), (0x05, 5), (0x06, 5), (0x07, 4), (0x08, 9), (0x09, 8), (0x0A, 5), (0x0B, 7), (0x0C, 8), (0x0D, 11),
      (0x0E, 6), (0x0F, 8), (0x7F, 5)], e.1 * 256 ≤ op ∧ op < e.1 * 256 + e.2) ∧
  (∀ (h : Pkt) (op : Nat) (s s1 : State), opcodeKnown op = false → s.started { op := op, len := none, ro := true } h = some s1 →
    exec (.unknownOpcode h op) s = .next (s1.answered { op := op, len := none, ro := true } h stBadOpcode 2 [])) ∧
  (∀ (h : Pkt) (p : Q31StreamAdd) (n : Nat) (s s1 : State), s1.tt.profile ≠ .placement →
    (s.started { op := 0x7F00, len := some 16 } h = some s1 →
      exec (.q31StreamAdd h p) s = .next (s1.answered { op := 0x7F00, len := some 16 } h stWrongState 0 [])) ∧
    (s.started { op := 0x7F01, len := some 4 } h = some s1 →
      exec (.q31StreamRemove h n) s = .next (s1.answered { op := 0x7F01, len := some 4 } h stWrongState 0 [])) ∧
    (s.started { op := 0x7F02, len := some 4, ro := true } h = some s1 →
      exec (.q31StreamQuery h n) s = .next (s1.answered { op := 0x7F02, len := some 4, ro := true } h stWrongState 0 [])) ∧
    (s.started { op := 0x7F03, len := some 0, ro := true } h = some s1 →
      exec (.q31LoadRead h) s = .next (s1.answered { op := 0x7F03, len := some 0, ro := true } h stWrongState 0 [])) ∧
    (s.started { op := 0x7F04, len := some 0 } h = some s1 →
      exec (.q31Rebalance h) s = .next (s1.answered { op := 0x7F04, len := some 0 } h stWrongState 0 [])))

/-- The life cycle moves only as Table 15-9a gives, whatever the step; the life-cycle log stays, or one entry is added at its end, which names the state
before and the state after; and only LC_TRANSITION of the owner partition with OP 1 and a signature over that very transition, outside a tamper, moves the
life cycle, which always adds an entry (R461, R462). -/
def Obligations.LifeCycleMovesForward : Prop :=
  (∀ s t : State, step s = .next t → LifeMove s.sec.life t.sec.life ∧
    (t.sec.lifeLog = s.sec.lifeLog ∨ ∃ e, t.sec.lifeLog = s.sec.lifeLog ++ [e] ∧ e.fromState = s.sec.life.code ∧ e.toState = t.sec.life.code)) ∧
  (∀ (c : Instr) (s t : State), exec c s = .next t → t.sec.life ≠ s.sec.life →
    t.sec.lifeLog ≠ s.sec.lifeLog ∧ ∃ h p, c = .lcTransition h p ∧ h.part = 0 ∧ p.op = 1 ∧ s.sec.tamperLatched = false ∧
      ∃ x, p.sig = some x ∧ x.data = .transition true s.sec.life.code p.dest p.lcSeq)

/-- MIN_SVN never falls, and it and the boot bank change only by FW_SWITCH with OP 2 of the owner partition, when every block has switched (R443, R509,
R512). -/
def Obligations.MinSvnNeverFalls : Prop :=
  (∀ s t : State, step s = .next t → s.fw.minSvn ≤ t.fw.minSvn) ∧
  (∀ (c : Instr) (s t : State), exec c s = .next t → t.fw.minSvn ≠ s.fw.minSvn ∨ t.fw.boot ≠ s.fw.boot →
    ∃ h, c = .fwSwitch h 2 ∧ h.part = 0 ∧ t.fw.boot = s.fw.running ∧ s.fw.alc = s.fw.running)

/-- Whatever row runs, on whatever state, each of the pieces that the row is not among the few to change is as it was: the grants of resources,
TIME_OWNER, the reference, the port delays, the staging buffers, the test challenge, ERR_MIN, the life cycle, the security version, the test port. -/
def Obligations.OnlyTheirRowsChangeThem : Prop :=
  ∀ (c : Instr) (s t : State), exec c s = .next t → ∀ x : Piece, x ∉ mayChange c → x.same t s

/-- Every step keeps every staging buffer in canonical form: addresses strictly rising, and no byte listed that reads 0 (the form is the model's, log
entry 30). -/
def Obligations.StagingStaysCanonical : Prop :=
  ∀ s t : State, s.stagingWf → step s = .next t → t.stagingWf

/-- The staging buffers are in canonical form after reset. -/
def Obligations.ResetStagingIsCanonical : Prop :=
 State.reset.stagingWf

/-- The cold values that the manual gives: partition 0 alone exists and holds every resource, with queues and rings disabled, HOLDOFF_US 1,000 and
UDP_PORT 49,470; the profile is Fixed with no contract; FORGET_MS 400; the pair in NO_PROGRAM with the pins low; every base DISABLED; the links down;
no fault recorded, ERR_MIN 3, the ERR pair at fault; the latency monitors enabled and 0; start-up not done. -/
def Obligations.ResetValues : Prop :=
  (∀ n, State.reset.created n = true ↔ n = 0) ∧
  (∀ kind idx, State.reset.holder kind idx = 0) ∧
  (State.reset.part 0).q = {} ∧ (State.reset.part 0).q.enable = false ∧ (State.reset.part 0).ev.size = 0 ∧ (State.reset.part 0).ev.holdoffUs = 1000 ∧
  State.reset.hst.udpPort = 49470 ∧ State.reset.tt.profile = .fixed ∧ State.reset.tt.contracts = [] ∧ State.reset.ing.forgetMs = 400 ∧
  State.reset.ing.subs = [] ∧ State.reset.alc.state = .noProgram ∧ State.reset.alc.level = 0 ∧ State.reset.tb.bases = [] ∧
  (∀ p, (State.reset.port p).link = false ∧ (State.reset.port p).mode = none) ∧
  State.reset.flt.history = [] ∧ State.reset.flt.active = [] ∧ State.reset.flt.errMin = 3 ∧ State.reset.flt.errFault = true ∧ State.reset.flt.errP = false ∧
  State.reset.flt.errN = false ∧ State.reset.lat.enable = true ∧ State.reset.lat.max = [] ∧ State.reset.pwr.state = .starting ∧
  State.reset.pwr.startupDone = false ∧ State.reset.pending = [] ∧ State.reset.held = []
end

