-- ==== Sys2Proof/Laws/Commands.lean ====
section
/-!
SUPPORT. What running a command packet does, once for every command: it answers, it waits, it is turned away, or it is not there to be taken.
-/
namespace Sys2Proof.Machine

theorem started_cases {s s1 : State} {c : CmdInfo} {h : Pkt} (hs : s.started c h = some s1) :
    s1.turnedAway c h = none ∧
    ((s.resuming = true ∧ s1 = { s.at h.recv with resuming := false }) ∨
     (s.resuming = false ∧ ∃ s2, (s.at h.recv).arrive h c.op = some s2 ∧ s2.startsNow h c.op = true ∧ s1 = s2.fresh)) := by
  unfold State.started at hs
  rw [Option.filter_eq_some_iff] at hs
  obtain ⟨hr, ht⟩ := hs
  refine ⟨by simpa using ht, ?_⟩
  split at hr
  · rename_i hres
    exact .inl ⟨hres, (Option.some.inj hr).symm⟩
  · rename_i hres
    refine .inr ⟨by simpa using hres, ?_⟩
    split at hr
    · rename_i s2 ha
      split at hr
      · rename_i hc
        exact ⟨s2, ha, hc, (Option.some.inj hr).symm⟩
      · cases hr
    · cases hr

/-- A command that starts runs its body and nothing else decides. -/
theorem runCmd_started {s s1 : State} {i : Instr} {c : CmdInfo} {h : Pkt} {body : State → CmdOut} (hs : s.started c h = some s1) :
    s.runCmd i c h body = s1.runStarted c h body := by
  obtain ⟨_, ⟨hres, rfl⟩ | ⟨hres, s2, ha, hc, rfl⟩⟩ := started_cases hs
  · simp [State.runCmd, hres]
  · simp [State.runCmd, hres, ha, hc]

/-- A started command whose body answers. -/
theorem cmd_answers {s s1 e : State} {i : Instr} {c : CmdInfo} {h : Pkt} {body : State → CmdOut} {st d : Nat} {res : List Byte}
    (hs : s.started c h = some s1) (hb : body s1 = .reply e st d res) : cmd i c h s body = .next (e.answered c h st d res) := by
  obtain ⟨ht, _⟩ := started_cases hs
  simp only [cmd, runCmd_started hs, State.runStarted, ht, hb, State.answered]

/-- A started command whose body waits. -/
theorem cmd_waits {s s1 e : State} {i : Instr} {c : CmdInfo} {h : Pkt} {body : State → CmdOut} {what : WaitFor}
    (hs : s.started c h = some s1) (hb : body s1 = .wait e what) : cmd i c h s body = .next (e.waitsFor c h what) := by
  obtain ⟨ht, _⟩ := started_cases hs
  simp only [cmd, runCmd_started hs, State.runStarted, ht, hb, State.waitsFor]

/-- A started command whose body answers nothing. -/
theorem cmd_silent {s s1 e : State} {i : Instr} {c : CmdInfo} {h : Pkt} {body : State → CmdOut}
    (hs : s.started c h = some s1) (hb : body s1 = .silent e) : cmd i c h s body = .next e := by
  obtain ⟨ht, _⟩ := started_cases hs
  simp only [cmd, runCmd_started hs, State.runStarted, ht, hb]

/-- An event whose condition holds. -/
theorem event_next {s e : State} {t : Stamp} {f : State → State} (hf : f (s.at t) = e) : event t s f = .next e := by rw [event, hf]

/-- A stamp that is held has come due. The span is a variable, so that no proof computes with its numeral. -/
theorem any_due {o : Option Nat} {r n d : Nat} (h3 : o = some r) (h4 : r + d ≤ n) : o.any (fun r => decide (r + d ≤ n)) = true := by
  subst h3; simpa using h4

theorem any_within {o : Option Nat} {r n d : Nat} (h3 : o = some r) (h4 : n < r + d) : o.any (fun r => decide (n < r + d)) = true := by
  subst h3; simpa using h4

theorem all_due {o : Option Nat} {n d : Nat} (h : ∀ r, o = some r → r + d ≤ n) : o.all (fun r => decide (r + d ≤ n)) = true := by
  cases o with
  | none => rfl
  | some r => simpa using h r rfl

/-- A list of checks that all pass. -/
theorem check_none {s : State} {cs : List (Option (Nat × Nat))} {k : Unit → CmdOut} (hc : firstBad cs = none) : check s cs k = k () := by
  simp [check, hc]

@[simp] theorem firstBad_nil : firstBad [] = none := rfl
@[simp] theorem firstBad_some {x : Nat × Nat} {r : List (Option (Nat × Nat))} : firstBad (some x :: r) = some x := rfl
@[simp] theorem firstBad_none {r : List (Option (Nat × Nat))} : firstBad (none :: r) = firstBad r := rfl

/-- Checks pass together exactly when each passes. -/
theorem firstBad_cons_none {x : Option (Nat × Nat)} {r : List (Option (Nat × Nat))} : firstBad (x :: r) = none ↔ x = none ∧ firstBad r = none := by
  cases x <;> simp

theorem firstBad_append {a b : List (Option (Nat × Nat))} (ha : firstBad a = none) : firstBad (a ++ b) = firstBad b := by
  induction a with
  | nil => rfl
  | cons x r ih =>
    obtain ⟨rfl, hr⟩ := firstBad_cons_none.mp ha
    simpa using ih hr

@[simp] theorem badIf_none {c : Bool} {off : Nat} : badIf c off = none ↔ c = false := by cases c <;> simp [badIf]
@[simp] theorem zeroIf_none {c : Bool} {off : Nat} : zeroIf c off = none ↔ c = false := by cases c <;> simp [zeroIf]
@[simp] theorem failIf_none {c : Bool} {st d : Nat} : failIf c st d = none ↔ c = false := by cases c <;> simp [failIf]
@[simp] theorem ownerOnly_none {h : Pkt} : ownerOnly h = none ↔ h.part = 0 := by simp [ownerOnly]
@[simp] theorem needs_none {s : State} {h : Pkt} {kind idx : Nat} : s.needs h kind idx = none ↔ s.holds h.part kind idx = true := by
  simp [State.needs]
@[simp] theorem needsRead_none {s : State} {h : Pkt} {kind idx : Nat} : s.needsRead h kind idx = none ↔ s.reads h.part kind idx = true := by
  simp [State.needsRead]
@[simp] theorem norIdle_none {s : State} : norIdle s = none ↔ s.pwr.pfwLow = false := by simp [norIdle]

end Sys2Proof.Machine
end

