-- ==== Sys2Proof/Laws/Keeps.lean ====
section
/-!
SUPPORT. What nearly every operation leaves as it was, said once for each operation (the files under Laws/Keeps), so that no proof about a row unfolds the
operations it calls. State.kept gathers the fourteen pieces; the lemma <operation>_keeps, tagged simp, says that the operation leaves State.kept as it
was, or, for the few operations that change one of the pieces, says it of each other piece. A goal about one piece, such as the life cycle, is brought to
State.kept by giving simp the equation of that piece: simp [kept_life].
-/
set_option linter.all false
set_option linter.unusedTactic false
set_option linter.unreachableTactic false
namespace Sys2Proof.Machine

/-- What a row leaves as it was in all but the few rows named for it: the queue, the life cycle and what goes with it, the security version and the boot
bank, the test port, the staging buffers, grants, TIME_OWNER, the reference, the port delays, the challenge, ERR_MIN. -/
structure Kept where
  pending : List Instr
  life : LifeCycle
  lifeLog : List LifeEntry
  ownerHash : Nat
  minSvn : Nat
  boot : Nat
  tap : TapSt
  staging : Table (List Host.Cell)
  grants : List GrantEntry
  timeOwner : Nat
  ref : TbRefSet
  delays : Table (Nat × Nat)
  challenge : Option (List Byte × Stamp)
  errMin : Nat

/-- The fourteen pieces of a state that nearly every operation leaves as they were. -/
def State.kept (s : State) : Kept :=
  { pending := s.pending, life := s.sec.life, lifeLog := s.sec.lifeLog, ownerHash := s.sec.ownerHash, minSvn := s.fw.minSvn, boot := s.fw.boot, tap := s.tap, staging := s.hst.staging, grants := s.hst.grants, timeOwner := s.hst.timeOwner, ref := s.tb.ref, delays := s.tb.delays, challenge := s.sec.challenge, errMin := s.flt.errMin }

/-- A piece as simp finds it in a state written out in full: the mark under which it is read through the lemmas about State.kept, and only there. -/
def piece {α : Type} (a : α) : α := a

/-! A piece of a state is the piece of what is kept of it. Given to simp, kept_<piece> reads that piece through the lemmas about State.kept. -/

theorem kept_pending (s : State) : s.pending = s.kept.pending := rfl
theorem kept_life (s : State) : s.sec.life = s.kept.life := rfl
theorem kept_lifeLog (s : State) : s.sec.lifeLog = s.kept.lifeLog := rfl
theorem kept_ownerHash (s : State) : s.sec.ownerHash = s.kept.ownerHash := rfl
theorem kept_minSvn (s : State) : s.fw.minSvn = s.kept.minSvn := rfl
theorem kept_boot (s : State) : s.fw.boot = s.kept.boot := rfl
theorem kept_tap (s : State) : s.tap = s.kept.tap := rfl
theorem kept_staging (s : State) : s.hst.staging = s.kept.staging := rfl
theorem kept_grants (s : State) : s.hst.grants = s.kept.grants := rfl
theorem kept_timeOwner (s : State) : s.hst.timeOwner = s.kept.timeOwner := rfl
theorem kept_ref (s : State) : s.tb.ref = s.kept.ref := rfl
theorem kept_delays (s : State) : s.tb.delays = s.kept.delays := rfl
theorem kept_challenge (s : State) : s.sec.challenge = s.kept.challenge := rfl
theorem kept_errMin (s : State) : s.flt.errMin = s.kept.errMin := rfl

@[simp] theorem piece_pending (s : State) : piece s.pending = s.kept.pending := rfl
@[simp] theorem piece_life (s : State) : piece s.sec.life = s.kept.life := rfl
@[simp] theorem piece_lifeLog (s : State) : piece s.sec.lifeLog = s.kept.lifeLog := rfl
@[simp] theorem piece_ownerHash (s : State) : piece s.sec.ownerHash = s.kept.ownerHash := rfl
@[simp] theorem piece_minSvn (s : State) : piece s.fw.minSvn = s.kept.minSvn := rfl
@[simp] theorem piece_boot (s : State) : piece s.fw.boot = s.kept.boot := rfl
@[simp] theorem piece_tap (s : State) : piece s.tap = s.kept.tap := rfl
@[simp] theorem piece_staging (s : State) : piece s.hst.staging = s.kept.staging := rfl
@[simp] theorem piece_grants (s : State) : piece s.hst.grants = s.kept.grants := rfl
@[simp] theorem piece_timeOwner (s : State) : piece s.hst.timeOwner = s.kept.timeOwner := rfl
@[simp] theorem piece_ref (s : State) : piece s.tb.ref = s.kept.ref := rfl
@[simp] theorem piece_delays (s : State) : piece s.tb.delays = s.kept.delays := rfl
@[simp] theorem piece_challenge (s : State) : piece s.sec.challenge = s.kept.challenge := rfl
@[simp] theorem piece_errMin (s : State) : piece s.flt.errMin = s.kept.errMin := rfl

@[simp] theorem kept_mk (xnow xcap : Stamp) (xpending : List Instr) (xheld : List HeldCmd) (xresuming : Bool) (xfreeCount : Nat) (xhst : HostSt) (xtt : TimetableSt) (xflt : FaultSt) (xpwr : PowerSt) (xfw : FirmwareSt) (xlat : LatMon) (xsec : SecSt) (xcfg : CfgSt) (xalc : AlcSt) (xalcx : AlcAux) (xing : IngestSt) (xplt : PlatformSt) (xprt : PortsSt) (xsch : SchedSt) (xtb : TimeSt) (xwch : WaveSt) (xnrg : MeterSt) (xosc : OscSt) (xcoh : CohSt) (xrcd : RecSt) (xtap : TapSt) :
    (State.mk xnow xcap xpending xheld xresuming xfreeCount xhst xtt xflt xpwr xfw xlat xsec xcfg xalc xalcx xing xplt xprt xsch xtb xwch xnrg xosc xcoh xrcd xtap).kept =
      Kept.mk (piece xpending) (piece xsec.life) (piece xsec.lifeLog) (piece xsec.ownerHash) (piece xfw.minSvn) (piece xfw.boot) (piece xtap) (piece xhst.staging) (piece xhst.grants) (piece xhst.timeOwner) (piece xtb.ref) (piece xtb.delays) (piece xsec.challenge) (piece xflt.errMin) := rfl
@[simp] theorem Kept.eta (k : Kept) : Kept.mk k.pending k.life k.lifeLog k.ownerHash k.minSvn k.boot k.tap k.staging k.grants k.timeOwner k.ref k.delays k.challenge k.errMin = k := rfl
@[simp] theorem Kept.ite_pending (c : Prop) [Decidable c] (a b : Kept) : (if c then a else b).pending = if c then a.pending else b.pending := by split <;> rfl
@[simp] theorem Kept.ite_life (c : Prop) [Decidable c] (a b : Kept) : (if c then a else b).life = if c then a.life else b.life := by split <;> rfl
@[simp] theorem Kept.ite_lifeLog (c : Prop) [Decidable c] (a b : Kept) : (if c then a else b).lifeLog = if c then a.lifeLog else b.lifeLog := by split <;> rfl
@[simp] theorem Kept.ite_ownerHash (c : Prop) [Decidable c] (a b : Kept) : (if c then a else b).ownerHash = if c then a.ownerHash else b.ownerHash := by split <;> rfl
@[simp] theorem Kept.ite_minSvn (c : Prop) [Decidable c] (a b : Kept) : (if c then a else b).minSvn = if c then a.minSvn else b.minSvn := by split <;> rfl
@[simp] theorem Kept.ite_boot (c : Prop) [Decidable c] (a b : Kept) : (if c then a else b).boot = if c then a.boot else b.boot := by split <;> rfl
@[simp] theorem Kept.ite_tap (c : Prop) [Decidable c] (a b : Kept) : (if c then a else b).tap = if c then a.tap else b.tap := by split <;> rfl
@[simp] theorem Kept.ite_staging (c : Prop) [Decidable c] (a b : Kept) : (if c then a else b).staging = if c then a.staging else b.staging := by split <;> rfl
@[simp] theorem Kept.ite_grants (c : Prop) [Decidable c] (a b : Kept) : (if c then a else b).grants = if c then a.grants else b.grants := by split <;> rfl
@[simp] theorem Kept.ite_timeOwner (c : Prop) [Decidable c] (a b : Kept) : (if c then a else b).timeOwner = if c then a.timeOwner else b.timeOwner := by split <;> rfl
@[simp] theorem Kept.ite_ref (c : Prop) [Decidable c] (a b : Kept) : (if c then a else b).ref = if c then a.ref else b.ref := by split <;> rfl
@[simp] theorem Kept.ite_delays (c : Prop) [Decidable c] (a b : Kept) : (if c then a else b).delays = if c then a.delays else b.delays := by split <;> rfl
@[simp] theorem Kept.ite_challenge (c : Prop) [Decidable c] (a b : Kept) : (if c then a else b).challenge = if c then a.challenge else b.challenge := by split <;> rfl
@[simp] theorem Kept.ite_errMin (c : Prop) [Decidable c] (a b : Kept) : (if c then a else b).errMin = if c then a.errMin else b.errMin := by split <;> rfl

/-- The state that a command leaves, however it answers. -/
def CmdOut.st : CmdOut → State
  | .reply s _ _ _ => s
  | .wait s _ => s
  | .silent s => s
@[simp] theorem CmdOut.st_reply (s : State) (a b : Nat) (c : List Byte) : (CmdOut.reply s a b c).st = s := rfl
@[simp] theorem CmdOut.st_wait (s : State) (w : WaitFor) : (CmdOut.wait s w).st = s := rfl
@[simp] theorem CmdOut.st_silent (s : State) : (CmdOut.silent s).st = s := rfl
@[simp] theorem CmdOut.st_refuse (s : State) (a b : Nat) : (refuse s a b).st = s := rfl
@[simp] theorem CmdOut.st_ok (s : State) (c : List Byte) : (ok s c).st = s := rfl
theorem fold_inv {α β γ : Type} (p : β → γ) (f : β → α → β) (h : ∀ b a, p (f b a) = p b) (l : List α) (b : β) : p (l.foldl f b) = p b := by
  induction l generalizing b with
  | nil => rfl
  | cons a l ih => rw [List.foldl_cons, ih, h]
@[simp] theorem fold_kept {α : Type} (f : State → α → State) (h : ∀ b a, (f b a).kept = b.kept) (l : List α) (b : State) : (l.foldl f b).kept = b.kept := fold_inv (·.kept) f h l b
@[simp] theorem fold_pending {α : Type} (f : State → α → State) (h : ∀ b a, (f b a).kept.pending = b.kept.pending) (l : List α) (b : State) : (l.foldl f b).kept.pending = b.kept.pending := fold_inv (·.kept.pending) f h l b
@[simp] theorem fold1_kept {α β : Type} (f : State × β → α → State × β) (h : ∀ b a, (f b a).1.kept = b.1.kept) (l : List α) (b : State × β) : (l.foldl f b).1.kept = b.1.kept := fold_inv (fun x => x.1.kept) f h l b
@[simp] theorem ite_kept (c : Prop) [Decidable c] (a b : State) : (if c then a else b).kept = if c then a.kept else b.kept := by split <;> rfl
@[simp] theorem fold_sec_life {α : Type} (f : State → α → State) (h : ∀ b a, (f b a).kept.life = b.kept.life) (l : List α) (b : State) : (l.foldl f b).kept.life = b.kept.life := fold_inv (·.kept.life) f h l b
@[simp] theorem fold_sec_lifeLog {α : Type} (f : State → α → State) (h : ∀ b a, (f b a).kept.lifeLog = b.kept.lifeLog) (l : List α) (b : State) : (l.foldl f b).kept.lifeLog = b.kept.lifeLog := fold_inv (·.kept.lifeLog) f h l b
@[simp] theorem fold_sec_ownerHash {α : Type} (f : State → α → State) (h : ∀ b a, (f b a).kept.ownerHash = b.kept.ownerHash) (l : List α) (b : State) : (l.foldl f b).kept.ownerHash = b.kept.ownerHash := fold_inv (·.kept.ownerHash) f h l b
@[simp] theorem fold_fw_minSvn {α : Type} (f : State → α → State) (h : ∀ b a, (f b a).kept.minSvn = b.kept.minSvn) (l : List α) (b : State) : (l.foldl f b).kept.minSvn = b.kept.minSvn := fold_inv (·.kept.minSvn) f h l b
@[simp] theorem fold_fw_boot {α : Type} (f : State → α → State) (h : ∀ b a, (f b a).kept.boot = b.kept.boot) (l : List α) (b : State) : (l.foldl f b).kept.boot = b.kept.boot := fold_inv (·.kept.boot) f h l b
@[simp] theorem fold_tap {α : Type} (f : State → α → State) (h : ∀ b a, (f b a).kept.tap = b.kept.tap) (l : List α) (b : State) : (l.foldl f b).kept.tap = b.kept.tap := fold_inv (·.kept.tap) f h l b
@[simp] theorem fold_hst_staging {α : Type} (f : State → α → State) (h : ∀ b a, (f b a).kept.staging = b.kept.staging) (l : List α) (b : State) : (l.foldl f b).kept.staging = b.kept.staging := fold_inv (·.kept.staging) f h l b
@[simp] theorem fold_hst_grants {α : Type} (f : State → α → State) (h : ∀ b a, (f b a).kept.grants = b.kept.grants) (l : List α) (b : State) : (l.foldl f b).kept.grants = b.kept.grants := fold_inv (·.kept.grants) f h l b
@[simp] theorem fold_hst_timeOwner {α : Type} (f : State → α → State) (h : ∀ b a, (f b a).kept.timeOwner = b.kept.timeOwner) (l : List α) (b : State) : (l.foldl f b).kept.timeOwner = b.kept.timeOwner := fold_inv (·.kept.timeOwner) f h l b
@[simp] theorem fold_tb_ref {α : Type} (f : State → α → State) (h : ∀ b a, (f b a).kept.ref = b.kept.ref) (l : List α) (b : State) : (l.foldl f b).kept.ref = b.kept.ref := fold_inv (·.kept.ref) f h l b
@[simp] theorem fold_tb_delays {α : Type} (f : State → α → State) (h : ∀ b a, (f b a).kept.delays = b.kept.delays) (l : List α) (b : State) : (l.foldl f b).kept.delays = b.kept.delays := fold_inv (·.kept.delays) f h l b
@[simp] theorem fold_sec_challenge {α : Type} (f : State → α → State) (h : ∀ b a, (f b a).kept.challenge = b.kept.challenge) (l : List α) (b : State) : (l.foldl f b).kept.challenge = b.kept.challenge := fold_inv (·.kept.challenge) f h l b
@[simp] theorem fold_flt_errMin {α : Type} (f : State → α → State) (h : ∀ b a, (f b a).kept.errMin = b.kept.errMin) (l : List α) (b : State) : (l.foldl f b).kept.errMin = b.kept.errMin := fold_inv (·.kept.errMin) f h l b
@[simp] theorem push_errMin (f : FaultSt) (r : FaultRec) : (f.push r).errMin = f.errMin := rfl
@[simp] theorem ite_st (c : Prop) [Decidable c] (a b : CmdOut) : (if c then a else b).st = if c then a.st else b.st := by split <;> rfl
@[simp] theorem ite_fst {β : Type} (c : Prop) [Decidable c] (a b : State × β) : (if c then a else b).1 = if c then a.1 else b.1 := by split <;> rfl

end Sys2Proof.Machine
end

