-- ==== Sys2Proof/Laws/Keeps/Ops.lean ====
section
/-!
SUPPORT. What the operations of Machine/Ops.lean leave as it was.
-/
set_option linter.all false
set_option linter.unusedTactic false
set_option linter.unreachableTactic false
namespace Sys2Proof.Machine

@[simp] theorem State.at_keeps (s : State) (t : Stamp) : (s.at t).kept = s.kept := by
  simp [State.at]

@[simp] theorem State.setPart_keeps (s : State) (n : Nat) (p : Part) : (s.setPart n p).kept = s.kept := by
  simp [State.setPart]

@[simp] theorem State.modPart_keeps (s : State) (n : Nat) (f : Part → Part) : (s.modPart n f).kept = s.kept := by
  simp [State.modPart]

@[simp] theorem State.refreshErr_keeps (s : State) : s.refreshErr.kept = s.kept := by
  simp [State.refreshErr]

@[simp] theorem State.signal_keeps (s : State) (n route : Nat) : (s.signal n route).kept = s.kept := by
  simp [State.signal]

@[simp] theorem State.hostWrite_keeps (s : State) (part addr : Nat) (data : List Byte) : (s.hostWrite part addr data).kept = s.kept := by
  unfold State.hostWrite
  split <;> rfl

@[simp] theorem State.hostWrites_keeps (s : State) (part : Nat) (l : List (Nat × List Byte)) : (s.hostWrites part l).kept = s.kept := by
  simp [State.hostWrites]

@[simp] theorem State.writeBack_keeps (s : State) (part k : Nat) (v : W32) : (s.writeBack part k v).kept = s.kept := rfl

@[simp] theorem State.ringSignal_keeps (s : State) (n cls : Nat) : (s.ringSignal n cls).kept = s.kept := by
  simp [State.ringSignal]

@[simp] theorem State.putRecord_keeps (s : State) (n : Nat) (r : EvRec) : (s.putRecord n r).kept = s.kept := by
  simp [State.putRecord]

@[simp] theorem State.writeOrHold_keeps (s : State) (n : Nat) (r : EvRec) : (s.writeOrHold n r).kept = s.kept := by
  simp [State.writeOrHold]

@[simp] theorem State.raiseEvent_keeps (s : State) (n src detail : Nat) : (s.raiseEvent n src detail).kept = s.kept := by
  unfold State.raiseEvent
  (try dsimp only)
  (repeat' split) <;> simp

@[simp] theorem State.raiseAlarm_keeps (s : State) (n src detail : Nat) : (s.raiseAlarm n src detail).1.kept = s.kept := by
  simp [State.raiseAlarm]

@[simp] theorem State.evt_keeps (s : State) (parts : List Nat) (src detail : Nat) : (s.evt parts src detail).kept = s.kept := by
  simp [State.evt]

@[simp] theorem State.setCnt_keeps (s : State) (b : Blk) (t : Table W32) : (s.setCnt b t).kept = s.kept := by
  unfold State.setCnt
  (repeat' split) <;> simp

@[simp] theorem State.count_keeps (s : State) (b : Blk) (n : Nat) (k : optParam Nat 1) : (s.count b n k).kept = s.kept := by
  simp [State.count]

@[simp] theorem State.wchCount_keeps (s : State) (n k : Nat) : (s.wchCount n k).kept = s.kept := by
  simp [State.wchCount]

@[simp] theorem State.secCount_keeps (s : State) (n : Nat) : (s.secCount n).kept = s.kept := by
  simp [State.secCount]

@[simp] theorem State.free_keeps (s : State) : (s.free).2.kept = s.kept := by
  simp [State.free]

@[simp] theorem State.evtFree_keeps (s : State) (parts : List Nat) (src : Nat) : (s.evtFree parts src).kept = s.kept := by
  simp [State.evtFree]

@[simp] theorem State.latency_keeps (s : State) (stage ns : Nat) (bound : Option Nat) : (s.latency stage ns bound).kept = s.kept := by
  simp [State.latency]

@[simp] theorem State.setSlot_keeps (s : State) (n : Nat) (k : KeySlot) : (s.setSlot n k).kept = s.kept := by
  simp [State.setSlot]

@[simp] theorem State.signMissing_keeps (s : State) (slot : Nat) : (s.signMissing slot).kept = s.kept := by
  simp [State.signMissing]

@[simp] theorem State.signSent_keeps (s : State) (slot : Nat) : (s.signSent slot).kept = s.kept := by
  simp [State.signSent]

end Sys2Proof.Machine
end

