-- ==== Sys2Proof/Laws/Keeps/PortOps.lean ====
section
/-!
SUPPORT. What the operations of Machine/PortOps.lean leave as it was.
-/
set_option linter.all false
set_option linter.unusedTactic false
set_option linter.unreachableTactic false
namespace Sys2Proof.Machine

@[simp] theorem State.setPort_keeps (s : State) (p : Nat) (x : PortSt) : (s.setPort p x).kept = s.kept := by
  simp [State.setPort]

@[simp] theorem State.modPort_keeps (s : State) (p : Nat) (f : PortSt → PortSt) : (s.modPort p f).kept = s.kept := by
  simp [State.modPort]

@[simp] theorem State.portCount_keeps (s : State) (p n : Nat) : (s.portCount p n).kept = s.kept := by
  simp [State.portCount]

@[simp] theorem State.ringEvent_keeps (s : State) (p part type : Nat) : (s.ringEvent p part type).kept = s.kept := by
  simp [State.ringEvent]

@[simp] theorem State.lateEvent_keeps (s : State) (p : Nat) (w : TxWhat) (tb : Nat) (dropped : Bool) (secondOf : Option Stamp) : (s.lateEvent p w tb dropped secondOf).kept = s.kept := by
  simp [State.lateEvent]

@[simp] theorem State.hostDone_keeps (s : State) (p : Nat) (f : TxFrame) (dropped : Bool) : (s.hostDone p f dropped).kept = s.kept := by
  unfold State.hostDone
  (try dsimp only)
  (repeat' split) <;> simp

@[simp] theorem State.pubNext_keeps (s : State) (n p : Nat) : (s.pubNext n p).kept = s.kept := by
  unfold State.pubNext
  (try dsimp only)
  (repeat' split) <;> simp

@[simp] theorem State.frameGone_keeps (s : State) (p : Nat) (f : TxFrame) (lost : Bool) : (s.frameGone p f lost).kept = s.kept := by
  unfold State.frameGone
  (try dsimp only)
  (repeat' split) <;> simp

@[simp] theorem State.linkDrop_keeps (s : State) (p : Nat) (f : TxFrame) : (s.linkDrop p f).kept = s.kept := by
  simp [State.linkDrop]

@[simp] theorem State.hostFill_keeps (fuel : Nat) (s : State) (p q : Nat) : (s.hostFill fuel p q).kept = s.kept := by
  induction fuel generalizing s with
  | zero => simp [State.hostFill]
  | succ n ih =>
    unfold State.hostFill
    (try dsimp only)
    (repeat' split) <;> simp [ih]

@[simp] theorem State.hostFills_keeps (s : State) (p : Nat) : (s.hostFills p).kept = s.kept := by
  simp [State.hostFills]

@[simp] theorem State.judgeFrame_keeps (s : State) (p q : Nat) (f : TxFrame) (busy : Bool) : (s.judgeFrame p q f busy).1.kept = s.kept := by
  unfold State.judgeFrame
  (try dsimp only)
  (repeat' split) <;> simp

@[simp] theorem State.judgeHead_keeps (s : State) (p q : Nat) : (s.judgeHead p q).1.kept = s.kept := by
  unfold State.judgeHead
  (try dsimp only)
  (repeat' split) <;> simp

@[simp] theorem State.settle_keeps (fuel : Nat) (s : State) (p : Nat) : (s.settle fuel p).kept = s.kept := by
  induction fuel generalizing s with
  | zero => simp [State.settle]
  | succ n ih =>
    unfold State.settle
    (try dsimp only)
    (repeat' split) <;> simp [ih]

@[simp] theorem State.startFrame_keeps (s : State) (p q : Nat) (f : TxFrame) : (s.startFrame p q f).kept = s.kept := by
  unfold State.startFrame
  (try dsimp only)
  (repeat' split) <;> simp

@[simp] theorem State.startQueued_keeps (s : State) (p : Nat) : (s.startQueued p).kept = s.kept := by
  unfold State.startQueued
  (try dsimp only)
  (repeat' split) <;> simp

@[simp] theorem State.startRetry_keeps (s : State) (p q : Nat) (f : TxFrame) : (s.startRetry p q f).kept = s.kept := by
  unfold State.startRetry
  (try dsimp only)
  (repeat' split) <;> simp

@[simp] theorem State.startNext_keeps (s : State) (p : Nat) : (s.startNext p).kept = s.kept := by
  unfold State.startNext
  (try dsimp only)
  (repeat' split) <;> simp

@[simp] theorem State.pauseSettle_keeps (s : State) (p : Nat) : (s.pauseSettle p).kept = s.kept := by
  unfold State.pauseSettle
  split <;> simp

@[simp] theorem State.xoffArm_keeps (s : State) (p : Nat) : (s.xoffArm p).kept = s.kept := by
  unfold State.xoffArm
  split <;> simp

@[simp] theorem State.kick_keeps (s : State) (p : Nat) : (s.kick p).kept = s.kept := by
  unfold State.kick
  (try dsimp only)
  (repeat' split) <;> simp

@[simp] theorem State.txOffer_keeps (s : State) (p q : Nat) (f : TxFrame) : (s.txOffer p q f).kept = s.kept := by
  simp [State.txOffer]

end Sys2Proof.Machine
end

