-- ==== Sys2Proof/Laws/Keeps/LogicOps.lean ====
section
/-!
SUPPORT. What the operations of Machine/LogicOps.lean leave as it was.
-/
set_option linter.all false
set_option linter.unusedTactic false
set_option linter.unreachableTactic false
namespace Sys2Proof.Machine

@[simp] theorem State.driveAl_keeps (s : State) (level : Nat) : (s.driveAl level).kept = s.kept := by
  simp [State.driveAl]

@[simp] theorem State.pubToPort_keeps (s : State) (n p : Nat) (f : TxFrame) : (s.pubToPort n p f).kept = s.kept := by
  simp [State.pubToPort]

@[simp] theorem State.pubFrame_keeps (s : State) (n : Nat) (e : AlcPub) (launch : Option (Nat × Nat)) (scanEnd : optParam (Option Stamp) none) : (s.pubFrame n e launch scanEnd).kept = s.kept := by
  simp [State.pubFrame]

@[simp] theorem State.publish_keeps (s : State) (n : Nat) (e : AlcPub) (members : List Nat) (test : Bool) (launch : Option (Nat × Nat)) (scanEnd : optParam (Option Stamp) none) : (s.publish n e members test launch scanEnd).kept = s.kept := by
  simp [State.publish]

@[simp] theorem State.testSync_keeps (s : State) : (s.testSync).kept = s.kept := by
  refine fold_kept _ (fun b a => ?_) _ s
  (try dsimp only)
  split <;> simp

@[simp] theorem State.toSafe_keeps (s : State) : s.toSafe.kept = s.kept := by
  unfold State.toSafe
  (repeat' split) <;> simp

@[simp] theorem State.alcTo_keeps (s : State) (st : AlcState) (row : Nat) : (s.alcTo st row).kept = s.kept := by
  simp [State.alcTo]

@[simp] theorem State.scanSkip_keeps (s : State) : s.scanSkip.kept = s.kept := by
  simp [State.scanSkip]

@[simp] theorem State.scanDrop_keeps (s : State) : s.scanDrop.kept = s.kept := by
  simp [State.scanDrop]

@[simp] theorem State.setForces_keeps (s : State) (f : Table Force) : (s.setForces f).kept = s.kept := by
  simp [State.setForces]

@[simp] theorem State.dropForces_keeps (s : State) : (s.dropForces).kept = s.kept := by
  unfold State.dropForces
  (try dsimp only)
  (repeat' split) <;> simp

@[simp] theorem State.alcFault_keeps (s : State) : s.alcFault.kept = s.kept := by
  unfold State.alcFault
  (repeat' split) <;> simp

end Sys2Proof.Machine
end

