-- ==== Sys2Proof/Laws/Keeps/Emit.lean ====
section
/-!
SUPPORT. What the operations of Machine/Emit.lean leave as it was.
-/
set_option linter.all false
set_option linter.unusedTactic false
set_option linter.unreachableTactic false
namespace Sys2Proof.Machine

@[simp] theorem State.halt_keeps (s : State) (src : Nat) : (s.halt src).kept = s.kept := by
  simp [State.halt]

@[simp] theorem State.react_keeps (s : State) (r : FaultRec) : (s.react r).kept = s.kept := by
  simp [State.react]

@[simp] theorem State.record_keeps (s : State) (src detail part : Nat) (injected real react : Bool) : (s.record src detail part injected real react).1.kept = s.kept := by
  unfold State.record
  (repeat' split) <;> simp

@[simp] theorem State.emit_keeps (fuel : Nat) (s : State) (j : Job) : (s.emit fuel j).kept = s.kept := by
  induction fuel generalizing s j with
  | zero => simp [State.emit]
  | succ n ih =>
    unfold State.emit
    dsimp only
    cases j <;> dsimp only <;> (repeat' split) <;> simp [ih]

@[simp] theorem State.fault_keeps (s : State) (src detail part : Nat) : (s.fault src detail part).kept = s.kept := by
  simp [State.fault]

@[simp] theorem State.alarm_keeps (s : State) (parts : List Nat) (src detail : Nat) : (s.alarm parts src detail).kept = s.kept := by
  simp [State.alarm]

@[simp] theorem State.faultClear_keeps (s : State) (src : Nat) : (s.faultClear src).kept = s.kept := by
  simp [State.faultClear]

@[simp] theorem State.faultPair_keeps (s : State) (withSafety without detail part : Nat) : (s.faultPair withSafety without detail part).kept = s.kept := by
  simp [State.faultPair]

end Sys2Proof.Machine
end

