-- ==== Sys2Proof/Laws/Keeps/Commands.lean ====
section
/-!
SUPPORT. What the operations of Machine/Commands.lean leave as it was.
-/
set_option linter.all false
set_option linter.unusedTactic false
set_option linter.unreachableTactic false
namespace Sys2Proof.Machine

@[simp] theorem refuse_keeps (s : State) (status detail : Nat) : (refuse s status detail).st.kept = s.kept := by
  simp [refuse]

@[simp] theorem ok_keeps (s : State) (res : optParam (List Byte) []) : (ok s res).st.kept = s.kept := by
  simp [ok]

@[simp] theorem State.doneBy_keeps (s : State) (n : Nat) (t : Stamp) : (s.doneBy n t).kept = s.kept := by
  simp [State.doneBy]

@[simp] theorem State.putReply_keeps (s : State) (h : Pkt) (op status detail : Nat) (stamp : Stamp) (res : List Byte) : (s.putReply h op status detail stamp res).kept = s.kept := by
  unfold State.putReply
  dsimp only
  (repeat' split) <;> simp

@[simp] theorem State.finish_keeps (s : State) (w : Waiting) (status detail : Nat) (res : List Byte) : (s.finish w status detail res).kept = s.kept := by
  simp [State.finish]

@[simp] theorem State.finishAll_keeps (s : State) (sel : Waiting → Bool) (status detail : Nat) (res : Waiting → List Byte) : (s.finishAll sel status detail res).kept = s.kept := by
  simp [State.finishAll]

@[simp] theorem State.pendingFirst_keeps (s : State) (c : CmdInfo) (h : Pkt) (done : Stamp) : (s.pendingFirst c h done).kept = s.kept := by
  simp [State.pendingFirst]

/-- What the body leaves of the kept pieces, the command leaves: its replies change none of them. -/
theorem State.runStarted_inv {α : Sort _} (p : Kept → α) (s : State) (c : CmdInfo) (h : Pkt) (body : State → CmdOut) (hb : p (body s).st.kept = p s.kept) :
    p (s.runStarted c h body).kept = p s.kept := by
  unfold State.runStarted
  split
  · simp
  · revert hb; cases body s <;> intro hb <;> simp_all

@[simp] theorem State.fresh_keeps (s : State) : s.fresh.kept = s.kept := rfl

@[simp] theorem State.runStarted_kept (s : State) (c : CmdInfo) (h : Pkt) (body : State → CmdOut) (hb : (body s).st.kept = s.kept) :
    (s.runStarted c h body).kept = s.kept := State.runStarted_inv (fun k => k) s c h body hb

@[simp] theorem State.runStarted_pending (s : State) (c : CmdInfo) (h : Pkt) (body : State → CmdOut) (hb : (body s).st.kept.pending = s.kept.pending) :
    (s.runStarted c h body).kept.pending = s.kept.pending := State.runStarted_inv (·.pending) s c h body hb

@[simp] theorem State.runStarted_sec_life (s : State) (c : CmdInfo) (h : Pkt) (body : State → CmdOut) (hb : (body s).st.kept.life = s.kept.life) :
    (s.runStarted c h body).kept.life = s.kept.life := State.runStarted_inv (·.life) s c h body hb

@[simp] theorem State.runStarted_sec_lifeLog (s : State) (c : CmdInfo) (h : Pkt) (body : State → CmdOut) (hb : (body s).st.kept.lifeLog = s.kept.lifeLog) :
    (s.runStarted c h body).kept.lifeLog = s.kept.lifeLog := State.runStarted_inv (·.lifeLog) s c h body hb

@[simp] theorem State.runStarted_sec_ownerHash (s : State) (c : CmdInfo) (h : Pkt) (body : State → CmdOut) (hb : (body s).st.kept.ownerHash = s.kept.ownerHash) :
    (s.runStarted c h body).kept.ownerHash = s.kept.ownerHash := State.runStarted_inv (·.ownerHash) s c h body hb

@[simp] theorem State.runStarted_fw_minSvn (s : State) (c : CmdInfo) (h : Pkt) (body : State → CmdOut) (hb : (body s).st.kept.minSvn = s.kept.minSvn) :
    (s.runStarted c h body).kept.minSvn = s.kept.minSvn := State.runStarted_inv (·.minSvn) s c h body hb

@[simp] theorem State.runStarted_fw_boot (s : State) (c : CmdInfo) (h : Pkt) (body : State → CmdOut) (hb : (body s).st.kept.boot = s.kept.boot) :
    (s.runStarted c h body).kept.boot = s.kept.boot := State.runStarted_inv (·.boot) s c h body hb

@[simp] theorem State.runStarted_tap (s : State) (c : CmdInfo) (h : Pkt) (body : State → CmdOut) (hb : (body s).st.kept.tap = s.kept.tap) :
    (s.runStarted c h body).kept.tap = s.kept.tap := State.runStarted_inv (·.tap) s c h body hb

@[simp] theorem State.runStarted_hst_staging (s : State) (c : CmdInfo) (h : Pkt) (body : State → CmdOut) (hb : (body s).st.kept.staging = s.kept.staging) :
    (s.runStarted c h body).kept.staging = s.kept.staging := State.runStarted_inv (·.staging) s c h body hb

@[simp] theorem State.runStarted_hst_grants (s : State) (c : CmdInfo) (h : Pkt) (body : State → CmdOut) (hb : (body s).st.kept.grants = s.kept.grants) :
    (s.runStarted c h body).kept.grants = s.kept.grants := State.runStarted_inv (·.grants) s c h body hb

@[simp] theorem State.runStarted_hst_timeOwner (s : State) (c : CmdInfo) (h : Pkt) (body : State → CmdOut) (hb : (body s).st.kept.timeOwner = s.kept.timeOwner) :
    (s.runStarted c h body).kept.timeOwner = s.kept.timeOwner := State.runStarted_inv (·.timeOwner) s c h body hb

@[simp] theorem State.runStarted_tb_ref (s : State) (c : CmdInfo) (h : Pkt) (body : State → CmdOut) (hb : (body s).st.kept.ref = s.kept.ref) :
    (s.runStarted c h body).kept.ref = s.kept.ref := State.runStarted_inv (·.ref) s c h body hb

@[simp] theorem State.runStarted_tb_delays (s : State) (c : CmdInfo) (h : Pkt) (body : State → CmdOut) (hb : (body s).st.kept.delays = s.kept.delays) :
    (s.runStarted c h body).kept.delays = s.kept.delays := State.runStarted_inv (·.delays) s c h body hb

@[simp] theorem State.runStarted_sec_challenge (s : State) (c : CmdInfo) (h : Pkt) (body : State → CmdOut) (hb : (body s).st.kept.challenge = s.kept.challenge) :
    (s.runStarted c h body).kept.challenge = s.kept.challenge := State.runStarted_inv (·.challenge) s c h body hb

@[simp] theorem State.runStarted_flt_errMin (s : State) (c : CmdInfo) (h : Pkt) (body : State → CmdOut) (hb : (body s).st.kept.errMin = s.kept.errMin) :
    (s.runStarted c h body).kept.errMin = s.kept.errMin := State.runStarted_inv (·.errMin) s c h body hb

theorem State.takePacket_keeps (s s1 : State) (n len : Nat) (h : s.takePacket n len = some s1) :
    s1.kept = s.kept := by
  unfold State.takePacket at h
  dsimp only at h
  split at h
  · cases h; simp
  · cases h
theorem State.arrive_keeps (s s1 : State) (h : Pkt) (op : Nat) (ha : s.arrive h op = some s1) :
    s1.kept = s.kept := by
  unfold State.arrive at ha
  split at ha
  · split at ha
    · exact State.takePacket_keeps _ _ _ _ ha
    · cases ha
  · split at ha
    · split at ha
      · cases ha; simp
      · cases ha
    · cases ha
  · split at ha
    · split at ha
      · cases ha; simp
      · cases ha
    · cases ha
/-- What the body leaves of the kept pieces, the row leaves: taking, holding and starting change none of them. -/
theorem State.runCmd_inv {α : Sort _} (p : Kept → α) (s : State) (i : Instr) (c : CmdInfo) (h : Pkt) (body : State → CmdOut) (hb : ∀ x, p (body x).st.kept = p x.kept) :
    p (s.runCmd i c h body).kept = p s.kept := by
  unfold State.runCmd
  dsimp only
  split
  · rw [State.runStarted_inv p _ c h body (hb _)]; simp
  · split
    · simp
    · rename_i s1 ha
      have := State.arrive_keeps _ _ _ _ ha
      split
      · rw [State.runStarted_inv p _ c h body (hb _)]; simp [this]
      · simp [this]

@[simp] theorem State.runCmd_kept (s : State) (i : Instr) (c : CmdInfo) (h : Pkt) (body : State → CmdOut) (hb : ∀ x, (body x).st.kept = x.kept) :
    (s.runCmd i c h body).kept = s.kept := State.runCmd_inv (fun k => k) s i c h body hb

@[simp] theorem State.runCmd_pending (s : State) (i : Instr) (c : CmdInfo) (h : Pkt) (body : State → CmdOut) (hb : ∀ x, (body x).st.kept.pending = x.kept.pending) :
    (s.runCmd i c h body).kept.pending = s.kept.pending := State.runCmd_inv (·.pending) s i c h body hb

@[simp] theorem State.runCmd_sec_life (s : State) (i : Instr) (c : CmdInfo) (h : Pkt) (body : State → CmdOut) (hb : ∀ x, (body x).st.kept.life = x.kept.life) :
    (s.runCmd i c h body).kept.life = s.kept.life := State.runCmd_inv (·.life) s i c h body hb

@[simp] theorem State.runCmd_sec_lifeLog (s : State) (i : Instr) (c : CmdInfo) (h : Pkt) (body : State → CmdOut) (hb : ∀ x, (body x).st.kept.lifeLog = x.kept.lifeLog) :
    (s.runCmd i c h body).kept.lifeLog = s.kept.lifeLog := State.runCmd_inv (·.lifeLog) s i c h body hb

@[simp] theorem State.runCmd_sec_ownerHash (s : State) (i : Instr) (c : CmdInfo) (h : Pkt) (body : State → CmdOut) (hb : ∀ x, (body x).st.kept.ownerHash = x.kept.ownerHash) :
    (s.runCmd i c h body).kept.ownerHash = s.kept.ownerHash := State.runCmd_inv (·.ownerHash) s i c h body hb

@[simp] theorem State.runCmd_fw_minSvn (s : State) (i : Instr) (c : CmdInfo) (h : Pkt) (body : State → CmdOut) (hb : ∀ x, (body x).st.kept.minSvn = x.kept.minSvn) :
    (s.runCmd i c h body).kept.minSvn = s.kept.minSvn := State.runCmd_inv (·.minSvn) s i c h body hb

@[simp] theorem State.runCmd_fw_boot (s : State) (i : Instr) (c : CmdInfo) (h : Pkt) (body : State → CmdOut) (hb : ∀ x, (body x).st.kept.boot = x.kept.boot) :
    (s.runCmd i c h body).kept.boot = s.kept.boot := State.runCmd_inv (·.boot) s i c h body hb

@[simp] theorem State.runCmd_tap (s : State) (i : Instr) (c : CmdInfo) (h : Pkt) (body : State → CmdOut) (hb : ∀ x, (body x).st.kept.tap = x.kept.tap) :
    (s.runCmd i c h body).kept.tap = s.kept.tap := State.runCmd_inv (·.tap) s i c h body hb

@[simp] theorem State.runCmd_hst_staging (s : State) (i : Instr) (c : CmdInfo) (h : Pkt) (body : State → CmdOut) (hb : ∀ x, (body x).st.kept.staging = x.kept.staging) :
    (s.runCmd i c h body).kept.staging = s.kept.staging := State.runCmd_inv (·.staging) s i c h body hb

@[simp] theorem State.runCmd_hst_grants (s : State) (i : Instr) (c : CmdInfo) (h : Pkt) (body : State → CmdOut) (hb : ∀ x, (body x).st.kept.grants = x.kept.grants) :
    (s.runCmd i c h body).kept.grants = s.kept.grants := State.runCmd_inv (·.grants) s i c h body hb

@[simp] theorem State.runCmd_hst_timeOwner (s : State) (i : Instr) (c : CmdInfo) (h : Pkt) (body : State → CmdOut) (hb : ∀ x, (body x).st.kept.timeOwner = x.kept.timeOwner) :
    (s.runCmd i c h body).kept.timeOwner = s.kept.timeOwner := State.runCmd_inv (·.timeOwner) s i c h body hb

@[simp] theorem State.runCmd_tb_ref (s : State) (i : Instr) (c : CmdInfo) (h : Pkt) (body : State → CmdOut) (hb : ∀ x, (body x).st.kept.ref = x.kept.ref) :
    (s.runCmd i c h body).kept.ref = s.kept.ref := State.runCmd_inv (·.ref) s i c h body hb

@[simp] theorem State.runCmd_tb_delays (s : State) (i : Instr) (c : CmdInfo) (h : Pkt) (body : State → CmdOut) (hb : ∀ x, (body x).st.kept.delays = x.kept.delays) :
    (s.runCmd i c h body).kept.delays = s.kept.delays := State.runCmd_inv (·.delays) s i c h body hb

@[simp] theorem State.runCmd_sec_challenge (s : State) (i : Instr) (c : CmdInfo) (h : Pkt) (body : State → CmdOut) (hb : ∀ x, (body x).st.kept.challenge = x.kept.challenge) :
    (s.runCmd i c h body).kept.challenge = s.kept.challenge := State.runCmd_inv (·.challenge) s i c h body hb

@[simp] theorem State.runCmd_flt_errMin (s : State) (i : Instr) (c : CmdInfo) (h : Pkt) (body : State → CmdOut) (hb : ∀ x, (body x).st.kept.errMin = x.kept.errMin) :
    (s.runCmd i c h body).kept.errMin = s.kept.errMin := State.runCmd_inv (·.errMin) s i c h body hb

def OutSt (o : Host.Outcome State Fault Refusal) (s : State) : State := match o with
  | .next t => t
  | _ => s
@[simp] theorem cmd_kept (s : State) (i : Instr) (c : CmdInfo) (h : Pkt) (body : State → CmdOut) (hb : ∀ x, (body x).st.kept = x.kept) :
    (OutSt (cmd i c h s body) s).kept = s.kept := by
  simp [cmd, OutSt, hb]

@[simp] theorem cmd_pending (s : State) (i : Instr) (c : CmdInfo) (h : Pkt) (body : State → CmdOut) (hb : ∀ x, (body x).st.kept.pending = x.kept.pending) :
    (OutSt (cmd i c h s body) s).kept.pending = s.kept.pending := by
  simp [cmd, OutSt, hb]
@[simp] theorem event_kept (s : State) (t : Stamp) (f : State → State) (hf : ∀ x, (f x).kept = x.kept) :
    (OutSt (event t s f) s).kept = s.kept := by
  simp [event, OutSt, hf]

@[simp] theorem event_pending (s : State) (t : Stamp) (f : State → State) (hf : ∀ x, (f x).kept.pending = x.kept.pending) :
    (OutSt (event t s f) s).kept.pending = s.kept.pending := by
  simp [event, OutSt, hf]
@[simp] theorem out_ite_kept (c : Prop) [Decidable c] (a b : Host.Outcome State Fault Refusal) (s : State) :
    (OutSt (if c then a else b) s).kept = if c then (OutSt a s).kept else (OutSt b s).kept := by split <;> rfl

@[simp] theorem cmd_sec_life (s : State) (i : Instr) (c : CmdInfo) (h : Pkt) (body : State → CmdOut) (hb : ∀ x, (body x).st.kept.life = x.kept.life) :
    (OutSt (cmd i c h s body) s).kept.life = s.kept.life := by
  simp [cmd, OutSt, hb]
@[simp] theorem event_sec_life (s : State) (t : Stamp) (f : State → State) (hf : ∀ x, (f x).kept.life = x.kept.life) :
    (OutSt (event t s f) s).kept.life = s.kept.life := by
  simp [event, OutSt, hf]

@[simp] theorem cmd_sec_lifeLog (s : State) (i : Instr) (c : CmdInfo) (h : Pkt) (body : State → CmdOut) (hb : ∀ x, (body x).st.kept.lifeLog = x.kept.lifeLog) :
    (OutSt (cmd i c h s body) s).kept.lifeLog = s.kept.lifeLog := by
  simp [cmd, OutSt, hb]
@[simp] theorem event_sec_lifeLog (s : State) (t : Stamp) (f : State → State) (hf : ∀ x, (f x).kept.lifeLog = x.kept.lifeLog) :
    (OutSt (event t s f) s).kept.lifeLog = s.kept.lifeLog := by
  simp [event, OutSt, hf]

@[simp] theorem cmd_sec_ownerHash (s : State) (i : Instr) (c : CmdInfo) (h : Pkt) (body : State → CmdOut) (hb : ∀ x, (body x).st.kept.ownerHash = x.kept.ownerHash) :
    (OutSt (cmd i c h s body) s).kept.ownerHash = s.kept.ownerHash := by
  simp [cmd, OutSt, hb]
@[simp] theorem event_sec_ownerHash (s : State) (t : Stamp) (f : State → State) (hf : ∀ x, (f x).kept.ownerHash = x.kept.ownerHash) :
    (OutSt (event t s f) s).kept.ownerHash = s.kept.ownerHash := by
  simp [event, OutSt, hf]

@[simp] theorem cmd_fw_minSvn (s : State) (i : Instr) (c : CmdInfo) (h : Pkt) (body : State → CmdOut) (hb : ∀ x, (body x).st.kept.minSvn = x.kept.minSvn) :
    (OutSt (cmd i c h s body) s).kept.minSvn = s.kept.minSvn := by
  simp [cmd, OutSt, hb]
@[simp] theorem event_fw_minSvn (s : State) (t : Stamp) (f : State → State) (hf : ∀ x, (f x).kept.minSvn = x.kept.minSvn) :
    (OutSt (event t s f) s).kept.minSvn = s.kept.minSvn := by
  simp [event, OutSt, hf]

@[simp] theorem cmd_fw_boot (s : State) (i : Instr) (c : CmdInfo) (h : Pkt) (body : State → CmdOut) (hb : ∀ x, (body x).st.kept.boot = x.kept.boot) :
    (OutSt (cmd i c h s body) s).kept.boot = s.kept.boot := by
  simp [cmd, OutSt, hb]
@[simp] theorem event_fw_boot (s : State) (t : Stamp) (f : State → State) (hf : ∀ x, (f x).kept.boot = x.kept.boot) :
    (OutSt (event t s f) s).kept.boot = s.kept.boot := by
  simp [event, OutSt, hf]

@[simp] theorem cmd_tap (s : State) (i : Instr) (c : CmdInfo) (h : Pkt) (body : State → CmdOut) (hb : ∀ x, (body x).st.kept.tap = x.kept.tap) :
    (OutSt (cmd i c h s body) s).kept.tap = s.kept.tap := by
  simp [cmd, OutSt, hb]
@[simp] theorem event_tap (s : State) (t : Stamp) (f : State → State) (hf : ∀ x, (f x).kept.tap = x.kept.tap) :
    (OutSt (event t s f) s).kept.tap = s.kept.tap := by
  simp [event, OutSt, hf]

@[simp] theorem cmd_hst_staging (s : State) (i : Instr) (c : CmdInfo) (h : Pkt) (body : State → CmdOut) (hb : ∀ x, (body x).st.kept.staging = x.kept.staging) :
    (OutSt (cmd i c h s body) s).kept.staging = s.kept.staging := by
  simp [cmd, OutSt, hb]
@[simp] theorem event_hst_staging (s : State) (t : Stamp) (f : State → State) (hf : ∀ x, (f x).kept.staging = x.kept.staging) :
    (OutSt (event t s f) s).kept.staging = s.kept.staging := by
  simp [event, OutSt, hf]

@[simp] theorem cmd_hst_grants (s : State) (i : Instr) (c : CmdInfo) (h : Pkt) (body : State → CmdOut) (hb : ∀ x, (body x).st.kept.grants = x.kept.grants) :
    (OutSt (cmd i c h s body) s).kept.grants = s.kept.grants := by
  simp [cmd, OutSt, hb]
@[simp] theorem event_hst_grants (s : State) (t : Stamp) (f : State → State) (hf : ∀ x, (f x).kept.grants = x.kept.grants) :
    (OutSt (event t s f) s).kept.grants = s.kept.grants := by
  simp [event, OutSt, hf]

@[simp] theorem cmd_hst_timeOwner (s : State) (i : Instr) (c : CmdInfo) (h : Pkt) (body : State → CmdOut) (hb : ∀ x, (body x).st.kept.timeOwner = x.kept.timeOwner) :
    (OutSt (cmd i c h s body) s).kept.timeOwner = s.kept.timeOwner := by
  simp [cmd, OutSt, hb]
@[simp] theorem event_hst_timeOwner (s : State) (t : Stamp) (f : State → State) (hf : ∀ x, (f x).kept.timeOwner = x.kept.timeOwner) :
    (OutSt (event t s f) s).kept.timeOwner = s.kept.timeOwner := by
  simp [event, OutSt, hf]

@[simp] theorem cmd_tb_ref (s : State) (i : Instr) (c : CmdInfo) (h : Pkt) (body : State → CmdOut) (hb : ∀ x, (body x).st.kept.ref = x.kept.ref) :
    (OutSt (cmd i c h s body) s).kept.ref = s.kept.ref := by
  simp [cmd, OutSt, hb]
@[simp] theorem event_tb_ref (s : State) (t : Stamp) (f : State → State) (hf : ∀ x, (f x).kept.ref = x.kept.ref) :
    (OutSt (event t s f) s).kept.ref = s.kept.ref := by
  simp [event, OutSt, hf]

@[simp] theorem cmd_tb_delays (s : State) (i : Instr) (c : CmdInfo) (h : Pkt) (body : State → CmdOut) (hb : ∀ x, (body x).st.kept.delays = x.kept.delays) :
    (OutSt (cmd i c h s body) s).kept.delays = s.kept.delays := by
  simp [cmd, OutSt, hb]
@[simp] theorem event_tb_delays (s : State) (t : Stamp) (f : State → State) (hf : ∀ x, (f x).kept.delays = x.kept.delays) :
    (OutSt (event t s f) s).kept.delays = s.kept.delays := by
  simp [event, OutSt, hf]

@[simp] theorem cmd_sec_challenge (s : State) (i : Instr) (c : CmdInfo) (h : Pkt) (body : State → CmdOut) (hb : ∀ x, (body x).st.kept.challenge = x.kept.challenge) :
    (OutSt (cmd i c h s body) s).kept.challenge = s.kept.challenge := by
  simp [cmd, OutSt, hb]
@[simp] theorem event_sec_challenge (s : State) (t : Stamp) (f : State → State) (hf : ∀ x, (f x).kept.challenge = x.kept.challenge) :
    (OutSt (event t s f) s).kept.challenge = s.kept.challenge := by
  simp [event, OutSt, hf]

@[simp] theorem cmd_flt_errMin (s : State) (i : Instr) (c : CmdInfo) (h : Pkt) (body : State → CmdOut) (hb : ∀ x, (body x).st.kept.errMin = x.kept.errMin) :
    (OutSt (cmd i c h s body) s).kept.errMin = s.kept.errMin := by
  simp [cmd, OutSt, hb]
@[simp] theorem event_flt_errMin (s : State) (t : Stamp) (f : State → State) (hf : ∀ x, (f x).kept.errMin = x.kept.errMin) :
    (OutSt (event t s f) s).kept.errMin = s.kept.errMin := by
  simp [event, OutSt, hf]
@[simp] theorem outSt_next (s t : State) : OutSt (.next t) s = t := rfl

@[simp] theorem check_kept (s : State) (cs : List (Option (Nat × Nat))) (k : Unit → CmdOut) :
    (check s cs k).st.kept = if (firstBad cs).isSome then s.kept else (k ()).st.kept := by
  unfold check; split <;> simp_all

@[simp] theorem check_pending (s : State) (cs : List (Option (Nat × Nat))) (k : Unit → CmdOut) :
    (check s cs k).st.kept.pending = if (firstBad cs).isSome then s.kept.pending else (k ()).st.kept.pending := by
  unfold check; split <;> simp_all

@[simp] theorem check_sec_life (s : State) (cs : List (Option (Nat × Nat))) (k : Unit → CmdOut) :
    (check s cs k).st.kept.life = if (firstBad cs).isSome then s.kept.life else (k ()).st.kept.life := by
  unfold check; split <;> simp_all

@[simp] theorem check_sec_lifeLog (s : State) (cs : List (Option (Nat × Nat))) (k : Unit → CmdOut) :
    (check s cs k).st.kept.lifeLog = if (firstBad cs).isSome then s.kept.lifeLog else (k ()).st.kept.lifeLog := by
  unfold check; split <;> simp_all

@[simp] theorem check_sec_ownerHash (s : State) (cs : List (Option (Nat × Nat))) (k : Unit → CmdOut) :
    (check s cs k).st.kept.ownerHash = if (firstBad cs).isSome then s.kept.ownerHash else (k ()).st.kept.ownerHash := by
  unfold check; split <;> simp_all

@[simp] theorem check_fw_minSvn (s : State) (cs : List (Option (Nat × Nat))) (k : Unit → CmdOut) :
    (check s cs k).st.kept.minSvn = if (firstBad cs).isSome then s.kept.minSvn else (k ()).st.kept.minSvn := by
  unfold check; split <;> simp_all

@[simp] theorem check_fw_boot (s : State) (cs : List (Option (Nat × Nat))) (k : Unit → CmdOut) :
    (check s cs k).st.kept.boot = if (firstBad cs).isSome then s.kept.boot else (k ()).st.kept.boot := by
  unfold check; split <;> simp_all

@[simp] theorem check_tap (s : State) (cs : List (Option (Nat × Nat))) (k : Unit → CmdOut) :
    (check s cs k).st.kept.tap = if (firstBad cs).isSome then s.kept.tap else (k ()).st.kept.tap := by
  unfold check; split <;> simp_all

@[simp] theorem check_hst_staging (s : State) (cs : List (Option (Nat × Nat))) (k : Unit → CmdOut) :
    (check s cs k).st.kept.staging = if (firstBad cs).isSome then s.kept.staging else (k ()).st.kept.staging := by
  unfold check; split <;> simp_all

@[simp] theorem check_hst_grants (s : State) (cs : List (Option (Nat × Nat))) (k : Unit → CmdOut) :
    (check s cs k).st.kept.grants = if (firstBad cs).isSome then s.kept.grants else (k ()).st.kept.grants := by
  unfold check; split <;> simp_all

@[simp] theorem check_hst_timeOwner (s : State) (cs : List (Option (Nat × Nat))) (k : Unit → CmdOut) :
    (check s cs k).st.kept.timeOwner = if (firstBad cs).isSome then s.kept.timeOwner else (k ()).st.kept.timeOwner := by
  unfold check; split <;> simp_all

@[simp] theorem check_tb_ref (s : State) (cs : List (Option (Nat × Nat))) (k : Unit → CmdOut) :
    (check s cs k).st.kept.ref = if (firstBad cs).isSome then s.kept.ref else (k ()).st.kept.ref := by
  unfold check; split <;> simp_all

@[simp] theorem check_tb_delays (s : State) (cs : List (Option (Nat × Nat))) (k : Unit → CmdOut) :
    (check s cs k).st.kept.delays = if (firstBad cs).isSome then s.kept.delays else (k ()).st.kept.delays := by
  unfold check; split <;> simp_all

@[simp] theorem check_sec_challenge (s : State) (cs : List (Option (Nat × Nat))) (k : Unit → CmdOut) :
    (check s cs k).st.kept.challenge = if (firstBad cs).isSome then s.kept.challenge else (k ()).st.kept.challenge := by
  unfold check; split <;> simp_all

@[simp] theorem check_flt_errMin (s : State) (cs : List (Option (Nat × Nat))) (k : Unit → CmdOut) :
    (check s cs k).st.kept.errMin = if (firstBad cs).isSome then s.kept.errMin else (k ()).st.kept.errMin := by
  unfold check; split <;> simp_all

def onSlotsRuns (s : State) (h : Pkt) (named used : List Nat) : Bool :=
  !named.all (fun n => s.holds h.part kindKey n) || ((named.find? (fun n => (s.slot n).updateLost)).isNone && !used.any (fun n => (s.slot n).unusable))
@[simp] theorem onSlots_kept (s : State) (h : Pkt) (a b : List Nat) (k : Unit → CmdOut) :
    (onSlots s h a b k).st.kept = if onSlotsRuns s h a b then (k ()).st.kept else s.kept := by
  unfold onSlots onSlotsRuns
  by_cases h1 : (a.all (fun n => s.holds h.part kindKey n)) = true
  · rcases h2 : a.find? (fun n => (s.slot n).updateLost) with _ | n
    · by_cases h3 : (b.any (fun n => (s.slot n).unusable)) = true
      · simp only [h1, h2, h3]; simp
      · simp only [h1, h2, h3]; simp
    · simp only [h1, h2]; simp
  · simp only [h1]; simp

end Sys2Proof.Machine
end

