-- ==== Sys2Proof/Laws/Keeps/GroupOps.lean ====
section
/-!
SUPPORT. What the operations of Machine/GroupOps.lean leave as it was.
-/
set_option linter.all false
set_option linter.unusedTactic false
set_option linter.unreachableTactic false
namespace Sys2Proof.Machine

@[simp] theorem State.setGroup_keeps (s : State) (n : Nat) (g : Group) : (s.setGroup n g).kept = s.kept := by
  simp [State.setGroup]

@[simp] theorem State.dueNoted_keeps (s : State) (tb : Nat) : (s.dueNoted tb).kept = s.kept := rfl

@[simp] theorem State.houseCheck_keeps (s : State) (n inst : Nat) : (s.houseCheck n inst).kept = s.kept := by
  unfold State.houseCheck
  (repeat' split) <;> simp

@[simp] theorem State.houseCheckAll_keeps (s : State) (mask : Nat) : (s.houseCheckAll mask).kept = s.kept := by
  simp [State.houseCheckAll]

@[simp] theorem State.freeSlots_keeps (s : State) : s.freeSlots.kept = s.kept := by
  simp [State.freeSlots]

@[simp] theorem State.setStream_keeps (s : State) (n : Nat) (x : StreamSt) : (s.setStream n x).kept = s.kept := by
  simp [State.setStream]

@[simp] theorem State.modStream_keeps (s : State) (n : Nat) (f : StreamSt → StreamSt) : (s.modStream n f).kept = s.kept := by
  simp [State.modStream]

end Sys2Proof.Machine
end

