-- ==== Sys2Proof/Laws/Keeps/SourceOps.lean ====
section
/-!
SUPPORT. What the operations of Machine/SourceOps.lean leave as it was.
-/
set_option linter.all false
set_option linter.unusedTactic false
set_option linter.unreachableTactic false
namespace Sys2Proof.Machine

@[simp] theorem State.unitEvent_keeps (s : State) (u type : Nat) : (s.unitEvent u type).kept = s.kept := by
  simp [State.unitEvent]

@[simp] theorem State.setUnit_keeps (s : State) (n : Nat) (u : WUnit) : (s.setUnit n u).kept = s.kept := by
  simp [State.setUnit]

@[simp] theorem State.unitRefresh_keeps (s : State) (n : Nat) : (s.unitRefresh n).kept = s.kept := by
  unfold State.unitRefresh
  (repeat' split) <;> simp

@[simp] theorem State.streamUnit_keeps (s : State) (stream : Nat) : (s.streamUnit stream).kept = s.kept := by
  unfold State.streamUnit
  (repeat' split) <;> simp

@[simp] theorem State.spoilChecks_keeps (s : State) (mp : Nat) : (s.spoilChecks mp).kept = s.kept := by
  simp [State.spoilChecks]

@[simp] theorem State.meterRefresh_keeps (s : State) (n : Nat) : (s.meterRefresh n).kept = s.kept := by
  unfold State.meterRefresh
  (repeat' split) <;> simp

@[simp] theorem State.metersRefresh_keeps (s : State) : s.metersRefresh.kept = s.kept := by
  simp [State.metersRefresh]

end Sys2Proof.Machine
end

