-- ==== Sys2Proof/Laws/Keeps/LayoutOps.lean ====
section
/-!
SUPPORT. What the operations of Machine/LayoutOps.lean leave as it was.
-/
set_option linter.all false
set_option linter.unusedTactic false
set_option linter.unreachableTactic false
namespace Sys2Proof.Machine

@[simp] theorem State.streamEvent_keeps (s : State) (stream src : Nat) (hi : optParam Nat 0) : (s.streamEvent stream src hi).kept = s.kept := by
  simp [State.streamEvent]

@[simp] theorem State.mismatched_keeps (s : State) (stream reason : Nat) (l : Option Layout) (from_ : Option Nat) : (s.mismatched stream reason l from_).kept = s.kept := by
  simp [State.mismatched]

@[simp] theorem State.layoutOnAdmit_keeps (s : State) (c : Contract) : (s.layoutOnAdmit c).kept = s.kept := by
  unfold State.layoutOnAdmit
  (try dsimp only)
  (repeat' split) <;> simp

end Sys2Proof.Machine
end

