-- ==== Sys2Proof/Laws/Keeps/ItemOps.lean ====
section
/-!
SUPPORT. What the operations of Machine/ItemOps.lean leave as it was.
-/
set_option linter.all false
set_option linter.unusedTactic false
set_option linter.unreachableTactic false
namespace Sys2Proof.Machine

@[simp] theorem State.setCluster_keeps (s : State) (k : Nat) (c : Cluster) : (s.setCluster k c).kept = s.kept := by
  simp [State.setCluster]

@[simp] theorem State.modCluster_keeps (s : State) (k : Nat) (f : Cluster → Cluster) : (s.modCluster k f).kept = s.kept := by
  simp [State.modCluster]

@[simp] theorem State.setFlow_keeps (s : State) (st : Nat) (f : Flow) : (s.setFlow st f).kept = s.kept := by
  simp [State.setFlow]

@[simp] theorem State.modFlow_keeps (s : State) (st : Nat) (f : Flow → Flow) : (s.modFlow st f).kept = s.kept := by
  simp [State.modFlow]

@[simp] theorem State.traceLost_keeps (s : State) (p : Nat) (r : TraceRing) : (s.traceLost p r).kept = s.kept := by
  simp [State.traceLost]

@[simp] theorem State.setTrace_keeps (s : State) (p : Nat) (r : TraceRing) : (s.setTrace p r).kept = s.kept := by
  simp [State.setTrace]

@[simp] theorem State.putTrace_keeps (s : State) (p : Nat) (r : TraceRing) (x : TraceRec) : (s.putTrace p r x).kept = s.kept := by
  simp [State.putTrace]

@[simp] theorem State.traceHost_keeps (s : State) (p : Nat) (x : TraceRec) : (s.traceHost p x).kept = s.kept := by
  unfold State.traceHost
  (try dsimp only)
  (repeat' split) <;> simp

@[simp] theorem State.trace_keeps (s : State) (kind cluster core : Nat) (x : Item) : (s.trace kind cluster core x).kept = s.kept := by
  simp [State.trace]

@[simp] theorem State.traceCore_keeps (s : State) (k core : Nat) (i : Item) : (s.traceCore k core i).kept = s.kept := by
  simp [State.traceCore]

@[simp] theorem State.traceDrop_keeps (s : State) (k : Nat) (i : Item) : (s.traceDrop k i).kept = s.kept := by
  simp [State.traceDrop]

@[simp] theorem State.holdStarts_keeps (s : State) (k p : Nat) : (s.holdStarts k p).kept = s.kept := by
  simp [State.holdStarts]

@[simp] theorem State.entered_keeps (s : State) (l : List Item) : (s.entered l).kept = s.kept := by
  refine fold_kept _ (fun b a => ?_) l s
  (repeat' split) <;> simp

@[simp] theorem State.join_keeps (s : State) (k : Nat) (x : Item) : (s.join k x).kept = s.kept := by
  unfold State.join
  (try dsimp only)
  (repeat' split) <;> simp

@[simp] theorem State.holdEnds_keeps (s : State) (k : Nat) (c : Cluster) : (s.holdEnds k c).kept = s.kept := by
  unfold State.holdEnds
  (try dsimp only)
  (repeat' split) <;> simp

@[simp] theorem State.refill_keeps (s : State) (k p : Nat) : (s.refill k p).kept = s.kept := by
  unfold State.refill
  (try dsimp only)
  (repeat' split) <;> simp

@[simp] theorem State.joinFirst_keeps (s : State) (k : Nat) (x : Item) : (s.joinFirst k x).kept = s.kept := by
  unfold State.joinFirst
  (try dsimp only)
  (repeat' split) <;> simp

@[simp] theorem State.dispatchCore_keeps (s : State) (k core : Nat) : (s.dispatchCore k core).kept = s.kept := by
  unfold State.dispatchCore
  (try dsimp only)
  (repeat' split) <;> simp

@[simp] theorem State.regrant_keeps (s : State) (k : Nat) : (s.regrant k).kept = s.kept := by
  unfold State.regrant
  (try dsimp only)
  (repeat' split) <;> simp

@[simp] theorem State.dispatch_keeps (s : State) (k : Nat) : (s.dispatch k).kept = s.kept := by
  unfold State.dispatch
  (try dsimp only)
  (repeat' split) <;> simp

@[simp] theorem State.recall_keeps (s : State) (k core : Nat) (r : CoreRun) : (s.recall k core r).kept = s.kept := by
  simp [State.recall]

@[simp] theorem State.recallAll_keeps (s : State) (k : Nat) : (s.recallAll k).kept = s.kept := by
  simp [State.recallAll]

@[simp] theorem State.withdraw_keeps (s : State) (st : Nat) (fsn : W32) : (s.withdraw st fsn).kept = s.kept := by
  simp [State.withdraw]

@[simp] theorem State.emitNow_keeps (s : State) (x : Item) : (s.emitNow x).kept = s.kept := by
  unfold State.emitNow
  (try dsimp only)
  (repeat' split) <;> simp

@[simp] theorem State.emitItem_keeps (s : State) (x : Item) : (s.emitItem x).kept = s.kept := by
  simp [State.emitItem]

@[simp] theorem State.emitHeld_keeps (st n : Nat) (s : State) : (s.emitHeld st n).kept = s.kept := by
  induction n generalizing s with
  | zero => rfl
  | succ n ih =>
    unfold State.emitHeld
    (repeat' split) <;> simp [ih]

@[simp] theorem State.emitWaiting_keeps (s : State) (st : Nat) : (s.emitWaiting st).kept = s.kept := by
  simp [State.emitWaiting]

@[simp] theorem State.emitAll_keeps (s : State) : s.emitAll.kept = s.kept := by
  simp [State.emitAll]

@[simp] theorem State.cancelList_keeps (s : State) (k : Nat) (l : List Item) : (s.cancelList k l).kept = s.kept := by
  simp [State.cancelList]

@[simp] theorem State.cancelCluster_keeps (s : State) (sel : Item → Bool) (k : Nat) : (s.cancelCluster sel k).kept = s.kept := by
  unfold State.cancelCluster
  (try dsimp only)
  (repeat' split) <;> simp

@[simp] theorem State.cancelGate_keeps (s : State) (sel : Item → Bool) (st : Nat) : (s.cancelGate sel st).kept = s.kept := by
  simp [State.cancelGate]

@[simp] theorem State.cancelItems_keeps (s : State) (sel : Item → Bool) : (s.cancelItems sel).kept = s.kept := by
  simp [State.cancelItems]

end Sys2Proof.Machine
end

