-- ==== Sys2Proof/Laws/Keeps/ContractOps.lean ====
section
/-!
SUPPORT. What the operations of Machine/ContractOps.lean leave as it was.
-/
set_option linter.all false
set_option linter.unusedTactic false
set_option linter.unreachableTactic false
namespace Sys2Proof.Machine

@[simp] theorem State.setContract_keeps (s : State) (id : Nat) (c : Contract) : (s.setContract id c).kept = s.kept := by
  simp [State.setContract]

@[simp] theorem State.contractChanged_keeps (s : State) (c : Contract) : (s.contractChanged c).kept = s.kept := by
  simp [State.contractChanged]

@[simp] theorem State.contractTo_keeps (s : State) (id : Nat) (st : ContractState) (reason : Nat) (told : Bool) : (s.contractTo id st reason told).kept = s.kept := by
  unfold State.contractTo
  (repeat' split) <;> simp

@[simp] theorem State.shedContract_keeps (s : State) (id reason : Nat) : (s.shedContract id reason).kept = s.kept := by
  unfold State.shedContract
  (repeat' split) <;> simp

@[simp] theorem State.freeContract_keeps (s : State) (id : Nat) : (s.freeContract id).kept = s.kept := by
  unfold State.freeContract
  (repeat' split) <;> simp

@[simp] theorem State.shedDown_keeps (s : State) (k limit reason : Nat) : (s.shedDown k limit reason).1.kept = s.kept := by
  simp [State.shedDown]

@[simp] theorem State.takeWaiting_keeps (s : State) (k : Nat) (sel : Item → Bool) : (s.takeWaiting k sel).1.kept = s.kept := by
  simp [State.takeWaiting]

@[simp] theorem State.rejoinItems_keeps (s : State) (l : List Item) : (s.rejoinItems l).kept = s.kept := by
  unfold State.rejoinItems
  (try dsimp only)
  (repeat' split) <;> simp (disch := ((try intros); (try dsimp only); (repeat' split) <;> (first | assumption | (simp_all; done))))

@[simp] theorem State.moveItems_keeps (s : State) (k id : Nat) : (s.moveItems k id).kept = s.kept := by
  simp [State.moveItems]

@[simp] theorem State.requeueFirst_keeps (s : State) (x : Item) : (s.requeueFirst x).kept = s.kept := by
  unfold State.requeueFirst
  (repeat' split) <;> simp

@[simp] theorem State.restartItems_keeps (s : State) (k : Nat) : (s.restartItems k).kept = s.kept := by
  simp [State.restartItems]

@[simp] theorem State.replaceContract_keeps (s : State) (id : Nat) (c : Contract) (k : Nat) : (s.replaceContract id c k).kept = s.kept := by
  simp [State.replaceContract]

@[simp] theorem State.replacePlaced_keeps (s : State) (k : Nat) : (s.replacePlaced k).1.kept = s.kept := by
  unfold State.replacePlaced
  (try dsimp only)
  (repeat' split) <;> simp (disch := ((try intros); (try dsimp only); (repeat' split) <;> (first | assumption | (simp_all; done))))

@[simp] theorem State.removeCluster_keeps (s : State) (k reason : Nat) : (s.removeCluster k reason).1.kept = s.kept := by
  unfold State.removeCluster
  (try dsimp only)
  (repeat' split) <;> simp (disch := ((try intros); (try dsimp only); (repeat' split) <;> (first | assumption | (simp_all; done))))

@[simp] theorem State.norBegin_keeps (s : State) (w : NorWriter) : (s.norBegin w).kept = s.kept := by
  simp [State.norBegin]

@[simp] theorem State.setMark_keeps (s : State) (k : Nat) (on : Bool) : (s.setMark k on).kept = s.kept := by
  unfold State.setMark
  (try dsimp only)
  (repeat' split) <;> simp

@[simp] theorem State.clusterTo_keeps (s : State) (k : Nat) (st : ClusterState) (row : Nat) : (s.clusterTo k st row).kept = s.kept := by
  simp [State.clusterTo]

@[simp] theorem State.shedReported_keeps (s : State) (n : Nat) (r : EvRec) : (s.shedReported n r).kept = s.kept := by
  unfold State.shedReported
  (try dsimp only)
  (repeat' split) <;> simp

end Sys2Proof.Machine
end

