-- ==== Sys2Proof/Laws/Keeps/Timetable.lean ====
section
/-!
SUPPORT. What the operations of Machine/Timetable.lean leave as it was.
-/
set_option linter.all false
set_option linter.unusedTactic false
set_option linter.unreachableTactic false
namespace Sys2Proof.Machine

@[simp] theorem State.proposeRefused_keeps (s : State) (status detail : Nat) (known : Option Contract) : (s.proposeRefused status detail known).st.kept = s.kept := by
  unfold State.proposeRefused
  (try dsimp only)
  (repeat' split) <;> simp

@[simp] theorem State.admitContract_keeps (s : State) (c : Contract) (k : Nat) : (s.admitContract c k).1.kept = s.kept := by
  unfold State.admitContract
  (repeat' split) <;> simp

@[simp] theorem State.proposeAdmit_keeps (s : State) (h : Pkt) (p : TtPropose) : (s.proposeAdmit h p).st.kept = s.kept := by
  unfold State.proposeAdmit
  (try dsimp only)
  (repeat' split) <;> simp

@[simp] theorem ttPropose_keeps (s : State) (h : Pkt) (p : TtPropose) : (ttPropose s h p).st.kept = s.kept := by
  unfold ttPropose
  (repeat' split) <;> simp

@[simp] theorem State.withOwn_kept (s : State) (h : Pkt) (id : Nat) (k : Contract → CmdOut) (hk : ∀ c, (k c).st.kept = s.kept) :
    (s.withOwn h id k).st.kept = s.kept := by
  unfold State.withOwn; (repeat' split) <;> simp_all

@[simp] theorem ttRelease_keeps (s : State) (h : Pkt) (id : Nat) : (ttRelease s h id).st.kept = s.kept := by
  simp [ttRelease]

@[simp] theorem ttQuery_keeps (s : State) (h : Pkt) (id : Nat) : (ttQuery s h id).st.kept = s.kept := by
  unfold ttQuery
  (repeat' split) <;> simp

@[simp] theorem ttReplace_keeps (s : State) (h : Pkt) (p : TtReplace) : (ttReplace s h p).st.kept = s.kept := by
  unfold ttReplace
  split
  · simp
  · unfold State.withOwn
    (repeat' split) <;> (try dsimp only) <;> (repeat' split) <;> simp

@[simp] theorem State.evaluateCluster_keeps (s : State) (k : Nat) : (s.evaluateCluster k).1.kept = s.kept := by
  simp [State.evaluateCluster]

@[simp] theorem State.evaluate_keeps (s : State) (ks : List Nat) : (s.evaluate ks).1.kept = s.kept := by
  simp [State.evaluate]

@[simp] theorem profileDone_keeps (s : State) (old new shed : Nat) : (profileDone s old new shed).st.kept = s.kept := by
  simp [profileDone]

@[simp] theorem State.withProfile_keeps (s : State) (p : Profile) : (s.withProfile p).kept = s.kept := by
  simp [State.withProfile]

@[simp] theorem State.enterLive_keeps (s : State) : (s.enterLive).1.kept = s.kept := by
  simp [State.enterLive]

@[simp] theorem setFixedFromLive_keeps (s : State) (force : Bool) : (setFixedFromLive s force).st.kept = s.kept := by
  unfold setFixedFromLive
  (try dsimp only)
  (repeat' split) <;> simp

@[simp] theorem setPlacement_keeps (s : State) (force : Bool) : (setPlacement s force).st.kept = s.kept := by
  unfold setPlacement
  (repeat' split) <;> simp

@[simp] theorem ttSetProfile_keeps (s : State) (h : Pkt) (p : TtSetProfile) : (ttSetProfile s h p).st.kept = s.kept := by
  simp [ttSetProfile]

@[simp] theorem ttCheckRemoval_keeps (s : State) (h : Pkt) (k : Nat) : (ttCheckRemoval s h k).st.kept = s.kept := by
  simp [ttCheckRemoval]

@[simp] theorem ttList_keeps (s : State) (h : Pkt) (p : TtList) : (ttList s h p).st.kept = s.kept := by
  simp [ttList]

@[simp] theorem State.judgePair_keeps (s : State) (k : Nat) : (s.judgePair k).kept = s.kept := by
  unfold State.judgePair
  (repeat' split) <;> simp

@[simp] theorem State.takeRatio_keeps (s : State) (n ratio : Nat) : (s.takeRatio n ratio).kept = s.kept := by
  simp [State.takeRatio]

@[simp] theorem State.judgeSpeed_keeps (s : State) (was : Bool) : (s.judgeSpeed was).kept = s.kept := by
  simp [State.judgeSpeed]

end Sys2Proof.Machine
end

