-- ==== Sys2Proof/Laws/Keeps/Clusters.lean ====
section
/-!
SUPPORT. What the operations of Machine/Clusters.lean leave as it was.
-/
set_option linter.all false
set_option linter.unusedTactic false
set_option linter.unreachableTactic false
namespace Sys2Proof.Machine

@[simp] theorem closeCluster_keeps (s : State) (k : Nat) (force : Bool) (st : ClusterState) (row : Nat) : (closeCluster s k force st row).st.kept = s.kept := by
  simp [closeCluster]

@[simp] theorem schDrain_keeps (s : State) (h : Pkt) (p : SchCluster) : (schDrain s h p).st.kept = s.kept := by
  simp [schDrain]

@[simp] theorem schRetire_keeps (s : State) (h : Pkt) (p : SchCluster) : (schRetire s h p).st.kept = s.kept := by
  unfold schRetire
  (repeat' split) <;> simp

@[simp] theorem schRejoin_keeps (s : State) (h : Pkt) (p : SchCluster) : (schRejoin s h p).st.kept = s.kept := by
  unfold schRejoin
  (repeat' split) <;> simp

@[simp] theorem clusterTested_keeps (s : State) (k result : Nat) : (clusterTested s k result).kept = s.kept := by
  simp [clusterTested]

@[simp] theorem State.clusterFaulted_keeps (s : State) (k : Nat) : (s.clusterFaulted k).kept = s.kept := by
  simp [State.clusterFaulted]

@[simp] theorem State.freeCore_keeps (s : State) (k core : Nat) (r : CoreRun) : (s.freeCore k core r).kept = s.kept := by
  simp [State.freeCore]

@[simp] theorem State.measureWork_keeps (s : State) (stream k : Nat) (r : CoreRun) : (s.measureWork stream k r).kept = s.kept := by
  unfold State.measureWork
  (repeat' split) <;> simp

@[simp] theorem State.abortRun_keeps (s : State) (k core : Nat) (r : CoreRun) : (s.abortRun k core r).kept = s.kept := by
  simp [State.abortRun]

@[simp] theorem State.completeRun_keeps (s : State) (k core : Nat) (r : CoreRun) : (s.completeRun k core r).kept = s.kept := by
  simp [State.completeRun]

@[simp] theorem schTraceSet_keeps (s : State) (h : Pkt) (p : SchTraceSet) : (schTraceSet s h p).st.kept = s.kept := by
  simp [schTraceSet]

@[simp] theorem schObsRead_keeps (s : State) (h : Pkt) (p : SchObsRead) : (schObsRead s h p).st.kept = s.kept := by
  simp [schObsRead]

end Sys2Proof.Machine
end

