-- ==== Sys2Proof/Laws/Keeps/RecorderOps.lean ====
section
/-!
SUPPORT. What the operations of Machine/RecorderOps.lean leave as it was.
-/
set_option linter.all false
set_option linter.unusedTactic false
set_option linter.unreachableTactic false
namespace Sys2Proof.Machine

@[simp] theorem State.setRec_keeps (s : State) (n : Nat) (r : Rec) : (s.setRec n r).kept = s.kept := by
  simp [State.setRec]

@[simp] theorem State.exportDrop_keeps (s : State) (n : Nat) : (s.exportDrop n).kept = s.kept := by
  unfold State.exportDrop
  split <;> simp

@[simp] theorem State.recEvent_keeps (s : State) (n src slot : Nat) : (s.recEvent n src slot).kept = s.kept := by
  simp [State.recEvent]

@[simp] theorem State.recArmed_keeps (s : State) (n : Nat) (r0 : Rec) (stamp : Stamp) : (s.recArmed n r0 stamp).kept = s.kept := by
  simp [State.recArmed]

@[simp] theorem State.recTake_keeps (s : State) (n g : Nat) (l : List RecSample) : (s.recTake n g l).kept = s.kept := by
  unfold State.recTake
  (try dsimp only)
  (repeat' split) <;> simp

@[simp] theorem State.recMissed_keeps (s : State) (n : Nat) (r : Rec) : (s.recMissed n r).kept = s.kept := by
  simp [State.recMissed]

@[simp] theorem State.recTriggerAt_keeps (s : State) (n cond : Nat) (time : Int) : (s.recTriggerAt n cond time).kept = s.kept := by
  unfold State.recTriggerAt
  (repeat' split) <;> simp

@[simp] theorem State.recTrigger_keeps (s : State) (n cond : Nat) (time : Int) : (s.recTrigger n cond time).kept = s.kept := by
  simp [State.recTrigger]

@[simp] theorem judgeCond_keeps (p : Point) (a : State × Rec × List Fired) (ix : Nat) : (judgeCond p a ix).1.kept = a.1.kept := by
  unfold judgeCond
  dsimp only
  (repeat' split) <;> simp

@[simp] theorem State.judgeConds_keeps (s : State) (r : Rec) (p : Point) : (s.judgeConds r p).1.kept = s.kept := by
  simp [State.judgeConds]

@[simp] theorem State.recDrain_keeps (s : State) (n : Nat) : (s.recDrain n).kept = s.kept := by
  unfold State.recDrain
  (try dsimp only)
  (repeat' split) <;> simp

@[simp] theorem State.recStore_keeps (s : State) (n : Nat) (p : Point) : (s.recStore n p).kept = s.kept := by
  unfold State.recStore
  (try dsimp only)
  (repeat' split) <;> simp

@[simp] theorem State.recStart_keeps (s : State) (n : Nat) (r : Rec) (k : Nat) (p : Point) (fired : List Fired) (first : Fired) : (s.recStart n r k p fired first).kept = s.kept := by
  unfold State.recStart
  (try dsimp only)
  (repeat' split) <;> simp

@[simp] theorem State.recTruncate_keeps (s : State) (n : Nat) : (s.recTruncate n).kept = s.kept := by
  unfold State.recTruncate
  (repeat' split) <;> simp

theorem State.recRoom_keeps (s s1 : State) (n : Nat) (h : s.recRoom n = some s1) : s1.kept = s.kept := by
  unfold State.recRoom at h
  (repeat' split at h) <;> first | (cases h; done) | (cases h; simp; done) | (obtain ⟨o, ho, rfl⟩ := Option.map_eq_some_iff.mp h; simp)
@[simp] theorem State.recEvaluate_keeps (s : State) (n : Nat) (r : Rec) : (s.recEvaluate n r).kept = s.kept := by
  unfold State.recEvaluate
  dsimp only
  split
  · (repeat' split) <;> simp
  · split
    · split
      · rename_i s2 h
        have := State.recRoom_keeps _ _ _ h
        split at this <;> simp_all
      · split <;> simp
    · split <;> simp

@[simp] theorem State.recTapOne_keeps (s : State) (n stream inst : Nat) (vals : List ChanVal) (late : Bool) : (s.recTapOne n stream inst vals late).kept = s.kept := by
  unfold State.recTapOne
  (try dsimp only)
  (repeat' split) <;> simp

@[simp] theorem State.recTap_keeps (s : State) (stream inst : Nat) (vals : List ChanVal) (late : Bool) : (s.recTap stream inst vals late).kept = s.kept := by
  simp [State.recTap]

end Sys2Proof.Machine
end

