-- ==== Sys2Proof/Laws/Keeps/MeterOps.lean ====
section
/-!
SUPPORT. What the operations of Machine/MeterOps.lean leave as it was.
-/
set_option linter.all false
set_option linter.unusedTactic false
set_option linter.unreachableTactic false
namespace Sys2Proof.Machine

@[simp] theorem State.setMeter_keeps (s : State) (n : Nat) (m : Meter) : (s.setMeter n m).kept = s.kept := by
  simp [State.setMeter]

@[simp] theorem State.setPo_keeps (s : State) (n : Nat) (o : PulseOut) : (s.setPo n o).kept = s.kept := by
  simp [State.setPo]

@[simp] theorem State.setPi_keeps (s : State) (n : Nat) (x : PulseIn) : (s.setPi n x).kept = s.kept := by
  simp [State.setPi]

@[simp] theorem State.nrgEvent_keeps (s : State) (kind n src : Nat) : (s.nrgEvent kind n src).kept = s.kept := by
  simp [State.nrgEvent]

@[simp] theorem State.poIncrease_keeps (s : State) (n : Nat) (o : PulseOut) (d : Nat) : (s.poIncrease n o d).kept = s.kept := by
  simp [State.poIncrease]

@[simp] theorem State.accIncrease_keeps (s : State) (mp a d : Nat) : (s.accIncrease mp a d).kept = s.kept := by
  simp [State.accIncrease]

@[simp] theorem State.accAdd_keeps (s : State) (n a e : Nat) : (s.accAdd n a e).kept = s.kept := by
  unfold State.accAdd
  (repeat' split) <;> simp

@[simp] theorem State.increment_keeps (s : State) (p : Frac) (units : Nat) : (s.increment p units).2.kept = s.kept := by
  unfold State.increment
  (repeat' split) <;> simp

@[simp] theorem State.meterUpdate_keeps (s : State) (n : Nat) (res : NrgResult) (p q : Frac) (units : Nat) (usable : Bool) : (s.meterUpdate n res p q units usable).kept = s.kept := by
  unfold State.meterUpdate
  (repeat' split) <;> simp

@[simp] theorem State.freeWords_keeps (s : State) (n : Nat) : (s.freeWords n).2.kept = s.kept := by
  induction n generalizing s with
  | zero => simp [State.freeWords]
  | succ n ih => simp [State.freeWords, ih]

@[simp] theorem State.meterSlice_keeps (s : State) (n : Nat) (m : Meter) (x : Slice) : (s.meterSlice n m x).kept = s.kept := by
  unfold State.meterSlice
  (try dsimp only)
  (repeat' split) <;> simp

@[simp] theorem State.metersSlice_keeps (s : State) (x : Slice) : (s.metersSlice x).kept = s.kept := by
  simp [State.metersSlice]

end Sys2Proof.Machine
end

