-- ==== Sys2Proof/Laws/Keeps/OscOps.lean ====
section
/-!
SUPPORT. What the operations of Machine/OscOps.lean leave as it was.
-/
set_option linter.all false
set_option linter.unusedTactic false
set_option linter.unreachableTactic false
namespace Sys2Proof.Machine

@[simp] theorem State.setDet_keeps (s : State) (n : Nat) (d : Detector) : (s.setDet n d).kept = s.kept := by
  simp [State.setDet]

@[simp] theorem State.detEvent_keeps (s : State) (n type : Nat) (byCmd : optParam Bool false) : (s.detEvent n type byCmd).kept = s.kept := by
  simp [State.detEvent]

@[simp] theorem State.detTo_keeps (s : State) (n : Nat) (d : Detector) (on : Bool) (stamp : Int) (byCmd : Bool) : (s.detTo n d on stamp byCmd).kept = s.kept := by
  simp [State.detTo]

@[simp] theorem State.detFeed_keeps (s : State) (n rate : Nat) (time : Int) (x : DetIn) (qual : W16) : (s.detFeed n rate time x qual).kept = s.kept := by
  unfold State.detFeed
  (try dsimp only)
  (repeat' split) <;> simp

@[simp] theorem State.detSkipped_keeps (s : State) (n rate : Nat) (time : Int) : (s.detSkipped n rate time).kept = s.kept := by
  unfold State.detSkipped
  (repeat' split) <;> simp

@[simp] theorem State.detChange_keeps (s : State) (n : Nat) (primed : Bool) (d : Detector) (stamp : Int) : (s.detChange n primed d stamp).kept = s.kept := by
  simp [State.detChange]

set_option maxRecDepth 4000 in
@[simp] theorem State.detDecide_keeps (s : State) (n rate : Nat) (idx stamp : Int) : (s.detDecide n rate idx stamp).kept = s.kept := by
  unfold State.detDecide
  (repeat' split) <;> simp

@[simp] theorem State.detApply_keeps (s : State) (n : Nat) (d : Detector) (p : OscDetSet) (stamp : Int) : (s.detApply n d p stamp).kept = s.kept := by
  simp [State.detApply]

@[simp] theorem State.detChanges_keeps (fuel : Nat) (s : State) (n : Nat) (x : Slice) : (s.detChanges fuel n x).kept = s.kept := by
  induction fuel generalizing s with
  | zero => rfl
  | succ k ih =>
    unfold State.detChanges
    (repeat' split) <;> simp_all

@[simp] theorem State.detRelease_keeps (s : State) (n : Nat) (x : Slice) : (s.detRelease n x).kept = s.kept := by
  unfold State.detRelease
  (try dsimp only)
  (repeat' split) <;> simp

@[simp] theorem State.sigFeed_keeps (s : State) (n rate : Nat) (time : Int) (x : DetIn) (qual : W16) : (s.sigFeed n rate time x qual).kept = s.kept := by
  unfold State.sigFeed
  (try dsimp only)
  (repeat' split) <;> simp

@[simp] theorem State.sigsSlice_keeps (s : State) (x : Slice) : (s.sigsSlice x).kept = s.kept := by
  simp [State.sigsSlice]

@[simp] theorem State.oscSlice_keeps (s : State) (x : Slice) : (s.oscSlice x).kept = s.kept := by
  simp [State.oscSlice]

@[simp] theorem State.oscFeed_keeps (s : State) (src id rate : Nat) (time : Int) (get : Nat → Nat → DetIn × W16) : (s.oscFeed src id rate time get).kept = s.kept := by
  simp [State.oscFeed]

end Sys2Proof.Machine
end

