-- ==== Sys2Proof/Laws/Keeps/CohOps.lean ====
section
/-!
SUPPORT. What the operations of Machine/CohOps.lean leave as it was.
-/
set_option linter.all false
set_option linter.unusedTactic false
set_option linter.unreachableTactic false
namespace Sys2Proof.Machine

@[simp] theorem State.setEval_keeps (s : State) (e : CohEval) : (s.setEval e).kept = s.kept := by
  simp [State.setEval]

@[simp] theorem State.cohMerge_keeps (s : State) (k : Track) (cs : List Comp) (ready : List Nat) (mLabel : Nat) (c : Comp) : (s.cohMerge k cs ready mLabel c).1.kept = s.kept := by
  unfold State.cohMerge
  (try dsimp only)
  (repeat' split) <;> simp

theorem State.cohDeclare_keeps (s : State) (k : Track) (c : Comp) (p i f : Nat) (r : State × Track) (h : s.cohDeclare k c p i f = some r) : r.1.kept = s.kept := by
  unfold State.cohDeclare at h
  dsimp only at h
  (repeat' split at h) <;> first | (cases h; done) | (cases h; simp)
@[simp] theorem State.cohSplit_keeps (s : State) (k : Track) (f : CohFrame) (buses : Table Bus) (m : List Nat) (c : Comp) (p : Nat) : (s.cohSplit k f buses m c p).1.kept = s.kept := by
  unfold State.cohSplit
  dsimp only
  split
  · rcases h : s.cohDeclare k c p f.inst f.inst with _ | r
    · simp
    · simpa using State.cohDeclare_keeps _ _ _ _ _ _ _ h
  · simp

@[simp] theorem State.cohCandidate_keeps (s : State) (k : Track) (f : CohFrame) (buses : Table Bus) (m : List Nat) (prev : List Candidate) (cs : List Comp) (c : Comp) : (s.cohCandidate k f buses m prev cs c).1.kept = s.kept := by
  unfold State.cohCandidate
  extract_lets q holds old waits n from_ seen s1 x
  have e1 : s1.kept = s.kept := by simp only [s1]; split <;> simp
  split
  · exact e1
  · split
    · rename_i r h
      have := State.cohDeclare_keeps _ _ _ _ _ _ _ h
      simp [this, e1]
    · dsimp only
      split <;> simp [e1]

@[simp] theorem State.cohClear_keeps (s : State) (k : Track) (f : CohFrame) (buses : Table Bus) (m : Comp) (ready : List Nat) (cs : List Comp) (e : Nat × Island) : (s.cohClear k f buses m ready cs e).1.kept = s.kept := by
  simp [State.cohClear]

@[simp] theorem State.cohFigures_keeps (s : State) (f : CohFrame) (buses : Table Bus) (m ready : List Nat) (cs : List Comp) (mLabel : Nat) (i : Island) : (s.cohFigures f buses m ready cs mLabel i).1.kept = s.kept := by
  simp [State.cohFigures]

@[simp] theorem cohFold_kept {α : Type} (f : State → Track → α → State × Track) (l : List α) (a : State × Track) (h : ∀ s k x, (f s k x).1.kept = s.kept) :
    (cohFold f l a).1.kept = a.1.kept := by
  unfold cohFold
  exact fold_inv (fun x => x.1.kept) _ (fun b x => h b.1 b.2 x) l a

@[simp] theorem State.cohShow_keeps (s : State) (f : CohFrame) (buses : Table Bus) (m ready : List Nat) (cs : List Comp) (mLabel : Nat) (t : Table Island) : (s.cohShow f buses m ready cs mLabel t).1.kept = s.kept := by
  refine fold1_kept _ (fun b a => ?_) t (s, [])
  dsimp only
  split <;> simp

@[simp] theorem State.cohTrack_keeps (s : State) (f : CohFrame) (buses : Table Bus) (ready : List Nat) (cs : List Comp) (m : Comp) (old : CohEval) : (s.cohTrack f buses ready cs m old).1.kept = s.kept := by
  unfold State.cohTrack
  extract_lets start silent s1 k0 r1 follow taken others splits k1 r2 rest r3 kept s3 k3 r4 fin
  have e1 : s1.kept = s.kept := by simp [s1]
  have e2 : r1.1.kept = s.kept := by simp [r1, e1]
  have e3 : r2.1.kept = s.kept := by simp [r2, e2]
  have e4 : r3.1.kept = s.kept := by simp [r3, e3]
  have e5 : s3.kept = s.kept := by simp only [s3]; split <;> simp [e4]
  have e6 : r4.1.kept = s.kept := by simp [r4, e5]
  simp [fin, e6]

@[simp] theorem State.cohNoMain_keeps (s : State) (f : CohFrame) (buses : Table Bus) (ready : List Nat) (cs : List Comp) (m : Option Comp) (old : CohEval) : (s.cohNoMain f buses ready cs m old).1.kept = s.kept := by
  simp [State.cohNoMain]

@[simp] theorem State.cohEvaluate_keeps (s : State) (f : CohFrame) (x : Slice) : (s.cohEvaluate f x).kept = s.kept := by
  unfold State.cohEvaluate
  (try dsimp only)
  (repeat' split) <;> simp

@[simp] theorem State.cohRetire_keeps (s : State) (told : Bool) : (s.cohRetire told).kept = s.kept := by
  simp [State.cohRetire]

@[simp] theorem State.cohApply_keeps (s : State) (p : CohSet) : (s.cohApply p).kept = s.kept := by
  simp [State.cohApply]

@[simp] theorem State.cohPending_keeps (s : State) (g : Nat) (rel : Stamp) : (s.cohPending g rel).kept = s.kept := by
  unfold State.cohPending
  (repeat' split) <;> simp

@[simp] theorem State.cohSlice_keeps (s : State) (x : Slice) : (s.cohSlice x).kept = s.kept := by
  unfold State.cohSlice
  (try dsimp only)
  (repeat' split) <;> simp

end Sys2Proof.Machine
end

