-- ==== Sys2Proof/Laws/Keeps/PlatformOps.lean ====
section
/-!
SUPPORT. What the operations of Machine/PlatformOps.lean leave as it was.
-/
set_option linter.all false
set_option linter.unusedTactic false
set_option linter.unreachableTactic false
namespace Sys2Proof.Machine

@[simp] theorem State.pltStreamEvent_keeps (s : State) (stream src : Nat) : (s.pltStreamEvent stream src).kept = s.kept := by
  simp [State.pltStreamEvent]

@[simp] theorem State.setSlots_keeps (s : State) (id : Nat) (x : ContractSlots) : (s.setSlots id x).kept = s.kept := by
  simp [State.setSlots]

@[simp] theorem State.ringWrite_keeps (s : State) (part n : Nat) (x : Slice) : (s.ringWrite part n x).kept = s.kept := by
  unfold State.ringWrite
  (try dsimp only)
  (repeat' split) <;> simp

@[simp] theorem State.ringsWrite_keeps (s : State) (x : Slice) : (s.ringsWrite x).kept = s.kept := by
  simp [State.ringsWrite]

@[simp] theorem State.arrOfs_keeps (s : State) (tb inst : Nat) (arrival : Stamp) : (s.arrOfs tb inst arrival).2.kept = s.kept := by
  unfold State.arrOfs
  (try dsimp only)
  (repeat' split) <;> simp

@[simp] theorem State.suppEntries_keeps (s : State) (id : Nat) (c : Contract) (tb inst : Nat) (arrival : Stamp) (vals : List ChanVal) : (s.suppEntries id c tb inst arrival vals).2.kept = s.kept := by
  simp [State.suppEntries]

@[simp] theorem State.supplement_keeps (s : State) (id : Nat) (c : Contract) (n : Nat) (g : Group) (slot : Slot) : (s.supplement id c n g slot).kept = s.kept := by
  simp [State.supplement]

@[simp] theorem State.dupConflict_keeps (s : State) (c : Contract) : (s.dupConflict c).kept = s.kept := by
  simp [State.dupConflict]

@[simp] theorem State.sidingsRule_keeps (s : State) (id : Nat) (c : Contract) (slot : Slot) (late : List (Nat × Group)) (pending : Bool) : (s.sidingsRule id c slot late pending).kept = s.kept := by
  unfold State.sidingsRule
  (try dsimp only)
  (repeat' split) <;> simp

@[simp] theorem State.slotWrite_keeps (s : State) (id : Nat) (c : Contract) (slot : Slot) : (s.slotWrite id c slot).kept = s.kept := by
  unfold State.slotWrite
  (try dsimp only)
  (repeat' split) <;> simp

@[simp] theorem State.pltWrite_keeps (s : State) (id : Nat) (c : Contract) (inst : Nat) (arrival : Stamp) (vals : List ChanVal) : (s.pltWrite id c inst arrival vals).kept = s.kept := by
  simp [State.pltWrite]

@[simp] theorem State.toInt16_keeps (s : State) (v scale : BitVec 32) : (s.toInt16 v scale).2.kept = s.kept := by
  unfold State.toInt16
  (try dsimp only)
  (repeat' split) <;> simp

@[simp] theorem State.outEntry_keeps (s : State) (o : PltOutSet) (fnom50 : Bool) (e : OutEntry) (type : Nat) (x : Slice) : (s.outEntry o fnom50 e type x).2.2.kept = s.kept := by
  unfold State.outEntry
  (repeat' split) <;> simp

@[simp] theorem State.outBlock_keeps (s : State) (o : Out) (n : Nat) (m : PltOutMap) (quality unlock : Nat) (x : Slice) : (s.outBlock o n m quality unlock x).1.kept = s.kept := by
  simp [State.outBlock]

@[simp] theorem State.outFrame_keeps (s : State) (n : Nat) (o : Out) (x : Slice) : (s.outFrame n o x).kept = s.kept := by
  unfold State.outFrame
  (try dsimp only)
  (repeat' split) <;> simp

@[simp] theorem State.slotArr_keeps (s : State) (tb inst : Nat) (slot : Option Slot) : (s.slotArr tb inst slot).2.kept = s.kept := by
  unfold State.slotArr
  (repeat' split) <;> simp

@[simp] theorem State.buildEntries_keeps (s : State) (n tb inst : Nat) (rel : Stamp) : (s.buildEntries n tb inst rel).1.kept = s.kept := by
  simp [State.buildEntries]

@[simp] theorem State.holdMarks_keeps (s : State) (l : List (Nat × Bool)) : (s.holdMarks l).kept = s.kept := by
  simp [State.holdMarks]

@[simp] theorem State.retireSlot_keeps (s : State) (inst id : Nat) (x : ContractSlots) : (s.retireSlot inst id x).kept = s.kept := by
  unfold State.retireSlot
  (repeat' split) <;> simp

@[simp] theorem State.retireSlots_keeps (s : State) (inst : Nat) : (s.retireSlots inst).kept = s.kept := by
  simp [State.retireSlots]

@[simp] theorem State.retireAll_keeps (s : State) : s.retireAll.kept = s.kept := by
  simp [State.retireAll]

@[simp] theorem State.supplementsDue_keeps (s : State) (n : Nat) (g : Group) : (s.supplementsDue n g).kept = s.kept := by
  unfold State.supplementsDue
  dsimp only
  rw [fold_kept]
  · simp
  · intro b a
    split <;> simp

@[simp] theorem State.sliceRings_keeps (s : State) (n : Nat) (g : Group) (x : Slice) : (s.sliceRings n g x).kept = s.kept := by
  simp [State.sliceRings]

@[simp] theorem State.alcDecide_keeps (s : State) (x : Slice) : (s.alcDecide x).kept = s.kept := by
  simp [State.alcDecide]

@[simp] theorem State.release_keeps (s : State) (n : Nat) (g : Group) (inst : Nat) (rel : Stamp) (early : Bool) : (s.release n g inst rel early).kept = s.kept := by
  simp [State.release]

end Sys2Proof.Machine
end

