-- ==== Sys2Proof/Laws/Keeps/MemOps.lean ====
section
/-!
SUPPORT. What the operations of Machine/MemOps.lean leave as it was.
-/
set_option linter.all false
set_option linter.unusedTactic false
set_option linter.unreachableTactic false
namespace Sys2Proof.Machine

@[simp] theorem State.stageWrite_keeps (s : State) (part off : Nat) (data : List Byte) : (s.stageWrite part off data).kept.pending = s.kept.pending ∧ (s.stageWrite part off data).kept.life = s.kept.life ∧ (s.stageWrite part off data).kept.lifeLog = s.kept.lifeLog ∧ (s.stageWrite part off data).kept.ownerHash = s.kept.ownerHash ∧ (s.stageWrite part off data).kept.minSvn = s.kept.minSvn ∧ (s.stageWrite part off data).kept.boot = s.kept.boot ∧ (s.stageWrite part off data).kept.tap = s.kept.tap ∧ (s.stageWrite part off data).kept.grants = s.kept.grants ∧ (s.stageWrite part off data).kept.timeOwner = s.kept.timeOwner ∧ (s.stageWrite part off data).kept.ref = s.kept.ref ∧ (s.stageWrite part off data).kept.delays = s.kept.delays ∧ (s.stageWrite part off data).kept.challenge = s.kept.challenge ∧ (s.stageWrite part off data).kept.errMin = s.kept.errMin := by
  simp [State.stageWrite]

@[simp] theorem State.copyTo_keeps (s : State) (h : Pkt) (addr : Nat) (data : List Byte) : (s.copyTo h addr data).kept.pending = s.kept.pending ∧ (s.copyTo h addr data).kept.life = s.kept.life ∧ (s.copyTo h addr data).kept.lifeLog = s.kept.lifeLog ∧ (s.copyTo h addr data).kept.ownerHash = s.kept.ownerHash ∧ (s.copyTo h addr data).kept.minSvn = s.kept.minSvn ∧ (s.copyTo h addr data).kept.boot = s.kept.boot ∧ (s.copyTo h addr data).kept.tap = s.kept.tap ∧ (s.copyTo h addr data).kept.grants = s.kept.grants ∧ (s.copyTo h addr data).kept.timeOwner = s.kept.timeOwner ∧ (s.copyTo h addr data).kept.ref = s.kept.ref ∧ (s.copyTo h addr data).kept.delays = s.kept.delays ∧ (s.copyTo h addr data).kept.challenge = s.kept.challenge ∧ (s.copyTo h addr data).kept.errMin = s.kept.errMin := by
  simp [State.copyTo]

@[simp] theorem copyOut_keeps (s : State) (addr bufLen : Nat) (data res : List Byte) : (copyOut s addr bufLen data res).st.kept = s.kept := by
  simp [copyOut]

end Sys2Proof.Machine
end

