-- ==== Sys2Proof/Laws/Keeps/Platform.lean ====
section
/-!
SUPPORT. What the operations of Machine/Platform.lean leave as it was.
-/
set_option linter.all false
set_option linter.unusedTactic false
set_option linter.unreachableTactic false
namespace Sys2Proof.Machine

@[simp] theorem State.groupEnable_keeps (s : State) (n : Nat) (g : Group) (t : Stamp) : (s.groupEnable n g t).kept = s.kept := by
  unfold State.groupEnable
  (repeat' split) <;> simp

@[simp] theorem State.groupsAcquired_keeps (s : State) (tb : Nat) : (s.groupsAcquired tb).kept = s.kept := by
  unfold State.groupsAcquired
  (repeat' split) <;> simp

@[simp] theorem State.groupsLost_keeps (s : State) (tb : Nat) : (s.groupsLost tb).kept = s.kept := by
  simp [State.groupsLost]

@[simp] theorem groupStepped_keeps (tb : Nat) (b : Base) (a : State × Nat) (n : Nat) (g : Group) : (groupStepped tb b a n g).1.kept = a.1.kept := by
  unfold groupStepped
  (repeat' split) <;> simp

@[simp] theorem State.groupsStepped_keeps (s : State) (tb : Nat) : (s.groupsStepped tb).kept = s.kept := by
  unfold State.groupsStepped
  (try dsimp only)
  (repeat' split) <;> simp

@[simp] theorem State.groupReply_keeps (s : State) (n : Nat) (first : Option Nat) : (s.groupReply n first).st.kept = s.kept := by
  unfold State.groupReply
  (repeat' split) <;> simp

@[simp] theorem groupSet_keeps (s : State) (h : Pkt) (p : PltGroupSet) : (groupSet s h p).st.kept = s.kept := by
  simp [groupSet]

@[simp] theorem pltGroupSet_keeps (s : State) (h : Pkt) (p : PltGroupSet) : (pltGroupSet s h p).st.kept = s.kept := by
  simp [pltGroupSet]

@[simp] theorem pltGroupQuery_keeps (s : State) (n : Nat) : (pltGroupQuery s n).st.kept = s.kept := by
  unfold pltGroupQuery
  (repeat' split) <;> simp

@[simp] theorem pltChanPolicy_keeps (s : State) (h : Pkt) (p : PltChanPolicy) : (pltChanPolicy s h p).st.kept = s.kept := by
  simp [pltChanPolicy]

@[simp] theorem pltRingSet_keeps (s : State) (h : Pkt) (p : PltRingSet) : (pltRingSet s h p).st.kept = s.kept := by
  simp [pltRingSet]

@[simp] theorem State.ringConsWrite_keeps (s : State) (part ring value : Nat) : (s.ringConsWrite part ring value).kept = s.kept := by
  unfold State.ringConsWrite
  (repeat' split) <;> simp

@[simp] theorem pltOutSet_keeps (s : State) (h : Pkt) (p0 : PltOutSet) : (pltOutSet s h p0).st.kept = s.kept := by
  unfold pltOutSet
  (try dsimp only)
  (repeat' split) <;> simp

@[simp] theorem pltOutMap_keeps (s : State) (h : Pkt) (p : PltOutMap) : (pltOutMap s h p).st.kept = s.kept := by
  unfold pltOutMap
  (repeat' split) <;> simp

@[simp] theorem State.outCommand_keeps (s : State) (f : OutCommand) : (s.outCommand f).kept = s.kept := by
  unfold State.outCommand
  (repeat' split) <;> simp

@[simp] theorem pltHistoryRead_keeps (s : State) (h : Pkt) (p : PltHistoryRead) : (pltHistoryRead s h p).st.kept = s.kept := by
  unfold pltHistoryRead
  (repeat' split) <;> simp

@[simp] theorem State.stageOne_keeps (s : State) (x : Item) (c : Contract) : (s.stageOne x c).kept = s.kept := by
  simp [State.stageOne]

@[simp] theorem State.gateRelease_keeps (s : State) (f : Flow) (x : Item) : (s.gateRelease f x).kept = s.kept := by
  unfold State.gateRelease
  (try dsimp only)
  (repeat' split) <;> simp

@[simp] theorem State.gateHold_keeps (s : State) (stream : Nat) : (s.gateHold stream).kept = s.kept := by
  simp [State.gateHold]

@[simp] theorem State.platformWrite_keeps (s : State) (stream fsn : Nat) : (s.platformWrite stream fsn).kept = s.kept := by
  unfold State.platformWrite
  (try dsimp only)
  (repeat' split) <;> simp

@[simp] theorem State.departure_keeps (s : State) (n inst : Nat) : (s.departure n inst).kept = s.kept := by
  unfold State.departure
  (repeat' split) <;> simp

end Sys2Proof.Machine
end

