-- ==== Sys2Proof/Laws/Keeps/WaveOps.lean ====
section
/-!
SUPPORT. What the operations of Machine/WaveOps.lean leave as it was.
-/
set_option linter.all false
set_option linter.unusedTactic false
set_option linter.unreachableTactic false
namespace Sys2Proof.Machine

@[simp] theorem State.cmpTick_keeps (s : State) (n : Nat) (u : WUnit) (g : Geo) (outRate k : Nat) : (s.cmpTick n u g outRate k).kept = s.kept := by
  unfold State.cmpTick
  (repeat' split) <;> simp

@[simp] theorem State.cmpTicks_keeps (s : State) (n : Nat) (u : WUnit) (g : Geo) (outRate newest : Nat) : (s.cmpTicks n u g outRate newest).kept = s.kept := by
  unfold State.cmpTicks
  (repeat' split) <;> simp

@[simp] theorem State.unitSwitch_keeps (s : State) (n : Nat) (u : WUnit) (at_ : Nat) (channel : Bool) : (s.unitSwitch n u at_ channel).1.kept = s.kept := by
  simp [State.unitSwitch]

@[simp] theorem State.unitUnder_keeps (s : State) (n : Nat) (u : WUnit) (g : Geo) (k : Nat) : (s.unitUnder n u g k).1.kept = s.kept := by
  simp [State.unitUnder]

@[simp] theorem State.unitTrack_keeps (s : State) (n : Nat) (u : WUnit) (g : Geo) (outRate k : Nat) : (s.unitTrack n u g outRate k).1.kept = s.kept := by
  unfold State.unitTrack
  (try dsimp only)
  (repeat' split) <;> simp

@[simp] theorem State.unitWrite_keeps (s : State) (n id : Nat) (c : Contract) (g : Geo) (inst : Nat) (arrival : Stamp) : (s.unitWrite n id c g inst arrival).kept = s.kept := by
  unfold State.unitWrite
  (repeat' split) <;> simp

@[simp] theorem State.unitWrites_keeps (fuel : Nat) (s : State) (n newest : Nat) (arrival : Stamp) : (s.unitWrites fuel n newest arrival).kept = s.kept := by
  induction fuel generalizing s with
  | zero => simp [State.unitWrites]
  | succ k ih =>
    unfold State.unitWrites
    (repeat' split) <;> simp [ih]

@[simp] theorem State.meterTick_keeps (s : State) (mp : Nat) (m : Meter) (u : WUnit) (g : Geo) (outRate k : Nat) : (s.meterTick mp m u g outRate k).kept = s.kept := by
  unfold State.meterTick
  exact State.meterUpdate_keeps _ _ _ _ _ _ _

@[simp] theorem State.metersTick_keeps (s : State) (n : Nat) (u : WUnit) (g : Geo) (outRate k : Nat) : (s.metersTick n u g outRate k).kept = s.kept := by
  simp [State.metersTick]

@[simp] theorem State.wideTick_keeps (s : State) (n : Nat) (u : WUnit) (g : Geo) (k : Nat) : (s.wideTick n u g k).kept = s.kept := by
  simp [State.wideTick]

@[simp] theorem State.tapSample_keeps (s : State) (e : Nat × HxTap) (u : WUnit) (sv : Nat) (x : SampleRec) : (s.tapSample e u sv x).kept = s.kept := by
  unfold State.tapSample
  (try dsimp only)
  (repeat' split) <;> simp

@[simp] theorem State.tapFeed_keeps (s : State) (n : Nat) (u : WUnit) (sv : Nat) (x : SampleRec) : (s.tapFeed n u sv x).kept = s.kept := by
  simp [State.tapFeed]

@[simp] theorem State.unitTick_keeps (s : State) (n k : Nat) (c : Contract) : (s.unitTick n k c).kept = s.kept := by
  unfold State.unitTick
  (repeat' split) <;> simp

@[simp] theorem State.unitSample_keeps (s : State) (n : Nat) (x : SampleRec) : (s.unitSample n x).kept = s.kept := by
  unfold State.unitSample
  split
  · simp
  · split
    · extract_lets g gap was skipped fresh first back excess filled s1 s2 s3 cic clear u1 r s4 s5
      have e1 : s1.kept = s.kept := by simp only [s1]; split <;> simp
      have e2 : s2.kept = s.kept := by simp only [s2]; split <;> simp [e1]
      have e3 : s3.kept = s.kept := by simp only [s3]; split <;> simp [e2]
      have e4 : r.1.kept = s.kept := by simp only [r]; split <;> simp [e3]
      have e5 : s4.kept = s.kept := by simp [s4, e4]
      have e6 : s5.kept = s.kept := by simp only [s5]; split <;> simp [e5]
      simp [e6]
    · simp

@[simp] theorem State.unitDrain_keeps (fuel : Nat) (s : State) (n : Nat) : (s.unitDrain fuel n).kept = s.kept := by
  induction fuel generalizing s with
  | zero => simp [State.unitDrain]
  | succ k ih =>
    unfold State.unitDrain
    (repeat' split) <;> simp [ih]

@[simp] theorem State.unitPush_keeps (s : State) (n : Nat) (x : SampleRec) : (s.unitPush n x).kept = s.kept := by
  unfold State.unitPush
  (try dsimp only)
  (repeat' split) <;> simp

@[simp] theorem State.waveSample_keeps (s : State) (stream : Nat) (x : SampleRec) : (s.waveSample stream x).kept = s.kept := by
  unfold State.waveSample
  (try dsimp only)
  (repeat' split) <;> simp

@[simp] theorem State.unitRestart_keeps (s : State) (n : Nat) : (s.unitRestart n).kept = s.kept := by
  unfold State.unitRestart
  (repeat' split) <;> simp

@[simp] theorem State.unitFault_keeps (s : State) (n detail : Nat) : (s.unitFault n detail).kept = s.kept := by
  simp [State.unitFault]

end Sys2Proof.Machine
end

