-- ==== Sys2Proof/Laws/Keeps/Waveform.lean ====
section
/-!
SUPPORT. What the operations of Machine/Waveform.lean leave as it was.
-/
set_option linter.all false
set_option linter.unusedTactic false
set_option linter.unreachableTactic false
namespace Sys2Proof.Machine

@[simp] theorem State.unitReply_keeps (s : State) (p : WchUnitSet) (sv : Nat) (outRate : Option Nat) : (s.unitReply p sv outRate).st.kept = s.kept := by
  simp [State.unitReply]

@[simp] theorem wchUnitSet_keeps (s : State) (h : Pkt) (p0 : WchUnitSet) : (wchUnitSet s h p0).st.kept = s.kept := by
  simp [wchUnitSet]

@[simp] theorem wchUnitQuery_keeps (s : State) (h : Pkt) (n : Nat) : (wchUnitQuery s h n).st.kept = s.kept := by
  unfold wchUnitQuery
  (repeat' split) <;> simp

@[simp] theorem wchCmpSet_keeps (s : State) (h : Pkt) (p : WchCmpSet) : (wchCmpSet s h p).st.kept = s.kept := by
  simp [wchCmpSet]

@[simp] theorem wchCmpRead_keeps (s : State) (h : Pkt) (p : WchCmpRead) : (wchCmpRead s h p).st.kept = s.kept := by
  simp [wchCmpRead]

@[simp] theorem wchHxSet_keeps (s : State) (h : Pkt) (p : WchHxSet) : (wchHxSet s h p).st.kept = s.kept := by
  simp [wchHxSet]

end Sys2Proof.Machine
end

