-- ==== Sys2Proof/Laws/Keeps/PortRxOps.lean ====
section
/-!
SUPPORT. What the operations of Machine/PortRxOps.lean leave as it was.
-/
set_option linter.all false
set_option linter.unusedTactic false
set_option linter.unreachableTactic false
namespace Sys2Proof.Machine

@[simp] theorem State.portCounts_keeps (s : State) (p : Nat) (l : List Nat) : (s.portCounts p l).kept = s.kept := by
  simp [State.portCounts]

@[simp] theorem State.rxDrop_keeps (s : State) (p n : Nat) : (s.rxDrop p n).kept = s.kept := by
  simp [State.rxDrop]

@[simp] theorem State.rxPut_keeps (s : State) (p : Nat) (r : HostRing) (d : RxDelivery) (data : List Byte) : (s.rxPut p r d data).kept = s.kept := by
  simp [State.rxPut]

@[simp] theorem State.hostDeliver_keeps (s : State) (p part len : Nat) (tagged unmatched : Bool) (arrival : Stamp) (data : List Byte) :
    (s.hostDeliver p part len tagged unmatched arrival data).kept = s.kept := by
  unfold State.hostDeliver
  (try dsimp only)
  (repeat' split) <;> simp

@[simp] theorem State.flushQueue_keeps (s : State) (p q : Nat) : (s.flushQueue p q).kept = s.kept := by
  simp [State.flushQueue]

@[simp] theorem State.linkDownOp_keeps (s : State) (p reason : Nat) : (s.linkDownOp p reason).kept = s.kept := by
  unfold State.linkDownOp
  (try dsimp only)
  (repeat' split) <;> simp

@[simp] theorem State.linkUpOp_keeps (s : State) (p speed : Nat) (full fec : Bool) : (s.linkUpOp p speed full fec).kept = s.kept := by
  unfold State.linkUpOp
  (try dsimp only)
  split <;> (repeat' split) <;> simp

@[simp] theorem State.pauseReceived_keeps (s : State) (f : RxFrame) (quanta : Nat) : (s.pauseReceived f quanta).kept = s.kept := by
  unfold State.pauseReceived
  (try dsimp only)
  (repeat' split) <;> simp

@[simp] theorem State.sendPause_keeps (s : State) (p quanta : Nat) : (s.sendPause p quanta).kept = s.kept := by
  unfold State.sendPause
  (try dsimp only)
  (repeat' split) <;> simp

@[simp] theorem State.xoffCheck_keeps (s : State) (p : Nat) : (s.xoffCheck p).kept = s.kept := by
  unfold State.xoffCheck
  (try dsimp only)
  (repeat' split) <;> simp

@[simp] theorem State.ingestPull_keeps (s : State) (p : Nat) : (s.ingestPull p).kept = s.kept := by
  unfold State.ingestPull
  (try dsimp only)
  (repeat' split) <;> simp

@[simp] theorem State.ingestPulls_keeps (s : State) : (s.ingestPulls).kept = s.kept := by
  simp [State.ingestPulls]

@[simp] theorem State.rxEnqueue_keeps (s : State) (p len : Nat) (station : Option Nat) (stream : Option Nat) (tagged : Bool) : (s.rxEnqueue p len station stream tagged).kept = s.kept := by
  unfold State.rxEnqueue
  (try dsimp only)
  (repeat' split) <;> simp

@[simp] theorem State.rxTake_keeps (s : State) (h : FrameHdr) : (s.rxTake h).kept = s.kept := by
  unfold State.rxTake
  (try dsimp only)
  (repeat' split) <;> simp

@[simp] theorem State.sideEnqueue_keeps (s : State) (p : Nat) : (s.sideEnqueue p).kept = s.kept := by
  simp [State.sideEnqueue]

@[simp] theorem State.sideTake_keeps (s : State) (p : Nat) : (s.sideTake p).kept = s.kept := by
  simp [State.sideTake]

@[simp] theorem State.sideThrough_keeps (s : State) (p : Nat) (next : State → State) (h : ∀ s : State, (next s).kept = s.kept) : (s.sideThrough p next).kept = s.kept := by
  unfold State.sideThrough
  split <;> simp [h]

@[simp] theorem State.portFaultAt_keeps (s : State) (p part detail : Nat) : (s.portFaultAt p part detail).kept = s.kept := by
  simp [State.portFaultAt]

@[simp] theorem State.portFault_keeps (s : State) (p part : Nat) : (s.portFault p part).kept = s.kept := by
  simp [State.portFault]

end Sys2Proof.Machine
end

