-- ==== Sys2Proof/Laws/Keeps/Ports.lean ====
section
/-!
SUPPORT. What the operations of Machine/Ports.lean leave as it was.
-/
set_option linter.all false
set_option linter.unusedTactic false
set_option linter.unreachableTactic false
namespace Sys2Proof.Machine

@[simp] theorem prtModeSet_keeps (s : State) (p0 : PrtModeSet) (h : Pkt) : (prtModeSet s p0 h).st.kept = s.kept := by
  simp [prtModeSet]

@[simp] theorem prtAddrSet_keeps (s : State) (p : PrtAddrSet) (h : Pkt) : (prtAddrSet s p h).st.kept = s.kept := by
  simp [prtAddrSet]

@[simp] theorem prtFilterSet_keeps (s : State) (p : PrtFilterSet) (h : Pkt) : (prtFilterSet s p h).st.kept = s.kept := by
  simp [prtFilterSet]

@[simp] theorem prtRxringSet_keeps (s : State) (p : PrtRingSet) (h : Pkt) : (prtRxringSet s p h).st.kept = s.kept := by
  simp [prtRxringSet]

@[simp] theorem State.dropHostFrames_keeps (s : State) (p part : Nat) (told : Bool) : (s.dropHostFrames p part told).kept = s.kept := by
  cases told <;> simp [State.dropHostFrames]

@[simp] theorem prtTxringSet_keeps (s : State) (p : PrtRingSet) (h : Pkt) : (prtTxringSet s p h).st.kept = s.kept := by
  simp [prtTxringSet]

@[simp] theorem prtTxqSet_keeps (s : State) (p : PrtTxqSet) (h : Pkt) : (prtTxqSet s p h).st.kept = s.kept := by
  simp [prtTxqSet]

@[simp] theorem prtQuery_keeps (s : State) (h : Pkt) (p : Nat) : (prtQuery s h p).st.kept = s.kept := by
  simp [prtQuery]

@[simp] theorem prtCntRead_keeps (s : State) (h : Pkt) (p : Nat) : (prtCntRead s h p).st.kept = s.kept := by
  simp [prtCntRead]

@[simp] theorem State.rxTailWrite_keeps (s : State) (part port : Nat) (post : RxPost) : (s.rxTailWrite part port post).kept = s.kept := by
  simp [State.rxTailWrite]

@[simp] theorem State.classify_keeps (s : State) (f : RxFrame) : (s.classify f).kept = s.kept := by
  unfold State.classify
  (try dsimp only)
  (repeat' split) <;> simp

@[simp] theorem State.rxFrame_keeps (s : State) (f : RxFrame) : (s.rxFrame f).kept = s.kept := by
  unfold State.rxFrame
  (try dsimp only)
  (repeat' split) <;> simp

@[simp] theorem State.pauseBegins_keeps (s : State) (p : Nat) : (s.pauseBegins p).kept = s.kept := by
  unfold State.pauseBegins
  (repeat' split) <;> simp

@[simp] theorem State.txFrameEnd_keeps (s : State) (p : Nat) (csLost damaged : Bool) : (s.txFrameEnd p csLost damaged).kept = s.kept := by
  unfold State.txFrameEnd
  (try dsimp only)
  (repeat' split) <;> simp

@[simp] theorem State.txCollision_keeps (s : State) (p : Nat) (late : Bool) : (s.txCollision p late).kept = s.kept := by
  unfold State.txCollision
  (try dsimp only)
  (repeat' split) <;> simp

end Sys2Proof.Machine
end

