-- ==== Sys2Proof/Laws/Keeps/IngestOps.lean ====
section
/-!
SUPPORT. What the operations of Machine/IngestOps.lean leave as it was.
-/
set_option linter.all false
set_option linter.unusedTactic false
set_option linter.unreachableTactic false
namespace Sys2Proof.Machine

@[simp] theorem State.discard_keeps (s : State) (st : Nat) (d : Discard) : (s.discard st d).kept = s.kept := by
  simp [State.discard]

@[simp] theorem State.discardConfig_keeps (s : State) (st : Nat) (d : Discard) : (s.discardConfig st d).kept = s.kept := by
  simp [State.discardConfig]

@[simp] theorem State.unmatched_keeps (s : State) (h : FrameHdr) (tagged : Bool) : (s.unmatched h tagged).kept = s.kept := by
  simp [State.unmatched]

@[simp] theorem State.rotateKey_keeps (s : State) (st : Nat) : (s.rotateKey st).kept = s.kept := by
  unfold State.rotateKey
  (repeat' split) <;> simp

@[simp] theorem State.nextKeySeen_keeps (s : State) (st slot : Nat) (e : IngSubSet) : (s.nextKeySeen st slot e).kept = s.kept := by
  simp [State.nextKeySeen]

@[simp] theorem State.authFailed_keeps (s : State) (part : Nat) : (s.authFailed part).kept = s.kept := by
  simp [State.authFailed]

@[simp] theorem State.dupEnter_keeps (s : State) (redundant : Bool) (h : FrameHdr) : (s.dupEnter redundant h).kept = s.kept := by
  unfold State.dupEnter
  (repeat' split) <;> simp

@[simp] theorem State.pmuSend_keeps (s : State) (st : Nat) (e : IngSubSet) (c : Nat) : (s.pmuSend st e c).kept = s.kept := by
  simp [State.pmuSend]

@[simp] theorem State.pmuAuto_keeps (s : State) (st c : Nat) : (s.pmuAuto st c).kept = s.kept := by
  unfold State.pmuAuto
  (repeat' split) <;> simp

@[simp] theorem State.pmuPair_keeps (s : State) (st : Nat) : (s.pmuPair st).kept = s.kept := by
  unfold State.pmuPair
  (repeat' split) <;> simp

@[simp] theorem State.activate_keeps (s : State) (id : Nat) : (s.activate id).kept = s.kept := by
  unfold State.activate
  (try dsimp only)
  (repeat' split) <;> simp

@[simp] theorem State.acceptFrame_keeps (s : State) (st id : Nat) (arrival : Stamp) : (s.acceptFrame st id arrival).kept = s.kept := by
  simp [State.acceptFrame]

@[simp] theorem State.setStation_keeps (s : State) (n : Nat) (x : Station) : (s.setStation n x).kept = s.kept := by
  simp [State.setStation]

@[simp] theorem State.stationDrop_keeps (s : State) (n : Nat) (x : Station) : (s.stationDrop n x).kept = s.kept := by
  simp [State.stationDrop]

@[simp] theorem State.stationRecover_keeps (s : State) (n : Nat) (x : Station) : (s.stationRecover n x).kept = s.kept := by
  simp [State.stationRecover]

@[simp] theorem State.stationFrame_keeps (s : State) (n : Nat) (x0 : Station) (f : GooseFrame) : (s.stationFrame n x0 f).kept = s.kept := by
  unfold State.stationFrame
  (try dsimp only)
  (repeat' split) <;> simp

@[simp] theorem State.stationBad_keeps (s : State) (n : Nat) (x : Station) : (s.stationBad n x).kept = s.kept := by
  simp [State.stationBad]

end Sys2Proof.Machine
end

