-- ==== Sys2Proof/Laws/Keeps/Ingest.lean ====
section
/-!
SUPPORT. What the operations of Machine/Ingest.lean leave as it was.
-/
set_option linter.all false
set_option linter.unusedTactic false
set_option linter.unreachableTactic false
namespace Sys2Proof.Machine

@[simp] theorem State.subWrite_keeps (s : State) (p : IngSubSet) : (s.subWrite p).kept = s.kept := by
  simp [State.subWrite]

@[simp] theorem ingSubSet_keeps (s : State) (h : Pkt) (p0 : IngSubSet) : (ingSubSet s h p0).st.kept = s.kept := by
  simp [ingSubSet]

@[simp] theorem State.subDrop_keeps (s : State) (st : Nat) : (s.subDrop st).kept = s.kept := by
  simp [State.subDrop]

@[simp] theorem ingSubClear_keeps (s : State) (h : Pkt) (st : Nat) : (ingSubClear s h st).st.kept = s.kept := by
  simp [ingSubClear]

@[simp] theorem State.layoutSet_keeps (s : State) (st : Nat) (l : Layout) : (s.layoutSet st l).kept = s.kept := by
  simp [State.layoutSet]

@[simp] theorem ingSetLayout_keeps (s : State) (h : Pkt) (p : IngSetLayout) : (ingSetLayout s h p).st.kept = s.kept := by
  simp [ingSetLayout]

@[simp] theorem ingPmuCmd_keeps (s : State) (h : Pkt) (p : IngPmuCmd) : (ingPmuCmd s h p).st.kept = s.kept := by
  unfold ingPmuCmd
  (repeat' split) <;> simp

@[simp] theorem ingGetConfig_keeps (s : State) (h : Pkt) (p : IngGetConfig) : (ingGetConfig s h p).st.kept = s.kept := by
  unfold ingGetConfig
  (repeat' split) <;> simp

@[simp] theorem ingStreamStats_keeps (s : State) (h : Pkt) (p : IngStreamStats) : (ingStreamStats s h p).st.kept = s.kept := by
  simp [ingStreamStats]

@[simp] theorem State.stationWrite_keeps (s : State) (n : Nat) (p : IngGooseSub) : (s.stationWrite n p).kept = s.kept := by
  unfold State.stationWrite
  (try dsimp only)
  (repeat' split) <;> simp

@[simp] theorem ingGooseSub_keeps (s : State) (h : Pkt) (p0 : IngGooseSub) : (ingGooseSub s h p0).st.kept = s.kept := by
  simp [ingGooseSub]

end Sys2Proof.Machine
end

