-- ==== Sys2Proof/Laws/Keeps/IngestFrames.lean ====
section
/-!
SUPPORT. What the operations of Machine/IngestFrames.lean leave as it was.
-/
set_option linter.all false
set_option linter.unusedTactic false
set_option linter.unreachableTactic false
namespace Sys2Proof.Machine

@[simp] theorem State.subSecure_keeps (s : State) (st : Nat) (e : IngSubSet) (h : FrameHdr) (sec : SpduSec) : (s.subSecure st e h sec).1.kept = s.kept := by
  unfold State.subSecure
  (try dsimp only)
  (repeat' split) <;> simp

@[simp] theorem State.simNoted_keeps (s : State) (st : Nat) (e : IngSubSet) (sim : Bool) : (s.simNoted st e sim).kept = s.kept := by
  simp [State.simNoted]

@[simp] theorem State.subPasses_keeps (s : State) (st : Nat) (e : IngSubSet) (h : FrameHdr) (sim : Bool) : (s.subPasses st e h sim).1.kept = s.kept := by
  simp [State.subPasses]

@[simp] theorem State.statWords_keeps (s : State) (st : Nat) (f : DataFrame) : (s.statWords st f).kept = s.kept := by
  simp [State.statWords]

@[simp] theorem State.confRevCheck_keeps (s : State) (st : Nat) (e : IngSubSet) (rev : Nat) : (s.confRevCheck st e rev).1.kept = s.kept := by
  unfold State.confRevCheck
  (try dsimp only)
  (repeat' split) <;> simp

@[simp] theorem State.frameMismatch_keeps (s : State) (st reason : Nat) (inst : Option Nat) : (s.frameMismatch st reason inst).kept = s.kept := by
  simp [State.frameMismatch]

@[simp] theorem State.timeReject_keeps (s : State) (st : Nat) : (s.timeReject st).kept = s.kept := by
  simp [State.timeReject]

@[simp] theorem State.dataCarried_keeps (s : State) (st : Nat) (e : IngSubSet) (id : Nat) (c : Contract) (f : DataFrame) : (s.dataCarried st e id c f).kept = s.kept := by
  unfold State.dataCarried
  (try dsimp only)
  (repeat' split) <;> simp

@[simp] theorem State.dataAsdus_keeps (s : State) (st : Nat) (e : IngSubSet) (id : Nat) (c : Contract) (f : DataFrame) : (s.dataAsdus st e id c f).kept = s.kept := by
  simp [State.dataAsdus]

@[simp] theorem State.dataOf_keeps (s : State) (st : Nat) (e : IngSubSet) (f : DataFrame) : (s.dataOf st e f).kept = s.kept := by
  unfold State.dataOf
  (try dsimp only)
  (repeat' split) <;> simp

@[simp] theorem State.takeUnmatched_keeps (s : State) (h : FrameHdr) : (s.takeUnmatched h).kept = s.kept := by
  unfold State.takeUnmatched
  (try dsimp only)
  (repeat' split) <;> simp

@[simp] theorem State.dataFrame_keeps (s : State) (f : DataFrame) : (s.dataFrame f).kept = s.kept := by
  unfold State.dataFrame
  (repeat' split) <;> simp

@[simp] theorem State.configMalformed_keeps (s : State) (st tb : Nat) (f : ConfigFrame) : (s.configMalformed st tb f).kept = s.kept := by
  unfold State.configMalformed
  (repeat' split) <;> simp

@[simp] theorem State.configLayout_keeps (s : State) (st tb : Nat) (l : Layout) (f : ConfigFrame) : (s.configLayout st tb l f).kept = s.kept := by
  unfold State.configLayout
  (try dsimp only)
  (repeat' split) <;> simp

@[simp] theorem State.configTake_keeps (s : State) (st : Nat) (e : IngSubSet) (f : ConfigFrame) : (s.configTake st e f).kept = s.kept := by
  unfold State.configTake
  (repeat' split) <;> simp

@[simp] theorem State.configPart_keeps (s : State) (st : Nat) (e : IngSubSet) (f : ConfigFrame) : (s.configPart st e f).kept = s.kept := by
  unfold State.configPart
  (try dsimp only)
  (repeat' split) <;> simp

@[simp] theorem State.configOf_keeps (s : State) (st : Nat) (e : IngSubSet) (f : ConfigFrame) : (s.configOf st e f).kept = s.kept := by
  simp [State.configOf]

@[simp] theorem State.configFrame_keeps (s : State) (f : ConfigFrame) : (s.configFrame f).kept = s.kept := by
  unfold State.configFrame
  (try dsimp only)
  (repeat' split) <;> simp

@[simp] theorem State.svRevs_keeps (s : State) (st : Nat) (e : IngSubSet) (l : List SvAsdu) : (s.svRevs st e l).1.kept = s.kept := by
  exact fold1_kept _ (fun b a => by simp) l (s, false)

@[simp] theorem State.svCarried_keeps (s : State) (st : Nat) (e : IngSubSet) (id : Nat) (c : Contract) (f : SvFrame) : (s.svCarried st e id c f).kept = s.kept := by
  unfold State.svCarried
  (try dsimp only)
  (repeat' split) <;> simp

@[simp] theorem State.svOf_keeps (s : State) (st : Nat) (e : IngSubSet) (f : SvFrame) : (s.svOf st e f).kept = s.kept := by
  unfold State.svOf
  (try dsimp only)
  (repeat' split) <;> simp

@[simp] theorem State.svFrame_keeps (s : State) (f : SvFrame) : (s.svFrame f).kept = s.kept := by
  unfold State.svFrame
  (repeat' split) <;> simp

@[simp] theorem State.stationDiscard_keeps (s : State) (n : Nat) (x : Station) (d : Discard) : (s.stationDiscard n x d).kept = s.kept := by
  simp [State.stationDiscard]

@[simp] theorem State.stationEvent_keeps (s : State) (n src : Nat) : (s.stationEvent n src).kept = s.kept := by
  simp [State.stationEvent]

@[simp] theorem State.stationSecure_keeps (s : State) (n : Nat) (x : Station) (f : GooseFrame) : (s.stationSecure n x f).1.kept = s.kept := by
  unfold State.stationSecure
  (try dsimp only)
  (repeat' split) <;> simp

@[simp] theorem State.stationPasses_keeps (s : State) (n : Nat) (x : Station) (f : GooseFrame) : (s.stationPasses n x f).kept = s.kept := by
  simp [State.stationPasses]

@[simp] theorem State.gooseFrame_keeps (s : State) (f : GooseFrame) : (s.gooseFrame f).kept = s.kept := by
  unfold State.gooseFrame
  (try dsimp only)
  (repeat' split) <;> simp

@[simp] theorem State.pmuDeferred_keeps (s : State) (st : Nat) : (s.pmuDeferred st).kept = s.kept := by
  unfold State.pmuDeferred
  (try dsimp only)
  (repeat' split) <;> simp

@[simp] theorem State.pmuRestart_keeps (s : State) (st : Nat) : (s.pmuRestart st).kept = s.kept := by
  simp [State.pmuRestart]

@[simp] theorem State.suspend_keeps (s : State) (id : Nat) (c : Contract) : (s.suspend id c).kept = s.kept := by
  simp [State.suspend]

@[simp] theorem State.silenceCheck_keeps (s : State) : s.silenceCheck.kept = s.kept := by
  simp [State.silenceCheck]

@[simp] theorem State.dupForget_keeps (s : State) : s.dupForget.kept = s.kept := by
  simp [State.dupForget]

@[simp] theorem State.talExpiry_keeps (s : State) (n : Nat) : (s.talExpiry n).kept = s.kept := by
  unfold State.talExpiry
  (repeat' split) <;> simp

@[simp] theorem State.waitExpiry_keeps (s : State) (n : Nat) : (s.waitExpiry n).kept = s.kept := by
  unfold State.waitExpiry
  (repeat' split) <;> simp

end Sys2Proof.Machine
end

