-- ==== Sys2Proof/Laws/Keeps/Metering.lean ====
section
/-!
SUPPORT. What the operations of Machine/Metering.lean leave as it was.
-/
set_option linter.all false
set_option linter.unusedTactic false
set_option linter.unreachableTactic false
namespace Sys2Proof.Machine

@[simp] theorem State.accClear_keeps (s : State) (n : Nat) : (s.accClear n).kept = s.kept := by
  simp [State.accClear]

@[simp] theorem nrgPointSet_keeps (s : State) (h : Pkt) (p : NrgPointSet) : (nrgPointSet s h p).st.kept = s.kept := by
  simp [nrgPointSet]

@[simp] theorem nrgPointRead_keeps (s : State) (h : Pkt) (n : Nat) : (nrgPointRead s h n).st.kept = s.kept := by
  simp [nrgPointRead]

@[simp] theorem nrgAccClear_keeps (s : State) (h : Pkt) (n : Nat) : (nrgAccClear s h n).st.kept = s.kept := by
  simp [nrgAccClear]

@[simp] theorem nrgPiSet_keeps (s : State) (h : Pkt) (p0 : NrgPiSet) : (nrgPiSet s h p0).st.kept = s.kept := by
  simp [nrgPiSet]

@[simp] theorem State.piLevel_keeps (s : State) (n : Nat) (level : Bool) : (s.piLevel n level).kept = s.kept := by
  unfold State.piLevel
  (try dsimp only)
  (repeat' split) <;> simp

@[simp] theorem State.piCheck_keeps (s : State) (n : Nat) : (s.piCheck n).kept = s.kept := by
  unfold State.piCheck
  (repeat' split) <;> simp

@[simp] theorem nrgPoSet_keeps (s : State) (h : Pkt) (p0 : NrgPoSet) : (nrgPoSet s h p0).st.kept = s.kept := by
  simp [nrgPoSet]

@[simp] theorem State.poPhaseEnd_keeps (s : State) (n : Nat) : (s.poPhaseEnd n).kept = s.kept := by
  unfold State.poPhaseEnd
  (repeat' split) <;> simp

end Sys2Proof.Machine
end

