-- ==== Sys2Proof/Laws/Keeps/Oscillation.lean ====
section
/-!
SUPPORT. What the operations of Machine/Oscillation.lean leave as it was.
-/
set_option linter.all false
set_option linter.unusedTactic false
set_option linter.unreachableTactic false
namespace Sys2Proof.Machine

@[simp] theorem State.detQueue_keeps (s : State) (p : OscDetSet) (t : Stamp) : (s.detQueue p t).kept = s.kept := by
  simp [State.detQueue]

@[simp] theorem oscDetSet_keeps (s : State) (h : Pkt) (p : OscDetSet) : (oscDetSet s h p).st.kept = s.kept := by
  simp [oscDetSet]

@[simp] theorem oscDetRead_keeps (s : State) (h : Pkt) (p : OscDetRead) : (oscDetRead s h p).st.kept = s.kept := by
  simp [oscDetRead]

@[simp] theorem oscModalSet_keeps (s : State) (h : Pkt) (p0 : OscModalSet) : (oscModalSet s h p0).st.kept = s.kept := by
  simp [oscModalSet]

@[simp] theorem oscSigSet_keeps (s : State) (h : Pkt) (p : OscSigSet) : (oscSigSet s h p).st.kept = s.kept := by
  simp [oscSigSet]

@[simp] theorem oscModeRead_keeps (s : State) (h : Pkt) (p : BufRead) : (oscModeRead s h p).st.kept = s.kept := by
  simp [oscModeRead]

@[simp] theorem State.modalEvent_keeps (s : State) (src id band : Nat) (byRetire : optParam Bool false) : (s.modalEvent src id band byRetire).kept = s.kept := by
  simp [State.modalEvent]

@[simp] theorem State.sigsJudge_keeps (s : State) (p : OscModalSet) (e : Int) : (s.sigsJudge p e).kept = s.kept := by
  simp [State.sigsJudge]

@[simp] theorem State.modeVerdict_keeps (s : State) (p : OscModalSet) (slot : Nat) (m : Mode) : (s.modeVerdict p slot m).kept = s.kept := by
  simp [State.modeVerdict]

@[simp] theorem State.modeRetire_keeps (s : State) (slot : Nat) (m : Mode) : (s.modeRetire slot m).kept = s.kept := by
  simp [State.modeRetire]

@[simp] theorem State.modeMissed_keeps (s : State) (slot : Nat) (m : Mode) : (s.modeMissed slot m).kept = s.kept := by
  simp [State.modeMissed]

@[simp] theorem State.modeBorn_keeps (s : State) (p : OscModalSet) (r e : Int) (c : ModalCand) : (s.modeBorn p r e c).kept = s.kept := by
  unfold State.modeBorn
  (repeat' split) <;> simp

@[simp] theorem State.modeBirth_keeps (s : State) (p : OscModalSet) (r e : Int) (c : ModalCand) : (s.modeBirth p r e c).kept = s.kept := by
  unfold State.modeBirth
  (repeat' split) <;> simp

@[simp] theorem State.modeJudge_keeps (s : State) (p : OscModalSet) (e : Int) (ms : List Match) (cs : List ModalCand) (slot : Nat) (m : Mode) : (s.modeJudge p e ms cs slot m).kept = s.kept := by
  unfold State.modeJudge
  (repeat' split) <;> simp

@[simp] theorem State.bandModes_keeps (s : State) (p : OscModalSet) (r e : Int) (cands : List ModalCand) : (s.bandModes p r e cands).kept = s.kept := by
  simp [State.bandModes]

@[simp] theorem State.bandRefresh_keeps (s : State) (p : OscModalSet) (r : Int) (blocks : Nat) : (s.bandRefresh p r blocks).kept = s.kept := by
  simp [State.bandRefresh]

@[simp] theorem State.pairOne_keeps (s : State) (was : Table Mode) (x : PairCand) : (s.pairOne was x).kept = s.kept := by
  unfold State.pairOne
  (repeat' split) <;> simp

@[simp] theorem State.pairModes_keeps (s : State) (p : OscModalSet) : (s.pairModes p).kept = s.kept := by
  unfold State.pairModes
  (repeat' split) <;> simp

@[simp] theorem State.modalFree_keeps (s : State) (src band : Nat) : (s.modalFree src band).kept = s.kept := by
  simp [State.modalFree]

@[simp] theorem State.modalRefresh_keeps (s : State) (blocks : Nat) : (s.modalRefresh blocks).kept = s.kept := by
  unfold State.modalRefresh
  (try dsimp only)
  (repeat' split) <;> simp

@[simp] theorem State.modalDiscard_keeps (s : State) : s.modalDiscard.kept = s.kept := by
  simp [State.modalDiscard]

@[simp] theorem State.modalOverrun_keeps (s : State) : s.modalOverrun.kept = s.kept := by
  simp [State.modalOverrun]

@[simp] theorem State.detRestart_keeps (s : State) (n : Nat) : (s.detRestart n).kept = s.kept := by
  unfold State.detRestart
  (repeat' split) <;> simp

@[simp] theorem State.detFault_keeps (s : State) (n detail : Nat) : (s.detFault n detail).kept = s.kept := by
  simp [State.detFault]

end Sys2Proof.Machine
end

