-- ==== Sys2Proof/Laws/Keeps/Coherency.lean ====
section
/-!
SUPPORT. What the operations of Machine/Coherency.lean leave as it was.
-/
set_option linter.all false
set_option linter.unusedTactic false
set_option linter.unreachableTactic false
namespace Sys2Proof.Machine

@[simp] theorem cohSetCmd_keeps (s : State) (h : Pkt) (p0 : CohSet) : (cohSetCmd s h p0).st.kept = s.kept := by
  simp [cohSetCmd]

@[simp] theorem cohBusSet_keeps (s : State) (h : Pkt) (p : CohBusSet) : (cohBusSet s h p).st.kept = s.kept := by
  simp [cohBusSet]

@[simp] theorem cohIslandRead_keeps (s : State) (h : Pkt) (p : BufRead) : (cohIslandRead s h p).st.kept = s.kept := by
  simp [cohIslandRead]

@[simp] theorem cohBusRead_keeps (s : State) (h : Pkt) (p : CohBusRead) : (cohBusRead s h p).st.kept = s.kept := by
  simp [cohBusRead]

@[simp] theorem State.cohRedecide_keeps (s : State) (inst : Nat) : (s.cohRedecide inst).kept = s.kept := by
  simp [State.cohRedecide]

@[simp] theorem State.cohDiscard_keeps (s : State) (fault : Bool) : (s.cohDiscard fault).kept = s.kept := by
  simp [State.cohDiscard]

end Sys2Proof.Machine
end

