-- ==== Sys2Proof/Laws/Keeps/RecordOps.lean ====
section
/-!
SUPPORT. What the operations of Machine/RecordOps.lean leave as it was.
-/
set_option linter.all false
set_option linter.unusedTactic false
set_option linter.unreachableTactic false
namespace Sys2Proof.Machine

@[simp] theorem State.recIdle_keeps (s : State) (n : Nat) (r : Rec) (st : RecState) : (s.recIdle n r st).kept = s.kept := by
  unfold State.recIdle
  (try dsimp only)
  (repeat' split) <;> simp

@[simp] theorem State.recNext_keeps (s : State) (n : Nat) : (s.recNext n).kept = s.kept := by
  unfold State.recNext
  (repeat' split) <;> first | (simp; done) | (rename_i h; have := State.recRoom_keeps _ _ _ h; simp [this])

@[simp] theorem State.recComplete_keeps (s : State) (n : Nat) : (s.recComplete n).kept = s.kept := by
  unfold State.recComplete
  (repeat' split) <;> simp

end Sys2Proof.Machine
end

