-- ==== Sys2Proof/Laws/Keeps/Recorders.lean ====
section
/-!
SUPPORT. What the operations of Machine/Recorders.lean leave as it was.
-/
set_option linter.all false
set_option linter.unusedTactic false
set_option linter.unreachableTactic false
namespace Sys2Proof.Machine

@[simp] theorem recSet_keeps (s0 : State) (h : Pkt) (p0 : RecSet) : (recSet s0 h p0).st.kept = s0.kept := by
  simp [recSet]

@[simp] theorem recChanSet_keeps (s : State) (h : Pkt) (p : RecChanSet) : (recChanSet s h p).st.kept = s.kept := by
  simp [recChanSet]

@[simp] theorem recCondSet_keeps (s : State) (h : Pkt) (p : RecCondSet) : (recCondSet s h p).st.kept = s.kept := by
  simp [recCondSet]

@[simp] theorem recArm_keeps (s0 : State) (h : Pkt) (p : RecArm) : (recArm s0 h p).st.kept = s0.kept := by
  unfold recArm
  (try dsimp only)
  (repeat' split) <;> simp

@[simp] theorem recQuery_keeps (s : State) (h : Pkt) (n : Nat) : (recQuery s h n).st.kept = s.kept := by
  simp [recQuery]

@[simp] theorem recExport_keeps (s : State) (h : Pkt) (p : RecExport) : (recExport s h p).st.kept = s.kept := by
  unfold recExport
  (try dsimp only)
  (repeat' split) <;> simp

@[simp] theorem State.recExportDone_keeps (s : State) (n slot : Nat) : (s.recExportDone n slot).kept.pending = s.kept.pending ∧ (s.recExportDone n slot).kept.life = s.kept.life ∧ (s.recExportDone n slot).kept.lifeLog = s.kept.lifeLog ∧ (s.recExportDone n slot).kept.ownerHash = s.kept.ownerHash ∧ (s.recExportDone n slot).kept.minSvn = s.kept.minSvn ∧ (s.recExportDone n slot).kept.boot = s.kept.boot ∧ (s.recExportDone n slot).kept.tap = s.kept.tap ∧ (s.recExportDone n slot).kept.grants = s.kept.grants ∧ (s.recExportDone n slot).kept.timeOwner = s.kept.timeOwner ∧ (s.recExportDone n slot).kept.ref = s.kept.ref ∧ (s.recExportDone n slot).kept.delays = s.kept.delays ∧ (s.recExportDone n slot).kept.challenge = s.kept.challenge ∧ (s.recExportDone n slot).kept.errMin = s.kept.errMin := by
  unfold State.recExportDone
  (try dsimp only)
  (repeat' split) <;> simp

@[simp] theorem State.recFreed_keeps (s : State) (n : Nat) (t : Stamp) : (s.recFreed n t).kept = s.kept := by
  unfold State.recFreed
  (repeat' split) <;> simp

@[simp] theorem recRelease_keeps (s : State) (h : Pkt) (p : RecRelease) : (recRelease s h p).st.kept = s.kept := by
  simp [recRelease]

@[simp] theorem recStreamSet_keeps (s : State) (h : Pkt) (p : RecStreamSet) : (recStreamSet s h p).st.kept = s.kept := by
  simp [recStreamSet]

@[simp] theorem State.recConsWrite_keeps (s : State) (part n value : Nat) : (s.recConsWrite part n value).kept = s.kept := by
  unfold State.recConsWrite
  (repeat' split) <;> simp

@[simp] theorem State.recDamage_keeps (s : State) (n : Nat) (slot : Option Nat) (pts : List Nat) : (s.recDamage n slot pts).kept = s.kept := by
  unfold State.recDamage
  (repeat' split) <;> simp

end Sys2Proof.Machine
end

