-- ==== Sys2Proof/Laws/Keeps/BootOps.lean ====
section
/-!
SUPPORT. What the operations of Machine/BootOps.lean leave as it was.
-/
set_option linter.all false
set_option linter.unusedTactic false
set_option linter.unreachableTactic false
namespace Sys2Proof.Machine

@[simp] theorem State.measure_keeps (s : State) (reg stage : Nat) (ver : Option (Nat × Nat)) (m : BitVec 512) : (s.measure reg stage ver m).kept = s.kept := by
  simp [State.measure]

@[simp] theorem State.measureFuses_keeps (s : State) : s.measureFuses.kept = s.kept := by
  simp [State.measureFuses]

@[simp] theorem State.measureFirmware_keeps (s : State) (n : Nat) : (s.measureFirmware n).kept = s.kept := by
  simp [State.measureFirmware]

@[simp] theorem State.rebindSlot_keeps (s : State) (n : Nat) : (s.rebindSlot n).kept = s.kept := by
  simp [State.rebindSlot]

@[simp] theorem State.rebind_keeps (s : State) : s.rebind.kept = s.kept := by
  simp [State.rebind]

@[simp] theorem State.measureProgram_keeps (s : State) (im : AlcImage) : (s.measureProgram im).kept = s.kept := by
  simp [State.measureProgram]

@[simp] theorem State.remeasure_keeps (s : State) (n : Nat) : (s.remeasure n).kept = s.kept := by
  simp [State.remeasure]

end Sys2Proof.Machine
end

