-- ==== Sys2Proof/Laws/Keeps/AlcOps.lean ====
section
/-!
SUPPORT. What the operations of Machine/AlcOps.lean leave as it was.
-/
set_option linter.all false
set_option linter.unusedTactic false
set_option linter.unreachableTactic false
namespace Sys2Proof.Machine

@[simp] theorem State.ckptStart_keeps (s : State) (cause : CkptCause) : (s.ckptStart cause).kept = s.kept := by
  unfold State.ckptStart
  (repeat' split) <;> simp

@[simp] theorem State.ckptNext_keeps (s : State) : s.ckptNext.kept = s.kept := by
  unfold State.ckptNext
  (repeat' split) <;> simp

@[simp] theorem State.ckptWant_keeps (s : State) (c : CkptCause) : (s.ckptWant c).kept = s.kept := by
  simp [State.ckptWant]

@[simp] theorem State.ckptReply_keeps (s : State) (status : Nat) (res : List Byte) : (s.ckptReply status res).kept = s.kept := by
  simp [State.ckptReply]

@[simp] theorem State.ckptDone_keeps (s : State) (good : Bool) : (s.ckptDone good).kept = s.kept := by
  unfold State.ckptDone
  (repeat' split) <;> simp

@[simp] theorem State.alcRun_keeps (s : State) (cold : Bool) (stamp : Stamp) : (s.alcRun cold stamp).kept = s.kept := by
  unfold State.alcRun
  (repeat' split) <;> simp

@[simp] theorem State.exchangeApply_keeps (s : State) : s.exchangeApply.kept = s.kept := by
  unfold State.exchangeApply
  (repeat' split) <;> simp

@[simp] theorem State.exchangeAbandon_keeps (s : State) (status : Option Nat) (detail : Nat) : (s.exchangeAbandon status detail).kept = s.kept := by
  unfold State.exchangeAbandon
  (repeat' split) <;> simp

@[simp] theorem State.alcSwitch_keeps (s : State) : s.alcSwitch.kept = s.kept := by
  simp [State.alcSwitch]

@[simp] theorem State.alcSwitchDrop_keeps (s : State) (status detail : Nat) : (s.alcSwitchDrop status detail).kept = s.kept := by
  unfold State.alcSwitchDrop
  (repeat' split) <;> simp

@[simp] theorem State.alcSettle_keeps (s : State) (src : Nat) : (s.alcSettle src).kept = s.kept := by
  simp [State.alcSettle]

@[simp] theorem State.stopExchange_keeps (s : State) : s.stopExchange.kept = s.kept := by
  unfold State.stopExchange
  split <;> simp

@[simp] theorem State.alcStopped_keeps (s : State) (row : Nat) : (s.alcStopped row).kept = s.kept := by
  simp [State.alcStopped]

@[simp] theorem State.alcStopNow_keeps (s : State) (status : Option Nat) : (s.alcStopNow status).kept = s.kept := by
  simp [State.alcStopNow]

@[simp] theorem State.scanHalt_keeps (s : State) (x : SitesReached) : (s.scanHalt x).kept = s.kept := by
  unfold State.scanHalt
  (try dsimp only)
  (repeat' split) <;> simp

@[simp] theorem State.boundaryChanges_keeps (s : State) (ok : Bool) : (s.boundaryChanges ok).kept = s.kept := by
  simp [State.boundaryChanges]

@[simp] theorem State.runScan_keeps (s0 : State) (trig : Trigger) (x : ScanStart) : (s0.runScan trig x).kept = s0.kept := by
  unfold State.runScan
  (try dsimp only)
  (repeat' split) <;> simp

@[simp] theorem State.scanTrigger_keeps (s : State) (trig : Trigger) (x : ScanStart) : (s.scanTrigger trig x).kept = s.kept := by
  simp [State.scanTrigger]

@[simp] theorem State.publishChanged_keeps (s : State) (trig : Trigger) (o : OutputImage) : (s.publishChanged trig o).kept = s.kept := by
  simp [State.publishChanged]

@[simp] theorem State.recLaunch_keeps (s : State) (c : Scan) (n : Nat) : (s.recLaunch c n).kept = s.kept := by
  unfold State.recLaunch
  (repeat' split) <;> simp

@[simp] theorem State.scanOutputs_keeps (s : State) (im : AlcImage) (c : Scan) (o0 : OutputImage) (details : List Nat) : (s.scanOutputs im c o0 details).kept = s.kept := by
  simp [State.scanOutputs]

@[simp] theorem State.scanVars_keeps (s : State) (im : AlcImage) (c : Scan) (r : ScanResult) : (s.scanVars im c r).kept = s.kept := by
  simp [State.scanVars]

@[simp] theorem State.scanAfter_keeps (s : State) (x : ScanStart) : (s.scanAfter x).kept = s.kept := by
  unfold State.scanAfter
  (try dsimp only)
  (repeat' split) <;> simp

@[simp] theorem State.scanLate_keeps (s : State) (c : Scan) : (s.scanLate c).kept = s.kept := by
  simp [State.scanLate]

@[simp] theorem State.selfCheck_keeps (s : State) (r : ScanResult) : (s.selfCheck r).kept = s.kept := by
  simp [State.selfCheck]

@[simp] theorem State.scanEnds_keeps (s : State) (c : Scan) (im : AlcImage) (r : ScanResult) (x : ScanStart) : (s.scanEnds c im r x).kept = s.kept := by
  simp [State.scanEnds]

end Sys2Proof.Machine
end

