-- ==== Sys2Proof/Laws/Keeps/AlarmLogic.lean ====
section
/-!
SUPPORT. What the operations of Machine/AlarmLogic.lean leave as it was.
-/
set_option linter.all false
set_option linter.unusedTactic false
set_option linter.unreachableTactic false
namespace Sys2Proof.Machine

@[simp] theorem alcLoad_keeps (s : State) (h : Pkt) (p : AlcLoad) : (alcLoad s h p).st.kept = s.kept := by
  simp [alcLoad]

@[simp] theorem State.markReported_keeps (s : State) (status detail : Nat) : (s.markReported status detail).kept = s.kept := by
  simp [State.markReported]

@[simp] theorem State.alcLoaded_keeps (s : State) (p : AlcLoad) (v : AlcVerify) : (s.alcLoaded p v).kept = s.kept := by
  unfold State.alcLoaded
  (try dsimp only)
  (repeat' split) <;> simp

@[simp] theorem alcExchange_keeps (s : State) (h : Pkt) (dryRun : Bool) : (alcExchange s h dryRun).st.kept = s.kept := by
  unfold alcExchange
  (repeat' split) <;> simp

@[simp] theorem alcMode_keeps (s : State) (h : Pkt) (p : AlcMode) : (alcMode s h p).st.kept = s.kept := by
  unfold alcMode
  (try dsimp only)
  (repeat' split) <;> simp

@[simp] theorem State.putScanSet_keeps (s : State) (p : AlcScanSet) : (s.putScanSet p).kept = s.kept := by
  simp [State.putScanSet]

@[simp] theorem alcScanSet_keeps (s : State) (h : Pkt) (p : AlcScanSet) : (alcScanSet s h p).st.kept = s.kept := by
  simp [alcScanSet]

@[simp] theorem alcForce_keeps (s : State) (h : Pkt) (p : AlcForce) : (alcForce s h p).st.kept = s.kept := by
  simp [alcForce]

@[simp] theorem State.scanResume_keeps (s : State) (next : SitesReached) : (s.scanResume next).kept = s.kept := by
  unfold State.scanResume
  (repeat' split) <;> simp

@[simp] theorem alcBreak_keeps (s : State) (h : Pkt) (p : AlcBreak) : (alcBreak s h p).st.kept = s.kept := by
  simp [alcBreak]

@[simp] theorem alcQuery_keeps (s : State) (h : Pkt) : (alcQuery s h).st.kept = s.kept := by
  simp [alcQuery]

@[simp] theorem alcVarRead_keeps (s : State) (h : Pkt) (p : AlcVarRead) : (alcVarRead s h p).st.kept = s.kept := by
  unfold alcVarRead
  (try dsimp only)
  (repeat' split) <;> simp

@[simp] theorem alcCheckpoint_keeps (s : State) (h : Pkt) : (alcCheckpoint s h).st.kept = s.kept := by
  simp [alcCheckpoint]

end Sys2Proof.Machine
end

