-- ==== Sys2Proof/Laws/Keeps/Scans.lean ====
section
/-!
SUPPORT. What the operations of Machine/Scans.lean leave as it was.
-/
set_option linter.all false
set_option linter.unusedTactic false
set_option linter.unreachableTactic false
namespace Sys2Proof.Machine

@[simp] theorem State.departureTrigger_keeps (s : State) (group instant : Nat) (x : ScanStart) : (s.departureTrigger group instant x).kept = s.kept := by
  unfold State.departureTrigger
  (repeat' split) <;> simp

@[simp] theorem State.periodicTrigger_keeps (s : State) (x : ScanStart) : (s.periodicTrigger x).kept = s.kept := by
  unfold State.periodicTrigger
  (repeat' split) <;> simp

@[simp] theorem State.gooseRepeat_keeps (s : State) (n : Nat) (e : AlcPub) : (s.gooseRepeat n e).kept = s.kept := by
  simp [State.gooseRepeat]

end Sys2Proof.Machine
end

