-- ==== Sys2Proof/Laws/Keeps/BaseOps.lean ====
section
/-!
SUPPORT. What the operations of Machine/BaseOps.lean leave as it was.
-/
set_option linter.all false
set_option linter.unusedTactic false
set_option linter.unreachableTactic false
namespace Sys2Proof.Machine

@[simp] theorem State.setBase_keeps (s : State) (n : Nat) (b : Base) : (s.setBase n b).kept = s.kept := by
  simp [State.setBase]

@[simp] theorem State.timeEvent_keeps (s : State) (src n : Nat) (type : optParam Nat 0) : (s.timeEvent src n type).kept = s.kept := by
  simp [State.timeEvent]

@[simp] theorem State.holdover_keeps (s : State) (n : Nat) (b : Base) (saturated : Bool) : (s.holdover n b saturated).kept = s.kept := by
  simp [State.holdover]

@[simp] theorem State.lostSource_keeps (s : State) (n : Nat) (b : Base) : (s.lostSource n b).kept = s.kept := by
  simp [State.lostSource]

@[simp] theorem State.relocked_keeps (s : State) (n : Nat) (b : Base) : (s.relocked n b).kept = s.kept := by
  simp [State.relocked]

@[simp] theorem State.acquire_keeps (s : State) (n : Nat) (b : Base) (cap : Stamp) (src : Int) (l : List (Stamp × Int)) : (s.acquire n b cap src l).kept = s.kept := by
  simp [State.acquire]

@[simp] theorem State.acqSample_keeps (s : State) (n : Nat) (b : Base) (cap : Stamp) (src : Int) : (s.acqSample n b cap src).kept = s.kept := by
  simp [State.acqSample]

@[simp] theorem State.servo_keeps (s : State) (n : Nat) (b : Base) (cap : Stamp) (o : Int) : (s.servo n b cap o).kept = s.kept := by
  simp [State.servo]

@[simp] theorem State.refuseJump_keeps (s : State) (n : Nat) (b : Base) (run : List Int) : (s.refuseJump n b run).kept = s.kept := by
  simp [State.refuseJump]

@[simp] theorem State.judgeSample_keeps (s : State) (n : Nat) (b : Base) (cap : Stamp) (o : Int) : (s.judgeSample n b cap o).kept = s.kept := by
  simp [State.judgeSample]

@[simp] theorem State.restepped_keeps (s : State) (n : Nat) (b : Base) (o : Int) : (s.restepped n b o).kept = s.kept := by
  simp [State.restepped]

@[simp] theorem State.tbSample_keeps (s : State) (n : Nat) (cap : Stamp) (src : Int) (acc : Frac) : (s.tbSample n cap src acc).kept = s.kept := by
  unfold State.tbSample
  (try dsimp only)
  (repeat' split) <;> simp

@[simp] theorem State.leapAnnounce_keeps (s : State) (n : Nat) (del : Bool) (endDay : Nat) : (s.leapAnnounce n del endDay).kept = s.kept := by
  unfold State.leapAnnounce
  (repeat' split) <;> simp

@[simp] theorem State.leapToday_keeps (s : State) (n : Nat) (del : Bool) : (s.leapToday n del).kept = s.kept := by
  unfold State.leapToday
  (repeat' split) <;> simp

@[simp] theorem State.utcOffsetGiven_keeps (s : State) (n v : Nat) (given : Bool) : (s.utcOffsetGiven n v given).kept = s.kept := by
  unfold State.utcOffsetGiven
  (repeat' split) <;> simp

@[simp] theorem State.ppsCheck_keeps (s : State) : s.ppsCheck.kept = s.kept := by
  simp [State.ppsCheck]

@[simp] theorem State.refclkHold_keeps (s : State) : s.refclkHold.kept = s.kept := by
  simp [State.refclkHold]

@[simp] theorem State.refclkGone_keeps (s : State) : s.refclkGone.kept = s.kept := by
  simp [State.refclkGone]

@[simp] theorem State.pllSelect_keeps (s : State) : s.pllSelect.kept = s.kept := by
  simp [State.pllSelect]

end Sys2Proof.Machine
end

