-- ==== Sys2Proof/Laws/Keeps/Time.lean ====
section
/-!
SUPPORT. What the operations of Machine/Time.lean leave as it was.
-/
set_option linter.all false
set_option linter.unusedTactic false
set_option linter.unreachableTactic false
namespace Sys2Proof.Machine

@[simp] theorem tbRefSet_keeps (s : State) (h : Pkt) (p : TbRefSet) : (tbRefSet s h p).st.kept.pending = s.kept.pending ∧ (tbRefSet s h p).st.kept.life = s.kept.life ∧ (tbRefSet s h p).st.kept.lifeLog = s.kept.lifeLog ∧ (tbRefSet s h p).st.kept.ownerHash = s.kept.ownerHash ∧ (tbRefSet s h p).st.kept.minSvn = s.kept.minSvn ∧ (tbRefSet s h p).st.kept.boot = s.kept.boot ∧ (tbRefSet s h p).st.kept.tap = s.kept.tap ∧ (tbRefSet s h p).st.kept.staging = s.kept.staging ∧ (tbRefSet s h p).st.kept.grants = s.kept.grants ∧ (tbRefSet s h p).st.kept.timeOwner = s.kept.timeOwner ∧ (tbRefSet s h p).st.kept.delays = s.kept.delays ∧ (tbRefSet s h p).st.kept.challenge = s.kept.challenge ∧ (tbRefSet s h p).st.kept.errMin = s.kept.errMin := by
  simp [tbRefSet]

@[simp] theorem State.tbApply_keeps (s : State) (p : TbSet) : (s.tbApply p).kept = s.kept := by
  unfold State.tbApply
  (try dsimp only)
  (repeat' split) <;> simp

@[simp] theorem tbSet_keeps (s : State) (h : Pkt) (p0 : TbSet) : (tbSet s h p0).st.kept = s.kept := by
  simp [tbSet]

@[simp] theorem tbRestep_keeps (s0 : State) (h : Pkt) (p : TbRestep) : (tbRestep s0 h p).st.kept = s0.kept := by
  unfold tbRestep
  (repeat' split) <;> simp

@[simp] theorem tbTodSet_keeps (s : State) (h : Pkt) (p : TbTodSet) : (tbTodSet s h p).st.kept = s.kept := by
  unfold tbTodSet
  (try dsimp only)
  (repeat' split) <;> simp

@[simp] theorem tbPortDelaySet_keeps (s : State) (h : Pkt) (p : TbPortDelaySet) : (tbPortDelaySet s h p).st.kept.pending = s.kept.pending ∧ (tbPortDelaySet s h p).st.kept.life = s.kept.life ∧ (tbPortDelaySet s h p).st.kept.lifeLog = s.kept.lifeLog ∧ (tbPortDelaySet s h p).st.kept.ownerHash = s.kept.ownerHash ∧ (tbPortDelaySet s h p).st.kept.minSvn = s.kept.minSvn ∧ (tbPortDelaySet s h p).st.kept.boot = s.kept.boot ∧ (tbPortDelaySet s h p).st.kept.tap = s.kept.tap ∧ (tbPortDelaySet s h p).st.kept.staging = s.kept.staging ∧ (tbPortDelaySet s h p).st.kept.grants = s.kept.grants ∧ (tbPortDelaySet s h p).st.kept.timeOwner = s.kept.timeOwner ∧ (tbPortDelaySet s h p).st.kept.ref = s.kept.ref ∧ (tbPortDelaySet s h p).st.kept.challenge = s.kept.challenge ∧ (tbPortDelaySet s h p).st.kept.errMin = s.kept.errMin := by
  simp [tbPortDelaySet]

@[simp] theorem tbQuery_keeps (s0 : State) (h : Pkt) (n : Nat) : (tbQuery s0 h n).st.kept = s0.kept := by
  simp [tbQuery]

@[simp] theorem State.irigOne_keeps (s : State) (m : IrigFrame) (n : Nat) (b : Base) : (s.irigOne m n b).kept = s.kept := by
  simp [State.irigOne]

@[simp] theorem State.irigBase_keeps (s : State) (m : IrigFrame) (n : Nat) : (s.irigBase m n).kept = s.kept := by
  unfold State.irigBase
  (repeat' split) <;> simp

@[simp] theorem State.ppsOne_keeps (s : State) (cap : Stamp) (n : Nat) (b : Base) : (s.ppsOne cap n b).kept = s.kept := by
  unfold State.ppsOne
  (repeat' split) <;> simp

@[simp] theorem State.ppsBase_keeps (s : State) (cap n : Nat) : (s.ppsBase cap n).kept = s.kept := by
  unfold State.ppsBase
  (repeat' split) <;> simp

end Sys2Proof.Machine
end

