-- ==== Sys2Proof/Laws/Keeps/Ptp.lean ====
section
/-!
SUPPORT. What the operations of Machine/Ptp.lean leave as it was.
-/
set_option linter.all false
set_option linter.unusedTactic false
set_option linter.unreachableTactic false
namespace Sys2Proof.Machine

@[simp] theorem State.setPtp_keeps (s : State) (n : Nat) (x : Ptp) : (s.setPtp n x).kept = s.kept := by
  simp [State.setPtp]

@[simp] theorem State.ptpApply_keeps (s : State) (p : TbPtpSet) : (s.ptpApply p).kept = s.kept := by
  unfold State.ptpApply
  (repeat' split) <;> simp

@[simp] theorem tbPtpSet_keeps (s : State) (h : Pkt) (p : TbPtpSet) : (tbPtpSet s h p).st.kept = s.kept := by
  simp [tbPtpSet]

@[simp] theorem State.bmca_keeps (s : State) (n : Nat) : (s.bmca n).kept = s.kept := by
  unfold State.bmca
  (repeat' split) <;> simp

@[simp] theorem State.ptpDiscard_keeps (s : State) : s.ptpDiscard.kept = s.kept := by
  simp [State.ptpDiscard]

@[simp] theorem State.parentAnnounced_keeps (s : State) (n : Nat) (a : PtpAnnounce) : (s.parentAnnounced n a).kept = s.kept := by
  simp [State.parentAnnounced]

@[simp] theorem State.announceTaken_keeps (s : State) (m : PtpAnnounce) : (s.announceTaken m).kept = s.kept := by
  unfold State.announceTaken
  (repeat' split) <;> simp

@[simp] theorem State.ptpSample_keeps (s : State) (n port : Nat) (cap : Stamp) (origin : Int) : (s.ptpSample n port cap origin).kept = s.kept := by
  simp [State.ptpSample]

@[simp] theorem State.syncTaken_keeps (s : State) (m : PtpSync) : (s.syncTaken m).kept = s.kept := by
  unfold State.syncTaken
  (repeat' split) <;> simp

@[simp] theorem State.followUpTaken_keeps (s : State) (m : PtpFollowUp) : (s.followUpTaken m).kept = s.kept := by
  unfold State.followUpTaken
  (repeat' split) <;> simp

@[simp] theorem State.ptpSend_keeps (s : State) (n : Nat) (x : Ptp) (port kind : Nat) : (s.ptpSend n x port kind).kept = s.kept := by
  simp [State.ptpSend]

@[simp] theorem State.ptpTransmit_keeps (s : State) (n : Nat) (x : Ptp) (port : Nat) (kind : PtpKind) : (s.ptpTransmit n x port kind).kept = s.kept := by
  unfold State.ptpTransmit
  (repeat' split) <;> simp

@[simp] theorem State.pdelayTaken_keeps (s : State) (m : PtpPdelay) : (s.pdelayTaken m).kept = s.kept := by
  unfold State.pdelayTaken
  (try dsimp only)
  (repeat' split) <;> simp

end Sys2Proof.Machine
end

