-- ==== Sys2Proof/Laws/Keeps/KeyOps.lean ====
section
/-!
SUPPORT. What the operations of Machine/KeyOps.lean leave as it was.
-/
set_option linter.all false
set_option linter.unusedTactic false
set_option linter.unreachableTactic false
namespace Sys2Proof.Machine

@[simp] theorem State.keyWrite_keeps (s : State) (n : Nat) (k : Option Key) : (s.keyWrite n k).kept = s.kept := by
  simp [State.keyWrite]

@[simp] theorem State.keyCommit_keeps (s : State) (n : Nat) : (s.keyCommit n).kept = s.kept := by
  simp [State.keyCommit]

@[simp] theorem State.keyFinish_keeps (s : State) (n : Nat) : (s.keyFinish n).kept = s.kept := by
  simp [State.keyFinish]

@[simp] theorem State.keyEmpty_keeps (s : State) (n : Nat) : (s.keyEmpty n).kept = s.kept := by
  simp [State.keyEmpty]

@[simp] theorem State.reloadKeys_keeps (s : State) (bad : List (Nat × Nat)) : (s.reloadKeys bad).kept = s.kept := by
  simp [State.reloadKeys]

@[simp] theorem State.tellLostKeys_keeps (s : State) (lost : List Nat) : (s.tellLostKeys lost).kept = s.kept := by
  simp [State.tellLostKeys]

@[simp] theorem State.stripKeys_keeps (s : State) (keep : Nat → Bool) : (s.stripKeys keep).kept = s.kept := by
  simp [State.stripKeys]

@[simp] theorem State.wakeKeys_keeps (s : State) (bad : List (Nat × Nat)) : (s.wakeKeys bad).kept = s.kept := by
  simp [State.wakeKeys]

@[simp] theorem State.loseKeys_keeps (s : State) : s.loseKeys.kept = s.kept := by
  simp [State.loseKeys]

@[simp] theorem State.eraseKeys_keeps (s : State) : s.eraseKeys.kept = s.kept := by
  simp [State.eraseKeys]

@[simp] theorem State.draw_keeps (s : State) (n : Nat) : (s.draw n).2.kept = s.kept := by
  simp [State.draw]

@[simp] theorem State.tamperEntry_keeps (s : State) (source state tb1 value : Nat) : (s.tamperEntry source state tb1 value).kept = s.kept := by
  simp [State.tamperEntry]

end Sys2Proof.Machine
end

