-- ==== Sys2Proof/Laws/Keeps/Security.lean ====
section
/-!
SUPPORT. What the operations of Machine/Security.lean leave as it was.
-/
set_option linter.all false
set_option linter.unusedTactic false
set_option linter.unreachableTactic false
namespace Sys2Proof.Machine

@[simp] theorem authFail_keeps (s : State) : (authFail s).st.kept = s.kept := by
  simp [authFail]

@[simp] theorem putKey_keeps (s : State) (slot : Nat) (k : Key) : (putKey s slot k).st.kept = s.kept := by
  simp [putKey]

@[simp] theorem keyImport_keeps (s : State) (h : Pkt) (p : KeyImport) : (keyImport s h p).st.kept = s.kept := by
  unfold keyImport
  simp only [check_kept, onSlots_kept]
  (repeat' split) <;> first | rfl | exact authFail_keeps s | exact putKey_keeps s _ _

@[simp] theorem keyGenerate_keeps (s : State) (h : Pkt) (p : KeyGenerate) : (keyGenerate s h p).st.kept = s.kept := by
  simp [keyGenerate]

@[simp] theorem keyDerive_keeps (s : State) (h : Pkt) (p : KeyDerive) : (keyDerive s h p).st.kept = s.kept := by
  unfold keyDerive
  (repeat' split) <;> simp

@[simp] theorem keyWrapCmd_keeps (s : State) (h : Pkt) (p : KeyWrap) : (keyWrapCmd s h p).st.kept = s.kept := by
  unfold keyWrapCmd
  (repeat' split) <;> simp

@[simp] theorem keyDelete_keeps (s : State) (h : Pkt) (p : KeyDelete) : (keyDelete s h p).st.kept = s.kept := by
  simp [keyDelete]

@[simp] theorem keyQuery_keeps (s : State) (h : Pkt) (slot : Nat) : (keyQuery s h slot).st.kept = s.kept := by
  simp [keyQuery]

@[simp] theorem attQuote_keeps (s : State) (h : Pkt) (nonce : List Byte) : (attQuote s h nonce).st.kept = s.kept := by
  simp [attQuote]

@[simp] theorem attRespond_keeps (s : State) (h : Pkt) (p : AttRespond) : (attRespond s h p).st.kept = s.kept := by
  unfold attRespond
  (repeat' split) <;> simp

@[simp] theorem State.tamperCleared_keeps (s : State) : s.tamperCleared.kept = s.kept := by
  simp [State.tamperCleared]

@[simp] theorem tamperClear_keeps (s : State) (h : Pkt) (p : TamperClear) : (tamperClear s h p).st.kept = s.kept := by
  simp [tamperClear]

@[simp] theorem logRead_keeps (s : State) (h : Pkt) (p : LogRead) : (logRead s h p).st.kept = s.kept := by
  simp [logRead]

@[simp] theorem State.keyCommitted_keeps (s : State) (slot : Nat) : (s.keyCommitted slot).kept = s.kept := by
  simp [State.keyCommitted]

@[simp] theorem State.entropyFail_keeps (s : State) : s.entropyFail.kept = s.kept := by
  simp [State.entropyFail]

@[simp] theorem State.enterBootHold_keeps (s : State) : s.enterBootHold.kept = s.kept := by
  simp [State.enterBootHold]

end Sys2Proof.Machine
end

