-- ==== Sys2Proof/Laws/Keeps/HostOps.lean ====
section
/-!
SUPPORT. What the operations of Machine/HostOps.lean leave as it was.
-/
set_option linter.all false
set_option linter.unusedTactic false
set_option linter.unreachableTactic false
namespace Sys2Proof.Machine

@[simp] theorem State.drainAlarms_keeps (s : State) (n : Nat) (l : List EvRec) : (s.drainAlarms n l).kept = s.kept := by
  induction l generalizing s with
  | nil => simp [State.drainAlarms]
  | cons r l ih =>
    unfold State.drainAlarms
    split <;> simp [ih]

@[simp] theorem State.drainEvents_keeps (s : State) (n : Nat) (l : List EvRec) : (s.drainEvents n l).kept = s.kept := by
  induction l generalizing s with
  | nil => simp [State.drainEvents]
  | cons r l ih =>
    unfold State.drainEvents
    split <;> simp [ih]

@[simp] theorem State.backlogCheck_keeps (s : State) : s.backlogCheck.kept = s.kept := by
  simp [State.backlogCheck]

@[simp] theorem State.drainRing_keeps (s : State) (n : Nat) : (s.drainRing n).kept = s.kept := by
  simp [State.drainRing]

@[simp] theorem State.streamReset_keeps (s : State) (st : Nat) : (s.streamReset st).kept = s.kept := by
  simp [State.streamReset]

@[simp] theorem State.unitReset_keeps (s : State) (n : Nat) : (s.unitReset n).kept = s.kept := by
  simp [State.unitReset]

@[simp] theorem State.pairReset_keeps (s : State) (status : Option Nat) : (s.pairReset status).kept = s.kept := by
  simp [State.pairReset]

@[simp] theorem State.resourceReset_keeps (s : State) (kind idx : Nat) (status : Option Nat) : (s.resourceReset kind idx status).kept = s.kept := by
  unfold State.resourceReset
  (repeat' split) <;> simp

@[simp] theorem State.resourcesReset_keeps (s : State) (n : Nat) (status : Option Nat) : (s.resourcesReset n status).kept = s.kept := by
  simp [State.resourcesReset]

@[simp] theorem State.portsReset_keeps (s : State) (n : Nat) (only : Option Nat) : (s.portsReset n only).kept = s.kept := by
  simp [State.portsReset]

@[simp] theorem State.ringsReset_keeps (s : State) (n : Nat) : (s.ringsReset n).kept = s.kept := by
  simp [State.ringsReset]

@[simp] theorem State.dropCommands_keeps (s : State) (n : Nat) : (s.dropCommands n).kept.pending = s.kept.pending ∧ (s.dropCommands n).kept.life = s.kept.life ∧ (s.dropCommands n).kept.lifeLog = s.kept.lifeLog ∧ (s.dropCommands n).kept.ownerHash = s.kept.ownerHash ∧ (s.dropCommands n).kept.minSvn = s.kept.minSvn ∧ (s.dropCommands n).kept.boot = s.kept.boot ∧ (s.dropCommands n).kept.tap = s.kept.tap ∧ (s.dropCommands n).kept.grants = s.kept.grants ∧ (s.dropCommands n).kept.timeOwner = s.kept.timeOwner ∧ (s.dropCommands n).kept.ref = s.kept.ref ∧ (s.dropCommands n).kept.delays = s.kept.delays ∧ (s.dropCommands n).kept.challenge = s.kept.challenge ∧ (s.dropCommands n).kept.errMin = s.kept.errMin := by
  unfold State.dropCommands
  (repeat' split) <;> simp

@[simp] theorem State.partEvent_keeps (s : State) (n code : Nat) : (s.partEvent n code).kept = s.kept := by
  simp [State.partEvent]

@[simp] theorem State.partReset_keeps (s : State) (n : Nat) : (s.partReset n).kept.pending = s.kept.pending ∧ (s.partReset n).kept.life = s.kept.life ∧ (s.partReset n).kept.lifeLog = s.kept.lifeLog ∧ (s.partReset n).kept.ownerHash = s.kept.ownerHash ∧ (s.partReset n).kept.minSvn = s.kept.minSvn ∧ (s.partReset n).kept.boot = s.kept.boot ∧ (s.partReset n).kept.tap = s.kept.tap ∧ (s.partReset n).kept.grants = s.kept.grants ∧ (s.partReset n).kept.timeOwner = s.kept.timeOwner ∧ (s.partReset n).kept.ref = s.kept.ref ∧ (s.partReset n).kept.delays = s.kept.delays ∧ (s.partReset n).kept.challenge = s.kept.challenge ∧ (s.partReset n).kept.errMin = s.kept.errMin := by
  simp [State.partReset]

@[simp] theorem State.shareWrite_keeps (s : State) (kind reader : Nat) (give : Bool) (l : List Nat) : (s.shareWrite kind reader give l).kept = s.kept := by
  simp [State.shareWrite]

@[simp] theorem State.dropShares_keeps (s : State) (kind : Nat) (l : List Nat) : (s.dropShares kind l).kept = s.kept := by
  simp [State.dropShares]

@[simp] theorem State.grantEvent_keeps (s : State) (parts : List Nat) (kind first : Nat) (share : Bool) : (s.grantEvent parts kind first share).kept = s.kept := by
  simp [State.grantEvent]

@[simp] theorem State.tiesCut_keeps (s : State) : s.tiesCut.kept = s.kept := by
  simp [State.tiesCut]

@[simp] theorem State.grantMove_keeps (s : State) (kind dest first count : Nat) : (s.grantMove kind dest first count).1.kept.pending = s.kept.pending ∧ (s.grantMove kind dest first count).1.kept.life = s.kept.life ∧ (s.grantMove kind dest first count).1.kept.lifeLog = s.kept.lifeLog ∧ (s.grantMove kind dest first count).1.kept.ownerHash = s.kept.ownerHash ∧ (s.grantMove kind dest first count).1.kept.minSvn = s.kept.minSvn ∧ (s.grantMove kind dest first count).1.kept.boot = s.kept.boot ∧ (s.grantMove kind dest first count).1.kept.tap = s.kept.tap ∧ (s.grantMove kind dest first count).1.kept.staging = s.kept.staging ∧ (s.grantMove kind dest first count).1.kept.timeOwner = s.kept.timeOwner ∧ (s.grantMove kind dest first count).1.kept.ref = s.kept.ref ∧ (s.grantMove kind dest first count).1.kept.delays = s.kept.delays ∧ (s.grantMove kind dest first count).1.kept.challenge = s.kept.challenge ∧ (s.grantMove kind dest first count).1.kept.errMin = s.kept.errMin := by
  simp [State.grantMove]

@[simp] theorem State.shareUsesClear_keeps (s : State) (reader kind idx : Nat) : (s.shareUsesClear reader kind idx).kept = s.kept := by
  simp [State.shareUsesClear]

end Sys2Proof.Machine
end

