-- ==== Sys2Proof/Laws/Keeps/Hosts.lean ====
section
/-!
SUPPORT. What the operations of Machine/Hosts.lean leave as it was.
-/
set_option linter.all false
set_option linter.unusedTactic false
set_option linter.unreachableTactic false
namespace Sys2Proof.Machine

@[simp] theorem devIdentify_keeps (s : State) (h : Pkt) : (devIdentify s h).st.kept = s.kept := by
  simp [devIdentify]

@[simp] theorem hstNop_keeps (s : State) (data : List Byte) : (hstNop s data).st.kept = s.kept := by
  simp [hstNop]

@[simp] theorem hstPartCreate_keeps (s : State) (h : Pkt) (p : HstPart) : (hstPartCreate s h p).st.kept = s.kept := by
  simp [hstPartCreate]

@[simp] theorem State.partDelete_keeps (s : State) (n : Nat) : (s.partDelete n).kept.pending = s.kept.pending ∧ (s.partDelete n).kept.life = s.kept.life ∧ (s.partDelete n).kept.lifeLog = s.kept.lifeLog ∧ (s.partDelete n).kept.ownerHash = s.kept.ownerHash ∧ (s.partDelete n).kept.minSvn = s.kept.minSvn ∧ (s.partDelete n).kept.boot = s.kept.boot ∧ (s.partDelete n).kept.tap = s.kept.tap ∧ (s.partDelete n).kept.ref = s.kept.ref ∧ (s.partDelete n).kept.delays = s.kept.delays ∧ (s.partDelete n).kept.challenge = s.kept.challenge ∧ (s.partDelete n).kept.errMin = s.kept.errMin := by
  simp [State.partDelete]

@[simp] theorem hstPartDelete_keeps (s : State) (h : Pkt) (p : HstPart) : (hstPartDelete s h p).st.kept.pending = s.kept.pending ∧ (hstPartDelete s h p).st.kept.life = s.kept.life ∧ (hstPartDelete s h p).st.kept.lifeLog = s.kept.lifeLog ∧ (hstPartDelete s h p).st.kept.ownerHash = s.kept.ownerHash ∧ (hstPartDelete s h p).st.kept.minSvn = s.kept.minSvn ∧ (hstPartDelete s h p).st.kept.boot = s.kept.boot ∧ (hstPartDelete s h p).st.kept.tap = s.kept.tap ∧ (hstPartDelete s h p).st.kept.ref = s.kept.ref ∧ (hstPartDelete s h p).st.kept.delays = s.kept.delays ∧ (hstPartDelete s h p).st.kept.challenge = s.kept.challenge ∧ (hstPartDelete s h p).st.kept.errMin = s.kept.errMin := by
  simp [hstPartDelete]

@[simp] theorem hstPartReset_keeps (s : State) (h : Pkt) (p : HstPart) : (hstPartReset s h p).st.kept.pending = s.kept.pending ∧ (hstPartReset s h p).st.kept.life = s.kept.life ∧ (hstPartReset s h p).st.kept.lifeLog = s.kept.lifeLog ∧ (hstPartReset s h p).st.kept.ownerHash = s.kept.ownerHash ∧ (hstPartReset s h p).st.kept.minSvn = s.kept.minSvn ∧ (hstPartReset s h p).st.kept.boot = s.kept.boot ∧ (hstPartReset s h p).st.kept.tap = s.kept.tap ∧ (hstPartReset s h p).st.kept.grants = s.kept.grants ∧ (hstPartReset s h p).st.kept.timeOwner = s.kept.timeOwner ∧ (hstPartReset s h p).st.kept.ref = s.kept.ref ∧ (hstPartReset s h p).st.kept.delays = s.kept.delays ∧ (hstPartReset s h p).st.kept.challenge = s.kept.challenge ∧ (hstPartReset s h p).st.kept.errMin = s.kept.errMin := by
  simp [hstPartReset]

@[simp] theorem State.flr_keeps (s : State) (n : Nat) : (s.flr n).kept.pending = s.kept.pending ∧ (s.flr n).kept.life = s.kept.life ∧ (s.flr n).kept.lifeLog = s.kept.lifeLog ∧ (s.flr n).kept.ownerHash = s.kept.ownerHash ∧ (s.flr n).kept.minSvn = s.kept.minSvn ∧ (s.flr n).kept.boot = s.kept.boot ∧ (s.flr n).kept.tap = s.kept.tap ∧ (s.flr n).kept.grants = s.kept.grants ∧ (s.flr n).kept.timeOwner = s.kept.timeOwner ∧ (s.flr n).kept.ref = s.kept.ref ∧ (s.flr n).kept.delays = s.kept.delays ∧ (s.flr n).kept.challenge = s.kept.challenge ∧ (s.flr n).kept.errMin = s.kept.errMin := by
  simp [State.flr]

@[simp] theorem State.partResetDone_keeps (s : State) (n : Nat) : (s.partResetDone n).kept = s.kept := by
  simp [State.partResetDone]

@[simp] theorem grantPorts_keeps (s : State) (p : HstGrant) : (grantPorts s p).st.kept = s.kept := by
  simp [grantPorts]

@[simp] theorem hstGrant_keeps (s : State) (h : Pkt) (p : HstGrant) : (hstGrant s h p).st.kept.pending = s.kept.pending ∧ (hstGrant s h p).st.kept.life = s.kept.life ∧ (hstGrant s h p).st.kept.lifeLog = s.kept.lifeLog ∧ (hstGrant s h p).st.kept.ownerHash = s.kept.ownerHash ∧ (hstGrant s h p).st.kept.minSvn = s.kept.minSvn ∧ (hstGrant s h p).st.kept.boot = s.kept.boot ∧ (hstGrant s h p).st.kept.tap = s.kept.tap ∧ (hstGrant s h p).st.kept.staging = s.kept.staging ∧ (hstGrant s h p).st.kept.timeOwner = s.kept.timeOwner ∧ (hstGrant s h p).st.kept.ref = s.kept.ref ∧ (hstGrant s h p).st.kept.delays = s.kept.delays ∧ (hstGrant s h p).st.kept.challenge = s.kept.challenge ∧ (hstGrant s h p).st.kept.errMin = s.kept.errMin := by
  simp only [hstGrant]
  generalize s.markedSlot p = m
  cases m <;> simp

@[simp] theorem State.shareSet_keeps (s : State) (p : HstShareSet) : (s.shareSet p).kept = s.kept := by
  simp [State.shareSet]

@[simp] theorem hstShareSet_keeps (s : State) (h : Pkt) (p : HstShareSet) : (hstShareSet s h p).st.kept = s.kept := by
  simp [hstShareSet]

@[simp] theorem State.privSet_keeps (s : State) (n priv : Nat) (give : Bool) : (s.privSet n priv give).kept.pending = s.kept.pending ∧ (s.privSet n priv give).kept.life = s.kept.life ∧ (s.privSet n priv give).kept.lifeLog = s.kept.lifeLog ∧ (s.privSet n priv give).kept.ownerHash = s.kept.ownerHash ∧ (s.privSet n priv give).kept.minSvn = s.kept.minSvn ∧ (s.privSet n priv give).kept.boot = s.kept.boot ∧ (s.privSet n priv give).kept.tap = s.kept.tap ∧ (s.privSet n priv give).kept.staging = s.kept.staging ∧ (s.privSet n priv give).kept.grants = s.kept.grants ∧ (s.privSet n priv give).kept.ref = s.kept.ref ∧ (s.privSet n priv give).kept.delays = s.kept.delays ∧ (s.privSet n priv give).kept.challenge = s.kept.challenge ∧ (s.privSet n priv give).kept.errMin = s.kept.errMin := by
  unfold State.privSet
  (repeat' split) <;> simp

@[simp] theorem hstPrivSet_keeps (s : State) (h : Pkt) (p : HstPrivSet) : (hstPrivSet s h p).st.kept.pending = s.kept.pending ∧ (hstPrivSet s h p).st.kept.life = s.kept.life ∧ (hstPrivSet s h p).st.kept.lifeLog = s.kept.lifeLog ∧ (hstPrivSet s h p).st.kept.ownerHash = s.kept.ownerHash ∧ (hstPrivSet s h p).st.kept.minSvn = s.kept.minSvn ∧ (hstPrivSet s h p).st.kept.boot = s.kept.boot ∧ (hstPrivSet s h p).st.kept.tap = s.kept.tap ∧ (hstPrivSet s h p).st.kept.staging = s.kept.staging ∧ (hstPrivSet s h p).st.kept.grants = s.kept.grants ∧ (hstPrivSet s h p).st.kept.ref = s.kept.ref ∧ (hstPrivSet s h p).st.kept.delays = s.kept.delays ∧ (hstPrivSet s h p).st.kept.challenge = s.kept.challenge ∧ (hstPrivSet s h p).st.kept.errMin = s.kept.errMin := by
  simp [hstPrivSet]

@[simp] theorem hstRoShare_keeps (s : State) (h : Pkt) (p : HstRoShare) : (hstRoShare s h p).st.kept = s.kept := by
  simp [hstRoShare]

@[simp] theorem hstGrantQuery_keeps (s : State) (h : Pkt) (p : HstGrantQuery) : (hstGrantQuery s h p).st.kept = s.kept := by
  simp [hstGrantQuery]

@[simp] theorem hstEvtRingSet_keeps (s : State) (h : Pkt) (p : HstEvtRingSet) : (hstEvtRingSet s h p).st.kept = s.kept := by
  simp [hstEvtRingSet]

@[simp] theorem State.inbandSet_keeps (s : State) (n : Nat) (p : HstInbandSet) : (s.inbandSet n p).kept = s.kept := by
  simp [State.inbandSet]

@[simp] theorem hstInbandSet_keeps (s : State) (h : Pkt) (p : HstInbandSet) : (hstInbandSet s h p).st.kept = s.kept := by
  simp [hstInbandSet]

@[simp] theorem hstStageWrite_keeps (s : State) (h : Pkt) (offset len : Nat) (data : List Byte) : (hstStageWrite s h offset len data).st.kept.pending = s.kept.pending ∧ (hstStageWrite s h offset len data).st.kept.life = s.kept.life ∧ (hstStageWrite s h offset len data).st.kept.lifeLog = s.kept.lifeLog ∧ (hstStageWrite s h offset len data).st.kept.ownerHash = s.kept.ownerHash ∧ (hstStageWrite s h offset len data).st.kept.minSvn = s.kept.minSvn ∧ (hstStageWrite s h offset len data).st.kept.boot = s.kept.boot ∧ (hstStageWrite s h offset len data).st.kept.tap = s.kept.tap ∧ (hstStageWrite s h offset len data).st.kept.grants = s.kept.grants ∧ (hstStageWrite s h offset len data).st.kept.timeOwner = s.kept.timeOwner ∧ (hstStageWrite s h offset len data).st.kept.ref = s.kept.ref ∧ (hstStageWrite s h offset len data).st.kept.delays = s.kept.delays ∧ (hstStageWrite s h offset len data).st.kept.challenge = s.kept.challenge ∧ (hstStageWrite s h offset len data).st.kept.errMin = s.kept.errMin := by
  simp [hstStageWrite]

@[simp] theorem hstStageRead_keeps (s : State) (h : Pkt) (offset len : Nat) : (hstStageRead s h offset len).st.kept = s.kept := by
  simp [hstStageRead]

@[simp] theorem q31StreamAdd_keeps (s : State) (h : Pkt) (p : Q31StreamAdd) : (q31StreamAdd s h p).st.kept = s.kept := by
  unfold q31StreamAdd
  (repeat' split) <;> simp

@[simp] theorem onPlaced_kept (s : State) (h : Pkt) (st : Nat) (k : PlacedStream → CmdOut) (hk : ∀ p, (k p).st.kept = s.kept) :
    (onPlaced s h st k).st.kept = s.kept := by
  unfold onPlaced
  rw [check_kept]
  split
  · rfl
  · split <;> simp [hk]

@[simp] theorem q31StreamRemove_keeps (s : State) (h : Pkt) (stream : Nat) : (q31StreamRemove s h stream).st.kept = s.kept := by
  simp [q31StreamRemove]

@[simp] theorem q31StreamQuery_keeps (s : State) (h : Pkt) (stream : Nat) : (q31StreamQuery s h stream).st.kept = s.kept := by
  unfold q31StreamQuery
  (try dsimp only)
  (repeat' split) <;> simp (disch := ((try intros); (try dsimp only); (repeat' split) <;> (first | assumption | (simp_all; done))))

@[simp] theorem q31LoadRead_keeps (s : State) : (q31LoadRead s).st.kept = s.kept := by
  simp [q31LoadRead]

@[simp] theorem State.rebalance_keeps (s : State) : (s.rebalance).1.kept = s.kept := by
  unfold State.rebalance
  (try dsimp only)
  (repeat' split) <;> simp (disch := ((try intros); (try dsimp only); (repeat' split) <;> (first | assumption | (simp_all; done))))

@[simp] theorem q31Rebalance_keeps (s : State) (h : Pkt) : (q31Rebalance s h).st.kept = s.kept := by
  simp [q31Rebalance]

end Sys2Proof.Machine
end

