-- ==== Sys2Proof/Laws/Keeps/Channels.lean ====
section
/-!
SUPPORT. What the operations of Machine/Channels.lean leave as it was.
-/
set_option linter.all false
set_option linter.unusedTactic false
set_option linter.unreachableTactic false
namespace Sys2Proof.Machine

@[simp] theorem State.malformedPacket_keeps (s : State) (h : Pkt) (op : Nat) : (s.malformedPacket h op).kept = s.kept := by
  simp [State.malformedPacket]

@[simp] theorem State.pendingReply_keeps (s : State) (w : Waiting) : (s.pendingReply w).kept = s.kept := by
  simp [State.pendingReply]

@[simp] theorem State.messageDropped_keeps (s : State) (n : Nat) : (s.messageDropped n).kept = s.kept := by
  simp [State.messageDropped]

@[simp] theorem State.inbandMessage_keeps (s : State) (m : ChannelMsg) : (s.inbandMessage m).kept = s.kept := by
  unfold State.inbandMessage
  (try dsimp only)
  (repeat' split) <;> simp

@[simp] theorem State.spiSessionSet_keeps (s : State) (m : ChannelMsg) : (s.spiSessionSet m).kept = s.kept := by
  simp [State.spiSessionSet]

@[simp] theorem State.spiTake_keeps (s : State) (m : ChannelMsg) : (s.spiTake m).kept = s.kept := by
  simp [State.spiTake]

@[simp] theorem State.spiMessage_keeps (s : State) (m : ChannelMsg) : (s.spiMessage m).kept = s.kept := by
  unfold State.spiMessage
  (repeat' split) <;> simp

@[simp] theorem State.spiReadReply_keeps (s : State) : s.spiReadReply.kept = s.kept := by
  simp [State.spiReadReply]

@[simp] theorem State.spiReadStatus_keeps (s : State) : s.spiReadStatus.kept = s.kept := by
  simp [State.spiReadStatus]

@[simp] theorem State.sessionTimeout_keeps (s : State) : s.sessionTimeout.kept = s.kept := by
  simp [State.sessionTimeout]

@[simp] theorem State.latchEnd_keeps (s : State) (n src : Nat) : (s.latchEnd n src).kept = s.kept := by
  unfold State.latchEnd
  (try dsimp only)
  (repeat' split) <;> simp

@[simp] theorem State.linkReset_keeps (s : State) : s.linkReset.kept = s.kept := by
  simp [State.linkReset]

@[simp] theorem State.bufferLost_keeps (s : State) (w : Waiting) : (s.bufferLost w).kept = s.kept := by
  unfold State.bufferLost
  (repeat' split) <;> first | rfl | simp

@[simp] theorem State.dmaDisable_keeps (s : State) (n : Nat) (x : DmaTarget) : (s.dmaDisable n x).kept = s.kept := by
  unfold State.dmaDisable
  (repeat' split) <;> simp

@[simp] theorem State.dmaError_keeps (s : State) (n : Nat) (x : DmaTarget) : (s.dmaError n x).kept = s.kept := by
  simp [State.dmaError]

@[simp] theorem State.copyDone_keeps (s : State) (w : Waiting) : (s.copyDone w).kept.pending = s.kept.pending ∧ (s.copyDone w).kept.life = s.kept.life ∧ (s.copyDone w).kept.lifeLog = s.kept.lifeLog ∧ (s.copyDone w).kept.ownerHash = s.kept.ownerHash ∧ (s.copyDone w).kept.minSvn = s.kept.minSvn ∧ (s.copyDone w).kept.boot = s.kept.boot ∧ (s.copyDone w).kept.tap = s.kept.tap ∧ (s.copyDone w).kept.grants = s.kept.grants ∧ (s.copyDone w).kept.timeOwner = s.kept.timeOwner ∧ (s.copyDone w).kept.ref = s.kept.ref ∧ (s.copyDone w).kept.delays = s.kept.delays ∧ (s.copyDone w).kept.challenge = s.kept.challenge ∧ (s.copyDone w).kept.errMin = s.kept.errMin := by
  unfold State.copyDone
  (repeat' split) <;> simp

@[simp] theorem State.sqTailWrite_keeps (s : State) (n : Nat) (v : W32) : (s.sqTailWrite n v).kept = s.kept := by
  simp [State.sqTailWrite]

@[simp] theorem State.rqHeadWrite_keeps (s : State) (n : Nat) (v : W32) : (s.rqHeadWrite n v).kept = s.kept := by
  simp [State.rqHeadWrite]

@[simp] theorem State.evtConsWrite_keeps (s : State) (n : Nat) (v : W32) : (s.evtConsWrite n v).kept = s.kept := by
  simp [State.evtConsWrite]

@[simp] theorem State.queueEnable_keeps (s : State) (n : Nat) : (s.queueEnable n).kept = s.kept := by
  simp [State.queueEnable]

@[simp] theorem State.queueDisable_keeps (s : State) (n : Nat) : (s.queueDisable n).kept = s.kept := by
  simp [State.queueDisable]

@[simp] theorem State.pendingHeld_keeps (s : State) (x : HeldCmd) : (s.pendingHeld x).kept = s.kept := by
  simp [State.pendingHeld]

end Sys2Proof.Machine
end

