-- ==== Sys2Proof/Laws/Keeps/ResetOps.lean ====
section
/-!
SUPPORT. What the operations of Machine/ResetOps.lean leave as it was.
-/
set_option linter.all false
set_option linter.unusedTactic false
set_option linter.unreachableTactic false
namespace Sys2Proof.Machine

@[simp] theorem State.strip_keeps (s : State) (c : Bool) : (s.strip c).kept.pending = s.kept.pending ∧ (s.strip c).kept.life = s.kept.life ∧ (s.strip c).kept.lifeLog = s.kept.lifeLog ∧ (s.strip c).kept.ownerHash = s.kept.ownerHash ∧ (s.strip c).kept.minSvn = s.kept.minSvn ∧ (s.strip c).kept.boot = s.kept.boot := ⟨rfl, rfl, rfl, rfl, rfl, rfl⟩
@[simp] theorem State.strip_tap (s : State) : (s.strip false).kept.tap = s.kept.tap := rfl
@[simp] theorem State.strip_staging (s : State) (c : Bool) : (s.strip c).kept.staging = [] := rfl

@[simp] theorem State.stripped_keeps (s : State) (c : Bool) : (s.stripped c).kept = (s.strip c).kept := by
  unfold State.stripped
  (try dsimp only)
  split <;> simp

@[simp] theorem State.startBoot_keeps (s : State) : s.startBoot.kept = s.kept := by
  simp [State.startBoot]

@[simp] theorem State.deviceReset_keeps (s : State) (cause : Nat) : (s.deviceReset cause).kept.pending = s.kept.pending ∧ (s.deviceReset cause).kept.life = s.kept.life ∧ (s.deviceReset cause).kept.lifeLog = s.kept.lifeLog ∧ (s.deviceReset cause).kept.ownerHash = s.kept.ownerHash ∧ (s.deviceReset cause).kept.minSvn = s.kept.minSvn ∧ (s.deviceReset cause).kept.boot = s.kept.boot ∧ (s.deviceReset cause).kept.tap = s.kept.tap := by
  simp [State.deviceReset]

@[simp] theorem State.coldReset_keeps (s : State) : s.coldReset.kept.pending = s.kept.pending ∧ s.coldReset.kept.life = s.kept.life ∧ s.coldReset.kept.lifeLog = s.kept.lifeLog ∧ s.coldReset.kept.ownerHash = s.kept.ownerHash ∧ s.coldReset.kept.minSvn = s.kept.minSvn ∧ s.coldReset.kept.boot = s.kept.boot := by
  simp [State.coldReset]

end Sys2Proof.Machine
end

