-- ==== Sys2Proof/Laws/Keeps/SafetyOps.lean ====
section
/-!
SUPPORT. What the operations of Machine/SafetyOps.lean leave as it was.
-/
set_option linter.all false
set_option linter.unusedTactic false
set_option linter.unreachableTactic false
namespace Sys2Proof.Machine

@[simp] theorem State.mgmtFail_keeps (s : State) (src : Nat) : (s.mgmtFail src).kept = s.kept := by
  simp [State.mgmtFail]

@[simp] theorem State.spoilSlots_keeps (s : State) : s.spoilSlots.kept = s.kept := by
  simp [State.spoilSlots]

@[simp] theorem State.spoilOne_keeps (s : State) (id inst : Nat) (chans : List Nat) : (s.spoilOne id inst chans).kept = s.kept := by
  simp [State.spoilOne]

@[simp] theorem State.ingestStall_keeps (s : State) : s.ingestStall.kept = s.kept := by
  simp [State.ingestStall]

@[simp] theorem State.meterDamage_keeps (s : State) (n : Nat) : (s.meterDamage n).kept = s.kept := by
  simp [State.meterDamage]

@[simp] theorem State.dmaStall_keeps (s : State) : s.dmaStall.kept = s.kept := by
  simp [State.dmaStall]

@[simp] theorem State.enginesStall_keeps (s : State) : s.enginesStall.kept = s.kept := by
  simp [State.enginesStall]

@[simp] theorem State.stallReset_keeps (s : State) (src : Nat) : (s.stallReset src).kept = s.kept := by
  unfold State.stallReset
  (repeat' split) <;> simp

@[simp] theorem State.wakeAbandon_keeps (s : State) : s.wakeAbandon.kept = s.kept := by
  simp [State.wakeAbandon]

@[simp] theorem State.tamperActions_keeps (s : State) (code value : Nat) (shows : Bool) : (s.tamperActions code value shows).kept = s.kept := by
  simp [State.tamperActions]

@[simp] theorem State.tamperDetected_keeps (s : State) (code value : Nat) : (s.tamperDetected code value).kept = s.kept := by
  simp [State.tamperDetected]

@[simp] theorem State.clusterThird_keeps (s : State) (k : Nat) : (s.clusterThird k).kept = s.kept := by
  simp [State.clusterThird]

@[simp] theorem State.blockReaction_keeps (s : State) (src detail : Nat) : (s.blockReaction src detail).kept.pending = s.kept.pending ∧ (s.blockReaction src detail).kept.life = s.kept.life ∧ (s.blockReaction src detail).kept.lifeLog = s.kept.lifeLog ∧ (s.blockReaction src detail).kept.ownerHash = s.kept.ownerHash ∧ (s.blockReaction src detail).kept.minSvn = s.kept.minSvn ∧ (s.blockReaction src detail).kept.boot = s.kept.boot ∧ (s.blockReaction src detail).kept.tap = s.kept.tap := by
  unfold State.blockReaction
  (repeat' split) <;> simp

end Sys2Proof.Machine
end

