-- ==== Sys2Proof/Laws/Keeps/SignalBox.lean ====
section
/-!
SUPPORT. What the operations of Machine/SignalBox.lean leave as it was.
-/
set_option linter.all false
set_option linter.unusedTactic false
set_option linter.unreachableTactic false
namespace Sys2Proof.Machine

@[simp] theorem fltRead_keeps (s : State) : (fltRead s).st.kept = s.kept := by
  simp [fltRead]

@[simp] theorem fltHistory_keeps (s : State) (p : FltHistory) : (fltHistory s p).st.kept = s.kept := by
  simp [fltHistory]

@[simp] theorem State.fltAcked_keeps (s : State) (p : FltAck) (recv : Stamp) : (s.fltAcked p recv).kept = s.kept := by
  simp [State.fltAcked]

@[simp] theorem State.during_kept (s : State) (t : Stamp) (f : State → State) : (s.during t f).kept = (f (s.at t)).kept := rfl

@[simp] theorem fltAck_keeps (s : State) (h : Pkt) (p : FltAck) : (fltAck s h p).st.kept = s.kept := by
  simp [fltAck]

@[simp] theorem State.inject_keeps (s : State) (p : FltInject) : (s.inject p).kept.pending = s.kept.pending ∧ (s.inject p).kept.life = s.kept.life ∧ (s.inject p).kept.lifeLog = s.kept.lifeLog ∧ (s.inject p).kept.ownerHash = s.kept.ownerHash ∧ (s.inject p).kept.minSvn = s.kept.minSvn ∧ (s.inject p).kept.boot = s.kept.boot ∧ (s.inject p).kept.tap = s.kept.tap := by
  simp [State.inject]

@[simp] theorem State.uninject_keeps (s : State) (src : Nat) : (s.uninject src).kept = s.kept := by
  simp [State.uninject]

@[simp] theorem fltInject_keeps (s : State) (h : Pkt) (p : FltInject) : (fltInject s h p).st.kept.pending = s.kept.pending ∧ (fltInject s h p).st.kept.life = s.kept.life ∧ (fltInject s h p).st.kept.lifeLog = s.kept.lifeLog ∧ (fltInject s h p).st.kept.ownerHash = s.kept.ownerHash ∧ (fltInject s h p).st.kept.minSvn = s.kept.minSvn ∧ (fltInject s h p).st.kept.boot = s.kept.boot ∧ (fltInject s h p).st.kept.tap = s.kept.tap := by
  simp [fltInject]

@[simp] theorem State.regionJudge_keeps (s : State) (reg : Nat) : (s.regionJudge reg).kept = s.kept := by
  simp [State.regionJudge]

@[simp] theorem State.fltApply_keeps (s : State) (p : FltSet) : (s.fltApply p).kept.pending = s.kept.pending ∧ (s.fltApply p).kept.life = s.kept.life ∧ (s.fltApply p).kept.lifeLog = s.kept.lifeLog ∧ (s.fltApply p).kept.ownerHash = s.kept.ownerHash ∧ (s.fltApply p).kept.minSvn = s.kept.minSvn ∧ (s.fltApply p).kept.boot = s.kept.boot ∧ (s.fltApply p).kept.tap = s.kept.tap ∧ (s.fltApply p).kept.staging = s.kept.staging ∧ (s.fltApply p).kept.grants = s.kept.grants ∧ (s.fltApply p).kept.timeOwner = s.kept.timeOwner ∧ (s.fltApply p).kept.ref = s.kept.ref ∧ (s.fltApply p).kept.delays = s.kept.delays ∧ (s.fltApply p).kept.challenge = s.kept.challenge := by
  simp [State.fltApply]

@[simp] theorem fltSet_keeps (s : State) (h : Pkt) (p : FltSet) : (fltSet s h p).st.kept.pending = s.kept.pending ∧ (fltSet s h p).st.kept.life = s.kept.life ∧ (fltSet s h p).st.kept.lifeLog = s.kept.lifeLog ∧ (fltSet s h p).st.kept.ownerHash = s.kept.ownerHash ∧ (fltSet s h p).st.kept.minSvn = s.kept.minSvn ∧ (fltSet s h p).st.kept.boot = s.kept.boot ∧ (fltSet s h p).st.kept.tap = s.kept.tap ∧ (fltSet s h p).st.kept.staging = s.kept.staging ∧ (fltSet s h p).st.kept.grants = s.kept.grants ∧ (fltSet s h p).st.kept.timeOwner = s.kept.timeOwner ∧ (fltSet s h p).st.kept.ref = s.kept.ref ∧ (fltSet s h p).st.kept.delays = s.kept.delays ∧ (fltSet s h p).st.kept.challenge = s.kept.challenge := by
  simp [fltSet]

@[simp] theorem State.outOfRange_keeps (s : State) (src : Nat) (low : Bool) : (s.outOfRange src low).kept = s.kept := by
  simp [State.outOfRange]

@[simp] theorem State.inRange_keeps (s : State) (src : Nat) : (s.inRange src).kept = s.kept := by
  simp [State.inRange]

@[simp] theorem State.recheckRange_keeps (s : State) : s.recheckRange.kept = s.kept := by
  unfold State.recheckRange
  (try dsimp only)
  (repeat' split) <;> simp (disch := ((try intros); (try dsimp only); (repeat' split) <;> (first | assumption | (simp_all; done))))

@[simp] theorem State.stalled_keeps (s : State) (b : StalledBlock) : (s.stalled b).kept = s.kept := by
  unfold State.stalled
  (repeat' split) <;> simp

@[simp] theorem State.corrected_keeps (s : State) (x : ScrubStep) : (s.corrected x).kept = s.kept := by
  simp [State.corrected]

@[simp] theorem State.portWord_keeps (s : State) (p q place detail : Nat) : (s.portWord p q place detail).kept = s.kept := by
  unfold State.portWord
  (repeat' split) <;> simp

@[simp] theorem State.uncorrectable_keeps (s : State) (x : ScrubStep) : (s.uncorrectable x).kept.pending = s.kept.pending ∧ (s.uncorrectable x).kept.life = s.kept.life ∧ (s.uncorrectable x).kept.lifeLog = s.kept.lifeLog ∧ (s.uncorrectable x).kept.ownerHash = s.kept.ownerHash ∧ (s.uncorrectable x).kept.minSvn = s.kept.minSvn ∧ (s.uncorrectable x).kept.boot = s.kept.boot ∧ (s.uncorrectable x).kept.tap = s.kept.tap := by
  unfold State.uncorrectable
  (try dsimp only)
  (repeat' split) <;> simp

@[simp] theorem State.sound_keeps (s : State) (w : Nat × Nat) : (s.sound w).kept = s.kept := by
  simp [State.sound]

@[simp] theorem State.norBad_keeps (s : State) (i : NorItem) : (s.norBad i).kept = s.kept := by
  unfold State.norBad
  (repeat' split) <;> simp

@[simp] theorem State.finding_keeps (s : State) (x : ScrubStep) : (s.finding x).kept.pending = s.kept.pending ∧ (s.finding x).kept.life = s.kept.life ∧ (s.finding x).kept.lifeLog = s.kept.lifeLog ∧ (s.finding x).kept.ownerHash = s.kept.ownerHash ∧ (s.finding x).kept.minSvn = s.kept.minSvn ∧ (s.finding x).kept.boot = s.kept.boot ∧ (s.finding x).kept.tap = s.kept.tap := by
  unfold State.finding
  (repeat' split) <;> simp

@[simp] theorem State.errCompare_keeps (s : State) (agree readbackOk : Bool) : (s.errCompare agree readbackOk).kept = s.kept := by
  simp [State.errCompare]

@[simp] theorem State.evaluateError_keeps (s : State) (e : HeldError) : (s.evaluateError e).kept.pending = s.kept.pending ∧ (s.evaluateError e).kept.life = s.kept.life ∧ (s.evaluateError e).kept.lifeLog = s.kept.lifeLog ∧ (s.evaluateError e).kept.ownerHash = s.kept.ownerHash ∧ (s.evaluateError e).kept.minSvn = s.kept.minSvn ∧ (s.evaluateError e).kept.boot = s.kept.boot ∧ (s.evaluateError e).kept.tap = s.kept.tap := by
  unfold State.evaluateError
  (repeat' split) <;> simp

@[simp] theorem State.judge_keeps (s : State) (part : Nat) (inSlice : Bool) (e : HeldError) : (s.judge part inSlice e).kept.pending = s.kept.pending ∧ (s.judge part inSlice e).kept.life = s.kept.life ∧ (s.judge part inSlice e).kept.lifeLog = s.kept.lifeLog ∧ (s.judge part inSlice e).kept.ownerHash = s.kept.ownerHash ∧ (s.judge part inSlice e).kept.minSvn = s.kept.minSvn ∧ (s.judge part inSlice e).kept.boot = s.kept.boot ∧ (s.judge part inSlice e).kept.tap = s.kept.tap := by
  simp [State.judge]

/-- An error that is no word changes nothing that is kept. -/
theorem State.judge_kept (s : State) (part : Nat) (inSlice : Bool) (e : HeldError) (h : ∀ x, e ≠ .word x) : (s.judge part inSlice e).kept = s.kept := by
  unfold State.judge State.evaluateError
  split
  · rfl
  · cases e with
    | word x => exact absurd rfl (h x)
    | range src low => cases low <;> simp
    | stall b => simp
    | pins agree readbackOk => simp

@[simp] theorem State.rangeEnds_keeps (s : State) (src : Nat) : (s.rangeEnds src).kept = s.kept := by
  simp [State.rangeEnds, State.judge_kept]

@[simp] theorem State.passEnd_keeps (s : State) (x : ScrubStep) : (s.passEnd x).kept = s.kept := by
  unfold State.passEnd
  (try dsimp only)
  (repeat' split) <;> simp

@[simp] theorem State.scrubStep_keeps (s : State) (x : ScrubStep) : (s.scrubStep x).kept.pending = s.kept.pending ∧ (s.scrubStep x).kept.life = s.kept.life ∧ (s.scrubStep x).kept.lifeLog = s.kept.lifeLog ∧ (s.scrubStep x).kept.ownerHash = s.kept.ownerHash ∧ (s.scrubStep x).kept.minSvn = s.kept.minSvn ∧ (s.scrubStep x).kept.boot = s.kept.boot ∧ (s.scrubStep x).kept.tap = s.kept.tap := by
  simp [State.scrubStep]

@[simp] theorem State.scrubOverdue_keeps (s : State) (dram : Bool) : (s.scrubOverdue dram).kept = s.kept := by
  simp [State.scrubOverdue]

@[simp] theorem State.errToggle_keeps (s : State) : s.errToggle.kept = s.kept := by
  simp [State.errToggle]

@[simp] theorem fltSelftest_keeps (s : State) (h : Pkt) (parts : Nat) : (fltSelftest s h parts).st.kept = s.kept := by
  simp [fltSelftest]

@[simp] theorem State.hourlyTest_keeps (s : State) : s.hourlyTest.kept = s.kept := by
  simp [State.hourlyTest]

@[simp] theorem State.sliceEnd_keeps (s : State) : s.sliceEnd.kept.pending = s.kept.pending ∧ s.sliceEnd.kept.life = s.kept.life ∧ s.sliceEnd.kept.lifeLog = s.kept.lifeLog ∧ s.sliceEnd.kept.ownerHash = s.kept.ownerHash ∧ s.sliceEnd.kept.minSvn = s.kept.minSvn ∧ s.sliceEnd.kept.boot = s.kept.boot ∧ s.sliceEnd.kept.tap = s.kept.tap := by
  simp [State.sliceEnd]

@[simp] theorem State.testOutcome_keeps (s : State) (parts failed : Nat) : (s.testOutcome parts failed).kept = s.kept := by
  simp [State.testOutcome]

@[simp] theorem State.selftestDone_keeps (s : State) (failed : Nat) : (s.selftestDone failed).kept.pending = s.kept.pending ∧ (s.selftestDone failed).kept.life = s.kept.life ∧ (s.selftestDone failed).kept.lifeLog = s.kept.lifeLog ∧ (s.selftestDone failed).kept.ownerHash = s.kept.ownerHash ∧ (s.selftestDone failed).kept.minSvn = s.kept.minSvn ∧ (s.selftestDone failed).kept.boot = s.kept.boot ∧ (s.selftestDone failed).kept.tap = s.kept.tap := by
  unfold State.selftestDone
  (repeat' split) <;> simp

@[simp] theorem State.selftestOverdue_keeps (s : State) : s.selftestOverdue.kept = s.kept := by
  simp [State.selftestOverdue]

end Sys2Proof.Machine
end

