-- ==== Sys2Proof/Laws/Keeps/Startup.lean ====
section
/-!
SUPPORT. What the operations of Machine/Startup.lean leave as it was.
-/
set_option linter.all false
set_option linter.unusedTactic false
set_option linter.unreachableTactic false
namespace Sys2Proof.Machine

@[simp] theorem State.porRelease_keeps (s : State) : s.porRelease.kept = s.kept := by
  simp [State.porRelease]

@[simp] theorem State.perstAssert_keeps (s : State) : s.perstAssert.kept.pending = s.kept.pending ∧ s.perstAssert.kept.life = s.kept.life ∧ s.perstAssert.kept.lifeLog = s.kept.lifeLog ∧ s.perstAssert.kept.ownerHash = s.kept.ownerHash ∧ s.perstAssert.kept.minSvn = s.kept.minSvn ∧ s.perstAssert.kept.boot = s.kept.boot ∧ s.perstAssert.kept.tap = s.kept.tap := by
  simp [State.perstAssert]

@[simp] theorem State.perstRelease_keeps (s : State) : s.perstRelease.kept = s.kept := by
  simp [State.perstRelease]

@[simp] theorem CmdOut.settled_kept (o : CmdOut) (s : State) (h : o.st.kept = s.kept) : (o.settled s).kept = s.kept := by
  unfold CmdOut.settled
  cases o <;> simp_all

@[simp] theorem CmdOut.settled_pending (o : CmdOut) (s : State) (h : o.st.kept.pending = s.kept.pending) : (o.settled s).kept.pending = s.kept.pending := by
  unfold CmdOut.settled
  cases o <;> simp_all

@[simp] theorem CmdOut.settled_sec_life (o : CmdOut) (s : State) (h : o.st.kept.life = s.kept.life) : (o.settled s).kept.life = s.kept.life := by
  unfold CmdOut.settled
  cases o <;> simp_all

@[simp] theorem CmdOut.settled_sec_lifeLog (o : CmdOut) (s : State) (h : o.st.kept.lifeLog = s.kept.lifeLog) : (o.settled s).kept.lifeLog = s.kept.lifeLog := by
  unfold CmdOut.settled
  cases o <;> simp_all

@[simp] theorem CmdOut.settled_sec_ownerHash (o : CmdOut) (s : State) (h : o.st.kept.ownerHash = s.kept.ownerHash) : (o.settled s).kept.ownerHash = s.kept.ownerHash := by
  unfold CmdOut.settled
  cases o <;> simp_all

@[simp] theorem CmdOut.settled_fw_minSvn (o : CmdOut) (s : State) (h : o.st.kept.minSvn = s.kept.minSvn) : (o.settled s).kept.minSvn = s.kept.minSvn := by
  unfold CmdOut.settled
  cases o <;> simp_all

@[simp] theorem CmdOut.settled_fw_boot (o : CmdOut) (s : State) (h : o.st.kept.boot = s.kept.boot) : (o.settled s).kept.boot = s.kept.boot := by
  unfold CmdOut.settled
  cases o <;> simp_all

@[simp] theorem CmdOut.settled_tap (o : CmdOut) (s : State) (h : o.st.kept.tap = s.kept.tap) : (o.settled s).kept.tap = s.kept.tap := by
  unfold CmdOut.settled
  cases o <;> simp_all

@[simp] theorem CmdOut.settled_hst_staging (o : CmdOut) (s : State) (h : o.st.kept.staging = s.kept.staging) : (o.settled s).kept.staging = s.kept.staging := by
  unfold CmdOut.settled
  cases o <;> simp_all

@[simp] theorem CmdOut.settled_hst_grants (o : CmdOut) (s : State) (h : o.st.kept.grants = s.kept.grants) : (o.settled s).kept.grants = s.kept.grants := by
  unfold CmdOut.settled
  cases o <;> simp_all

@[simp] theorem CmdOut.settled_hst_timeOwner (o : CmdOut) (s : State) (h : o.st.kept.timeOwner = s.kept.timeOwner) : (o.settled s).kept.timeOwner = s.kept.timeOwner := by
  unfold CmdOut.settled
  cases o <;> simp_all

@[simp] theorem CmdOut.settled_tb_ref (o : CmdOut) (s : State) (h : o.st.kept.ref = s.kept.ref) : (o.settled s).kept.ref = s.kept.ref := by
  unfold CmdOut.settled
  cases o <;> simp_all

@[simp] theorem CmdOut.settled_tb_delays (o : CmdOut) (s : State) (h : o.st.kept.delays = s.kept.delays) : (o.settled s).kept.delays = s.kept.delays := by
  unfold CmdOut.settled
  cases o <;> simp_all

@[simp] theorem CmdOut.settled_sec_challenge (o : CmdOut) (s : State) (h : o.st.kept.challenge = s.kept.challenge) : (o.settled s).kept.challenge = s.kept.challenge := by
  unfold CmdOut.settled
  cases o <;> simp_all

@[simp] theorem CmdOut.settled_flt_errMin (o : CmdOut) (s : State) (h : o.st.kept.errMin = s.kept.errMin) : (o.settled s).kept.errMin = s.kept.errMin := by
  unfold CmdOut.settled
  cases o <;> simp_all

@[simp] theorem State.quiet_keeps (old new : State) : (old.quiet new).kept = new.kept := by simp [State.quiet]

@[simp] theorem State.applyCmd_keeps (s : State) (h : Pkt) (x : Setting) : (s.applyCmd h x).kept.pending = s.kept.pending ∧ (s.applyCmd h x).kept.life = s.kept.life ∧ (s.applyCmd h x).kept.lifeLog = s.kept.lifeLog ∧ (s.applyCmd h x).kept.ownerHash = s.kept.ownerHash ∧ (s.applyCmd h x).kept.minSvn = s.kept.minSvn ∧ (s.applyCmd h x).kept.boot = s.kept.boot ∧ (s.applyCmd h x).kept.tap = s.kept.tap ∧ (s.applyCmd h x).kept.staging = s.kept.staging ∧ (s.applyCmd h x).kept.grants = s.kept.grants ∧ (s.applyCmd h x).kept.timeOwner = s.kept.timeOwner ∧ (s.applyCmd h x).kept.challenge = s.kept.challenge ∧ (s.applyCmd h x).kept.errMin = s.kept.errMin := by
  unfold State.applyCmd
  (repeat' split) <;> simp

@[simp] theorem State.grantSlots_keeps (s : State) (h : Pkt) (p : HstGrant) : (s.grantSlots h p).kept.pending = s.kept.pending ∧ (s.grantSlots h p).kept.life = s.kept.life ∧ (s.grantSlots h p).kept.lifeLog = s.kept.lifeLog ∧ (s.grantSlots h p).kept.ownerHash = s.kept.ownerHash ∧ (s.grantSlots h p).kept.minSvn = s.kept.minSvn ∧ (s.grantSlots h p).kept.boot = s.kept.boot ∧ (s.grantSlots h p).kept.tap = s.kept.tap ∧ (s.grantSlots h p).kept.staging = s.kept.staging ∧ (s.grantSlots h p).kept.timeOwner = s.kept.timeOwner ∧ (s.grantSlots h p).kept.ref = s.kept.ref ∧ (s.grantSlots h p).kept.delays = s.kept.delays ∧ (s.grantSlots h p).kept.challenge = s.kept.challenge ∧ (s.grantSlots h p).kept.errMin = s.kept.errMin := by
  unfold State.grantSlots
  split <;> simp [State.kept]

theorem State.applyHost_keeps (s s1 : State) (h : Pkt) (x : Setting) (e : s.applyHost h x = some s1) :
    s1.kept.pending = s.kept.pending ∧ s1.kept.life = s.kept.life ∧ s1.kept.lifeLog = s.kept.lifeLog ∧ s1.kept.ownerHash = s.kept.ownerHash ∧ s1.kept.minSvn = s.kept.minSvn ∧ s1.kept.boot = s.kept.boot ∧ s1.kept.tap = s.kept.tap ∧ s1.kept.staging = s.kept.staging ∧ s1.kept.challenge = s.kept.challenge := by
  unfold State.applyHost at e
  (repeat' split at e) <;> first | (cases e; done) | (obtain ⟨a, -, rfl⟩ := Option.map_eq_some_iff.mp e; simp; done) | (cases e; simp; done)
theorem State.applyLoose_keeps (s s1 : State) (x : Setting) (e : s.applyLoose x = some s1) :
    s1.kept.pending = s.kept.pending ∧ s1.kept.life = s.kept.life ∧ s1.kept.lifeLog = s.kept.lifeLog ∧ s1.kept.ownerHash = s.kept.ownerHash ∧ s1.kept.minSvn = s.kept.minSvn ∧ s1.kept.boot = s.kept.boot ∧ s1.kept.tap = s.kept.tap ∧ s1.kept.staging = s.kept.staging ∧ s1.kept.challenge = s.kept.challenge := by
  unfold State.applyLoose at e
  (repeat' split at e) <;> first | (cases e; done) | (obtain ⟨a, -, rfl⟩ := Option.map_eq_some_iff.mp e; simp; done) | (cases e; simp; done)
@[simp] theorem State.applySetting_keeps (s : State) (x : BundleSetting) :
    (s.applySetting x).kept.pending = s.kept.pending ∧ (s.applySetting x).kept.life = s.kept.life ∧ (s.applySetting x).kept.lifeLog = s.kept.lifeLog ∧ (s.applySetting x).kept.ownerHash = s.kept.ownerHash ∧ (s.applySetting x).kept.minSvn = s.kept.minSvn ∧ (s.applySetting x).kept.boot = s.kept.boot ∧ (s.applySetting x).kept.tap = s.kept.tap ∧ (s.applySetting x).kept.staging = s.kept.staging ∧ (s.applySetting x).kept.challenge = s.kept.challenge := by
  unfold State.applySetting
  dsimp only
  split
  · rename_i h
    simp [State.applyHost_keeps _ _ _ _ h]
  · split
    · rename_i h
      exact State.applyLoose_keeps _ _ _ h
    · simp

@[simp] theorem State.applyBundle_keeps (s : State) (b : Bundle) : (s.applyBundle b).kept.pending = s.kept.pending ∧ (s.applyBundle b).kept.life = s.kept.life ∧ (s.applyBundle b).kept.lifeLog = s.kept.lifeLog ∧ (s.applyBundle b).kept.ownerHash = s.kept.ownerHash ∧ (s.applyBundle b).kept.minSvn = s.kept.minSvn ∧ (s.applyBundle b).kept.boot = s.kept.boot ∧ (s.applyBundle b).kept.tap = s.kept.tap ∧ (s.applyBundle b).kept.staging = s.kept.staging ∧ (s.applyBundle b).kept.challenge = s.kept.challenge := by
  simp [State.applyBundle]

@[simp] theorem State.startClusters_keeps (s : State) (failed bank : Nat) : (s.startClusters failed bank).kept = s.kept := by
  simp [State.startClusters]

@[simp] theorem State.recordFound_keeps (s : State) (f : StartFault) : (s.recordFound f).kept = s.kept := by
  unfold State.recordFound
  (repeat' split) <;> simp

@[simp] theorem State.startImage_keeps (s : State) (imageOk : Bool) : (s.startImage imageOk).1.kept = s.kept := by
  unfold State.startImage
  (repeat' split) <;> simp

@[simp] theorem State.conditionFound_keeps (s : State) (c : BlockCondition) : (s.conditionFound c).kept = s.kept := by
  unfold State.conditionFound
  (repeat' split) <;> simp

@[simp] theorem State.startupEnd_keeps (s : State) (r : StartupReport) (bank : Nat) (fallback : Bool) : (s.startupEnd r bank fallback).kept.pending = s.kept.pending ∧ (s.startupEnd r bank fallback).kept.life = s.kept.life ∧ (s.startupEnd r bank fallback).kept.lifeLog = s.kept.lifeLog ∧ (s.startupEnd r bank fallback).kept.ownerHash = s.kept.ownerHash ∧ (s.startupEnd r bank fallback).kept.minSvn = s.kept.minSvn ∧ (s.startupEnd r bank fallback).kept.boot = s.kept.boot ∧ (s.startupEnd r bank fallback).kept.tap = s.kept.tap ∧ (s.startupEnd r bank fallback).kept.staging = s.kept.staging ∧ (s.startupEnd r bank fallback).kept.challenge = s.kept.challenge := by
  unfold State.startupEnd
  (try dsimp only)
  (repeat' split) <;> simp

@[simp] theorem State.startUp_keeps (s : State) (r : StartupReport) : (s.startUp r).kept.pending = s.kept.pending ∧ (s.startUp r).kept.life = s.kept.life ∧ (s.startUp r).kept.lifeLog = s.kept.lifeLog ∧ (s.startUp r).kept.ownerHash = s.kept.ownerHash ∧ (s.startUp r).kept.minSvn = s.kept.minSvn ∧ (s.startUp r).kept.boot = s.kept.boot ∧ (s.startUp r).kept.tap = s.kept.tap ∧ (s.startUp r).kept.staging = s.kept.staging ∧ (s.startUp r).kept.challenge = s.kept.challenge := by
  unfold State.startUp
  (repeat' split) <;> simp

end Sys2Proof.Machine
end

