-- ==== Sys2Proof/Laws/Keeps/Power.lean ====
section
/-!
SUPPORT. What the operations of Machine/Power.lean leave as it was.
-/
set_option linter.all false
set_option linter.unusedTactic false
set_option linter.unreachableTactic false
namespace Sys2Proof.Machine

@[simp] theorem State.pfwCheckpoint_keeps (s : State) : s.pfwCheckpoint.kept = s.kept := by
  simp [State.pfwCheckpoint]

@[simp] theorem State.pfwFall_keeps (s : State) : s.pfwFall.kept = s.kept := by
  simp [State.pfwFall]

@[simp] theorem State.pfwRise_keeps (s : State) : s.pfwRise.kept = s.kept := by
  simp [State.pfwRise]

@[simp] theorem State.enterStabled_keeps (s : State) (tc : Stamp) : (s.enterStabled tc).kept = s.kept := by
  simp [State.enterStabled]

@[simp] theorem pwrStabled_keeps (s : State) (h : Pkt) (force : Bool) : (pwrStabled s h force).st.kept = s.kept := by
  simp [pwrStabled]

@[simp] theorem State.clustersAsleep_keeps (s : State) : s.clustersAsleep.kept = s.kept := by
  simp [State.clustersAsleep]

@[simp] theorem State.portsAsleep_keeps (s : State) : s.portsAsleep.kept = s.kept := by
  simp [State.portsAsleep]

@[simp] theorem State.sourcesAsleep_keeps (s : State) : s.sourcesAsleep.kept = s.kept := by
  simp [State.sourcesAsleep]

@[simp] theorem State.waitersAsleep_keeps (s : State) : s.waitersAsleep.kept = s.kept := by
  simp [State.waitersAsleep]

@[simp] theorem State.wakeStart_keeps (s : State) : s.wakeStart.kept = s.kept := by
  simp [State.wakeStart]

@[simp] theorem State.wakeRequest_keeps (s : State) : s.wakeRequest.kept = s.kept := by
  simp [State.wakeRequest]

@[simp] theorem State.stabledDone_keeps (s : State) : s.stabledDone.kept = s.kept := by
  simp [State.stabledDone]

@[simp] theorem State.wakeWrite_keeps (s : State) (part value : Nat) : (s.wakeWrite part value).kept = s.kept := by
  simp [State.wakeWrite]

@[simp] theorem pwrWake_keeps (s : State) (h : Pkt) : (pwrWake s h).st.kept = s.kept := by
  simp [pwrWake]

@[simp] theorem State.wakeClusters_keeps (s : State) (failed : Nat) : (s.wakeClusters failed).1.kept = s.kept := by
  simp [State.wakeClusters]

@[simp] theorem State.readmit_keeps (s : State) : s.readmit.kept = s.kept := by
  simp [State.readmit]

@[simp] theorem State.wakeGroups_keeps (s : State) : s.wakeGroups.kept = s.kept := by
  simp [State.wakeGroups]

@[simp] theorem State.wakeMeters_keeps (s : State) : s.wakeMeters.kept = s.kept := by
  simp [State.wakeMeters]

@[simp] theorem State.wakeRecorders_keeps (s : State) : s.wakeRecorders.kept = s.kept := by
  simp [State.wakeRecorders]

@[simp] theorem State.wakePair_keeps (s : State) : s.wakePair.kept = s.kept := by
  simp [State.wakePair]

@[simp] theorem State.wakeEnd_keeps (s : State) (found : WakeFound) (clustersFailed : Nat) : (s.wakeEnd found clustersFailed).kept = s.kept := by
  simp [State.wakeEnd]

@[simp] theorem State.wakeDone_keeps (s : State) (retentionOk : Bool) (found : WakeFound) (clustersFailed : Nat) : (s.wakeDone retentionOk found clustersFailed).kept.pending = s.kept.pending ∧ (s.wakeDone retentionOk found clustersFailed).kept.life = s.kept.life ∧ (s.wakeDone retentionOk found clustersFailed).kept.lifeLog = s.kept.lifeLog ∧ (s.wakeDone retentionOk found clustersFailed).kept.ownerHash = s.kept.ownerHash ∧ (s.wakeDone retentionOk found clustersFailed).kept.minSvn = s.kept.minSvn ∧ (s.wakeDone retentionOk found clustersFailed).kept.boot = s.kept.boot ∧ (s.wakeDone retentionOk found clustersFailed).kept.tap = s.kept.tap := by
  simp [State.wakeDone]

@[simp] theorem pwrQuery_keeps (s : State) : (pwrQuery s).st.kept = s.kept := by
  simp [pwrQuery]

end Sys2Proof.Machine
end

