-- ==== Sys2Proof/Laws/Keeps/Firmware.lean ====
section
/-!
SUPPORT. What the operations of Machine/Firmware.lean leave as it was.
-/
set_option linter.all false
set_option linter.unusedTactic false
set_option linter.unreachableTactic false
namespace Sys2Proof.Machine

@[simp] theorem devReset_keeps (s : State) (h : Pkt) (kind : Nat) : (devReset s h kind).st.kept.pending = s.kept.pending ∧ (devReset s h kind).st.kept.life = s.kept.life ∧ (devReset s h kind).st.kept.lifeLog = s.kept.lifeLog ∧ (devReset s h kind).st.kept.ownerHash = s.kept.ownerHash ∧ (devReset s h kind).st.kept.minSvn = s.kept.minSvn ∧ (devReset s h kind).st.kept.boot = s.kept.boot ∧ (devReset s h kind).st.kept.tap = s.kept.tap := by
  simp [devReset]

@[simp] theorem State.lifeEntry_keeps (s : State) (dest signer : Nat) : (s.lifeEntry dest signer).kept.pending = s.kept.pending ∧ (s.lifeEntry dest signer).kept.life = s.kept.life ∧ (s.lifeEntry dest signer).kept.ownerHash = s.kept.ownerHash ∧ (s.lifeEntry dest signer).kept.minSvn = s.kept.minSvn ∧ (s.lifeEntry dest signer).kept.boot = s.kept.boot ∧ (s.lifeEntry dest signer).kept.tap = s.kept.tap ∧ (s.lifeEntry dest signer).kept.staging = s.kept.staging ∧ (s.lifeEntry dest signer).kept.grants = s.kept.grants ∧ (s.lifeEntry dest signer).kept.timeOwner = s.kept.timeOwner ∧ (s.lifeEntry dest signer).kept.ref = s.kept.ref ∧ (s.lifeEntry dest signer).kept.delays = s.kept.delays ∧ (s.lifeEntry dest signer).kept.challenge = s.kept.challenge ∧ (s.lifeEntry dest signer).kept.errMin = s.kept.errMin := by
  simp [State.lifeEntry]

@[simp] theorem State.lcStrip_keeps (s : State) (bundle : Bool) : (s.lcStrip bundle).kept = s.kept := by
  simp [State.lcStrip]

@[simp] theorem State.personalised_keeps (s : State) : s.personalised.kept = s.kept := by
  simp [State.personalised]

@[simp] theorem State.lcApply_keeps (s : State) (p : LcTransition) (signer : Nat) : (s.lcApply p signer).kept.pending = s.kept.pending ∧ (s.lcApply p signer).kept.minSvn = s.kept.minSvn ∧ (s.lcApply p signer).kept.boot = s.kept.boot ∧ (s.lcApply p signer).kept.tap = s.kept.tap := by
  simp [State.lcApply]

@[simp] theorem lcMove_keeps (s : State) (h : Pkt) (p : LcTransition) : (lcMove s h p).st.kept.pending = s.kept.pending ∧ (lcMove s h p).st.kept.minSvn = s.kept.minSvn ∧ (lcMove s h p).st.kept.boot = s.kept.boot ∧ (lcMove s h p).st.kept.tap = s.kept.tap := by
  unfold lcMove
  (repeat' split) <;> simp
  all_goals (by_cases n : (firstBad [norIdle s]).isSome = true <;> simp [n])

@[simp] theorem lcChallenge_keeps (s : State) : (lcChallenge s).st.kept.pending = s.kept.pending ∧ (lcChallenge s).st.kept.life = s.kept.life ∧ (lcChallenge s).st.kept.lifeLog = s.kept.lifeLog ∧ (lcChallenge s).st.kept.ownerHash = s.kept.ownerHash ∧ (lcChallenge s).st.kept.minSvn = s.kept.minSvn ∧ (lcChallenge s).st.kept.boot = s.kept.boot ∧ (lcChallenge s).st.kept.tap = s.kept.tap ∧ (lcChallenge s).st.kept.staging = s.kept.staging ∧ (lcChallenge s).st.kept.grants = s.kept.grants ∧ (lcChallenge s).st.kept.timeOwner = s.kept.timeOwner ∧ (lcChallenge s).st.kept.ref = s.kept.ref ∧ (lcChallenge s).st.kept.delays = s.kept.delays ∧ (lcChallenge s).st.kept.errMin = s.kept.errMin := by
  simp [lcChallenge]

@[simp] theorem lcUnlock_keeps (s : State) (h : Pkt) (p : LcTransition) : (lcUnlock s h p).st.kept.pending = s.kept.pending ∧ (lcUnlock s h p).st.kept.life = s.kept.life ∧ (lcUnlock s h p).st.kept.ownerHash = s.kept.ownerHash ∧ (lcUnlock s h p).st.kept.minSvn = s.kept.minSvn ∧ (lcUnlock s h p).st.kept.boot = s.kept.boot ∧ (lcUnlock s h p).st.kept.tap = s.kept.tap ∧ (lcUnlock s h p).st.kept.staging = s.kept.staging ∧ (lcUnlock s h p).st.kept.grants = s.kept.grants ∧ (lcUnlock s h p).st.kept.timeOwner = s.kept.timeOwner ∧ (lcUnlock s h p).st.kept.ref = s.kept.ref ∧ (lcUnlock s h p).st.kept.delays = s.kept.delays ∧ (lcUnlock s h p).st.kept.errMin = s.kept.errMin := by
  simp [lcUnlock]

@[simp] theorem lcTransition_keeps (s : State) (h : Pkt) (p : LcTransition) : (lcTransition s h p).st.kept.pending = s.kept.pending ∧ (lcTransition s h p).st.kept.minSvn = s.kept.minSvn ∧ (lcTransition s h p).st.kept.boot = s.kept.boot ∧ (lcTransition s h p).st.kept.tap = s.kept.tap := by
  simp [lcTransition]

@[simp] theorem State.setBank_keeps (s : State) (n : Nat) (b : Bank) : (s.setBank n b).kept = s.kept := by
  simp [State.setBank]

@[simp] theorem fwLoad_keeps (s : State) (h : Pkt) (p : FwLoad) : (fwLoad s h p).st.kept = s.kept := by
  simp [fwLoad]

@[simp] theorem State.fwVerified_keeps (s : State) (v : FwVerify) : (s.fwVerified v).kept = s.kept := by
  unfold State.fwVerified
  (repeat' split) <;> simp

@[simp] theorem fwClusterUpdate_keeps (s : State) (h : Pkt) (cluster : Nat) : (fwClusterUpdate s h cluster).st.kept = s.kept := by
  simp [fwClusterUpdate]

@[simp] theorem State.clusterLoaded_keeps (s : State) (k : Nat) (good : Bool) : (s.clusterLoaded k good).kept = s.kept := by
  simp [State.clusterLoaded]

@[simp] theorem fwRestart_keeps (s : State) : (fwRestart s).st.kept = s.kept := by
  simp [fwRestart]

@[simp] theorem fwCommit_keeps (s : State) : (fwCommit s).st.kept.pending = s.kept.pending ∧ (fwCommit s).st.kept.life = s.kept.life ∧ (fwCommit s).st.kept.lifeLog = s.kept.lifeLog ∧ (fwCommit s).st.kept.ownerHash = s.kept.ownerHash ∧ (fwCommit s).st.kept.tap = s.kept.tap ∧ (fwCommit s).st.kept.staging = s.kept.staging ∧ (fwCommit s).st.kept.grants = s.kept.grants ∧ (fwCommit s).st.kept.timeOwner = s.kept.timeOwner ∧ (fwCommit s).st.kept.ref = s.kept.ref ∧ (fwCommit s).st.kept.delays = s.kept.delays ∧ (fwCommit s).st.kept.challenge = s.kept.challenge ∧ (fwCommit s).st.kept.errMin = s.kept.errMin := by
  simp [fwCommit]

@[simp] theorem fwLogic_keeps (s : State) (h : Pkt) : (fwLogic s h).st.kept = s.kept := by
  unfold fwLogic
  (repeat' split) <;> simp

@[simp] theorem fwSwitch_keeps (s : State) (h : Pkt) (op : Nat) : (fwSwitch s h op).st.kept.pending = s.kept.pending ∧ (fwSwitch s h op).st.kept.life = s.kept.life ∧ (fwSwitch s h op).st.kept.lifeLog = s.kept.lifeLog ∧ (fwSwitch s h op).st.kept.ownerHash = s.kept.ownerHash ∧ (fwSwitch s h op).st.kept.tap = s.kept.tap ∧ (fwSwitch s h op).st.kept.staging = s.kept.staging ∧ (fwSwitch s h op).st.kept.grants = s.kept.grants ∧ (fwSwitch s h op).st.kept.timeOwner = s.kept.timeOwner ∧ (fwSwitch s h op).st.kept.ref = s.kept.ref ∧ (fwSwitch s h op).st.kept.delays = s.kept.delays ∧ (fwSwitch s h op).st.kept.challenge = s.kept.challenge ∧ (fwSwitch s h op).st.kept.errMin = s.kept.errMin := by
  simp [fwSwitch]

@[simp] theorem State.mgmtRestarted_keeps (s : State) : s.mgmtRestarted.kept = s.kept := by
  simp [State.mgmtRestarted]

@[simp] theorem State.mgmtResumed_keeps (s : State) : s.mgmtResumed.kept = s.kept := by
  simp [State.mgmtResumed]

@[simp] theorem cfgLoad_keeps (s : State) (h : Pkt) (p : CfgLoad) : (cfgLoad s h p).st.kept = s.kept := by
  simp [cfgLoad]

@[simp] theorem State.cfgVerified_keeps (s : State) (v : CfgVerify) : (s.cfgVerified v).kept = s.kept := by
  simp [State.cfgVerified]

@[simp] theorem cfgRead_keeps (s : State) (h : Pkt) (p : CfgRead) : (cfgRead s h p).st.kept = s.kept := by
  unfold cfgRead
  (repeat' split) <;> simp

end Sys2Proof.Machine
end

