-- ==== Sys2Proof/Laws/Keeps/TestPort.lean ====
section
/-!
SUPPORT. What the operations of Machine/TestPort.lean leave as it was.
-/
set_option linter.all false
set_option linter.unusedTactic false
set_option linter.unreachableTactic false
namespace Sys2Proof.Machine

@[simp] theorem State.tapRise_keeps (s : State) (tdi : Bool) : (s.tapRise tdi).kept.pending = s.kept.pending ∧ (s.tapRise tdi).kept.life = s.kept.life ∧ (s.tapRise tdi).kept.lifeLog = s.kept.lifeLog ∧ (s.tapRise tdi).kept.ownerHash = s.kept.ownerHash ∧ (s.tapRise tdi).kept.minSvn = s.kept.minSvn ∧ (s.tapRise tdi).kept.boot = s.kept.boot ∧ (s.tapRise tdi).kept.staging = s.kept.staging ∧ (s.tapRise tdi).kept.grants = s.kept.grants ∧ (s.tapRise tdi).kept.timeOwner = s.kept.timeOwner ∧ (s.tapRise tdi).kept.ref = s.kept.ref ∧ (s.tapRise tdi).kept.delays = s.kept.delays ∧ (s.tapRise tdi).kept.challenge = s.kept.challenge ∧ (s.tapRise tdi).kept.errMin = s.kept.errMin := by
  unfold State.tapRise
  (repeat' split) <;> simp

@[simp] theorem State.tapFall_keeps (s : State) : s.tapFall.kept.pending = s.kept.pending ∧ s.tapFall.kept.life = s.kept.life ∧ s.tapFall.kept.lifeLog = s.kept.lifeLog ∧ s.tapFall.kept.ownerHash = s.kept.ownerHash ∧ s.tapFall.kept.minSvn = s.kept.minSvn ∧ s.tapFall.kept.boot = s.kept.boot ∧ s.tapFall.kept.staging = s.kept.staging ∧ s.tapFall.kept.grants = s.kept.grants ∧ s.tapFall.kept.timeOwner = s.kept.timeOwner ∧ s.tapFall.kept.ref = s.kept.ref ∧ s.tapFall.kept.delays = s.kept.delays ∧ s.tapFall.kept.challenge = s.kept.challenge ∧ s.tapFall.kept.errMin = s.kept.errMin := by
  unfold State.tapFall
  (repeat' split) <;> simp

@[simp] theorem State.tapCycle_keeps (s : State) (trst tms tdi : Bool) : (s.tapCycle trst tms tdi).kept.pending = s.kept.pending ∧ (s.tapCycle trst tms tdi).kept.life = s.kept.life ∧ (s.tapCycle trst tms tdi).kept.lifeLog = s.kept.lifeLog ∧ (s.tapCycle trst tms tdi).kept.ownerHash = s.kept.ownerHash ∧ (s.tapCycle trst tms tdi).kept.minSvn = s.kept.minSvn ∧ (s.tapCycle trst tms tdi).kept.boot = s.kept.boot ∧ (s.tapCycle trst tms tdi).kept.staging = s.kept.staging ∧ (s.tapCycle trst tms tdi).kept.grants = s.kept.grants ∧ (s.tapCycle trst tms tdi).kept.timeOwner = s.kept.timeOwner ∧ (s.tapCycle trst tms tdi).kept.ref = s.kept.ref ∧ (s.tapCycle trst tms tdi).kept.delays = s.kept.delays ∧ (s.tapCycle trst tms tdi).kept.challenge = s.kept.challenge ∧ (s.tapCycle trst tms tdi).kept.errMin = s.kept.errMin := by
  simp [State.tapCycle]

end Sys2Proof.Machine
end

