-- ==== Sys2Proof/Laws/Keeps/RegisterReads.lean ====
section
/-!
SUPPORT. What the operations of Machine/RegisterReads.lean leave as it was.
-/
set_option linter.all false
set_option linter.unusedTactic false
set_option linter.unreachableTactic false
namespace Sys2Proof.Machine

@[simp] theorem State.readWord_keeps (s : State) (part off : Nat) : (s.readWord part off).2.kept = s.kept := by
  unfold State.readWord
  (try dsimp only)
  (repeat' split) <;> simp

@[simp] theorem State.barRead_keeps (s : State) (part off width : Nat) : (s.barRead part off width).2.kept = s.kept := by
  unfold State.barRead
  (repeat' split) <;> simp

end Sys2Proof.Machine
end

