-- ==== Sys2Proof/Laws/Keeps/Registers.lean ====
section
/-!
SUPPORT. What the operations of Machine/Registers.lean leave as it was.
-/
set_option linter.all false
set_option linter.unusedTactic false
set_option linter.unreachableTactic false
namespace Sys2Proof.Machine

@[simp] theorem State.snap_keeps (s : State) (part : Nat) (offs : List Nat) : (s.snap part offs).kept = s.kept := by
  simp [State.snap]

@[simp] theorem State.snapIf_keeps (s : State) (part value : Nat) (allowed : Bool) (offs : List Nat) : (s.snapIf part value allowed offs).kept = s.kept := by
  simp [State.snapIf]

@[simp] theorem State.ingSnap_keeps (s : State) (part value : Nat) : (s.ingSnap part value).kept = s.kept := by
  simp [State.ingSnap]

@[simp] theorem State.pltSnap_keeps (s : State) (part value : Nat) : (s.pltSnap part value).kept = s.kept := by
  simp [State.pltSnap]

@[simp] theorem State.wchSnap_keeps (s : State) (part value : Nat) : (s.wchSnap part value).kept = s.kept := by
  simp [State.wchSnap]

@[simp] theorem State.nrgSnap_keeps (s : State) (part value : Nat) : (s.nrgSnap part value).kept = s.kept := by
  simp [State.nrgSnap]

@[simp] theorem State.oscSnap_keeps (s : State) (part value : Nat) : (s.oscSnap part value).kept = s.kept := by
  simp [State.oscSnap]

@[simp] theorem State.cohSnap_keeps (s : State) (part value : Nat) : (s.cohSnap part value).kept = s.kept := by
  simp [State.cohSnap]

@[simp] theorem State.alcSnap_keeps (s : State) (part value : Nat) : (s.alcSnap part value).kept = s.kept := by
  simp [State.alcSnap]

@[simp] theorem State.recSnap_keeps (s : State) (part value : Nat) : (s.recSnap part value).kept = s.kept := by
  simp [State.recSnap]

@[simp] theorem State.schSnap_keeps (s : State) (part value : Nat) : (s.schSnap part value).kept = s.kept := by
  simp [State.schSnap]

@[simp] theorem State.tbSnap_keeps (s : State) (part value : Nat) : (s.tbSnap part value).kept = s.kept := by
  simp [State.tbSnap]

@[simp] theorem State.nowSnap_keeps (s : State) (part value : Nat) : (s.nowSnap part value).kept = s.kept := by
  simp [State.nowSnap]

@[simp] theorem State.keySnap_keeps (s : State) (part value : Nat) : (s.keySnap part value).kept = s.kept := by
  simp [State.keySnap]

@[simp] theorem State.prtSnap_keeps (s : State) (part port value : Nat) : (s.prtSnap part port value).kept = s.kept := by
  simp [State.prtSnap]

@[simp] theorem State.nowRead_keeps (s : State) (part tb : Nat) : (s.nowRead part tb).kept = s.kept := by
  simp [State.nowRead]

@[simp] theorem State.latmonWrite_keeps (s : State) (part value : Nat) : (s.latmonWrite part value).kept = s.kept := by
  simp [State.latmonWrite]

@[simp] theorem State.traceConsWrite_keeps (s : State) (part value : Nat) : (s.traceConsWrite part value).kept = s.kept := by
  unfold State.traceConsWrite
  (repeat' split) <;> simp

@[simp] theorem State.wchWrite_keeps (s : State) (part o value : Nat) : (s.wchWrite part o value).kept = s.kept := by
  simp [State.wchWrite]

@[simp] theorem State.nrgWrite_keeps (s : State) (part o value : Nat) : (s.nrgWrite part o value).kept = s.kept := by
  simp [State.nrgWrite]

@[simp] theorem State.oscWrite_keeps (s : State) (part o value : Nat) : (s.oscWrite part o value).kept = s.kept := by
  simp [State.oscWrite]

@[simp] theorem State.cohWrite_keeps (s : State) (part o value : Nat) : (s.cohWrite part o value).kept = s.kept := by
  simp [State.cohWrite]

@[simp] theorem State.alcWrite_keeps (s : State) (part o value : Nat) : (s.alcWrite part o value).kept = s.kept := by
  simp [State.alcWrite]

@[simp] theorem State.recWrite_keeps (s : State) (part o value : Nat) : (s.recWrite part o value).kept = s.kept := by
  simp [State.recWrite]

@[simp] theorem State.schWrite_keeps (s : State) (part o value : Nat) : (s.schWrite part o value).kept = s.kept := by
  simp [State.schWrite]

@[simp] theorem State.keyRegWrite_keeps (s : State) (part o value : Nat) : (s.keyRegWrite part o value).kept = s.kept := by
  simp [State.keyRegWrite]

@[simp] theorem State.pwrWrite_keeps (s : State) (part o value : Nat) : (s.pwrWrite part o value).kept = s.kept := by
  simp [State.pwrWrite]

@[simp] theorem State.ingWrite_keeps (s : State) (part o value : Nat) : (s.ingWrite part o value).kept = s.kept := by
  simp [State.ingWrite]

@[simp] theorem State.pltRegWrite_keeps (s : State) (part o value : Nat) : (s.pltRegWrite part o value).kept = s.kept := by
  simp [State.pltRegWrite]

@[simp] theorem State.ttWrite_keeps (s : State) (part o value : Nat) : (s.ttWrite part o value).kept = s.kept := by
  simp [State.ttWrite]

@[simp] theorem State.prtWrite_keeps (s : State) (part p o value : Nat) : (s.prtWrite part p o value).kept = s.kept := by
  simp [State.prtWrite]

@[simp] theorem State.hstWrite_keeps (s : State) (part o value : Nat) : (s.hstWrite part o value).kept = s.kept := by
  simp [State.hstWrite]

@[simp] theorem State.msixWrite_keeps (s : State) (part i value : Nat) : (s.msixWrite part i value).kept = s.kept := by
  simp [State.msixWrite]

@[simp] theorem State.writeWord_keeps (s : State) (part off value : Nat) : (s.writeWord part off value).kept = s.kept := by
  unfold State.writeWord
  (try dsimp only)
  (repeat' split) <;> simp

@[simp] theorem State.barWrite_keeps (s : State) (part off width value : Nat) : (s.barWrite part off width value).kept = s.kept := by
  simp [State.barWrite]

end Sys2Proof.Machine
end

