-- ==== Sys2Proof/Laws/Keeps/Rows1.lean ====
section
/-!
SUPPORT. What the rows of the table leave as it was, part 1.
-/
set_option linter.all false
set_option linter.unusedTactic false
set_option linter.unreachableTactic false
namespace Sys2Proof.Machine

@[simp] theorem execTtPropose_keeps (h : Pkt) (p : TtPropose) (s : State) : (OutSt (execTtPropose h p s) s).kept = s.kept := by
  simp [execTtPropose]

@[simp] theorem execTtRelease_keeps (h : Pkt) (contract : Nat) (s : State) : (OutSt (execTtRelease h contract s) s).kept = s.kept := by
  simp [execTtRelease]

@[simp] theorem execTtQuery_keeps (h : Pkt) (contract : Nat) (s : State) : (OutSt (execTtQuery h contract s) s).kept = s.kept := by
  simp [execTtQuery]

@[simp] theorem execTtReplace_keeps (h : Pkt) (p : TtReplace) (s : State) : (OutSt (execTtReplace h p s) s).kept = s.kept := by
  simp [execTtReplace]

@[simp] theorem execTtSetProfile_keeps (h : Pkt) (p : TtSetProfile) (s : State) : (OutSt (execTtSetProfile h p s) s).kept = s.kept := by
  simp [execTtSetProfile]

@[simp] theorem execTtCheckRemoval_keeps (h : Pkt) (cluster : Nat) (s : State) : (OutSt (execTtCheckRemoval h cluster s) s).kept = s.kept := by
  simp [execTtCheckRemoval]

@[simp] theorem execTtList_keeps (h : Pkt) (p : TtList) (s : State) : (OutSt (execTtList h p s) s).kept = s.kept := by
  simp [execTtList]

@[simp] theorem execSentinelReading_keeps (t sentinel ratio : Nat) (s : State) : (OutSt (execSentinelReading t sentinel ratio s) s).kept = s.kept := by
  simp [execSentinelReading]

@[simp] theorem execBasisRestored_keeps (t : Nat) (s : State) : (OutSt (execBasisRestored t s) s).kept = s.kept := by
  simp [execBasisRestored]

@[simp] theorem execLiveEvaluation_keeps (t : Nat) (s : State) : (OutSt (execLiveEvaluation t s) s).kept = s.kept := by
  simp [execLiveEvaluation]

@[simp] theorem execLiveUrgentEvaluation_keeps (t cluster : Nat) (s : State) : (OutSt (execLiveUrgentEvaluation t cluster s) s).kept = s.kept := by
  simp [execLiveUrgentEvaluation]

@[simp] theorem execSchDrain_keeps (h : Pkt) (p : SchCluster) (s : State) : (OutSt (execSchDrain h p s) s).kept = s.kept := by
  simp [execSchDrain]

@[simp] theorem execSchRetire_keeps (h : Pkt) (p : SchCluster) (s : State) : (OutSt (execSchRetire h p s) s).kept = s.kept := by
  simp [execSchRetire]

@[simp] theorem execSchRejoin_keeps (h : Pkt) (p : SchCluster) (s : State) : (OutSt (execSchRejoin h p s) s).kept = s.kept := by
  simp [execSchRejoin]

@[simp] theorem execClusterSelftestDone_keeps (t cluster result : Nat) (s : State) : (OutSt (execClusterSelftestDone t cluster result s) s).kept = s.kept := by
  simp [execClusterSelftestDone]

@[simp] theorem execClusterDrained_keeps (t cluster : Nat) (s : State) : (OutSt (execClusterDrained t cluster s) s).kept = s.kept := by
  simp [execClusterDrained]

@[simp] theorem execClusterFault_keeps (t cluster cause : Nat) (s : State) : (OutSt (execClusterFault t cluster cause s) s).kept = s.kept := by
  simp [execClusterFault]

@[simp] theorem execClusterFaultAgeout_keeps (t cluster : Nat) (s : State) : (OutSt (execClusterFaultAgeout t cluster s) s).kept = s.kept := by
  simp [execClusterFaultAgeout]

@[simp] theorem execItemComplete_keeps (t stream fsn : Nat) (s : State) : (OutSt (execItemComplete t stream fsn s) s).kept = s.kept := by
  unfold execItemComplete
  simp (disch := ((try intros); (try dsimp only); (repeat' split) <;> (first | assumption | (simp_all; done))))

@[simp] theorem execItemAbort_keeps (t stream fsn : Nat) (s : State) : (OutSt (execItemAbort t stream fsn s) s).kept = s.kept := by
  unfold execItemAbort
  simp (disch := ((try intros); (try dsimp only); (repeat' split) <;> (first | assumption | (simp_all; done))))

@[simp] theorem execSchTraceSet_keeps (h : Pkt) (p : SchTraceSet) (s : State) : (OutSt (execSchTraceSet h p s) s).kept = s.kept := by
  simp [execSchTraceSet]

@[simp] theorem execSchObsRead_keeps (h : Pkt) (p : SchObsRead) (s : State) : (OutSt (execSchObsRead h p s) s).kept = s.kept := by
  simp [execSchObsRead]

@[simp] theorem execPltGroupSet_keeps (h : Pkt) (p : PltGroupSet) (s : State) : (OutSt (execPltGroupSet h p s) s).kept = s.kept := by
  simp [execPltGroupSet]

@[simp] theorem execPltGroupQuery_keeps (h : Pkt) (group : Nat) (s : State) : (OutSt (execPltGroupQuery h group s) s).kept = s.kept := by
  simp [execPltGroupQuery]

@[simp] theorem execPltChanPolicy_keeps (h : Pkt) (p : PltChanPolicy) (s : State) : (OutSt (execPltChanPolicy h p s) s).kept = s.kept := by
  simp [execPltChanPolicy]

@[simp] theorem execPltRingSet_keeps (h : Pkt) (p : PltRingSet) (s : State) : (OutSt (execPltRingSet h p s) s).kept = s.kept := by
  simp [execPltRingSet]

@[simp] theorem execPltRingConsWrite_keeps (t part ring value : Nat) (s : State) : (OutSt (execPltRingConsWrite t part ring value s) s).kept = s.kept := by
  simp [execPltRingConsWrite]

@[simp] theorem execPltOutSet_keeps (h : Pkt) (p : PltOutSet) (s : State) : (OutSt (execPltOutSet h p s) s).kept = s.kept := by
  simp [execPltOutSet]

@[simp] theorem execPltOutMap_keeps (h : Pkt) (p : PltOutMap) (s : State) : (OutSt (execPltOutMap h p s) s).kept = s.kept := by
  simp [execPltOutMap]

@[simp] theorem execOutCommandFrame_keeps (t : Nat) (f : OutCommand) (s : State) : (OutSt (execOutCommandFrame t f s) s).kept = s.kept := by
  simp [execOutCommandFrame]

@[simp] theorem execPltHistoryRead_keeps (h : Pkt) (p : PltHistoryRead) (s : State) : (OutSt (execPltHistoryRead h p s) s).kept = s.kept := by
  simp [execPltHistoryRead]

@[simp] theorem execPlatformWrite_keeps (t stream fsn : Nat) (s : State) : (OutSt (execPlatformWrite t stream fsn s) s).kept = s.kept := by
  simp [execPlatformWrite]

@[simp] theorem execDepartureRelease_keeps (t group instant : Nat) (s : State) : (OutSt (execDepartureRelease t group instant s) s).kept = s.kept := by
  simp [execDepartureRelease]

@[simp] theorem execSidingsRecordFree_keeps (t : Nat) (s : State) : (OutSt (execSidingsRecordFree t s) s).kept = s.kept := by
  exact event_kept _ _ _ fun _ => rfl

@[simp] theorem execDepartureOverdue_keeps (t group instant : Nat) (s : State) : (OutSt (execDepartureOverdue t group instant s) s).kept = s.kept := by
  unfold execDepartureOverdue
  simp only [event, outSt_next]
  (repeat' split) <;> simp

@[simp] theorem execWchUnitSet_keeps (h : Pkt) (p : WchUnitSet) (s : State) : (OutSt (execWchUnitSet h p s) s).kept = s.kept := by
  simp [execWchUnitSet]

@[simp] theorem execWchUnitQuery_keeps (h : Pkt) (unit : Nat) (s : State) : (OutSt (execWchUnitQuery h unit s) s).kept = s.kept := by
  simp [execWchUnitQuery]

@[simp] theorem execWchCmpSet_keeps (h : Pkt) (p : WchCmpSet) (s : State) : (OutSt (execWchCmpSet h p s) s).kept = s.kept := by
  simp [execWchCmpSet]

@[simp] theorem execWchCmpRead_keeps (h : Pkt) (p : WchCmpRead) (s : State) : (OutSt (execWchCmpRead h p s) s).kept = s.kept := by
  simp [execWchCmpRead]

@[simp] theorem execWchHxSet_keeps (h : Pkt) (p : WchHxSet) (s : State) : (OutSt (execWchHxSet h p s) s).kept = s.kept := by
  simp [execWchHxSet]

@[simp] theorem execPrtModeSet_keeps (h : Pkt) (p : PrtModeSet) (s : State) : (OutSt (execPrtModeSet h p s) s).kept = s.kept := by
  simp [execPrtModeSet]

@[simp] theorem execPrtAddrSet_keeps (h : Pkt) (p : PrtAddrSet) (s : State) : (OutSt (execPrtAddrSet h p s) s).kept = s.kept := by
  simp [execPrtAddrSet]

@[simp] theorem execPrtFilterSet_keeps (h : Pkt) (p : PrtFilterSet) (s : State) : (OutSt (execPrtFilterSet h p s) s).kept = s.kept := by
  simp [execPrtFilterSet]

@[simp] theorem execPrtRxringSet_keeps (h : Pkt) (p : PrtRingSet) (s : State) : (OutSt (execPrtRxringSet h p s) s).kept = s.kept := by
  simp [execPrtRxringSet]

@[simp] theorem execPrtTxringSet_keeps (h : Pkt) (p : PrtRingSet) (s : State) : (OutSt (execPrtTxringSet h p s) s).kept = s.kept := by
  simp [execPrtTxringSet]

@[simp] theorem execPrtTxqSet_keeps (h : Pkt) (p : PrtTxqSet) (s : State) : (OutSt (execPrtTxqSet h p s) s).kept = s.kept := by
  simp [execPrtTxqSet]

end Sys2Proof.Machine
end

