-- ==== Sys2Proof/Laws/Keeps/Rows2.lean ====
section
/-!
SUPPORT. What the rows of the table leave as it was, part 2.
-/
set_option linter.all false
set_option linter.unusedTactic false
set_option linter.unreachableTactic false
namespace Sys2Proof.Machine

@[simp] theorem execPrtQuery_keeps (h : Pkt) (port : Nat) (s : State) : (OutSt (execPrtQuery h port s) s).kept = s.kept := by
  simp [execPrtQuery]

@[simp] theorem execPrtCntRead_keeps (h : Pkt) (port : Nat) (s : State) : (OutSt (execPrtCntRead h port s) s).kept = s.kept := by
  simp [execPrtCntRead]

@[simp] theorem execPrtRxTailWrite_keeps (t part port : Nat) (post : RxPost) (s : State) : (OutSt (execPrtRxTailWrite t part port post s) s).kept = s.kept := by
  simp [execPrtRxTailWrite]

@[simp] theorem execPrtTxTailWrite_keeps (t part port value : Nat) (descs : List TxDesc) (s : State) : (OutSt (execPrtTxTailWrite t part port value descs s) s).kept = s.kept := by
  simp [execPrtTxTailWrite]

@[simp] theorem execPortRxFrame_keeps (t : Nat) (f : RxFrame) (s : State) : (OutSt (execPortRxFrame t f s) s).kept = s.kept := by
  simp [execPortRxFrame]

@[simp] theorem execLinkUp_keeps (t port speedMbps : Nat) (full fecLock : Bool) (s : State) : (OutSt (execLinkUp t port speedMbps full fecLock s) s).kept = s.kept := by
  simp [execLinkUp]

@[simp] theorem execLinkDown_keeps (t port : Nat) (s : State) : (OutSt (execLinkDown t port s) s).kept = s.kept := by
  simp [execLinkDown]

@[simp] theorem execSgmiiControlWord_keeps (t port : Nat) (link full : Bool) (speedMbps : Nat) (s : State) : (OutSt (execSgmiiControlWord t port link full speedMbps s) s).kept = s.kept := by
  simp [execSgmiiControlWord]

@[simp] theorem execMdioPoll_keeps (t port : Nat) (link full : Bool) (speedMbps : Nat) (s : State) : (OutSt (execMdioPoll t port link full speedMbps s) s).kept = s.kept := by
  simp [execMdioPoll]

@[simp] theorem execPauseExpiry_keeps (t port : Nat) (s : State) : (OutSt (execPauseExpiry t port s) s).kept = s.kept := by
  simp [execPauseExpiry]

@[simp] theorem execXoffRepeat_keeps (t port : Nat) (s : State) : (OutSt (execXoffRepeat t port s) s).kept = s.kept := by
  simp [execXoffRepeat]

@[simp] theorem execTxFrameEnd_keeps (t port : Nat) (csLost damaged : Bool) (s : State) : (OutSt (execTxFrameEnd t port csLost damaged s) s).kept = s.kept := by
  simp [execTxFrameEnd]

@[simp] theorem execTxLaunchTime_keeps (t port : Nat) (s : State) : (OutSt (execTxLaunchTime t port s) s).kept = s.kept := by
  simp [execTxLaunchTime]

@[simp] theorem execTxCollision_keeps (t port : Nat) (late : Bool) (s : State) : (OutSt (execTxCollision t port late s) s).kept = s.kept := by
  simp [execTxCollision]

@[simp] theorem execBackoffExpiry_keeps (t port : Nat) (s : State) : (OutSt (execBackoffExpiry t port s) s).kept = s.kept := by
  simp [execBackoffExpiry]

@[simp] theorem execIngSubSet_keeps (h : Pkt) (p : IngSubSet) (s : State) : (OutSt (execIngSubSet h p s) s).kept = s.kept := by
  simp [execIngSubSet]

@[simp] theorem execIngSubClear_keeps (h : Pkt) (stream : Nat) (s : State) : (OutSt (execIngSubClear h stream s) s).kept = s.kept := by
  simp [execIngSubClear]

@[simp] theorem execIngSetLayout_keeps (h : Pkt) (p : IngSetLayout) (s : State) : (OutSt (execIngSetLayout h p s) s).kept = s.kept := by
  simp [execIngSetLayout]

@[simp] theorem execIngPmuCmd_keeps (h : Pkt) (p : IngPmuCmd) (s : State) : (OutSt (execIngPmuCmd h p s) s).kept = s.kept := by
  simp [execIngPmuCmd]

@[simp] theorem execIngGetConfig_keeps (h : Pkt) (p : IngGetConfig) (s : State) : (OutSt (execIngGetConfig h p s) s).kept = s.kept := by
  simp [execIngGetConfig]

@[simp] theorem execIngStreamStats_keeps (h : Pkt) (p : IngStreamStats) (s : State) : (OutSt (execIngStreamStats h p s) s).kept = s.kept := by
  simp [execIngStreamStats]

@[simp] theorem execIngGooseSub_keeps (h : Pkt) (p : IngGooseSub) (s : State) : (OutSt (execIngGooseSub h p s) s).kept = s.kept := by
  simp [execIngGooseSub]

@[simp] theorem execIngestDataFrame_keeps (t : Nat) (f : DataFrame) (s : State) : (OutSt (execIngestDataFrame t f s) s).kept = s.kept := by
  simp [execIngestDataFrame]

@[simp] theorem execIngestConfigFrame_keeps (t : Nat) (f : ConfigFrame) (s : State) : (OutSt (execIngestConfigFrame t f s) s).kept = s.kept := by
  simp [execIngestConfigFrame]

@[simp] theorem execIngestSvFrame_keeps (t : Nat) (f : SvFrame) (s : State) : (OutSt (execIngestSvFrame t f s) s).kept = s.kept := by
  simp [execIngestSvFrame]

@[simp] theorem execIngestGooseFrame_keeps (t : Nat) (f : GooseFrame) (s : State) : (OutSt (execIngestGooseFrame t f s) s).kept = s.kept := by
  simp [execIngestGooseFrame]

@[simp] theorem execPmuCmdDeferred_keeps (t stream : Nat) (s : State) : (OutSt (execPmuCmdDeferred t stream s) s).kept = s.kept := by
  simp [execPmuCmdDeferred]

@[simp] theorem execPmuRestartRepeat_keeps (t stream : Nat) (s : State) : (OutSt (execPmuRestartRepeat t stream s) s).kept = s.kept := by
  simp [execPmuRestartRepeat]

@[simp] theorem execSilenceCheck_keeps (t : Nat) (s : State) : (OutSt (execSilenceCheck t s) s).kept = s.kept := by
  simp [execSilenceCheck]

@[simp] theorem execKeyRotationOverlapEnd_keeps (t stream : Nat) (s : State) : (OutSt (execKeyRotationOverlapEnd t stream s) s).kept = s.kept := by
  simp [execKeyRotationOverlapEnd]

@[simp] theorem execDupEntryForget_keeps (t : Nat) (s : State) : (OutSt (execDupEntryForget t s) s).kept = s.kept := by
  simp [execDupEntryForget]

@[simp] theorem execStationTalExpiry_keeps (t station : Nat) (s : State) : (OutSt (execStationTalExpiry t station s) s).kept = s.kept := by
  simp [execStationTalExpiry]

@[simp] theorem execStationWaitTimeout_keeps (t station : Nat) (s : State) : (OutSt (execStationWaitTimeout t station s) s).kept = s.kept := by
  simp [execStationWaitTimeout]

@[simp] theorem execNrgPointSet_keeps (h : Pkt) (p : NrgPointSet) (s : State) : (OutSt (execNrgPointSet h p s) s).kept = s.kept := by
  simp [execNrgPointSet]

@[simp] theorem execNrgPointRead_keeps (h : Pkt) (mp : Nat) (s : State) : (OutSt (execNrgPointRead h mp s) s).kept = s.kept := by
  simp [execNrgPointRead]

@[simp] theorem execNrgAccClear_keeps (h : Pkt) (mp : Nat) (s : State) : (OutSt (execNrgAccClear h mp s) s).kept = s.kept := by
  simp [execNrgAccClear]

@[simp] theorem execNrgPiSet_keeps (h : Pkt) (p : NrgPiSet) (s : State) : (OutSt (execNrgPiSet h p s) s).kept = s.kept := by
  simp [execNrgPiSet]

@[simp] theorem execPiLevelAccepted_keeps (t n : Nat) (level : Bool) (s : State) : (OutSt (execPiLevelAccepted t n level s) s).kept = s.kept := by
  simp [execPiLevelAccepted]

@[simp] theorem execPiCrossCheck_keeps (t n : Nat) (s : State) : (OutSt (execPiCrossCheck t n s) s).kept = s.kept := by
  simp [execPiCrossCheck]

@[simp] theorem execNrgPoSet_keeps (h : Pkt) (p : NrgPoSet) (s : State) : (OutSt (execNrgPoSet h p s) s).kept = s.kept := by
  simp [execNrgPoSet]

@[simp] theorem execPoPulsePhaseEnd_keeps (t n : Nat) (s : State) : (OutSt (execPoPulsePhaseEnd t n s) s).kept = s.kept := by
  simp [execPoPulsePhaseEnd]

@[simp] theorem execOscDetSet_keeps (h : Pkt) (p : OscDetSet) (s : State) : (OutSt (execOscDetSet h p s) s).kept = s.kept := by
  simp [execOscDetSet]

@[simp] theorem execOscDetRead_keeps (h : Pkt) (p : OscDetRead) (s : State) : (OutSt (execOscDetRead h p s) s).kept = s.kept := by
  simp [execOscDetRead]

@[simp] theorem execOscModalSet_keeps (h : Pkt) (p : OscModalSet) (s : State) : (OutSt (execOscModalSet h p s) s).kept = s.kept := by
  simp [execOscModalSet]

@[simp] theorem execOscSigSet_keeps (h : Pkt) (p : OscSigSet) (s : State) : (OutSt (execOscSigSet h p s) s).kept = s.kept := by
  simp [execOscSigSet]

@[simp] theorem execOscModeRead_keeps (h : Pkt) (p : BufRead) (s : State) : (OutSt (execOscModeRead h p s) s).kept = s.kept := by
  simp [execOscModeRead]

end Sys2Proof.Machine
end

