-- ==== Sys2Proof/Laws/Keeps/Rows3.lean ====
section
/-!
SUPPORT. What the rows of the table leave as it was, part 3.
-/
set_option linter.all false
set_option linter.unusedTactic false
set_option linter.unreachableTactic false
namespace Sys2Proof.Machine

@[simp] theorem execModalRefresh_keeps (t blocks : Nat) (s : State) : (OutSt (execModalRefresh t blocks s) s).kept = s.kept := by
  simp [execModalRefresh]

@[simp] theorem execModalOverrun_keeps (t : Nat) (s : State) : (OutSt (execModalOverrun t s) s).kept = s.kept := by
  simp [execModalOverrun]

@[simp] theorem execCohSet_keeps (h : Pkt) (p : CohSet) (s : State) : (OutSt (execCohSet h p s) s).kept = s.kept := by
  simp [execCohSet]

@[simp] theorem execCohBusSet_keeps (h : Pkt) (p : CohBusSet) (s : State) : (OutSt (execCohBusSet h p s) s).kept = s.kept := by
  simp [execCohBusSet]

@[simp] theorem execCohIslandRead_keeps (h : Pkt) (p : BufRead) (s : State) : (OutSt (execCohIslandRead h p s) s).kept = s.kept := by
  simp [execCohIslandRead]

@[simp] theorem execCohBusRead_keeps (h : Pkt) (p : CohBusRead) (s : State) : (OutSt (execCohBusRead h p s) s).kept = s.kept := by
  simp [execCohBusRead]

@[simp] theorem execCohEvaluationOverdue_keeps (t instant : Nat) (s : State) : (OutSt (execCohEvaluationOverdue t instant s) s).kept = s.kept := by
  simp [execCohEvaluationOverdue]

@[simp] theorem execRecSet_keeps (h : Pkt) (p : RecSet) (s : State) : (OutSt (execRecSet h p s) s).kept = s.kept := by
  simp [execRecSet]

@[simp] theorem execRecChanSet_keeps (h : Pkt) (p : RecChanSet) (s : State) : (OutSt (execRecChanSet h p s) s).kept = s.kept := by
  simp [execRecChanSet]

@[simp] theorem execRecCondSet_keeps (h : Pkt) (p : RecCondSet) (s : State) : (OutSt (execRecCondSet h p s) s).kept = s.kept := by
  simp [execRecCondSet]

@[simp] theorem execRecArm_keeps (h : Pkt) (p : RecArm) (s : State) : (OutSt (execRecArm h p s) s).kept = s.kept := by
  simp [execRecArm]

@[simp] theorem execRecQuery_keeps (h : Pkt) (rcd : Nat) (s : State) : (OutSt (execRecQuery h rcd s) s).kept = s.kept := by
  simp [execRecQuery]

@[simp] theorem execRecExport_keeps (h : Pkt) (p : RecExport) (s : State) : (OutSt (execRecExport h p s) s).kept = s.kept := by
  simp [execRecExport]

@[simp] theorem execRecExportDone_keeps (t rcd slot : Nat) (s : State) : (OutSt (execRecExportDone t rcd slot s) s).kept.pending = s.kept.pending ∧ (OutSt (execRecExportDone t rcd slot s) s).kept.life = s.kept.life ∧ (OutSt (execRecExportDone t rcd slot s) s).kept.lifeLog = s.kept.lifeLog ∧ (OutSt (execRecExportDone t rcd slot s) s).kept.ownerHash = s.kept.ownerHash ∧ (OutSt (execRecExportDone t rcd slot s) s).kept.minSvn = s.kept.minSvn ∧ (OutSt (execRecExportDone t rcd slot s) s).kept.boot = s.kept.boot ∧ (OutSt (execRecExportDone t rcd slot s) s).kept.tap = s.kept.tap ∧ (OutSt (execRecExportDone t rcd slot s) s).kept.grants = s.kept.grants ∧ (OutSt (execRecExportDone t rcd slot s) s).kept.timeOwner = s.kept.timeOwner ∧ (OutSt (execRecExportDone t rcd slot s) s).kept.ref = s.kept.ref ∧ (OutSt (execRecExportDone t rcd slot s) s).kept.delays = s.kept.delays ∧ (OutSt (execRecExportDone t rcd slot s) s).kept.challenge = s.kept.challenge ∧ (OutSt (execRecExportDone t rcd slot s) s).kept.errMin = s.kept.errMin := by
  simp [execRecExportDone]

@[simp] theorem execRecRelease_keeps (h : Pkt) (p : RecRelease) (s : State) : (OutSt (execRecRelease h p s) s).kept = s.kept := by
  simp [execRecRelease]

@[simp] theorem execRecStreamSet_keeps (h : Pkt) (p : RecStreamSet) (s : State) : (OutSt (execRecStreamSet h p s) s).kept = s.kept := by
  simp [execRecStreamSet]

@[simp] theorem execRecStreamConsWrite_keeps (t part rcd value : Nat) (s : State) : (OutSt (execRecStreamConsWrite t part rcd value s) s).kept = s.kept := by
  simp [execRecStreamConsWrite]

@[simp] theorem execRecPointEvaluate_keeps (t rcd : Nat) (s : State) : (OutSt (execRecPointEvaluate t rcd s) s).kept = s.kept := by
  unfold execRecPointEvaluate
  simp (disch := ((try intros); (try dsimp only); (repeat' split) <;> (first | assumption | (simp_all; done))))

@[simp] theorem execRecComplete_keeps (t rcd : Nat) (s : State) : (OutSt (execRecComplete t rcd s) s).kept = s.kept := by
  simp [execRecComplete]

@[simp] theorem execAlcLoad_keeps (h : Pkt) (p : AlcLoad) (s : State) : (OutSt (execAlcLoad h p s) s).kept = s.kept := by
  simp [execAlcLoad]

@[simp] theorem execAlcLoadVerified_keeps (t : Nat) (v : AlcVerify) (s : State) : (OutSt (execAlcLoadVerified t v s) s).kept = s.kept := by
  unfold execAlcLoadVerified
  simp (disch := ((try intros); (try dsimp only); (repeat' split) <;> (first | assumption | (simp_all; done))))

@[simp] theorem execAlcExchange_keeps (h : Pkt) (dryRun : Bool) (s : State) : (OutSt (execAlcExchange h dryRun s) s).kept = s.kept := by
  simp [execAlcExchange]

@[simp] theorem execExchangeCommitDone_keeps (t : Nat) (s : State) : (OutSt (execExchangeCommitDone t s) s).kept = s.kept := by
  simp [execExchangeCommitDone]

@[simp] theorem execAlcMode_keeps (h : Pkt) (p : AlcMode) (s : State) : (OutSt (execAlcMode h p s) s).kept = s.kept := by
  simp [execAlcMode]

@[simp] theorem execAlcScanSet_keeps (h : Pkt) (p : AlcScanSet) (s : State) : (OutSt (execAlcScanSet h p s) s).kept = s.kept := by
  simp [execAlcScanSet]

@[simp] theorem execAlcForce_keeps (h : Pkt) (p : AlcForce) (s : State) : (OutSt (execAlcForce h p s) s).kept = s.kept := by
  simp [execAlcForce]

@[simp] theorem execAlcBreak_keeps (h : Pkt) (p : AlcBreak) (s : State) : (OutSt (execAlcBreak h p s) s).kept = s.kept := by
  simp [execAlcBreak]

@[simp] theorem execAlcQuery_keeps (h : Pkt) (s : State) : (OutSt (execAlcQuery h s) s).kept = s.kept := by
  simp [execAlcQuery]

@[simp] theorem execAlcVarRead_keeps (h : Pkt) (p : AlcVarRead) (s : State) : (OutSt (execAlcVarRead h p s) s).kept = s.kept := by
  simp [execAlcVarRead]

@[simp] theorem execAlcCheckpoint_keeps (h : Pkt) (s : State) : (OutSt (execAlcCheckpoint h s) s).kept = s.kept := by
  simp [execAlcCheckpoint]

@[simp] theorem execScanTriggerDeparture_keeps (t group instant : Nat) (x : ScanStart) (s : State) : (OutSt (execScanTriggerDeparture t group instant x s) s).kept = s.kept := by
  simp [execScanTriggerDeparture]

@[simp] theorem execScanTriggerPeriodic_keeps (t : Nat) (x : ScanStart) (s : State) : (OutSt (execScanTriggerPeriodic t x s) s).kept = s.kept := by
  simp [execScanTriggerPeriodic]

@[simp] theorem execScanEnd_keeps (t : Nat) (r : ScanResult) (x : ScanStart) (s : State) : (OutSt (execScanEnd t r x s) s).kept = s.kept := by
  unfold execScanEnd
  simp only [event, outSt_next]
  (repeat' split) <;> simp

@[simp] theorem execScanWatchdog_keeps (t : Nat) (s : State) : (OutSt (execScanWatchdog t s) s).kept = s.kept := by
  unfold execScanWatchdog
  simp only [event, outSt_next]
  (repeat' split) <;> simp

@[simp] theorem execGooseRepeat_keeps (t dataset : Nat) (s : State) : (OutSt (execGooseRepeat t dataset s) s).kept = s.kept := by
  unfold execGooseRepeat
  simp only [event, outSt_next]
  (repeat' split) <;> simp

@[simp] theorem execAlReadbackMismatch_keeps (t n : Nat) (s : State) : (OutSt (execAlReadbackMismatch t n s) s).kept = s.kept := by
  simp [execAlReadbackMismatch]

@[simp] theorem execAlReadbackRestored_keeps (t n : Nat) (s : State) : (OutSt (execAlReadbackRestored t n s) s).kept = s.kept := by
  simp [execAlReadbackRestored]

@[simp] theorem execCheckpointPeriodic_keeps (t : Nat) (s : State) : (OutSt (execCheckpointPeriodic t s) s).kept = s.kept := by
  simp [execCheckpointPeriodic]

@[simp] theorem execCheckpointWriteDone_keeps (t : Nat) (ok : Bool) (s : State) : (OutSt (execCheckpointWriteDone t ok s) s).kept = s.kept := by
  simp [execCheckpointWriteDone]

@[simp] theorem execTbRefSet_keeps (h : Pkt) (p : TbRefSet) (s : State) : (OutSt (execTbRefSet h p s) s).kept.pending = s.kept.pending ∧ (OutSt (execTbRefSet h p s) s).kept.life = s.kept.life ∧ (OutSt (execTbRefSet h p s) s).kept.lifeLog = s.kept.lifeLog ∧ (OutSt (execTbRefSet h p s) s).kept.ownerHash = s.kept.ownerHash ∧ (OutSt (execTbRefSet h p s) s).kept.minSvn = s.kept.minSvn ∧ (OutSt (execTbRefSet h p s) s).kept.boot = s.kept.boot ∧ (OutSt (execTbRefSet h p s) s).kept.tap = s.kept.tap ∧ (OutSt (execTbRefSet h p s) s).kept.staging = s.kept.staging ∧ (OutSt (execTbRefSet h p s) s).kept.grants = s.kept.grants ∧ (OutSt (execTbRefSet h p s) s).kept.timeOwner = s.kept.timeOwner ∧ (OutSt (execTbRefSet h p s) s).kept.delays = s.kept.delays ∧ (OutSt (execTbRefSet h p s) s).kept.challenge = s.kept.challenge ∧ (OutSt (execTbRefSet h p s) s).kept.errMin = s.kept.errMin := by
  simp [execTbRefSet]

@[simp] theorem execTbSet_keeps (h : Pkt) (p : TbSet) (s : State) : (OutSt (execTbSet h p s) s).kept = s.kept := by
  simp [execTbSet]

@[simp] theorem execTbRestep_keeps (h : Pkt) (p : TbRestep) (s : State) : (OutSt (execTbRestep h p s) s).kept = s.kept := by
  simp [execTbRestep]

@[simp] theorem execTbRestepTimeout_keeps (t tb : Nat) (s : State) : (OutSt (execTbRestepTimeout t tb s) s).kept = s.kept := by
  unfold execTbRestepTimeout
  simp only [event, outSt_next]
  (repeat' split) <;> simp

@[simp] theorem execTbTodSet_keeps (h : Pkt) (p : TbTodSet) (s : State) : (OutSt (execTbTodSet h p s) s).kept = s.kept := by
  simp [execTbTodSet]

@[simp] theorem execTbPortDelaySet_keeps (h : Pkt) (p : TbPortDelaySet) (s : State) : (OutSt (execTbPortDelaySet h p s) s).kept.pending = s.kept.pending ∧ (OutSt (execTbPortDelaySet h p s) s).kept.life = s.kept.life ∧ (OutSt (execTbPortDelaySet h p s) s).kept.lifeLog = s.kept.lifeLog ∧ (OutSt (execTbPortDelaySet h p s) s).kept.ownerHash = s.kept.ownerHash ∧ (OutSt (execTbPortDelaySet h p s) s).kept.minSvn = s.kept.minSvn ∧ (OutSt (execTbPortDelaySet h p s) s).kept.boot = s.kept.boot ∧ (OutSt (execTbPortDelaySet h p s) s).kept.tap = s.kept.tap ∧ (OutSt (execTbPortDelaySet h p s) s).kept.staging = s.kept.staging ∧ (OutSt (execTbPortDelaySet h p s) s).kept.grants = s.kept.grants ∧ (OutSt (execTbPortDelaySet h p s) s).kept.timeOwner = s.kept.timeOwner ∧ (OutSt (execTbPortDelaySet h p s) s).kept.ref = s.kept.ref ∧ (OutSt (execTbPortDelaySet h p s) s).kept.challenge = s.kept.challenge ∧ (OutSt (execTbPortDelaySet h p s) s).kept.errMin = s.kept.errMin := by
  simp [execTbPortDelaySet]

@[simp] theorem execTbQuery_keeps (h : Pkt) (base : Nat) (s : State) : (OutSt (execTbQuery h base s) s).kept = s.kept := by
  simp [execTbQuery]

end Sys2Proof.Machine
end

