-- ==== Sys2Proof/Laws/Keeps/Rows4.lean ====
section
/-!
SUPPORT. What the rows of the table leave as it was, part 4.
-/
set_option linter.all false
set_option linter.unusedTactic false
set_option linter.unreachableTactic false
namespace Sys2Proof.Machine

@[simp] theorem execIrigFrameReceived_keeps (t : Nat) (m : IrigFrame) (s : State) : (OutSt (execIrigFrameReceived t m s) s).kept = s.kept := by
  simp [execIrigFrameReceived]

@[simp] theorem execPpsInEdge_keeps (t cap : Nat) (s : State) : (OutSt (execPpsInEdge t cap s) s).kept = s.kept := by
  simp [execPpsInEdge]

@[simp] theorem execPpsOutRise_keeps (t tb : Nat) (s : State) : (OutSt (execPpsOutRise t tb s) s).kept = s.kept := by
  unfold execPpsOutRise
  simp only [event, outSt_next]
  (repeat' split) <;> simp

@[simp] theorem execPpsOutFall_keeps (t : Nat) (s : State) : (OutSt (execPpsOutFall t s) s).kept = s.kept := by
  simp [execPpsOutFall]

@[simp] theorem execTbSourceLoss_keeps (t tb : Nat) (s : State) : (OutSt (execTbSourceLoss t tb s) s).kept = s.kept := by
  unfold execTbSourceLoss
  simp only [event, outSt_next]
  (repeat' split) <;> simp

@[simp] theorem execLeapSecondApply_keeps (t tb : Nat) (s : State) : (OutSt (execLeapSecondApply t tb s) s).kept = s.kept := by
  unfold execLeapSecondApply
  simp only [event, outSt_next]
  (repeat' split) <;> simp

@[simp] theorem execLeapOccurredExpiry_keeps (t tb : Nat) (s : State) : (OutSt (execLeapOccurredExpiry t tb s) s).kept = s.kept := by
  unfold execLeapOccurredExpiry
  simp only [event, outSt_next]
  (repeat' split) <;> simp

@[simp] theorem execExt10mLoss_keeps (t : Nat) (s : State) : (OutSt (execExt10mLoss t s) s).kept = s.kept := by
  simp [execExt10mLoss]

@[simp] theorem execExt10mRestore_keeps (t : Nat) (s : State) : (OutSt (execExt10mRestore t s) s).kept = s.kept := by
  simp [execExt10mRestore]

@[simp] theorem execRefclkLoss_keeps (t : Nat) (s : State) : (OutSt (execRefclkLoss t s) s).kept = s.kept := by
  simp [execRefclkLoss]

@[simp] theorem execRefclkRestored_keeps (t : Nat) (s : State) : (OutSt (execRefclkRestored t s) s).kept = s.kept := by
  simp [execRefclkRestored]

@[simp] theorem execTimeBaseCounterFault_keeps (t tb : Nat) (s : State) : (OutSt (execTimeBaseCounterFault t tb s) s).kept = s.kept := by
  simp [execTimeBaseCounterFault]

@[simp] theorem execTbPtpSet_keeps (h : Pkt) (p : TbPtpSet) (s : State) : (OutSt (execTbPtpSet h p s) s).kept = s.kept := by
  simp [execTbPtpSet]

@[simp] theorem execPtpAnnounceReceived_keeps (t : Nat) (m : PtpAnnounce) (s : State) : (OutSt (execPtpAnnounceReceived t m s) s).kept = s.kept := by
  simp [execPtpAnnounceReceived]

@[simp] theorem execPtpAnnounceTimeout_keeps (t tb port : Nat) (s : State) : (OutSt (execPtpAnnounceTimeout t tb port s) s).kept = s.kept := by
  unfold execPtpAnnounceTimeout
  simp (disch := ((try intros); (try dsimp only); (repeat' split) <;> (first | assumption | (simp_all; done))))

@[simp] theorem execPtpSyncReceived_keeps (t : Nat) (m : PtpSync) (s : State) : (OutSt (execPtpSyncReceived t m s) s).kept = s.kept := by
  simp [execPtpSyncReceived]

@[simp] theorem execPtpFollowUpReceived_keeps (t : Nat) (m : PtpFollowUp) (s : State) : (OutSt (execPtpFollowUpReceived t m s) s).kept = s.kept := by
  simp [execPtpFollowUpReceived]

@[simp] theorem execPtpMessageTransmit_keeps (t tb port : Nat) (kind : PtpKind) (s : State) : (OutSt (execPtpMessageTransmit t tb port kind s) s).kept = s.kept := by
  unfold execPtpMessageTransmit
  simp (disch := ((try intros); (try dsimp only); (repeat' split) <;> (first | assumption | (simp_all; done))))

@[simp] theorem execPtpPdelayMessage_keeps (t : Nat) (m : PtpPdelay) (s : State) : (OutSt (execPtpPdelayMessage t m s) s).kept = s.kept := by
  simp [execPtpPdelayMessage]

@[simp] theorem execKeyImport_keeps (h : Pkt) (p : KeyImport) (s : State) : (OutSt (execKeyImport h p s) s).kept = s.kept := by
  simp [execKeyImport]

@[simp] theorem execKeyGenerate_keeps (h : Pkt) (p : KeyGenerate) (s : State) : (OutSt (execKeyGenerate h p s) s).kept = s.kept := by
  simp [execKeyGenerate]

@[simp] theorem execKeyDerive_keeps (h : Pkt) (p : KeyDerive) (s : State) : (OutSt (execKeyDerive h p s) s).kept = s.kept := by
  simp [execKeyDerive]

@[simp] theorem execKeyWrap_keeps (h : Pkt) (p : KeyWrap) (s : State) : (OutSt (execKeyWrap h p s) s).kept = s.kept := by
  simp [execKeyWrap]

@[simp] theorem execKeyDelete_keeps (h : Pkt) (p : KeyDelete) (s : State) : (OutSt (execKeyDelete h p s) s).kept = s.kept := by
  simp [execKeyDelete]

@[simp] theorem execKeyQuery_keeps (h : Pkt) (slot : Nat) (s : State) : (OutSt (execKeyQuery h slot s) s).kept = s.kept := by
  simp [execKeyQuery]

@[simp] theorem execAttQuote_keeps (h : Pkt) (nonce : List Byte) (s : State) : (OutSt (execAttQuote h nonce s) s).kept = s.kept := by
  simp [execAttQuote]

@[simp] theorem execAttRespond_keeps (h : Pkt) (p : AttRespond) (s : State) : (OutSt (execAttRespond h p s) s).kept = s.kept := by
  simp [execAttRespond]

@[simp] theorem execTamperClear_keeps (h : Pkt) (p : TamperClear) (s : State) : (OutSt (execTamperClear h p s) s).kept = s.kept := by
  simp [execTamperClear]

@[simp] theorem execLogRead_keeps (h : Pkt) (p : LogRead) (s : State) : (OutSt (execLogRead h p s) s).kept = s.kept := by
  simp [execLogRead]

@[simp] theorem execKeyUpdateCommitted_keeps (t slot : Nat) (s : State) : (OutSt (execKeyUpdateCommitted t slot s) s).kept = s.kept := by
  simp [execKeyUpdateCommitted]

@[simp] theorem execKeyEraseDone_keeps (t : Nat) (s : State) : (OutSt (execKeyEraseDone t s) s).kept = s.kept := by
  simp [execKeyEraseDone]

@[simp] theorem execEntropyHealthFail_keeps (t : Nat) (s : State) : (OutSt (execEntropyHealthFail t s) s).kept = s.kept := by
  simp [execEntropyHealthFail]

@[simp] theorem execTestChallengeExpiry_keeps (t : Nat) (s : State) : (OutSt (execTestChallengeExpiry t s) s).kept.pending = s.kept.pending ∧ (OutSt (execTestChallengeExpiry t s) s).kept.life = s.kept.life ∧ (OutSt (execTestChallengeExpiry t s) s).kept.lifeLog = s.kept.lifeLog ∧ (OutSt (execTestChallengeExpiry t s) s).kept.ownerHash = s.kept.ownerHash ∧ (OutSt (execTestChallengeExpiry t s) s).kept.minSvn = s.kept.minSvn ∧ (OutSt (execTestChallengeExpiry t s) s).kept.boot = s.kept.boot ∧ (OutSt (execTestChallengeExpiry t s) s).kept.tap = s.kept.tap ∧ (OutSt (execTestChallengeExpiry t s) s).kept.staging = s.kept.staging ∧ (OutSt (execTestChallengeExpiry t s) s).kept.grants = s.kept.grants ∧ (OutSt (execTestChallengeExpiry t s) s).kept.timeOwner = s.kept.timeOwner ∧ (OutSt (execTestChallengeExpiry t s) s).kept.ref = s.kept.ref ∧ (OutSt (execTestChallengeExpiry t s) s).kept.delays = s.kept.delays ∧ (OutSt (execTestChallengeExpiry t s) s).kept.errMin = s.kept.errMin := by
  simp [execTestChallengeExpiry]

@[simp] theorem execTamperSourceCleared_keeps (t code : Nat) (s : State) : (OutSt (execTamperSourceCleared t code s) s).kept = s.kept := by
  exact event_kept _ _ _ fun _ => rfl

@[simp] theorem execBootHold_keeps (t : Nat) (s : State) : (OutSt (execBootHold t s) s).kept = s.kept := by
  simp [execBootHold]

@[simp] theorem execDevIdentify_keeps (h : Pkt) (s : State) : (OutSt (execDevIdentify h s) s).kept = s.kept := by
  simp [execDevIdentify]

@[simp] theorem execHstNop_keeps (h : Pkt) (data : List Byte) (s : State) : (OutSt (execHstNop h data s) s).kept = s.kept := by
  simp [execHstNop]

@[simp] theorem execHstPartCreate_keeps (h : Pkt) (p : HstPart) (s : State) : (OutSt (execHstPartCreate h p s) s).kept = s.kept := by
  simp [execHstPartCreate]

@[simp] theorem execHstPartDelete_keeps (h : Pkt) (p : HstPart) (s : State) : (OutSt (execHstPartDelete h p s) s).kept.pending = s.kept.pending ∧ (OutSt (execHstPartDelete h p s) s).kept.life = s.kept.life ∧ (OutSt (execHstPartDelete h p s) s).kept.lifeLog = s.kept.lifeLog ∧ (OutSt (execHstPartDelete h p s) s).kept.ownerHash = s.kept.ownerHash ∧ (OutSt (execHstPartDelete h p s) s).kept.minSvn = s.kept.minSvn ∧ (OutSt (execHstPartDelete h p s) s).kept.boot = s.kept.boot ∧ (OutSt (execHstPartDelete h p s) s).kept.tap = s.kept.tap ∧ (OutSt (execHstPartDelete h p s) s).kept.ref = s.kept.ref ∧ (OutSt (execHstPartDelete h p s) s).kept.delays = s.kept.delays ∧ (OutSt (execHstPartDelete h p s) s).kept.challenge = s.kept.challenge ∧ (OutSt (execHstPartDelete h p s) s).kept.errMin = s.kept.errMin := by
  simp [execHstPartDelete]

@[simp] theorem execHstPartReset_keeps (h : Pkt) (p : HstPart) (s : State) : (OutSt (execHstPartReset h p s) s).kept.pending = s.kept.pending ∧ (OutSt (execHstPartReset h p s) s).kept.life = s.kept.life ∧ (OutSt (execHstPartReset h p s) s).kept.lifeLog = s.kept.lifeLog ∧ (OutSt (execHstPartReset h p s) s).kept.ownerHash = s.kept.ownerHash ∧ (OutSt (execHstPartReset h p s) s).kept.minSvn = s.kept.minSvn ∧ (OutSt (execHstPartReset h p s) s).kept.boot = s.kept.boot ∧ (OutSt (execHstPartReset h p s) s).kept.tap = s.kept.tap ∧ (OutSt (execHstPartReset h p s) s).kept.grants = s.kept.grants ∧ (OutSt (execHstPartReset h p s) s).kept.timeOwner = s.kept.timeOwner ∧ (OutSt (execHstPartReset h p s) s).kept.ref = s.kept.ref ∧ (OutSt (execHstPartReset h p s) s).kept.delays = s.kept.delays ∧ (OutSt (execHstPartReset h p s) s).kept.challenge = s.kept.challenge ∧ (OutSt (execHstPartReset h p s) s).kept.errMin = s.kept.errMin := by
  simp [execHstPartReset]

@[simp] theorem execPcieFlr_keeps (t part : Nat) (s : State) : (OutSt (execPcieFlr t part s) s).kept.pending = s.kept.pending ∧ (OutSt (execPcieFlr t part s) s).kept.life = s.kept.life ∧ (OutSt (execPcieFlr t part s) s).kept.lifeLog = s.kept.lifeLog ∧ (OutSt (execPcieFlr t part s) s).kept.ownerHash = s.kept.ownerHash ∧ (OutSt (execPcieFlr t part s) s).kept.minSvn = s.kept.minSvn ∧ (OutSt (execPcieFlr t part s) s).kept.boot = s.kept.boot ∧ (OutSt (execPcieFlr t part s) s).kept.tap = s.kept.tap ∧ (OutSt (execPcieFlr t part s) s).kept.grants = s.kept.grants ∧ (OutSt (execPcieFlr t part s) s).kept.timeOwner = s.kept.timeOwner ∧ (OutSt (execPcieFlr t part s) s).kept.ref = s.kept.ref ∧ (OutSt (execPcieFlr t part s) s).kept.delays = s.kept.delays ∧ (OutSt (execPcieFlr t part s) s).kept.challenge = s.kept.challenge ∧ (OutSt (execPcieFlr t part s) s).kept.errMin = s.kept.errMin := by
  simp [execPcieFlr]

@[simp] theorem execPartitionResetDone_keeps (t part : Nat) (s : State) : (OutSt (execPartitionResetDone t part s) s).kept = s.kept := by
  simp [execPartitionResetDone]

@[simp] theorem execHstGrant_keeps (h : Pkt) (p : HstGrant) (s : State) : (OutSt (execHstGrant h p s) s).kept.pending = s.kept.pending ∧ (OutSt (execHstGrant h p s) s).kept.life = s.kept.life ∧ (OutSt (execHstGrant h p s) s).kept.lifeLog = s.kept.lifeLog ∧ (OutSt (execHstGrant h p s) s).kept.ownerHash = s.kept.ownerHash ∧ (OutSt (execHstGrant h p s) s).kept.minSvn = s.kept.minSvn ∧ (OutSt (execHstGrant h p s) s).kept.boot = s.kept.boot ∧ (OutSt (execHstGrant h p s) s).kept.tap = s.kept.tap ∧ (OutSt (execHstGrant h p s) s).kept.staging = s.kept.staging ∧ (OutSt (execHstGrant h p s) s).kept.timeOwner = s.kept.timeOwner ∧ (OutSt (execHstGrant h p s) s).kept.ref = s.kept.ref ∧ (OutSt (execHstGrant h p s) s).kept.delays = s.kept.delays ∧ (OutSt (execHstGrant h p s) s).kept.challenge = s.kept.challenge ∧ (OutSt (execHstGrant h p s) s).kept.errMin = s.kept.errMin := by
  simp [execHstGrant]

@[simp] theorem execHstShareSet_keeps (h : Pkt) (p : HstShareSet) (s : State) : (OutSt (execHstShareSet h p s) s).kept = s.kept := by
  simp [execHstShareSet]

@[simp] theorem execHstPrivSet_keeps (h : Pkt) (p : HstPrivSet) (s : State) : (OutSt (execHstPrivSet h p s) s).kept.pending = s.kept.pending ∧ (OutSt (execHstPrivSet h p s) s).kept.life = s.kept.life ∧ (OutSt (execHstPrivSet h p s) s).kept.lifeLog = s.kept.lifeLog ∧ (OutSt (execHstPrivSet h p s) s).kept.ownerHash = s.kept.ownerHash ∧ (OutSt (execHstPrivSet h p s) s).kept.minSvn = s.kept.minSvn ∧ (OutSt (execHstPrivSet h p s) s).kept.boot = s.kept.boot ∧ (OutSt (execHstPrivSet h p s) s).kept.tap = s.kept.tap ∧ (OutSt (execHstPrivSet h p s) s).kept.staging = s.kept.staging ∧ (OutSt (execHstPrivSet h p s) s).kept.grants = s.kept.grants ∧ (OutSt (execHstPrivSet h p s) s).kept.ref = s.kept.ref ∧ (OutSt (execHstPrivSet h p s) s).kept.delays = s.kept.delays ∧ (OutSt (execHstPrivSet h p s) s).kept.challenge = s.kept.challenge ∧ (OutSt (execHstPrivSet h p s) s).kept.errMin = s.kept.errMin := by
  simp [execHstPrivSet]

@[simp] theorem execHstRoShare_keeps (h : Pkt) (p : HstRoShare) (s : State) : (OutSt (execHstRoShare h p s) s).kept = s.kept := by
  simp [execHstRoShare]

end Sys2Proof.Machine
end

