-- ==== Sys2Proof/Laws/Keeps/Rows5.lean ====
section
/-!
SUPPORT. What the rows of the table leave as it was, part 5.
-/
set_option linter.all false
set_option linter.unusedTactic false
set_option linter.unreachableTactic false
namespace Sys2Proof.Machine

@[simp] theorem execHstGrantQuery_keeps (h : Pkt) (p : HstGrantQuery) (s : State) : (OutSt (execHstGrantQuery h p s) s).kept = s.kept := by
  simp [execHstGrantQuery]

@[simp] theorem execHstEvtRingSet_keeps (h : Pkt) (p : HstEvtRingSet) (s : State) : (OutSt (execHstEvtRingSet h p s) s).kept = s.kept := by
  simp [execHstEvtRingSet]

@[simp] theorem execHstInbandSet_keeps (h : Pkt) (p : HstInbandSet) (s : State) : (OutSt (execHstInbandSet h p s) s).kept = s.kept := by
  simp [execHstInbandSet]

@[simp] theorem execHstStageWrite_keeps (h : Pkt) (offset len : Nat) (data : List Byte) (s : State) : (OutSt (execHstStageWrite h offset len data s) s).kept.pending = s.kept.pending ∧ (OutSt (execHstStageWrite h offset len data s) s).kept.life = s.kept.life ∧ (OutSt (execHstStageWrite h offset len data s) s).kept.lifeLog = s.kept.lifeLog ∧ (OutSt (execHstStageWrite h offset len data s) s).kept.ownerHash = s.kept.ownerHash ∧ (OutSt (execHstStageWrite h offset len data s) s).kept.minSvn = s.kept.minSvn ∧ (OutSt (execHstStageWrite h offset len data s) s).kept.boot = s.kept.boot ∧ (OutSt (execHstStageWrite h offset len data s) s).kept.tap = s.kept.tap ∧ (OutSt (execHstStageWrite h offset len data s) s).kept.grants = s.kept.grants ∧ (OutSt (execHstStageWrite h offset len data s) s).kept.timeOwner = s.kept.timeOwner ∧ (OutSt (execHstStageWrite h offset len data s) s).kept.ref = s.kept.ref ∧ (OutSt (execHstStageWrite h offset len data s) s).kept.delays = s.kept.delays ∧ (OutSt (execHstStageWrite h offset len data s) s).kept.challenge = s.kept.challenge ∧ (OutSt (execHstStageWrite h offset len data s) s).kept.errMin = s.kept.errMin := by
  simp [execHstStageWrite]

@[simp] theorem execHstStageRead_keeps (h : Pkt) (offset len : Nat) (s : State) : (OutSt (execHstStageRead h offset len s) s).kept = s.kept := by
  simp [execHstStageRead]

@[simp] theorem execQ31StreamAdd_keeps (h : Pkt) (p : Q31StreamAdd) (s : State) : (OutSt (execQ31StreamAdd h p s) s).kept = s.kept := by
  simp [execQ31StreamAdd]

@[simp] theorem execQ31StreamRemove_keeps (h : Pkt) (stream : Nat) (s : State) : (OutSt (execQ31StreamRemove h stream s) s).kept = s.kept := by
  simp [execQ31StreamRemove]

@[simp] theorem execQ31StreamQuery_keeps (h : Pkt) (stream : Nat) (s : State) : (OutSt (execQ31StreamQuery h stream s) s).kept = s.kept := by
  simp [execQ31StreamQuery]

@[simp] theorem execQ31LoadRead_keeps (h : Pkt) (s : State) : (OutSt (execQ31LoadRead h s) s).kept = s.kept := by
  simp [execQ31LoadRead]

@[simp] theorem execQ31Rebalance_keeps (h : Pkt) (s : State) : (OutSt (execQ31Rebalance h s) s).kept = s.kept := by
  simp [execQ31Rebalance]

@[simp] theorem execMalformedPacket_keeps (h : Pkt) (opcode : Nat) (s : State) : (OutSt (execMalformedPacket h opcode s) s).kept = s.kept := by
  simp [execMalformedPacket]

@[simp] theorem execUnknownOpcode_keeps (h : Pkt) (opcode : Nat) (s : State) : (OutSt (execUnknownOpcode h opcode s) s).kept = s.kept := by
  unfold execUnknownOpcode
  split
  · simp
  · exact cmd_kept _ _ _ _ _ (fun _ => rfl)

@[simp] theorem execPendingReply_keeps (t part tag : Nat) (s : State) : (OutSt (execPendingReply t part tag s) s).kept = s.kept := by
  unfold execPendingReply
  simp (disch := ((try intros); (try dsimp only); (repeat' split) <;> (first | assumption | (simp_all; done))))

@[simp] theorem execInbandMessage_keeps (t : Nat) (m : ChannelMsg) (s : State) : (OutSt (execInbandMessage t m s) s).kept = s.kept := by
  simp [execInbandMessage]

@[simp] theorem execSpiWriteMessage_keeps (t : Nat) (m : ChannelMsg) (s : State) : (OutSt (execSpiWriteMessage t m s) s).kept = s.kept := by
  simp [execSpiWriteMessage]

@[simp] theorem execSpiReadReply_keeps (t : Nat) (s : State) : (OutSt (execSpiReadReply t s) s).kept = s.kept := by
  simp [execSpiReadReply]

@[simp] theorem execSpiReadStatus_keeps (t : Nat) (s : State) : (OutSt (execSpiReadStatus t s) s).kept = s.kept := by
  simp [execSpiReadStatus]

@[simp] theorem execSpiSessionTimeout_keeps (t : Nat) (s : State) : (OutSt (execSpiSessionTimeout t s) s).kept = s.kept := by
  simp [execSpiSessionTimeout]

@[simp] theorem execEventHoldoffEnd_keeps (t part source : Nat) (s : State) : (OutSt (execEventHoldoffEnd t part source s) s).kept = s.kept := by
  simp [execEventHoldoffEnd]

@[simp] theorem execPcieLinkReset_keeps (t : Nat) (s : State) : (OutSt (execPcieLinkReset t s) s).kept = s.kept := by
  simp [execPcieLinkReset]

@[simp] theorem execDmaCompletionError_keeps (t part : Nat) (target : DmaTarget) (s : State) : (OutSt (execDmaCompletionError t part target s) s).kept = s.kept := by
  simp [execDmaCompletionError]

@[simp] theorem execDmaCopyDone_keeps (t part tag : Nat) (s : State) : (OutSt (execDmaCopyDone t part tag s) s).kept.pending = s.kept.pending ∧ (OutSt (execDmaCopyDone t part tag s) s).kept.life = s.kept.life ∧ (OutSt (execDmaCopyDone t part tag s) s).kept.lifeLog = s.kept.lifeLog ∧ (OutSt (execDmaCopyDone t part tag s) s).kept.ownerHash = s.kept.ownerHash ∧ (OutSt (execDmaCopyDone t part tag s) s).kept.minSvn = s.kept.minSvn ∧ (OutSt (execDmaCopyDone t part tag s) s).kept.boot = s.kept.boot ∧ (OutSt (execDmaCopyDone t part tag s) s).kept.tap = s.kept.tap ∧ (OutSt (execDmaCopyDone t part tag s) s).kept.grants = s.kept.grants ∧ (OutSt (execDmaCopyDone t part tag s) s).kept.timeOwner = s.kept.timeOwner ∧ (OutSt (execDmaCopyDone t part tag s) s).kept.ref = s.kept.ref ∧ (OutSt (execDmaCopyDone t part tag s) s).kept.delays = s.kept.delays ∧ (OutSt (execDmaCopyDone t part tag s) s).kept.challenge = s.kept.challenge ∧ (OutSt (execDmaCopyDone t part tag s) s).kept.errMin = s.kept.errMin := by
  unfold execDmaCopyDone
  simp (disch := ((try intros); (try dsimp only); (repeat' split) <;> (first | assumption | (simp_all; done)))) [-event_kept]

@[simp] theorem execHstSqTailWrite_keeps (t part value : Nat) (s : State) : (OutSt (execHstSqTailWrite t part value s) s).kept = s.kept := by
  simp [execHstSqTailWrite]

@[simp] theorem execHstRqHeadWrite_keeps (t part value : Nat) (s : State) : (OutSt (execHstRqHeadWrite t part value s) s).kept = s.kept := by
  simp [execHstRqHeadWrite]

@[simp] theorem execHstEvtConsWrite_keeps (t part value : Nat) (s : State) : (OutSt (execHstEvtConsWrite t part value s) s).kept = s.kept := by
  simp [execHstEvtConsWrite]

@[simp] theorem execHstQueueEnable_keeps (t part : Nat) (s : State) : (OutSt (execHstQueueEnable t part s) s).kept = s.kept := by
  simp [execHstQueueEnable]

@[simp] theorem execHstQueueDisable_keeps (t part : Nat) (s : State) : (OutSt (execHstQueueDisable t part s) s).kept = s.kept := by
  simp [execHstQueueDisable]

@[simp] theorem execFltRead_keeps (h : Pkt) (s : State) : (OutSt (execFltRead h s) s).kept = s.kept := by
  simp [execFltRead]

@[simp] theorem execFltHistory_keeps (h : Pkt) (p : FltHistory) (s : State) : (OutSt (execFltHistory h p s) s).kept = s.kept := by
  simp [execFltHistory]

@[simp] theorem execFltAck_keeps (h : Pkt) (p : FltAck) (s : State) : (OutSt (execFltAck h p s) s).kept = s.kept := by
  simp [execFltAck]

@[simp] theorem execFltInject_keeps (h : Pkt) (p : FltInject) (s : State) : (OutSt (execFltInject h p s) s).kept.pending = s.kept.pending ∧ (OutSt (execFltInject h p s) s).kept.life = s.kept.life ∧ (OutSt (execFltInject h p s) s).kept.lifeLog = s.kept.lifeLog ∧ (OutSt (execFltInject h p s) s).kept.ownerHash = s.kept.ownerHash ∧ (OutSt (execFltInject h p s) s).kept.minSvn = s.kept.minSvn ∧ (OutSt (execFltInject h p s) s).kept.boot = s.kept.boot ∧ (OutSt (execFltInject h p s) s).kept.tap = s.kept.tap := by
  simp [execFltInject]

@[simp] theorem execFltSet_keeps (h : Pkt) (p : FltSet) (s : State) : (OutSt (execFltSet h p s) s).kept.pending = s.kept.pending ∧ (OutSt (execFltSet h p s) s).kept.life = s.kept.life ∧ (OutSt (execFltSet h p s) s).kept.lifeLog = s.kept.lifeLog ∧ (OutSt (execFltSet h p s) s).kept.ownerHash = s.kept.ownerHash ∧ (OutSt (execFltSet h p s) s).kept.minSvn = s.kept.minSvn ∧ (OutSt (execFltSet h p s) s).kept.boot = s.kept.boot ∧ (OutSt (execFltSet h p s) s).kept.tap = s.kept.tap ∧ (OutSt (execFltSet h p s) s).kept.staging = s.kept.staging ∧ (OutSt (execFltSet h p s) s).kept.grants = s.kept.grants ∧ (OutSt (execFltSet h p s) s).kept.timeOwner = s.kept.timeOwner ∧ (OutSt (execFltSet h p s) s).kept.ref = s.kept.ref ∧ (OutSt (execFltSet h p s) s).kept.delays = s.kept.delays ∧ (OutSt (execFltSet h p s) s).kept.challenge = s.kept.challenge := by
  simp [execFltSet]

@[simp] theorem execSupplyOutOfRange_keeps (t source : Nat) (low : Bool) (value : Reading) (s : State) : (OutSt (execSupplyOutOfRange t source low value s) s).kept = s.kept := by
  simp [execSupplyOutOfRange, State.judge_kept]

@[simp] theorem execSupplyBackInRange_keeps (t source : Nat) (s : State) : (OutSt (execSupplyBackInRange t source s) s).kept = s.kept := by
  simp [execSupplyBackInRange]

@[simp] theorem execTemperatureLimit_keeps (t source : Nat) (excess : Bool) (value : Reading) (s : State) : (OutSt (execTemperatureLimit t source excess value s) s).kept = s.kept := by
  simp [execTemperatureLimit, State.judge_kept]

@[simp] theorem execHandshakeStall_keeps (t : Nat) (stall : Stall) (s : State) : (OutSt (execHandshakeStall t stall s) s).kept = s.kept := by
  simp [execHandshakeStall, State.judge_kept]

@[simp] theorem execMgmtLockstepMismatch_keeps (t : Nat) (s : State) : (OutSt (execMgmtLockstepMismatch t s) s).kept = s.kept := by
  simp [execMgmtLockstepMismatch]

@[simp] theorem execScrubStep_keeps (t : Nat) (x : ScrubStep) (s : State) : (OutSt (execScrubStep t x s) s).kept.pending = s.kept.pending ∧ (OutSt (execScrubStep t x s) s).kept.life = s.kept.life ∧ (OutSt (execScrubStep t x s) s).kept.lifeLog = s.kept.lifeLog ∧ (OutSt (execScrubStep t x s) s).kept.ownerHash = s.kept.ownerHash ∧ (OutSt (execScrubStep t x s) s).kept.minSvn = s.kept.minSvn ∧ (OutSt (execScrubStep t x s) s).kept.boot = s.kept.boot ∧ (OutSt (execScrubStep t x s) s).kept.tap = s.kept.tap := by
  simp [execScrubStep]

@[simp] theorem execScrubOverdue_keeps (t : Nat) (dram : Bool) (s : State) : (OutSt (execScrubOverdue t dram s) s).kept = s.kept := by
  simp [execScrubOverdue]

@[simp] theorem execCeHourWindow_keeps (t : Nat) (region : MemRegion) (s : State) : (OutSt (execCeHourWindow t region s) s).kept = s.kept := by
  simp [execCeHourWindow]

@[simp] theorem execErrToggle_keeps (t : Nat) (s : State) : (OutSt (execErrToggle t s) s).kept = s.kept := by
  simp [execErrToggle]

@[simp] theorem execErrChannelCompare_keeps (t : Nat) (compare : ErrCompare) (readbackOk : Bool) (s : State) : (OutSt (execErrChannelCompare t compare readbackOk s) s).kept = s.kept := by
  simp [execErrChannelCompare, State.judge_kept]

@[simp] theorem execFltSelftest_keeps (h : Pkt) (parts : Nat) (s : State) : (OutSt (execFltSelftest h parts s) s).kept = s.kept := by
  simp [execFltSelftest]

@[simp] theorem execSelftestHourly_keeps (t : Nat) (s : State) : (OutSt (execSelftestHourly t s) s).kept = s.kept := by
  simp [execSelftestHourly]

@[simp] theorem execSelftestSliceEnd_keeps (t : Nat) (s : State) : (OutSt (execSelftestSliceEnd t s) s).kept.pending = s.kept.pending ∧ (OutSt (execSelftestSliceEnd t s) s).kept.life = s.kept.life ∧ (OutSt (execSelftestSliceEnd t s) s).kept.lifeLog = s.kept.lifeLog ∧ (OutSt (execSelftestSliceEnd t s) s).kept.ownerHash = s.kept.ownerHash ∧ (OutSt (execSelftestSliceEnd t s) s).kept.minSvn = s.kept.minSvn ∧ (OutSt (execSelftestSliceEnd t s) s).kept.boot = s.kept.boot ∧ (OutSt (execSelftestSliceEnd t s) s).kept.tap = s.kept.tap := by
  simp [execSelftestSliceEnd]

@[simp] theorem execSelftestDone_keeps (t failed : Nat) (s : State) : (OutSt (execSelftestDone t failed s) s).kept.pending = s.kept.pending ∧ (OutSt (execSelftestDone t failed s) s).kept.life = s.kept.life ∧ (OutSt (execSelftestDone t failed s) s).kept.lifeLog = s.kept.lifeLog ∧ (OutSt (execSelftestDone t failed s) s).kept.ownerHash = s.kept.ownerHash ∧ (OutSt (execSelftestDone t failed s) s).kept.minSvn = s.kept.minSvn ∧ (OutSt (execSelftestDone t failed s) s).kept.boot = s.kept.boot ∧ (OutSt (execSelftestDone t failed s) s).kept.tap = s.kept.tap := by
  simp [execSelftestDone]

end Sys2Proof.Machine
end

