-- ==== Sys2Proof/Laws/Keeps/Rows6.lean ====
section
/-!
SUPPORT. What the rows of the table leave as it was, part 6.
-/
set_option linter.all false
set_option linter.unusedTactic false
set_option linter.unreachableTactic false
namespace Sys2Proof.Machine

@[simp] theorem execSelftestOverdue_keeps (t : Nat) (s : State) : (OutSt (execSelftestOverdue t s) s).kept = s.kept := by
  simp [execSelftestOverdue]

@[simp] theorem execTamperDetected_keeps (t code value : Nat) (s : State) : (OutSt (execTamperDetected t code value s) s).kept = s.kept := by
  simp [execTamperDetected]

@[simp] theorem execPorNFall_keeps (t : Nat) (s : State) : (OutSt (execPorNFall t s) s).kept.pending = s.kept.pending ∧ (OutSt (execPorNFall t s) s).kept.life = s.kept.life ∧ (OutSt (execPorNFall t s) s).kept.lifeLog = s.kept.lifeLog ∧ (OutSt (execPorNFall t s) s).kept.ownerHash = s.kept.ownerHash ∧ (OutSt (execPorNFall t s) s).kept.minSvn = s.kept.minSvn ∧ (OutSt (execPorNFall t s) s).kept.boot = s.kept.boot := by
  simp [execPorNFall]

@[simp] theorem execPorNRelease_keeps (a1 : Nat) (s : State) : (OutSt (execPorNRelease a1 s) s).kept = s.kept := by
  simp [execPorNRelease]

@[simp] theorem execPerstNAssert_keeps (t : Nat) (s : State) : (OutSt (execPerstNAssert t s) s).kept.pending = s.kept.pending ∧ (OutSt (execPerstNAssert t s) s).kept.life = s.kept.life ∧ (OutSt (execPerstNAssert t s) s).kept.lifeLog = s.kept.lifeLog ∧ (OutSt (execPerstNAssert t s) s).kept.ownerHash = s.kept.ownerHash ∧ (OutSt (execPerstNAssert t s) s).kept.minSvn = s.kept.minSvn ∧ (OutSt (execPerstNAssert t s) s).kept.boot = s.kept.boot ∧ (OutSt (execPerstNAssert t s) s).kept.tap = s.kept.tap := by
  simp [execPerstNAssert]

@[simp] theorem execPerstNRelease_keeps (t : Nat) (s : State) : (OutSt (execPerstNRelease t s) s).kept = s.kept := by
  simp [execPerstNRelease]

@[simp] theorem execStartupDone_keeps (t : Nat) (r : StartupReport) (s : State) : (OutSt (execStartupDone t r s) s).kept.pending = s.kept.pending ∧ (OutSt (execStartupDone t r s) s).kept.life = s.kept.life ∧ (OutSt (execStartupDone t r s) s).kept.lifeLog = s.kept.lifeLog ∧ (OutSt (execStartupDone t r s) s).kept.ownerHash = s.kept.ownerHash ∧ (OutSt (execStartupDone t r s) s).kept.minSvn = s.kept.minSvn ∧ (OutSt (execStartupDone t r s) s).kept.boot = s.kept.boot ∧ (OutSt (execStartupDone t r s) s).kept.tap = s.kept.tap ∧ (OutSt (execStartupDone t r s) s).kept.staging = s.kept.staging ∧ (OutSt (execStartupDone t r s) s).kept.challenge = s.kept.challenge := by
  simp [execStartupDone]

@[simp] theorem execPfwNFall_keeps (t : Nat) (s : State) : (OutSt (execPfwNFall t s) s).kept = s.kept := by
  simp [execPfwNFall]

@[simp] theorem execPfwNRise_keeps (t : Nat) (s : State) : (OutSt (execPfwNRise t s) s).kept = s.kept := by
  simp [execPfwNRise]

@[simp] theorem execPwrStabled_keeps (h : Pkt) (force : Bool) (s : State) : (OutSt (execPwrStabled h force s) s).kept = s.kept := by
  simp [execPwrStabled]

@[simp] theorem execStabledEntryDone_keeps (t : Nat) (s : State) : (OutSt (execStabledEntryDone t s) s).kept = s.kept := by
  simp [execStabledEntryDone]

@[simp] theorem execWakeNFall_keeps (t lowNs : Nat) (s : State) : (OutSt (execWakeNFall t lowNs s) s).kept = s.kept := by
  simp [execWakeNFall]

@[simp] theorem execPwrCtrlWakeWrite_keeps (t part value : Nat) (s : State) : (OutSt (execPwrCtrlWakeWrite t part value s) s).kept = s.kept := by
  simp [execPwrCtrlWakeWrite]

@[simp] theorem execPwrWake_keeps (h : Pkt) (s : State) : (OutSt (execPwrWake h s) s).kept = s.kept := by
  simp [execPwrWake]

@[simp] theorem execWakeDone_keeps (t : Nat) (retentionOk : Bool) (found : WakeFound) (clustersFailed : Nat) (s : State) : (OutSt (execWakeDone t retentionOk found clustersFailed s) s).kept.pending = s.kept.pending ∧ (OutSt (execWakeDone t retentionOk found clustersFailed s) s).kept.life = s.kept.life ∧ (OutSt (execWakeDone t retentionOk found clustersFailed s) s).kept.lifeLog = s.kept.lifeLog ∧ (OutSt (execWakeDone t retentionOk found clustersFailed s) s).kept.ownerHash = s.kept.ownerHash ∧ (OutSt (execWakeDone t retentionOk found clustersFailed s) s).kept.minSvn = s.kept.minSvn ∧ (OutSt (execWakeDone t retentionOk found clustersFailed s) s).kept.boot = s.kept.boot ∧ (OutSt (execWakeDone t retentionOk found clustersFailed s) s).kept.tap = s.kept.tap := by
  simp [execWakeDone]

@[simp] theorem execPwrQuery_keeps (h : Pkt) (s : State) : (OutSt (execPwrQuery h s) s).kept = s.kept := by
  simp [execPwrQuery]

@[simp] theorem execDevReset_keeps (h : Pkt) (kind : Nat) (s : State) : (OutSt (execDevReset h kind s) s).kept.pending = s.kept.pending ∧ (OutSt (execDevReset h kind s) s).kept.life = s.kept.life ∧ (OutSt (execDevReset h kind s) s).kept.lifeLog = s.kept.lifeLog ∧ (OutSt (execDevReset h kind s) s).kept.ownerHash = s.kept.ownerHash ∧ (OutSt (execDevReset h kind s) s).kept.minSvn = s.kept.minSvn ∧ (OutSt (execDevReset h kind s) s).kept.boot = s.kept.boot ∧ (OutSt (execDevReset h kind s) s).kept.tap = s.kept.tap := by
  simp [execDevReset]

@[simp] theorem execLcTransition_keeps (h : Pkt) (p : LcTransition) (s : State) : (OutSt (execLcTransition h p s) s).kept.pending = s.kept.pending ∧ (OutSt (execLcTransition h p s) s).kept.minSvn = s.kept.minSvn ∧ (OutSt (execLcTransition h p s) s).kept.boot = s.kept.boot ∧ (OutSt (execLcTransition h p s) s).kept.tap = s.kept.tap := by
  simp [execLcTransition]

@[simp] theorem execFwLoad_keeps (h : Pkt) (p : FwLoad) (s : State) : (OutSt (execFwLoad h p s) s).kept = s.kept := by
  simp [execFwLoad]

@[simp] theorem execFwLoadVerified_keeps (t : Nat) (v : FwVerify) (s : State) : (OutSt (execFwLoadVerified t v s) s).kept = s.kept := by
  simp [execFwLoadVerified]

@[simp] theorem execFwClusterUpdate_keeps (h : Pkt) (cluster : Nat) (s : State) : (OutSt (execFwClusterUpdate h cluster s) s).kept = s.kept := by
  simp [execFwClusterUpdate]

@[simp] theorem execFwClusterLoadDone_keeps (t cluster : Nat) (ok : Bool) (s : State) : (OutSt (execFwClusterLoadDone t cluster ok s) s).kept = s.kept := by
  simp [execFwClusterLoadDone]

@[simp] theorem execFwSwitch_keeps (h : Pkt) (op : Nat) (s : State) : (OutSt (execFwSwitch h op s) s).kept.pending = s.kept.pending ∧ (OutSt (execFwSwitch h op s) s).kept.life = s.kept.life ∧ (OutSt (execFwSwitch h op s) s).kept.lifeLog = s.kept.lifeLog ∧ (OutSt (execFwSwitch h op s) s).kept.ownerHash = s.kept.ownerHash ∧ (OutSt (execFwSwitch h op s) s).kept.tap = s.kept.tap ∧ (OutSt (execFwSwitch h op s) s).kept.staging = s.kept.staging ∧ (OutSt (execFwSwitch h op s) s).kept.grants = s.kept.grants ∧ (OutSt (execFwSwitch h op s) s).kept.timeOwner = s.kept.timeOwner ∧ (OutSt (execFwSwitch h op s) s).kept.ref = s.kept.ref ∧ (OutSt (execFwSwitch h op s) s).kept.delays = s.kept.delays ∧ (OutSt (execFwSwitch h op s) s).kept.challenge = s.kept.challenge ∧ (OutSt (execFwSwitch h op s) s).kept.errMin = s.kept.errMin := by
  simp [execFwSwitch]

@[simp] theorem execMgmtRestartDone_keeps (t : Nat) (s : State) : (OutSt (execMgmtRestartDone t s) s).kept = s.kept := by
  simp [execMgmtRestartDone]

@[simp] theorem execMgmtRestartTimeout_keeps (t : Nat) (s : State) : (OutSt (execMgmtRestartTimeout t s) s).kept = s.kept := by
  simp [execMgmtRestartTimeout]

@[simp] theorem execCfgLoad_keeps (h : Pkt) (p : CfgLoad) (s : State) : (OutSt (execCfgLoad h p s) s).kept = s.kept := by
  simp [execCfgLoad]

@[simp] theorem execCfgLoadVerified_keeps (t : Nat) (v : CfgVerify) (s : State) : (OutSt (execCfgLoadVerified t v s) s).kept = s.kept := by
  simp [execCfgLoadVerified]

@[simp] theorem execCfgRead_keeps (h : Pkt) (p : CfgRead) (s : State) : (OutSt (execCfgRead h p s) s).kept = s.kept := by
  simp [execCfgRead]

@[simp] theorem execTestPortAccess_keeps (t : Nat) (trst tms tdi : Bool) (s : State) : (OutSt (execTestPortAccess t trst tms tdi s) s).kept.pending = s.kept.pending ∧ (OutSt (execTestPortAccess t trst tms tdi s) s).kept.life = s.kept.life ∧ (OutSt (execTestPortAccess t trst tms tdi s) s).kept.lifeLog = s.kept.lifeLog ∧ (OutSt (execTestPortAccess t trst tms tdi s) s).kept.ownerHash = s.kept.ownerHash ∧ (OutSt (execTestPortAccess t trst tms tdi s) s).kept.minSvn = s.kept.minSvn ∧ (OutSt (execTestPortAccess t trst tms tdi s) s).kept.boot = s.kept.boot ∧ (OutSt (execTestPortAccess t trst tms tdi s) s).kept.staging = s.kept.staging ∧ (OutSt (execTestPortAccess t trst tms tdi s) s).kept.grants = s.kept.grants ∧ (OutSt (execTestPortAccess t trst tms tdi s) s).kept.timeOwner = s.kept.timeOwner ∧ (OutSt (execTestPortAccess t trst tms tdi s) s).kept.ref = s.kept.ref ∧ (OutSt (execTestPortAccess t trst tms tdi s) s).kept.delays = s.kept.delays ∧ (OutSt (execTestPortAccess t trst tms tdi s) s).kept.challenge = s.kept.challenge ∧ (OutSt (execTestPortAccess t trst tms tdi s) s).kept.errMin = s.kept.errMin := by
  simp [execTestPortAccess]

@[simp] theorem execIngCntSnapWrite_keeps (t part value : Nat) (s : State) : (OutSt (execIngCntSnapWrite t part value s) s).kept = s.kept := by
  simp [execIngCntSnapWrite]

@[simp] theorem execPltCntSnapWrite_keeps (t part value : Nat) (s : State) : (OutSt (execPltCntSnapWrite t part value s) s).kept = s.kept := by
  simp [execPltCntSnapWrite]

@[simp] theorem execWchCntSnapWrite_keeps (t part value : Nat) (s : State) : (OutSt (execWchCntSnapWrite t part value s) s).kept = s.kept := by
  simp [execWchCntSnapWrite]

@[simp] theorem execNrgSnapWrite_keeps (t part value : Nat) (s : State) : (OutSt (execNrgSnapWrite t part value s) s).kept = s.kept := by
  simp [execNrgSnapWrite]

@[simp] theorem execOscCntSnapWrite_keeps (t part value : Nat) (s : State) : (OutSt (execOscCntSnapWrite t part value s) s).kept = s.kept := by
  simp [execOscCntSnapWrite]

@[simp] theorem execCohCntSnapWrite_keeps (t part value : Nat) (s : State) : (OutSt (execCohCntSnapWrite t part value s) s).kept = s.kept := by
  simp [execCohCntSnapWrite]

@[simp] theorem execAlcCntSnapWrite_keeps (t part value : Nat) (s : State) : (OutSt (execAlcCntSnapWrite t part value s) s).kept = s.kept := by
  simp [execAlcCntSnapWrite]

@[simp] theorem execRecCntSnapWrite_keeps (t part value : Nat) (s : State) : (OutSt (execRecCntSnapWrite t part value s) s).kept = s.kept := by
  simp [execRecCntSnapWrite]

@[simp] theorem execSchCntSnapWrite_keeps (t part value : Nat) (s : State) : (OutSt (execSchCntSnapWrite t part value s) s).kept = s.kept := by
  simp [execSchCntSnapWrite]

@[simp] theorem execTbCntSnapWrite_keeps (t part value : Nat) (s : State) : (OutSt (execTbCntSnapWrite t part value s) s).kept = s.kept := by
  simp [execTbCntSnapWrite]

@[simp] theorem execTbNowSnapWrite_keeps (t part value : Nat) (s : State) : (OutSt (execTbNowSnapWrite t part value s) s).kept = s.kept := by
  simp [execTbNowSnapWrite]

@[simp] theorem execKeyCntSnapWrite_keeps (t part value : Nat) (s : State) : (OutSt (execKeyCntSnapWrite t part value s) s).kept = s.kept := by
  simp [execKeyCntSnapWrite]

@[simp] theorem execPrtCntSnapWrite_keeps (t part port value : Nat) (s : State) : (OutSt (execPrtCntSnapWrite t part port value s) s).kept = s.kept := by
  simp [execPrtCntSnapWrite]

@[simp] theorem execTbNowLoRead_keeps (t part tb : Nat) (s : State) : (OutSt (execTbNowLoRead t part tb s) s).kept = s.kept := by
  simp [execTbNowLoRead]

@[simp] theorem execLatmonClearWrite_keeps (t part value : Nat) (s : State) : (OutSt (execLatmonClearWrite t part value s) s).kept = s.kept := by
  simp [execLatmonClearWrite]

@[simp] theorem execSchTraceConsWrite_keeps (t part value : Nat) (s : State) : (OutSt (execSchTraceConsWrite t part value s) s).kept = s.kept := by
  simp [execSchTraceConsWrite]

@[simp] theorem execRegisterWrite_keeps (t part offset width value : Nat) (s : State) : (OutSt (execRegisterWrite t part offset width value s) s).kept = s.kept := by
  simp [execRegisterWrite]

end Sys2Proof.Machine
end

