-- ==== Sys2Proof/Laws/State.lean ====
section
/-!
SUPPORT. What each update of one part of the state leaves as it was: every other part, by computation.
-/
set_option linter.all false
namespace Sys2Proof.Machine

@[simp] theorem State.at_rest (s : State) (t : Stamp) :
    (s.at t).pending = s.pending ∧ (s.at t).held = s.held ∧ (s.at t).resuming = s.resuming ∧ (s.at t).freeCount = s.freeCount ∧
    (s.at t).hst = s.hst ∧ (s.at t).tt = s.tt ∧ (s.at t).flt = s.flt ∧ (s.at t).pwr = s.pwr ∧ (s.at t).fw = s.fw ∧ (s.at t).lat = s.lat ∧
    (s.at t).sec = s.sec ∧ (s.at t).cfg = s.cfg ∧ (s.at t).alc = s.alc ∧ (s.at t).alcx = s.alcx ∧ (s.at t).ing = s.ing ∧
    (s.at t).plt = s.plt ∧ (s.at t).prt = s.prt ∧ (s.at t).sch = s.sch ∧ (s.at t).tb = s.tb ∧ (s.at t).wch = s.wch ∧ (s.at t).nrg = s.nrg ∧
    (s.at t).osc = s.osc ∧ (s.at t).coh = s.coh ∧ (s.at t).rcd = s.rcd ∧ (s.at t).tap = s.tap :=
  ⟨rfl, rfl, rfl, rfl, rfl, rfl, rfl, rfl, rfl, rfl, rfl, rfl, rfl, rfl, rfl, rfl, rfl, rfl, rfl, rfl, rfl, rfl, rfl, rfl, rfl⟩

@[simp] theorem State.setPart_rest (s : State) (n : Nat) (p : Part) :
    (s.setPart n p).now = s.now ∧ (s.setPart n p).cap = s.cap ∧ (s.setPart n p).pending = s.pending ∧ (s.setPart n p).held = s.held ∧
    (s.setPart n p).resuming = s.resuming ∧ (s.setPart n p).freeCount = s.freeCount ∧ (s.setPart n p).tt = s.tt ∧
    (s.setPart n p).flt = s.flt ∧ (s.setPart n p).pwr = s.pwr ∧ (s.setPart n p).fw = s.fw ∧ (s.setPart n p).lat = s.lat ∧
    (s.setPart n p).sec = s.sec ∧ (s.setPart n p).cfg = s.cfg ∧ (s.setPart n p).alc = s.alc ∧ (s.setPart n p).alcx = s.alcx ∧
    (s.setPart n p).ing = s.ing ∧ (s.setPart n p).plt = s.plt ∧ (s.setPart n p).prt = s.prt ∧ (s.setPart n p).sch = s.sch ∧
    (s.setPart n p).tb = s.tb ∧ (s.setPart n p).wch = s.wch ∧ (s.setPart n p).nrg = s.nrg ∧ (s.setPart n p).osc = s.osc ∧
    (s.setPart n p).coh = s.coh ∧ (s.setPart n p).rcd = s.rcd ∧ (s.setPart n p).tap = s.tap :=
  ⟨rfl, rfl, rfl, rfl, rfl, rfl, rfl, rfl, rfl, rfl, rfl, rfl, rfl, rfl, rfl, rfl, rfl, rfl, rfl, rfl, rfl, rfl, rfl, rfl, rfl, rfl⟩

@[simp] theorem State.modPart_rest (s : State) (n : Nat) (f : Part → Part) :
    (s.modPart n f).now = s.now ∧ (s.modPart n f).cap = s.cap ∧ (s.modPart n f).pending = s.pending ∧ (s.modPart n f).held = s.held ∧
    (s.modPart n f).resuming = s.resuming ∧ (s.modPart n f).freeCount = s.freeCount ∧ (s.modPart n f).tt = s.tt ∧
    (s.modPart n f).flt = s.flt ∧ (s.modPart n f).pwr = s.pwr ∧ (s.modPart n f).fw = s.fw ∧ (s.modPart n f).lat = s.lat ∧
    (s.modPart n f).sec = s.sec ∧ (s.modPart n f).cfg = s.cfg ∧ (s.modPart n f).alc = s.alc ∧ (s.modPart n f).alcx = s.alcx ∧
    (s.modPart n f).ing = s.ing ∧ (s.modPart n f).plt = s.plt ∧ (s.modPart n f).prt = s.prt ∧ (s.modPart n f).sch = s.sch ∧
    (s.modPart n f).tb = s.tb ∧ (s.modPart n f).wch = s.wch ∧ (s.modPart n f).nrg = s.nrg ∧ (s.modPart n f).osc = s.osc ∧
    (s.modPart n f).coh = s.coh ∧ (s.modPart n f).rcd = s.rcd ∧ (s.modPart n f).tap = s.tap :=
  ⟨rfl, rfl, rfl, rfl, rfl, rfl, rfl, rfl, rfl, rfl, rfl, rfl, rfl, rfl, rfl, rfl, rfl, rfl, rfl, rfl, rfl, rfl, rfl, rfl, rfl, rfl⟩

@[simp] theorem State.setSlot_rest (s : State) (n : Nat) (k : KeySlot) :
    (s.setSlot n k).now = s.now ∧ (s.setSlot n k).cap = s.cap ∧ (s.setSlot n k).pending = s.pending ∧ (s.setSlot n k).held = s.held ∧
    (s.setSlot n k).resuming = s.resuming ∧ (s.setSlot n k).freeCount = s.freeCount ∧ (s.setSlot n k).hst = s.hst ∧
    (s.setSlot n k).tt = s.tt ∧ (s.setSlot n k).flt = s.flt ∧ (s.setSlot n k).pwr = s.pwr ∧ (s.setSlot n k).fw = s.fw ∧
    (s.setSlot n k).lat = s.lat ∧ (s.setSlot n k).cfg = s.cfg ∧ (s.setSlot n k).alc = s.alc ∧ (s.setSlot n k).alcx = s.alcx ∧
    (s.setSlot n k).ing = s.ing ∧ (s.setSlot n k).plt = s.plt ∧ (s.setSlot n k).prt = s.prt ∧ (s.setSlot n k).sch = s.sch ∧
    (s.setSlot n k).tb = s.tb ∧ (s.setSlot n k).wch = s.wch ∧ (s.setSlot n k).nrg = s.nrg ∧ (s.setSlot n k).osc = s.osc ∧
    (s.setSlot n k).coh = s.coh ∧ (s.setSlot n k).rcd = s.rcd ∧ (s.setSlot n k).tap = s.tap :=
  ⟨rfl, rfl, rfl, rfl, rfl, rfl, rfl, rfl, rfl, rfl, rfl, rfl, rfl, rfl, rfl, rfl, rfl, rfl, rfl, rfl, rfl, rfl, rfl, rfl, rfl, rfl⟩

@[simp] theorem State.setPort_rest (s : State) (p : Nat) (x : PortSt) :
    (s.setPort p x).now = s.now ∧ (s.setPort p x).cap = s.cap ∧ (s.setPort p x).pending = s.pending ∧ (s.setPort p x).held = s.held ∧
    (s.setPort p x).resuming = s.resuming ∧ (s.setPort p x).freeCount = s.freeCount ∧ (s.setPort p x).hst = s.hst ∧
    (s.setPort p x).tt = s.tt ∧ (s.setPort p x).flt = s.flt ∧ (s.setPort p x).pwr = s.pwr ∧ (s.setPort p x).fw = s.fw ∧
    (s.setPort p x).lat = s.lat ∧ (s.setPort p x).sec = s.sec ∧ (s.setPort p x).cfg = s.cfg ∧ (s.setPort p x).alc = s.alc ∧
    (s.setPort p x).alcx = s.alcx ∧ (s.setPort p x).ing = s.ing ∧ (s.setPort p x).plt = s.plt ∧ (s.setPort p x).sch = s.sch ∧
    (s.setPort p x).tb = s.tb ∧ (s.setPort p x).wch = s.wch ∧ (s.setPort p x).nrg = s.nrg ∧ (s.setPort p x).osc = s.osc ∧
    (s.setPort p x).coh = s.coh ∧ (s.setPort p x).rcd = s.rcd ∧ (s.setPort p x).tap = s.tap :=
  ⟨rfl, rfl, rfl, rfl, rfl, rfl, rfl, rfl, rfl, rfl, rfl, rfl, rfl, rfl, rfl, rfl, rfl, rfl, rfl, rfl, rfl, rfl, rfl, rfl, rfl, rfl⟩

@[simp] theorem State.modPort_rest (s : State) (p : Nat) (f : PortSt → PortSt) :
    (s.modPort p f).now = s.now ∧ (s.modPort p f).cap = s.cap ∧ (s.modPort p f).pending = s.pending ∧ (s.modPort p f).held = s.held ∧
    (s.modPort p f).resuming = s.resuming ∧ (s.modPort p f).freeCount = s.freeCount ∧ (s.modPort p f).hst = s.hst ∧
    (s.modPort p f).tt = s.tt ∧ (s.modPort p f).flt = s.flt ∧ (s.modPort p f).pwr = s.pwr ∧ (s.modPort p f).fw = s.fw ∧
    (s.modPort p f).lat = s.lat ∧ (s.modPort p f).sec = s.sec ∧ (s.modPort p f).cfg = s.cfg ∧ (s.modPort p f).alc = s.alc ∧
    (s.modPort p f).alcx = s.alcx ∧ (s.modPort p f).ing = s.ing ∧ (s.modPort p f).plt = s.plt ∧ (s.modPort p f).sch = s.sch ∧
    (s.modPort p f).tb = s.tb ∧ (s.modPort p f).wch = s.wch ∧ (s.modPort p f).nrg = s.nrg ∧ (s.modPort p f).osc = s.osc ∧
    (s.modPort p f).coh = s.coh ∧ (s.modPort p f).rcd = s.rcd ∧ (s.modPort p f).tap = s.tap :=
  ⟨rfl, rfl, rfl, rfl, rfl, rfl, rfl, rfl, rfl, rfl, rfl, rfl, rfl, rfl, rfl, rfl, rfl, rfl, rfl, rfl, rfl, rfl, rfl, rfl, rfl, rfl⟩

@[simp] theorem State.setGroup_rest (s : State) (n : Nat) (g : Group) :
    (s.setGroup n g).now = s.now ∧ (s.setGroup n g).cap = s.cap ∧ (s.setGroup n g).pending = s.pending ∧ (s.setGroup n g).held = s.held ∧
    (s.setGroup n g).resuming = s.resuming ∧ (s.setGroup n g).freeCount = s.freeCount ∧ (s.setGroup n g).hst = s.hst ∧
    (s.setGroup n g).tt = s.tt ∧ (s.setGroup n g).flt = s.flt ∧ (s.setGroup n g).pwr = s.pwr ∧ (s.setGroup n g).fw = s.fw ∧
    (s.setGroup n g).lat = s.lat ∧ (s.setGroup n g).sec = s.sec ∧ (s.setGroup n g).cfg = s.cfg ∧ (s.setGroup n g).alc = s.alc ∧
    (s.setGroup n g).alcx = s.alcx ∧ (s.setGroup n g).ing = s.ing ∧ (s.setGroup n g).prt = s.prt ∧ (s.setGroup n g).sch = s.sch ∧
    (s.setGroup n g).tb = s.tb ∧ (s.setGroup n g).wch = s.wch ∧ (s.setGroup n g).nrg = s.nrg ∧ (s.setGroup n g).osc = s.osc ∧
    (s.setGroup n g).coh = s.coh ∧ (s.setGroup n g).rcd = s.rcd ∧ (s.setGroup n g).tap = s.tap :=
  ⟨rfl, rfl, rfl, rfl, rfl, rfl, rfl, rfl, rfl, rfl, rfl, rfl, rfl, rfl, rfl, rfl, rfl, rfl, rfl, rfl, rfl, rfl, rfl, rfl, rfl, rfl⟩

@[simp] theorem State.setStream_rest (s : State) (n : Nat) (x : StreamSt) :
    (s.setStream n x).now = s.now ∧ (s.setStream n x).cap = s.cap ∧ (s.setStream n x).pending = s.pending ∧ (s.setStream n x).held = s.held ∧
    (s.setStream n x).resuming = s.resuming ∧ (s.setStream n x).freeCount = s.freeCount ∧ (s.setStream n x).hst = s.hst ∧
    (s.setStream n x).tt = s.tt ∧ (s.setStream n x).flt = s.flt ∧ (s.setStream n x).pwr = s.pwr ∧ (s.setStream n x).fw = s.fw ∧
    (s.setStream n x).lat = s.lat ∧ (s.setStream n x).sec = s.sec ∧ (s.setStream n x).cfg = s.cfg ∧ (s.setStream n x).alc = s.alc ∧
    (s.setStream n x).alcx = s.alcx ∧ (s.setStream n x).plt = s.plt ∧ (s.setStream n x).prt = s.prt ∧ (s.setStream n x).sch = s.sch ∧
    (s.setStream n x).tb = s.tb ∧ (s.setStream n x).wch = s.wch ∧ (s.setStream n x).nrg = s.nrg ∧ (s.setStream n x).osc = s.osc ∧
    (s.setStream n x).coh = s.coh ∧ (s.setStream n x).rcd = s.rcd ∧ (s.setStream n x).tap = s.tap :=
  ⟨rfl, rfl, rfl, rfl, rfl, rfl, rfl, rfl, rfl, rfl, rfl, rfl, rfl, rfl, rfl, rfl, rfl, rfl, rfl, rfl, rfl, rfl, rfl, rfl, rfl, rfl⟩

@[simp] theorem State.modStream_rest (s : State) (n : Nat) (f : StreamSt → StreamSt) :
    (s.modStream n f).now = s.now ∧ (s.modStream n f).cap = s.cap ∧ (s.modStream n f).pending = s.pending ∧ (s.modStream n f).held = s.held ∧
    (s.modStream n f).resuming = s.resuming ∧ (s.modStream n f).freeCount = s.freeCount ∧ (s.modStream n f).hst = s.hst ∧
    (s.modStream n f).tt = s.tt ∧ (s.modStream n f).flt = s.flt ∧ (s.modStream n f).pwr = s.pwr ∧ (s.modStream n f).fw = s.fw ∧
    (s.modStream n f).lat = s.lat ∧ (s.modStream n f).sec = s.sec ∧ (s.modStream n f).cfg = s.cfg ∧ (s.modStream n f).alc = s.alc ∧
    (s.modStream n f).alcx = s.alcx ∧ (s.modStream n f).plt = s.plt ∧ (s.modStream n f).prt = s.prt ∧ (s.modStream n f).sch = s.sch ∧
    (s.modStream n f).tb = s.tb ∧ (s.modStream n f).wch = s.wch ∧ (s.modStream n f).nrg = s.nrg ∧ (s.modStream n f).osc = s.osc ∧
    (s.modStream n f).coh = s.coh ∧ (s.modStream n f).rcd = s.rcd ∧ (s.modStream n f).tap = s.tap :=
  ⟨rfl, rfl, rfl, rfl, rfl, rfl, rfl, rfl, rfl, rfl, rfl, rfl, rfl, rfl, rfl, rfl, rfl, rfl, rfl, rfl, rfl, rfl, rfl, rfl, rfl, rfl⟩

@[simp] theorem State.setUnit_rest (s : State) (n : Nat) (u : WUnit) :
    (s.setUnit n u).now = s.now ∧ (s.setUnit n u).cap = s.cap ∧ (s.setUnit n u).pending = s.pending ∧ (s.setUnit n u).held = s.held ∧
    (s.setUnit n u).resuming = s.resuming ∧ (s.setUnit n u).freeCount = s.freeCount ∧ (s.setUnit n u).hst = s.hst ∧
    (s.setUnit n u).tt = s.tt ∧ (s.setUnit n u).flt = s.flt ∧ (s.setUnit n u).pwr = s.pwr ∧ (s.setUnit n u).fw = s.fw ∧
    (s.setUnit n u).lat = s.lat ∧ (s.setUnit n u).sec = s.sec ∧ (s.setUnit n u).cfg = s.cfg ∧ (s.setUnit n u).alc = s.alc ∧
    (s.setUnit n u).alcx = s.alcx ∧ (s.setUnit n u).ing = s.ing ∧ (s.setUnit n u).plt = s.plt ∧ (s.setUnit n u).prt = s.prt ∧
    (s.setUnit n u).sch = s.sch ∧ (s.setUnit n u).tb = s.tb ∧ (s.setUnit n u).nrg = s.nrg ∧ (s.setUnit n u).osc = s.osc ∧
    (s.setUnit n u).coh = s.coh ∧ (s.setUnit n u).rcd = s.rcd ∧ (s.setUnit n u).tap = s.tap :=
  ⟨rfl, rfl, rfl, rfl, rfl, rfl, rfl, rfl, rfl, rfl, rfl, rfl, rfl, rfl, rfl, rfl, rfl, rfl, rfl, rfl, rfl, rfl, rfl, rfl, rfl, rfl⟩

@[simp] theorem State.setCluster_rest (s : State) (k : Nat) (c : Cluster) :
    (s.setCluster k c).now = s.now ∧ (s.setCluster k c).cap = s.cap ∧ (s.setCluster k c).pending = s.pending ∧ (s.setCluster k c).held = s.held ∧
    (s.setCluster k c).resuming = s.resuming ∧ (s.setCluster k c).freeCount = s.freeCount ∧ (s.setCluster k c).hst = s.hst ∧
    (s.setCluster k c).tt = s.tt ∧ (s.setCluster k c).flt = s.flt ∧ (s.setCluster k c).pwr = s.pwr ∧ (s.setCluster k c).fw = s.fw ∧
    (s.setCluster k c).lat = s.lat ∧ (s.setCluster k c).sec = s.sec ∧ (s.setCluster k c).cfg = s.cfg ∧ (s.setCluster k c).alc = s.alc ∧
    (s.setCluster k c).alcx = s.alcx ∧ (s.setCluster k c).ing = s.ing ∧ (s.setCluster k c).plt = s.plt ∧ (s.setCluster k c).prt = s.prt ∧
    (s.setCluster k c).tb = s.tb ∧ (s.setCluster k c).wch = s.wch ∧ (s.setCluster k c).nrg = s.nrg ∧ (s.setCluster k c).osc = s.osc ∧
    (s.setCluster k c).coh = s.coh ∧ (s.setCluster k c).rcd = s.rcd ∧ (s.setCluster k c).tap = s.tap :=
  ⟨rfl, rfl, rfl, rfl, rfl, rfl, rfl, rfl, rfl, rfl, rfl, rfl, rfl, rfl, rfl, rfl, rfl, rfl, rfl, rfl, rfl, rfl, rfl, rfl, rfl, rfl⟩

@[simp] theorem State.modCluster_rest (s : State) (k : Nat) (f : Cluster → Cluster) :
    (s.modCluster k f).now = s.now ∧ (s.modCluster k f).cap = s.cap ∧ (s.modCluster k f).pending = s.pending ∧ (s.modCluster k f).held = s.held ∧
    (s.modCluster k f).resuming = s.resuming ∧ (s.modCluster k f).freeCount = s.freeCount ∧ (s.modCluster k f).hst = s.hst ∧
    (s.modCluster k f).tt = s.tt ∧ (s.modCluster k f).flt = s.flt ∧ (s.modCluster k f).pwr = s.pwr ∧ (s.modCluster k f).fw = s.fw ∧
    (s.modCluster k f).lat = s.lat ∧ (s.modCluster k f).sec = s.sec ∧ (s.modCluster k f).cfg = s.cfg ∧ (s.modCluster k f).alc = s.alc ∧
    (s.modCluster k f).alcx = s.alcx ∧ (s.modCluster k f).ing = s.ing ∧ (s.modCluster k f).plt = s.plt ∧ (s.modCluster k f).prt = s.prt ∧
    (s.modCluster k f).tb = s.tb ∧ (s.modCluster k f).wch = s.wch ∧ (s.modCluster k f).nrg = s.nrg ∧ (s.modCluster k f).osc = s.osc ∧
    (s.modCluster k f).coh = s.coh ∧ (s.modCluster k f).rcd = s.rcd ∧ (s.modCluster k f).tap = s.tap :=
  ⟨rfl, rfl, rfl, rfl, rfl, rfl, rfl, rfl, rfl, rfl, rfl, rfl, rfl, rfl, rfl, rfl, rfl, rfl, rfl, rfl, rfl, rfl, rfl, rfl, rfl, rfl⟩

@[simp] theorem State.setFlow_rest (s : State) (st : Nat) (f : Flow) :
    (s.setFlow st f).now = s.now ∧ (s.setFlow st f).cap = s.cap ∧ (s.setFlow st f).pending = s.pending ∧ (s.setFlow st f).held = s.held ∧
    (s.setFlow st f).resuming = s.resuming ∧ (s.setFlow st f).freeCount = s.freeCount ∧ (s.setFlow st f).hst = s.hst ∧
    (s.setFlow st f).tt = s.tt ∧ (s.setFlow st f).flt = s.flt ∧ (s.setFlow st f).pwr = s.pwr ∧ (s.setFlow st f).fw = s.fw ∧
    (s.setFlow st f).lat = s.lat ∧ (s.setFlow st f).sec = s.sec ∧ (s.setFlow st f).cfg = s.cfg ∧ (s.setFlow st f).alc = s.alc ∧
    (s.setFlow st f).alcx = s.alcx ∧ (s.setFlow st f).ing = s.ing ∧ (s.setFlow st f).plt = s.plt ∧ (s.setFlow st f).prt = s.prt ∧
    (s.setFlow st f).tb = s.tb ∧ (s.setFlow st f).wch = s.wch ∧ (s.setFlow st f).nrg = s.nrg ∧ (s.setFlow st f).osc = s.osc ∧
    (s.setFlow st f).coh = s.coh ∧ (s.setFlow st f).rcd = s.rcd ∧ (s.setFlow st f).tap = s.tap :=
  ⟨rfl, rfl, rfl, rfl, rfl, rfl, rfl, rfl, rfl, rfl, rfl, rfl, rfl, rfl, rfl, rfl, rfl, rfl, rfl, rfl, rfl, rfl, rfl, rfl, rfl, rfl⟩

@[simp] theorem State.modFlow_rest (s : State) (st : Nat) (f : Flow → Flow) :
    (s.modFlow st f).now = s.now ∧ (s.modFlow st f).cap = s.cap ∧ (s.modFlow st f).pending = s.pending ∧ (s.modFlow st f).held = s.held ∧
    (s.modFlow st f).resuming = s.resuming ∧ (s.modFlow st f).freeCount = s.freeCount ∧ (s.modFlow st f).hst = s.hst ∧
    (s.modFlow st f).tt = s.tt ∧ (s.modFlow st f).flt = s.flt ∧ (s.modFlow st f).pwr = s.pwr ∧ (s.modFlow st f).fw = s.fw ∧
    (s.modFlow st f).lat = s.lat ∧ (s.modFlow st f).sec = s.sec ∧ (s.modFlow st f).cfg = s.cfg ∧ (s.modFlow st f).alc = s.alc ∧
    (s.modFlow st f).alcx = s.alcx ∧ (s.modFlow st f).ing = s.ing ∧ (s.modFlow st f).plt = s.plt ∧ (s.modFlow st f).prt = s.prt ∧
    (s.modFlow st f).tb = s.tb ∧ (s.modFlow st f).wch = s.wch ∧ (s.modFlow st f).nrg = s.nrg ∧ (s.modFlow st f).osc = s.osc ∧
    (s.modFlow st f).coh = s.coh ∧ (s.modFlow st f).rcd = s.rcd ∧ (s.modFlow st f).tap = s.tap :=
  ⟨rfl, rfl, rfl, rfl, rfl, rfl, rfl, rfl, rfl, rfl, rfl, rfl, rfl, rfl, rfl, rfl, rfl, rfl, rfl, rfl, rfl, rfl, rfl, rfl, rfl, rfl⟩

@[simp] theorem State.setContract_rest (s : State) (id : Nat) (c : Contract) :
    (s.setContract id c).now = s.now ∧ (s.setContract id c).cap = s.cap ∧ (s.setContract id c).pending = s.pending ∧ (s.setContract id c).held = s.held ∧
    (s.setContract id c).resuming = s.resuming ∧ (s.setContract id c).freeCount = s.freeCount ∧ (s.setContract id c).hst = s.hst ∧
    (s.setContract id c).flt = s.flt ∧ (s.setContract id c).pwr = s.pwr ∧ (s.setContract id c).fw = s.fw ∧
    (s.setContract id c).lat = s.lat ∧ (s.setContract id c).sec = s.sec ∧ (s.setContract id c).cfg = s.cfg ∧
    (s.setContract id c).alc = s.alc ∧ (s.setContract id c).alcx = s.alcx ∧ (s.setContract id c).ing = s.ing ∧
    (s.setContract id c).plt = s.plt ∧ (s.setContract id c).prt = s.prt ∧ (s.setContract id c).sch = s.sch ∧
    (s.setContract id c).tb = s.tb ∧ (s.setContract id c).wch = s.wch ∧ (s.setContract id c).nrg = s.nrg ∧
    (s.setContract id c).osc = s.osc ∧ (s.setContract id c).coh = s.coh ∧ (s.setContract id c).rcd = s.rcd ∧
    (s.setContract id c).tap = s.tap :=
  ⟨rfl, rfl, rfl, rfl, rfl, rfl, rfl, rfl, rfl, rfl, rfl, rfl, rfl, rfl, rfl, rfl, rfl, rfl, rfl, rfl, rfl, rfl, rfl, rfl, rfl, rfl⟩

@[simp] theorem State.withProfile_rest (s : State) (p : Profile) :
    (s.withProfile p).now = s.now ∧ (s.withProfile p).cap = s.cap ∧ (s.withProfile p).pending = s.pending ∧ (s.withProfile p).held = s.held ∧
    (s.withProfile p).resuming = s.resuming ∧ (s.withProfile p).freeCount = s.freeCount ∧ (s.withProfile p).hst = s.hst ∧
    (s.withProfile p).flt = s.flt ∧ (s.withProfile p).pwr = s.pwr ∧ (s.withProfile p).fw = s.fw ∧ (s.withProfile p).lat = s.lat ∧
    (s.withProfile p).sec = s.sec ∧ (s.withProfile p).cfg = s.cfg ∧ (s.withProfile p).alc = s.alc ∧ (s.withProfile p).alcx = s.alcx ∧
    (s.withProfile p).ing = s.ing ∧ (s.withProfile p).plt = s.plt ∧ (s.withProfile p).prt = s.prt ∧ (s.withProfile p).sch = s.sch ∧
    (s.withProfile p).tb = s.tb ∧ (s.withProfile p).wch = s.wch ∧ (s.withProfile p).nrg = s.nrg ∧ (s.withProfile p).osc = s.osc ∧
    (s.withProfile p).coh = s.coh ∧ (s.withProfile p).rcd = s.rcd ∧ (s.withProfile p).tap = s.tap :=
  ⟨rfl, rfl, rfl, rfl, rfl, rfl, rfl, rfl, rfl, rfl, rfl, rfl, rfl, rfl, rfl, rfl, rfl, rfl, rfl, rfl, rfl, rfl, rfl, rfl, rfl, rfl⟩

@[simp] theorem State.setRec_rest (s : State) (n : Nat) (r : Rec) :
    (s.setRec n r).now = s.now ∧ (s.setRec n r).cap = s.cap ∧ (s.setRec n r).pending = s.pending ∧ (s.setRec n r).held = s.held ∧ (s.setRec n r).resuming = s.resuming ∧
    (s.setRec n r).freeCount = s.freeCount ∧ (s.setRec n r).hst = s.hst ∧ (s.setRec n r).tt = s.tt ∧ (s.setRec n r).flt = s.flt ∧
    (s.setRec n r).pwr = s.pwr ∧ (s.setRec n r).fw = s.fw ∧ (s.setRec n r).lat = s.lat ∧ (s.setRec n r).sec = s.sec ∧
    (s.setRec n r).cfg = s.cfg ∧ (s.setRec n r).alc = s.alc ∧ (s.setRec n r).alcx = s.alcx ∧ (s.setRec n r).ing = s.ing ∧
    (s.setRec n r).plt = s.plt ∧ (s.setRec n r).prt = s.prt ∧ (s.setRec n r).sch = s.sch ∧ (s.setRec n r).tb = s.tb ∧
    (s.setRec n r).wch = s.wch ∧ (s.setRec n r).nrg = s.nrg ∧ (s.setRec n r).osc = s.osc ∧ (s.setRec n r).coh = s.coh ∧
    (s.setRec n r).tap = s.tap :=
  ⟨rfl, rfl, rfl, rfl, rfl, rfl, rfl, rfl, rfl, rfl, rfl, rfl, rfl, rfl, rfl, rfl, rfl, rfl, rfl, rfl, rfl, rfl, rfl, rfl, rfl, rfl⟩

@[simp] theorem State.setMeter_rest (s : State) (n : Nat) (m : Meter) :
    (s.setMeter n m).now = s.now ∧ (s.setMeter n m).cap = s.cap ∧ (s.setMeter n m).pending = s.pending ∧ (s.setMeter n m).held = s.held ∧
    (s.setMeter n m).resuming = s.resuming ∧ (s.setMeter n m).freeCount = s.freeCount ∧ (s.setMeter n m).hst = s.hst ∧
    (s.setMeter n m).tt = s.tt ∧ (s.setMeter n m).flt = s.flt ∧ (s.setMeter n m).pwr = s.pwr ∧ (s.setMeter n m).fw = s.fw ∧
    (s.setMeter n m).lat = s.lat ∧ (s.setMeter n m).sec = s.sec ∧ (s.setMeter n m).cfg = s.cfg ∧ (s.setMeter n m).alc = s.alc ∧
    (s.setMeter n m).alcx = s.alcx ∧ (s.setMeter n m).ing = s.ing ∧ (s.setMeter n m).plt = s.plt ∧ (s.setMeter n m).prt = s.prt ∧
    (s.setMeter n m).sch = s.sch ∧ (s.setMeter n m).tb = s.tb ∧ (s.setMeter n m).wch = s.wch ∧ (s.setMeter n m).osc = s.osc ∧
    (s.setMeter n m).coh = s.coh ∧ (s.setMeter n m).rcd = s.rcd ∧ (s.setMeter n m).tap = s.tap :=
  ⟨rfl, rfl, rfl, rfl, rfl, rfl, rfl, rfl, rfl, rfl, rfl, rfl, rfl, rfl, rfl, rfl, rfl, rfl, rfl, rfl, rfl, rfl, rfl, rfl, rfl, rfl⟩

@[simp] theorem State.setPo_rest (s : State) (n : Nat) (o : PulseOut) :
    (s.setPo n o).now = s.now ∧ (s.setPo n o).cap = s.cap ∧ (s.setPo n o).pending = s.pending ∧ (s.setPo n o).held = s.held ∧ (s.setPo n o).resuming = s.resuming ∧
    (s.setPo n o).freeCount = s.freeCount ∧ (s.setPo n o).hst = s.hst ∧ (s.setPo n o).tt = s.tt ∧ (s.setPo n o).flt = s.flt ∧
    (s.setPo n o).pwr = s.pwr ∧ (s.setPo n o).fw = s.fw ∧ (s.setPo n o).lat = s.lat ∧ (s.setPo n o).sec = s.sec ∧
    (s.setPo n o).cfg = s.cfg ∧ (s.setPo n o).alc = s.alc ∧ (s.setPo n o).alcx = s.alcx ∧ (s.setPo n o).ing = s.ing ∧
    (s.setPo n o).plt = s.plt ∧ (s.setPo n o).prt = s.prt ∧ (s.setPo n o).sch = s.sch ∧ (s.setPo n o).tb = s.tb ∧
    (s.setPo n o).wch = s.wch ∧ (s.setPo n o).osc = s.osc ∧ (s.setPo n o).coh = s.coh ∧ (s.setPo n o).rcd = s.rcd ∧
    (s.setPo n o).tap = s.tap :=
  ⟨rfl, rfl, rfl, rfl, rfl, rfl, rfl, rfl, rfl, rfl, rfl, rfl, rfl, rfl, rfl, rfl, rfl, rfl, rfl, rfl, rfl, rfl, rfl, rfl, rfl, rfl⟩

@[simp] theorem State.setPi_rest (s : State) (n : Nat) (x : PulseIn) :
    (s.setPi n x).now = s.now ∧ (s.setPi n x).cap = s.cap ∧ (s.setPi n x).pending = s.pending ∧ (s.setPi n x).held = s.held ∧ (s.setPi n x).resuming = s.resuming ∧
    (s.setPi n x).freeCount = s.freeCount ∧ (s.setPi n x).hst = s.hst ∧ (s.setPi n x).tt = s.tt ∧ (s.setPi n x).flt = s.flt ∧
    (s.setPi n x).pwr = s.pwr ∧ (s.setPi n x).fw = s.fw ∧ (s.setPi n x).lat = s.lat ∧ (s.setPi n x).sec = s.sec ∧
    (s.setPi n x).cfg = s.cfg ∧ (s.setPi n x).alc = s.alc ∧ (s.setPi n x).alcx = s.alcx ∧ (s.setPi n x).ing = s.ing ∧
    (s.setPi n x).plt = s.plt ∧ (s.setPi n x).prt = s.prt ∧ (s.setPi n x).sch = s.sch ∧ (s.setPi n x).tb = s.tb ∧
    (s.setPi n x).wch = s.wch ∧ (s.setPi n x).osc = s.osc ∧ (s.setPi n x).coh = s.coh ∧ (s.setPi n x).rcd = s.rcd ∧
    (s.setPi n x).tap = s.tap :=
  ⟨rfl, rfl, rfl, rfl, rfl, rfl, rfl, rfl, rfl, rfl, rfl, rfl, rfl, rfl, rfl, rfl, rfl, rfl, rfl, rfl, rfl, rfl, rfl, rfl, rfl, rfl⟩

@[simp] theorem State.setDet_rest (s : State) (n : Nat) (d : Detector) :
    (s.setDet n d).now = s.now ∧ (s.setDet n d).cap = s.cap ∧ (s.setDet n d).pending = s.pending ∧ (s.setDet n d).held = s.held ∧ (s.setDet n d).resuming = s.resuming ∧
    (s.setDet n d).freeCount = s.freeCount ∧ (s.setDet n d).hst = s.hst ∧ (s.setDet n d).tt = s.tt ∧ (s.setDet n d).flt = s.flt ∧
    (s.setDet n d).pwr = s.pwr ∧ (s.setDet n d).fw = s.fw ∧ (s.setDet n d).lat = s.lat ∧ (s.setDet n d).sec = s.sec ∧
    (s.setDet n d).cfg = s.cfg ∧ (s.setDet n d).alc = s.alc ∧ (s.setDet n d).alcx = s.alcx ∧ (s.setDet n d).ing = s.ing ∧
    (s.setDet n d).plt = s.plt ∧ (s.setDet n d).prt = s.prt ∧ (s.setDet n d).sch = s.sch ∧ (s.setDet n d).tb = s.tb ∧
    (s.setDet n d).wch = s.wch ∧ (s.setDet n d).nrg = s.nrg ∧ (s.setDet n d).coh = s.coh ∧ (s.setDet n d).rcd = s.rcd ∧
    (s.setDet n d).tap = s.tap :=
  ⟨rfl, rfl, rfl, rfl, rfl, rfl, rfl, rfl, rfl, rfl, rfl, rfl, rfl, rfl, rfl, rfl, rfl, rfl, rfl, rfl, rfl, rfl, rfl, rfl, rfl, rfl⟩

@[simp] theorem State.setEval_rest (s : State) (e : CohEval) :
    (s.setEval e).now = s.now ∧ (s.setEval e).cap = s.cap ∧ (s.setEval e).pending = s.pending ∧ (s.setEval e).held = s.held ∧ (s.setEval e).resuming = s.resuming ∧
    (s.setEval e).freeCount = s.freeCount ∧ (s.setEval e).hst = s.hst ∧ (s.setEval e).tt = s.tt ∧ (s.setEval e).flt = s.flt ∧
    (s.setEval e).pwr = s.pwr ∧ (s.setEval e).fw = s.fw ∧ (s.setEval e).lat = s.lat ∧ (s.setEval e).sec = s.sec ∧
    (s.setEval e).cfg = s.cfg ∧ (s.setEval e).alc = s.alc ∧ (s.setEval e).alcx = s.alcx ∧ (s.setEval e).ing = s.ing ∧
    (s.setEval e).plt = s.plt ∧ (s.setEval e).prt = s.prt ∧ (s.setEval e).sch = s.sch ∧ (s.setEval e).tb = s.tb ∧
    (s.setEval e).wch = s.wch ∧ (s.setEval e).nrg = s.nrg ∧ (s.setEval e).osc = s.osc ∧ (s.setEval e).rcd = s.rcd ∧
    (s.setEval e).tap = s.tap :=
  ⟨rfl, rfl, rfl, rfl, rfl, rfl, rfl, rfl, rfl, rfl, rfl, rfl, rfl, rfl, rfl, rfl, rfl, rfl, rfl, rfl, rfl, rfl, rfl, rfl, rfl, rfl⟩

@[simp] theorem State.setSlots_rest (s : State) (id : Nat) (x : ContractSlots) :
    (s.setSlots id x).now = s.now ∧ (s.setSlots id x).cap = s.cap ∧ (s.setSlots id x).pending = s.pending ∧ (s.setSlots id x).held = s.held ∧
    (s.setSlots id x).resuming = s.resuming ∧ (s.setSlots id x).freeCount = s.freeCount ∧ (s.setSlots id x).hst = s.hst ∧
    (s.setSlots id x).tt = s.tt ∧ (s.setSlots id x).flt = s.flt ∧ (s.setSlots id x).pwr = s.pwr ∧ (s.setSlots id x).fw = s.fw ∧
    (s.setSlots id x).lat = s.lat ∧ (s.setSlots id x).sec = s.sec ∧ (s.setSlots id x).cfg = s.cfg ∧ (s.setSlots id x).alc = s.alc ∧
    (s.setSlots id x).alcx = s.alcx ∧ (s.setSlots id x).ing = s.ing ∧ (s.setSlots id x).prt = s.prt ∧ (s.setSlots id x).sch = s.sch ∧
    (s.setSlots id x).tb = s.tb ∧ (s.setSlots id x).wch = s.wch ∧ (s.setSlots id x).nrg = s.nrg ∧ (s.setSlots id x).osc = s.osc ∧
    (s.setSlots id x).coh = s.coh ∧ (s.setSlots id x).rcd = s.rcd ∧ (s.setSlots id x).tap = s.tap :=
  ⟨rfl, rfl, rfl, rfl, rfl, rfl, rfl, rfl, rfl, rfl, rfl, rfl, rfl, rfl, rfl, rfl, rfl, rfl, rfl, rfl, rfl, rfl, rfl, rfl, rfl, rfl⟩

@[simp] theorem State.setStation_rest (s : State) (n : Nat) (x : Station) :
    (s.setStation n x).now = s.now ∧ (s.setStation n x).cap = s.cap ∧ (s.setStation n x).pending = s.pending ∧ (s.setStation n x).held = s.held ∧
    (s.setStation n x).resuming = s.resuming ∧ (s.setStation n x).freeCount = s.freeCount ∧ (s.setStation n x).hst = s.hst ∧
    (s.setStation n x).tt = s.tt ∧ (s.setStation n x).flt = s.flt ∧ (s.setStation n x).pwr = s.pwr ∧ (s.setStation n x).fw = s.fw ∧
    (s.setStation n x).lat = s.lat ∧ (s.setStation n x).sec = s.sec ∧ (s.setStation n x).cfg = s.cfg ∧ (s.setStation n x).alc = s.alc ∧
    (s.setStation n x).alcx = s.alcx ∧ (s.setStation n x).plt = s.plt ∧ (s.setStation n x).prt = s.prt ∧ (s.setStation n x).sch = s.sch ∧
    (s.setStation n x).tb = s.tb ∧ (s.setStation n x).wch = s.wch ∧ (s.setStation n x).nrg = s.nrg ∧ (s.setStation n x).osc = s.osc ∧
    (s.setStation n x).coh = s.coh ∧ (s.setStation n x).rcd = s.rcd ∧ (s.setStation n x).tap = s.tap :=
  ⟨rfl, rfl, rfl, rfl, rfl, rfl, rfl, rfl, rfl, rfl, rfl, rfl, rfl, rfl, rfl, rfl, rfl, rfl, rfl, rfl, rfl, rfl, rfl, rfl, rfl, rfl⟩

@[simp] theorem State.setBase_rest (s : State) (n : Nat) (b : Base) :
    (s.setBase n b).now = s.now ∧ (s.setBase n b).cap = s.cap ∧ (s.setBase n b).pending = s.pending ∧ (s.setBase n b).held = s.held ∧
    (s.setBase n b).resuming = s.resuming ∧ (s.setBase n b).freeCount = s.freeCount ∧ (s.setBase n b).hst = s.hst ∧
    (s.setBase n b).tt = s.tt ∧ (s.setBase n b).flt = s.flt ∧ (s.setBase n b).pwr = s.pwr ∧ (s.setBase n b).fw = s.fw ∧
    (s.setBase n b).lat = s.lat ∧ (s.setBase n b).sec = s.sec ∧ (s.setBase n b).cfg = s.cfg ∧ (s.setBase n b).alc = s.alc ∧
    (s.setBase n b).alcx = s.alcx ∧ (s.setBase n b).ing = s.ing ∧ (s.setBase n b).plt = s.plt ∧ (s.setBase n b).prt = s.prt ∧
    (s.setBase n b).sch = s.sch ∧ (s.setBase n b).wch = s.wch ∧ (s.setBase n b).nrg = s.nrg ∧ (s.setBase n b).osc = s.osc ∧
    (s.setBase n b).coh = s.coh ∧ (s.setBase n b).rcd = s.rcd ∧ (s.setBase n b).tap = s.tap :=
  ⟨rfl, rfl, rfl, rfl, rfl, rfl, rfl, rfl, rfl, rfl, rfl, rfl, rfl, rfl, rfl, rfl, rfl, rfl, rfl, rfl, rfl, rfl, rfl, rfl, rfl, rfl⟩

@[simp] theorem State.setPtp_rest (s : State) (n : Nat) (x : Ptp) :
    (s.setPtp n x).now = s.now ∧ (s.setPtp n x).cap = s.cap ∧ (s.setPtp n x).pending = s.pending ∧ (s.setPtp n x).held = s.held ∧ (s.setPtp n x).resuming = s.resuming ∧
    (s.setPtp n x).freeCount = s.freeCount ∧ (s.setPtp n x).hst = s.hst ∧ (s.setPtp n x).tt = s.tt ∧ (s.setPtp n x).flt = s.flt ∧
    (s.setPtp n x).pwr = s.pwr ∧ (s.setPtp n x).fw = s.fw ∧ (s.setPtp n x).lat = s.lat ∧ (s.setPtp n x).sec = s.sec ∧
    (s.setPtp n x).cfg = s.cfg ∧ (s.setPtp n x).alc = s.alc ∧ (s.setPtp n x).alcx = s.alcx ∧ (s.setPtp n x).ing = s.ing ∧
    (s.setPtp n x).plt = s.plt ∧ (s.setPtp n x).prt = s.prt ∧ (s.setPtp n x).sch = s.sch ∧ (s.setPtp n x).wch = s.wch ∧
    (s.setPtp n x).nrg = s.nrg ∧ (s.setPtp n x).osc = s.osc ∧ (s.setPtp n x).coh = s.coh ∧ (s.setPtp n x).rcd = s.rcd ∧
    (s.setPtp n x).tap = s.tap :=
  ⟨rfl, rfl, rfl, rfl, rfl, rfl, rfl, rfl, rfl, rfl, rfl, rfl, rfl, rfl, rfl, rfl, rfl, rfl, rfl, rfl, rfl, rfl, rfl, rfl, rfl, rfl⟩

@[simp] theorem State.at_now (s : State) (t : Stamp) : (s.at t).now = Nat.max s.now (tick t) := rfl
@[simp] theorem State.at_cap (s : State) (t : Stamp) : (s.at t).cap = Nat.max s.now t := rfl

theorem tick_le (t : Stamp) : tick t ≤ t := Nat.div_mul_le_self t 4

theorem tick_mono {t u : Stamp} (h : t ≤ u) : tick t ≤ tick u := Nat.mul_le_mul_right 4 (Nat.div_le_div_right h)

/-- A row that comes after another is taken at its own stamp. -/
theorem State.at_at (s : State) {t u : Stamp} (h : t ≤ u) : (s.at t).at u = s.at u := by
  have h1 : max (max s.now (tick t)) (tick u) = max s.now (tick u) := by rw [Nat.max_assoc, Nat.max_eq_right (tick_mono h)]
  have h2 : max (max s.now (tick t)) u = max s.now u := by rw [Nat.max_assoc, Nat.max_eq_right (Nat.le_trans (tick_le t) h)]
  simp only [State.at, h1, h2]

end Sys2Proof.Machine
end

