-- ==== Sys2Proof/Laws/Events.lean ====
section
/-!
SUPPORT. Raising an event changes nothing but the host block: the rings, latches and messages of the partitions (and the count of free values, where the
detail of the event is free).
-/
set_option linter.all false
namespace Sys2Proof.Machine

/-- Everything but the host block and the count of free values is as it was. -/
@[reducible] def HostsOnly (t s : State) : Prop :=
  t.now = s.now ∧ t.cap = s.cap ∧ t.pending = s.pending ∧ t.held = s.held ∧ t.resuming = s.resuming ∧ t.tt = s.tt ∧ t.flt = s.flt ∧ t.pwr = s.pwr ∧
  t.fw = s.fw ∧ t.lat = s.lat ∧ t.sec = s.sec ∧ t.cfg = s.cfg ∧ t.alc = s.alc ∧ t.alcx = s.alcx ∧ t.ing = s.ing ∧ t.plt = s.plt ∧
  t.prt = s.prt ∧ t.sch = s.sch ∧ t.tb = s.tb ∧ t.wch = s.wch ∧ t.nrg = s.nrg ∧ t.osc = s.osc ∧ t.coh = s.coh ∧ t.rcd = s.rcd ∧
  t.tap = s.tap

@[simp] theorem ite_top_now (c : Prop) [Decidable c] (a b : State) : (if c then a else b).now = if c then a.now else b.now := by split <;> rfl
@[simp] theorem ite_top_cap (c : Prop) [Decidable c] (a b : State) : (if c then a else b).cap = if c then a.cap else b.cap := by split <;> rfl
@[simp] theorem ite_top_pending (c : Prop) [Decidable c] (a b : State) : (if c then a else b).pending = if c then a.pending else b.pending := by split <;> rfl
@[simp] theorem ite_top_held (c : Prop) [Decidable c] (a b : State) : (if c then a else b).held = if c then a.held else b.held := by split <;> rfl
@[simp] theorem ite_top_resuming (c : Prop) [Decidable c] (a b : State) : (if c then a else b).resuming = if c then a.resuming else b.resuming := by split <;> rfl
@[simp] theorem ite_top_tt (c : Prop) [Decidable c] (a b : State) : (if c then a else b).tt = if c then a.tt else b.tt := by split <;> rfl
@[simp] theorem ite_top_flt (c : Prop) [Decidable c] (a b : State) : (if c then a else b).flt = if c then a.flt else b.flt := by split <;> rfl
@[simp] theorem ite_top_pwr (c : Prop) [Decidable c] (a b : State) : (if c then a else b).pwr = if c then a.pwr else b.pwr := by split <;> rfl
@[simp] theorem ite_top_fw (c : Prop) [Decidable c] (a b : State) : (if c then a else b).fw = if c then a.fw else b.fw := by split <;> rfl
@[simp] theorem ite_top_lat (c : Prop) [Decidable c] (a b : State) : (if c then a else b).lat = if c then a.lat else b.lat := by split <;> rfl
@[simp] theorem ite_top_sec (c : Prop) [Decidable c] (a b : State) : (if c then a else b).sec = if c then a.sec else b.sec := by split <;> rfl
@[simp] theorem ite_top_cfg (c : Prop) [Decidable c] (a b : State) : (if c then a else b).cfg = if c then a.cfg else b.cfg := by split <;> rfl
@[simp] theorem ite_top_alc (c : Prop) [Decidable c] (a b : State) : (if c then a else b).alc = if c then a.alc else b.alc := by split <;> rfl
@[simp] theorem ite_top_alcx (c : Prop) [Decidable c] (a b : State) : (if c then a else b).alcx = if c then a.alcx else b.alcx := by split <;> rfl
@[simp] theorem ite_top_ing (c : Prop) [Decidable c] (a b : State) : (if c then a else b).ing = if c then a.ing else b.ing := by split <;> rfl
@[simp] theorem ite_top_plt (c : Prop) [Decidable c] (a b : State) : (if c then a else b).plt = if c then a.plt else b.plt := by split <;> rfl
@[simp] theorem ite_top_prt (c : Prop) [Decidable c] (a b : State) : (if c then a else b).prt = if c then a.prt else b.prt := by split <;> rfl
@[simp] theorem ite_top_sch (c : Prop) [Decidable c] (a b : State) : (if c then a else b).sch = if c then a.sch else b.sch := by split <;> rfl
@[simp] theorem ite_top_tb (c : Prop) [Decidable c] (a b : State) : (if c then a else b).tb = if c then a.tb else b.tb := by split <;> rfl
@[simp] theorem ite_top_wch (c : Prop) [Decidable c] (a b : State) : (if c then a else b).wch = if c then a.wch else b.wch := by split <;> rfl
@[simp] theorem ite_top_nrg (c : Prop) [Decidable c] (a b : State) : (if c then a else b).nrg = if c then a.nrg else b.nrg := by split <;> rfl
@[simp] theorem ite_top_osc (c : Prop) [Decidable c] (a b : State) : (if c then a else b).osc = if c then a.osc else b.osc := by split <;> rfl
@[simp] theorem ite_top_coh (c : Prop) [Decidable c] (a b : State) : (if c then a else b).coh = if c then a.coh else b.coh := by split <;> rfl
@[simp] theorem ite_top_rcd (c : Prop) [Decidable c] (a b : State) : (if c then a else b).rcd = if c then a.rcd else b.rcd := by split <;> rfl
@[simp] theorem ite_top_tap (c : Prop) [Decidable c] (a b : State) : (if c then a else b).tap = if c then a.tap else b.tap := by split <;> rfl

theorem fold_hostsOnly {α : Type} (f : State → α → State) (h : ∀ b a, HostsOnly (f b a) b) (l : List α) (b : State) : HostsOnly (l.foldl f b) b := by
  induction l generalizing b with
  | nil => simp [HostsOnly]
  | cons a l ih =>
    have h1 := ih (f b a)
    have h2 := h b a
    simp only [HostsOnly, List.foldl_cons] at h1 h2 ⊢
    simp [h1, h2]

@[simp] theorem State.signal_hosts (s : State) (n route : Nat) : HostsOnly (s.signal n route) s := by
  unfold State.signal
  (repeat' split) <;> simp [HostsOnly]

@[simp] theorem State.hostWrite_hosts (s : State) (part addr : Nat) (data : List Byte) : HostsOnly (s.hostWrite part addr data) s := by
  unfold State.hostWrite
  split <;> simp [HostsOnly]

@[simp] theorem State.hostWrites_hosts (s : State) (part : Nat) (l : List (Nat × List Byte)) : HostsOnly (s.hostWrites part l) s :=
  by
  unfold State.hostWrites
  exact fold_hostsOnly _ (fun b (w : Nat × List Byte) => State.hostWrite_hosts b part w.1 w.2) l s

@[simp] theorem State.writeBack_hosts (s : State) (part k : Nat) (v : W32) : HostsOnly (s.writeBack part k v) s := by
  simp [HostsOnly, State.writeBack]

@[simp] theorem State.putRecord_hosts (s : State) (n : Nat) (r : EvRec) : HostsOnly (s.putRecord n r) s := by
  simp [HostsOnly, State.putRecord]

@[simp] theorem State.writeOrHold_hosts (s : State) (n : Nat) (r : EvRec) : HostsOnly (s.writeOrHold n r) s := by
  unfold State.writeOrHold
  (repeat' split) <;> simp [HostsOnly]

@[simp] theorem State.raiseEvent_hosts (s : State) (n src detail : Nat) : HostsOnly (s.raiseEvent n src detail) s := by
  unfold State.raiseEvent
  dsimp only
  (repeat' split) <;> simp [HostsOnly]

@[simp] theorem State.evt_hosts (s : State) (parts : List Nat) (src detail : Nat) : HostsOnly (s.evt parts src detail) s :=
  fold_hostsOnly _ (fun b a => State.raiseEvent_hosts b a src detail) parts s

/-- What is said of the commands of the hosts: the replies written and the commands that wait. -/
@[reducible] def CommandsKept (t s : State) : Prop := t.hst.replies = s.hst.replies ∧ t.hst.waiting = s.hst.waiting

@[simp] theorem State.signal_commands (s : State) (n route : Nat) : CommandsKept (s.signal n route) s := by
  unfold State.signal
  dsimp only
  (repeat' split) <;> simp [CommandsKept, State.modPart, State.setPart]

@[simp] theorem State.hostWrite_commands (s : State) (part addr : Nat) (data : List Byte) : CommandsKept (s.hostWrite part addr data) s := by
  unfold State.hostWrite
  split <;> simp [CommandsKept]

@[simp] theorem State.hostWrites_commands (s : State) (part : Nat) (l : List (Nat × List Byte)) : CommandsKept (s.hostWrites part l) s := by
  unfold State.hostWrites
  induction l generalizing s with
  | nil => simp [CommandsKept]
  | cons a l ih =>
    have h := ih (s.hostWrite part a.1 a.2)
    have k := State.hostWrite_commands s part a.1 a.2
    exact ⟨h.1.trans k.1, h.2.trans k.2⟩

@[simp] theorem State.writeBack_commands (s : State) (part k : Nat) (v : W32) : CommandsKept (s.writeBack part k v) s := by
  simp [CommandsKept, State.writeBack]

@[simp] theorem State.putRecord_commands (s : State) (n : Nat) (r : EvRec) : CommandsKept (s.putRecord n r) s := by
  simp [CommandsKept, State.putRecord, State.modPart, State.setPart]

@[simp] theorem State.raiseEvent_commands (s : State) (n src detail : Nat) : CommandsKept (s.raiseEvent n src detail) s := by
  unfold State.raiseEvent State.writeOrHold
  dsimp only
  (repeat' split) <;> simp [CommandsKept, State.modPart, State.setPart]

/-- Raising an event answers no command. -/
@[simp] theorem State.evt_commands (s : State) (parts : List Nat) (src detail : Nat) : CommandsKept (s.evt parts src detail) s := by
  unfold State.evt
  induction parts generalizing s with
  | nil => simp [CommandsKept]
  | cons a l ih =>
    have h1 := ih (s.raiseEvent a src detail)
    have h2 := State.raiseEvent_commands s a src detail
    simp only [CommandsKept, List.foldl_cons] at h1 h2 ⊢
    simp [h1, h2]

@[simp] theorem State.free_hosts (s : State) : HostsOnly s.free.2 s := by simp [HostsOnly, State.free]

@[simp] theorem State.evtFree_hosts (s : State) (parts : List Nat) (src : Nat) : HostsOnly (s.evtFree parts src) s := by
  simp [HostsOnly, State.evtFree]

@[simp] theorem State.partEvent_hosts (s : State) (n code : Nat) : HostsOnly (s.partEvent n code) s := by simp [HostsOnly, State.partEvent]

@[simp] theorem State.grantEvent_hosts (s : State) (parts : List Nat) (kind first : Nat) (share : Bool) :
    HostsOnly (s.grantEvent parts kind first share) s := by
  simp [HostsOnly, State.grantEvent]

end Sys2Proof.Machine
end

