-- ==== Sys2Proof/Laws/Filters.lean ====
section
/-!
SUPPORT. The compensating FIR corrects the droop of the decimator as 05_waveform_chain R153 states, whatever its open taps are.
-/
namespace Sys2Proof.Machine

/-- Only SV_RATE, R and Fp count for the droop. -/
theorem compMeets_congr {g g' : Geo} {c : Nat → Int} (hsv : g.sv = g'.sv) (hr : g.r = g'.r) (hfp : g.fp = g'.fp) : compMeets g c = compMeets g' c := by
  simp only [compMeets, cicDroop, firResponse, hsv, hr, hfp]
  rfl

theorem compFit_congr {g g' : Geo} (hsv : g.sv = g'.sv) (hr : g.r = g'.r) (hfp : g.fp = g'.fp) : compFit g = compFit g' := by
  funext i
  simp only [compFit, cicDroop, hsv, hr, hfp]

/-- The figures of Table 05-1 for an SV_RATE. -/
def rateGeo (sv : Nat) : Geo := { sv, r := decimation sv, fp := procRate sv, fnom := 50, out := 0, span := 0, e := 0, half := 0 }

theorem compFit_meets_rates : [4000, 4800, 12800, 14400].all (fun sv => compMeets (rateGeo sv) (compFit (rateGeo sv))) = true := by decide

/-- The taps in use meet the bound of R153 at every SV_RATE of Table 05-1. -/
theorem compTap_meets {g : Geo} (hsv : g.sv ∈ [4000, 4800, 12800, 14400]) (hr : g.r = decimation g.sv) (hfp : g.fp = procRate g.sv) :
    compMeets g (compTap g) = true := by
  unfold compTap
  split
  · assumption
  · rw [compFit_congr (g := g) (g' := rateGeo g.sv) rfl hr hfp, compMeets_congr (g := g) (g' := rateGeo g.sv) rfl hr hfp]
    exact List.all_eq_true.mp compFit_meets_rates _ hsv

end Sys2Proof.Machine
end

