-- ==== Sys2Proof/Laws/Memory.lean ====
section
/-!
SUPPORT. The laws of the staging buffers: a read after a write, and the canonical form, which every memory operation keeps.
-/
namespace Sys2Proof.Machine

theorem Memory.wfFrom_mono {lo hi : Nat} (hl : lo ≤ hi) (m : List Host.Cell) (h : Memory.wfFrom hi m = true) : Memory.wfFrom lo m = true := by
  cases m with
  | nil => rfl
  | cons c r =>
    simp only [Memory.wfFrom, Bool.and_eq_true, decide_eq_true_eq] at h ⊢
    exact ⟨⟨by omega, h.1.2⟩, h.2⟩

theorem Memory.wfFrom_write {lo a : Nat} (v : Byte) (m : List Host.Cell) (hl : lo ≤ a) (h : Memory.wfFrom lo m = true) :
    Memory.wfFrom lo (Memory.write a v m) = true := by
  induction m generalizing lo with
  | nil => by_cases hv : v = Memory.unlisted <;> simp [Memory.write, Memory.wfFrom, hv, hl]
  | cons c r ih =>
    simp only [Memory.wfFrom, Bool.and_eq_true, decide_eq_true_eq, bne_iff_ne] at h
    obtain ⟨⟨h1, h2⟩, h3⟩ := h
    unfold Memory.write
    split
    · split <;> simp [Memory.wfFrom, *]
    · split
      · subst a
        split
        · exact Memory.wfFrom_mono (by omega) r h3
        · simp [Memory.wfFrom, *]
      · simp only [Memory.wfFrom, Bool.and_eq_true, decide_eq_true_eq, bne_iff_ne]
        exact ⟨⟨h1, h2⟩, ih (by omega) h3⟩

/-- One written byte keeps the canonical form. -/
@[simp] theorem Memory.wf_write (a : Nat) (v : Byte) (m : List Host.Cell) (h : Memory.wf m = true) : Memory.wf (Memory.write a v m) = true :=
  Memory.wfFrom_write v m (Nat.zero_le a) h

/-- Written bytes keep the canonical form. -/
@[simp] theorem Memory.wf_writeBytes (a : Nat) (l : List Byte) (m : List Host.Cell) (h : Memory.wf m = true) :
    Memory.wf (Memory.writeBytes a l m) = true := by
  induction l generalizing a m with
  | nil => exact h
  | cons b l ih => exact ih _ _ (Memory.wf_write a b m h)

@[simp] theorem Memory.wf_nil : Memory.wf [] = true := rfl

theorem Memory.read_below {lo a : Nat} (m : List Host.Cell) (h : Memory.wfFrom lo m = true) (ha : a < lo) : Memory.read a m = Memory.unlisted := by
  induction m generalizing lo with
  | nil => rfl
  | cons c r ih =>
    simp only [Memory.wfFrom, Bool.and_eq_true, decide_eq_true_eq] at h
    unfold Memory.read
    rw [if_neg (by omega)]
    exact ih h.2 (by omega)

theorem Memory.read_write_from {lo : Nat} (a b : Nat) (v : Byte) (m : List Host.Cell) (h : Memory.wfFrom lo m = true) :
    Memory.read b (Memory.write a v m) = if b = a then v else Memory.read b m := by
  induction m generalizing lo with
  | nil =>
    by_cases hv : v = Memory.unlisted <;> by_cases hb : b = a <;> simp [Memory.write, Memory.read, *]
    intro hc; exact absurd hc.symm hb
  | cons c r ih =>
    simp only [Memory.wfFrom, Bool.and_eq_true, decide_eq_true_eq, bne_iff_ne] at h
    obtain ⟨⟨h1, h2⟩, h3⟩ := h
    have hi := ih h3
    unfold Memory.write
    split
    · rename_i hac
      split
      · rename_i hv
        by_cases hb : b = a
        · subst b
          simp only [if_pos, hv, Memory.read]
          rw [if_neg (by omega)]
          exact Memory.read_below r h3 (by omega)
        · simp [hb]
      · by_cases hb : b = a
        · simp [Memory.read, hb]
        · simp [Memory.read, hb, Ne.symm hb]
    · split
      · rename_i hac
        subst a
        split
        · rename_i hv
          by_cases hb : b = c.1
          · subst b; simp only [if_pos, hv]; exact Memory.read_below r h3 (by omega)
          · simp [Memory.read, hb, Ne.symm hb]
        · by_cases hb : b = c.1
          · simp [Memory.read, hb]
          · simp [Memory.read, hb, Ne.symm hb]
      · rename_i hac
        simp only [Memory.read]
        by_cases hb : c.1 = b
        · subst b; rw [if_pos rfl, if_pos rfl, if_neg (by omega)]
        · rw [if_neg hb, if_neg hb, hi]

/-- A read after a write of one byte: the byte written, and every other byte as it was. -/
theorem Memory.read_write (a b : Nat) (v : Byte) (m : List Host.Cell) (h : Memory.wf m = true) :
    Memory.read b (Memory.write a v m) = if b = a then v else Memory.read b m := Memory.read_write_from a b v m h

/-- A read after a write of several bytes. -/
theorem Memory.read_writeBytes (a b : Nat) (l : List Byte) (m : List Host.Cell) (h : Memory.wf m = true) :
    Memory.read b (Memory.writeBytes a l m) = if a ≤ b ∧ b < a + l.length then l.getD (b - a) 0 else Memory.read b m := by
  induction l generalizing a m with
  | nil => rw [if_neg (by simp)]; rfl
  | cons v l ih =>
    simp only [Memory.writeBytes, List.length_cons]
    rw [ih _ _ (Memory.wf_write a v m h), Memory.read_write a b v m h]
    by_cases hb : b = a
    · subst b
      rw [if_neg (by omega), if_pos rfl, if_pos (by omega)]
      simp
    · rw [if_neg hb]
      by_cases hc : a ≤ b ∧ b < a + (l.length + 1)
      · rw [if_pos (by omega), if_pos hc]
        have : b - a = (b - (a + 1)) + 1 := by omega
        rw [this]; simp
      · rw [if_neg (by omega), if_neg hc]

/-- Two lists in canonical form that read alike are equal. -/
theorem Memory.ext_from {lo : Nat} (m n : List Host.Cell) (hm : Memory.wfFrom lo m = true) (hn : Memory.wfFrom lo n = true)
    (h : ∀ a, Memory.read a m = Memory.read a n) : m = n := by
  induction m generalizing lo n with
  | nil =>
    cases n with
    | nil => rfl
    | cons c r =>
      simp only [Memory.wfFrom, Bool.and_eq_true, decide_eq_true_eq, bne_iff_ne] at hn
      have := h c.1
      simp [Memory.read] at this
      exact absurd this.symm hn.1.2
  | cons c r ih =>
    simp only [Memory.wfFrom, Bool.and_eq_true, decide_eq_true_eq, bne_iff_ne] at hm
    cases n with
    | nil =>
      have := h c.1
      simp [Memory.read] at this
      exact absurd this hm.1.2
    | cons e t =>
      simp only [Memory.wfFrom, Bool.and_eq_true, decide_eq_true_eq, bne_iff_ne] at hn
      rcases Nat.lt_trichotomy c.1 e.1 with hlt | heq | hgt
      · have h1 := h c.1
        simp only [Memory.read, if_true] at h1
        rw [if_neg (by omega), Memory.read_below t hn.2 (by omega)] at h1
        exact absurd h1 hm.1.2
      · have h1 := h c.1
        simp only [Memory.read, if_true] at h1
        rw [if_pos heq.symm] at h1
        have hce : c = e := Prod.ext heq h1
        subst hce
        congr 1
        refine ih (lo := c.1 + 1) t hm.2 hn.2 fun a => ?_
        have ha := h a
        simp only [Memory.read] at ha
        by_cases hca : c.1 = a
        · subst a; rw [Memory.read_below r hm.2 (by omega), Memory.read_below t hn.2 (by omega)]
        · simpa [hca] using ha
      · have h1 := h e.1
        simp only [Memory.read, if_true] at h1
        rw [if_neg (by omega), Memory.read_below r hm.2 (by omega)] at h1
        exact absurd h1.symm hn.1.2

/-- Two memories in canonical form that read alike are equal. -/
theorem Memory.ext (m n : List Host.Cell) (hm : Memory.wf m = true) (hn : Memory.wf n = true)
    (h : ∀ a, Memory.read a m = Memory.read a n) : m = n := Memory.ext_from m n hm hn h

end Sys2Proof.Machine
end

