-- ==== Sys2Proof/Laws/Replies.lean ====
section
/-!
SUPPORT. Sending a frame, writing a reply and answering the commands that wait change nothing of the power state, the firmware, the signal box, the logic
pair and its checkpoints, or the clock.
-/
set_option linter.all false
namespace Sys2Proof.Machine

/-- The clock, the power state, the firmware, the signal box, the pair and its checkpoints, and the tamper latch are as they were. -/
@[reducible] def Steady (t s : State) : Prop :=
  t.now = s.now ∧ t.pwr = s.pwr ∧ t.fw = s.fw ∧ t.flt = s.flt ∧ t.alc = s.alc ∧ t.alcx = s.alcx ∧
  t.sec.tamperLatched = s.sec.tamperLatched

theorem Steady.trans {a b c : State} (h : Steady a b) (h' : Steady b c) : Steady a c := by
  simp only [Steady] at h h' ⊢
  simp [h, h']

theorem fold_steady {α : Type} (f : State → α → State) (h : ∀ b a, Steady (f b a) b) (l : List α) (b : State) : Steady (l.foldl f b) b := by
  induction l generalizing b with
  | nil => simp [Steady]
  | cons a l ih =>
    have h1 := ih (f b a)
    have h2 := h b a
    simp only [Steady, List.foldl_cons] at h1 h2 ⊢
    simp [h1, h2]

theorem fold1_steady {α β : Type} (f : State × β → α → State × β) (h : ∀ b a, Steady (f b a).1 b.1) (l : List α) (b : State × β) :
    Steady (l.foldl f b).1 b.1 := by
  induction l generalizing b with
  | nil => simp [Steady]
  | cons a l ih =>
    have h1 := ih (f b a)
    have h2 := h b a
    simp only [Steady, List.foldl_cons] at h1 h2 ⊢
    simp [h1, h2]

@[simp] theorem State.portCount_steady (s : State) (p n : Nat) : Steady (s.portCount p n) s := by
  simp [Steady, State.portCount]

@[simp] theorem State.ringEvent_steady (s : State) (p part type : Nat) : Steady (s.ringEvent p part type) s := by
  simp [Steady, State.ringEvent]

@[simp] theorem State.lateEvent_steady (s : State) (p : Nat) (w : TxWhat) (tb : Nat) (d : Bool) (o : Option Stamp) : Steady (s.lateEvent p w tb d o) s := by
  simp [Steady, State.lateEvent]

@[simp] theorem State.count_tb_steady (s : State) (n : Nat) : Steady (s.count .tb n) s := by
  simp [Steady, State.count, State.setCnt]

@[simp] theorem State.latency_steady (s : State) (stage ns : Nat) (b : Option Nat) : Steady (s.latency stage ns b) s := by
  unfold State.latency
  dsimp only
  (repeat' split) <;> simp [Steady]

@[simp] theorem State.ringSignal_steady (s : State) (n cls : Nat) : Steady (s.ringSignal n cls) s := by simp [Steady, State.ringSignal]

@[simp] theorem State.hostDone_steady (s : State) (p : Nat) (f : TxFrame) (d : Bool) : Steady (s.hostDone p f d) s := by
  unfold State.hostDone
  dsimp only
  (repeat' split) <;> simp [Steady]

@[simp] theorem State.pubNext_steady (s : State) (n p : Nat) : Steady (s.pubNext n p) s := by
  unfold State.pubNext
  dsimp only
  (repeat' split) <;> simp [Steady]

@[simp] theorem State.frameGone_steady (s : State) (p : Nat) (f : TxFrame) (lost : Bool) : Steady (s.frameGone p f lost) s := by
  unfold State.frameGone
  dsimp only
  (repeat' split) <;> simp [Steady]

@[simp] theorem State.linkDrop_steady (s : State) (p : Nat) (f : TxFrame) : Steady (s.linkDrop p f) s := by
  simp [Steady, State.linkDrop]

@[simp] theorem State.hostFill_steady (fuel : Nat) (s : State) (p q : Nat) : Steady (s.hostFill fuel p q) s := by
  induction fuel generalizing s with
  | zero => simp [State.hostFill, Steady]
  | succ n ih =>
    unfold State.hostFill
    dsimp only
    (repeat' split) <;> simp [Steady, ih]

@[simp] theorem State.hostFills_steady (s : State) (p : Nat) : Steady (s.hostFills p) s :=
  fold_steady (fun (s : State) q => s.hostFill ((s.port p).posted + 1) p q) (fun b q => State.hostFill_steady _ b p q) [4, 5, 6, 7] s

@[simp] theorem State.judgeFrame_steady (s : State) (p q : Nat) (f : TxFrame) (busy : Bool) : Steady (s.judgeFrame p q f busy).1 s := by
  unfold State.judgeFrame
  dsimp only
  (repeat' split) <;> simp [Steady]

@[simp] theorem State.judgeHead_steady (s : State) (p q : Nat) : Steady (s.judgeHead p q).1 s := by
  unfold State.judgeHead
  dsimp only
  (repeat' split) <;> simp [Steady]

@[simp] theorem State.settle_steady (fuel : Nat) (s : State) (p : Nat) : Steady (s.settle fuel p) s := by
  induction fuel generalizing s with
  | zero => simp [State.settle, Steady]
  | succ n ih =>
    have hf := Steady.trans (fold1_steady (fun (a : State × Bool) q => ((a.1.judgeHead p q).1, a.2 || (a.1.judgeHead p q).2))
      (fun b a => State.judgeHead_steady b.1 p a) (List.range 8) (s.hostFills p, false)) (State.hostFills_steady s p)
    unfold State.settle
    dsimp only
    split
    · exact Steady.trans (ih _) hf
    · exact hf

@[simp] theorem State.startFrame_steady (s : State) (p q : Nat) (f : TxFrame) : Steady (s.startFrame p q f) s := by
  unfold State.startFrame
  dsimp only
  (repeat' split) <;> simp [Steady]

@[simp] theorem State.startQueued_steady (s : State) (p : Nat) : Steady (s.startQueued p) s := by
  unfold State.startQueued
  dsimp only
  (repeat' split) <;> simp [Steady]

@[simp] theorem State.startRetry_steady (s : State) (p q : Nat) (f : TxFrame) : Steady (s.startRetry p q f) s := by
  unfold State.startRetry
  dsimp only
  (repeat' split) <;> simp [Steady]

@[simp] theorem State.startNext_steady (s : State) (p : Nat) : Steady (s.startNext p) s := by
  unfold State.startNext
  dsimp only
  (repeat' split) <;> simp [Steady]

@[simp] theorem State.pauseSettle_steady (s : State) (p : Nat) : Steady (s.pauseSettle p) s := by
  unfold State.pauseSettle
  split <;> simp [Steady]

@[simp] theorem State.xoffArm_steady (s : State) (p : Nat) : Steady (s.xoffArm p) s := by
  unfold State.xoffArm
  split <;> simp [Steady]

@[simp] theorem State.kick_steady (s : State) (p : Nat) : Steady (s.kick p) s := by
  unfold State.kick
  dsimp only
  (repeat' split) <;> simp [Steady]

@[simp] theorem State.txOffer_steady (s : State) (p q : Nat) (f : TxFrame) : Steady (s.txOffer p q f) s := by
  unfold State.txOffer
  dsimp only
  (repeat' split) <;> simp [Steady]

@[simp] theorem State.signMissing_steady (s : State) (slot : Nat) : Steady (s.signMissing slot) s := by
  unfold State.signMissing
  dsimp only
  split <;> simp [Steady, State.secCount]

@[simp] theorem State.doneBy_steady (s : State) (n : Nat) (t : Stamp) : Steady (s.doneBy n t) s := by
  simp [Steady, State.doneBy]

@[simp] theorem State.putReply_steady (s : State) (h : Pkt) (op status detail : Nat) (stamp : Stamp) (res : List Byte) :
    Steady (s.putReply h op status detail stamp res) s := by
  unfold State.putReply
  dsimp only
  (repeat' split) <;> simp [Steady, State.signSent]

@[simp] theorem State.finish_steady (s : State) (w : Waiting) (status detail : Nat) (res : List Byte) : Steady (s.finish w status detail res) s := by
  simp [Steady, State.finish]

@[simp] theorem State.finishAll_steady (s : State) (sel : Waiting → Bool) (status detail : Nat) (res : Waiting → List Byte) :
    Steady (s.finishAll sel status detail res) s :=
  fold_steady _ (fun b w => State.finish_steady b w status detail (res w)) _ s

@[simp] theorem State.flushQueue_steady (s : State) (p q : Nat) : Steady (s.flushQueue p q) s := by
  exact fold_steady (fun (s : State) f => s.linkDrop p f) (fun b f => State.linkDrop_steady b p f) (tgetD q [] (s.port p).txq)
    (s.modPort p (fun x => { x with txq := tset q [] x.txq }))

theorem flushQueues_steady (p : Nat) (l : List Nat) (s : State) : Steady (l.foldl (fun s q => s.flushQueue p q) s) s :=
  fold_steady _ (fun b q => State.flushQueue_steady b p q) l s

@[simp] theorem State.linkDownOp_steady (s : State) (p reason : Nat) : Steady (s.linkDownOp p reason) s := by
  have h := flushQueues_steady p ((List.range 7).map (· + 1))
  have h1 := fun s => (h s).1
  have h2 := fun s => (h s).2.1
  have h3 := fun s => (h s).2.2.1
  have h4 := fun s => (h s).2.2.2.1
  have h5 := fun s => (h s).2.2.2.2.1
  have h6 := fun s => (h s).2.2.2.2.2.1
  have h7 := fun s => (h s).2.2.2.2.2.2
  unfold State.linkDownOp
  dsimp only
  (repeat' split) <;> simp [Steady, h1, h2, h3, h4, h5, h6, h7]

@[simp] theorem State.holdStarts_steady (s : State) (k p : Nat) : Steady (s.holdStarts k p) s := by
  unfold State.holdStarts
  dsimp only
  split <;> simp [Steady, State.count, State.setCnt]

@[simp] theorem State.joinFirst_steady (s : State) (k : Nat) (x : Item) : Steady (s.joinFirst k x) s := by
  unfold State.joinFirst
  dsimp only
  split <;> simp [Steady, State.modCluster]

@[simp] theorem State.setTrace_steady (s : State) (p : Nat) (r : TraceRing) : Steady (s.setTrace p r) s := by simp [Steady, State.setTrace]

@[simp] theorem State.traceDrop_steady (s : State) (k : Nat) (i : Item) : Steady (s.traceDrop k i) s := by
  unfold State.traceDrop
  dsimp only
  refine (fold_steady _ (fun b e => ?_) _ _).trans (by simp [Steady, State.modCluster])
  split <;> simp [Steady]

@[simp] theorem State.recall_steady (s : State) (k core : Nat) (r : CoreRun) : Steady (s.recall k core r) s := by
  unfold State.recall
  dsimp only
  refine (State.traceDrop_steady _ k r.item).trans ?_
  simp [Steady, State.setCnt, State.modCluster]

@[simp] theorem State.recallAll_steady (s : State) (k : Nat) : Steady (s.recallAll k) s := by
  have h0 : ∀ (b : State) (e : Nat × CoreRun), Steady (b.recall k e.1 e.2) b := fun b e => State.recall_steady b k e.1 e.2
  have h1 := fold_steady (fun (s : State) (e : Nat × CoreRun) => s.recall k e.1 e.2) h0 ((s.cluster k).granted s.now) s
  rw [State.recallAll]
  generalize ((s.cluster k).granted s.now).foldl (fun s e => s.recall k e.1 e.2) s = s1 at h1 ⊢
  exact (fold_steady (fun (s : State) (x : Item) => s.joinFirst k x) (fun b x => State.joinFirst_steady b k x) _ s1).trans h1

@[simp] theorem State.clusterTo_steady (s : State) (k : Nat) (st : ClusterState) (row : Nat) (h : (st == .retired) = false) :
    Steady (s.clusterTo k st row) s := by
  simp only [State.clusterTo, h, Bool.false_eq_true, if_false]
  split <;> simp [Steady, State.modCluster]

end Sys2Proof.Machine
end

