-- ==== Sys2Proof/Laws/Pair.lean ====
section
/-!
SUPPORT. The outputs of the logic pair and its way to STOP: what they leave as it was, and the state that the pair then is in.
-/
set_option linter.all false
namespace Sys2Proof.Machine

/-- The clock, the power state, the signal box, the pair's state, its active image and its retained data are as they were. -/
@[reducible] def PairSteady (t s : State) : Prop :=
  t.now = s.now ∧ t.pwr = s.pwr ∧ t.flt = s.flt ∧ t.alc.state = s.alc.state ∧ t.alc.active = s.alc.active ∧ t.alc.retained = s.alc.retained

theorem fold_pairSteady {α : Type} {f : State → α → State} {s : State} (h : ∀ b a, PairSteady (f b a) b) (l : List α) {b : State}
    (hb : PairSteady b s) : PairSteady (l.foldl f b) s := by
  induction l generalizing b with
  | nil => exact hb
  | cons a l ih =>
    have h2 := h b a
    refine ih ?_
    simp only [PairSteady] at h2 hb ⊢
    simp [h2, hb]

@[simp] theorem State.driveAl_pair (s : State) (level : Nat) : PairSteady (s.driveAl level) s := by simp [PairSteady, State.driveAl]

@[simp] theorem State.count_alc_pair (s : State) (n : Nat) : PairSteady (s.count .alc n) s := by
  simp [PairSteady, State.count, State.setCnt]

@[simp] theorem State.pubToPort_pair (s : State) (n p : Nat) (f : TxFrame) : PairSteady (s.pubToPort n p f) s := by
  unfold State.pubToPort
  dsimp only
  split <;> simp [PairSteady]

@[simp] theorem State.pubFrame_pair (s : State) (n : Nat) (e : AlcPub) (launch : Option (Nat × Nat)) (scanEnd : Option Stamp) :
    PairSteady (s.pubFrame n e launch scanEnd) s := by
  unfold State.pubFrame
  dsimp only
  split
  · simp [PairSteady]
  · refine fold_pairSteady (fun b p => State.pubToPort_pair b n p _) _ ?_
    split <;> simp [PairSteady, State.signSent]

@[simp] theorem State.publish_pair (s : State) (n : Nat) (e : AlcPub) (members : List Nat) (test : Bool) (launch : Option (Nat × Nat))
    (scanEnd : Option Stamp) : PairSteady (s.publish n e members test launch scanEnd) s := by
  unfold State.publish
  dsimp only
  (repeat' split) <;> simp [PairSteady]

@[simp] theorem State.toSafe_pair (s : State) : PairSteady s.toSafe s := by
  unfold State.toSafe
  split
  · exact State.driveAl_pair s _
  · exact fold_pairSteady (fun b e => State.publish_pair b _ _ _ _ _ _) _ (State.driveAl_pair s _)

@[simp] theorem State.alcTo_pair (s : State) (st : AlcState) (row : Nat) :
    PairSteady (s.alcTo st row) { s with alc := { s.alc with state := st } } := by
  unfold State.alcTo
  dsimp only
  (repeat' split) <;> simp [PairSteady]

@[simp] theorem State.scanDrop_pair (s : State) : PairSteady s.scanDrop s := by
  unfold State.scanDrop
  dsimp only
  split
  · unfold State.scanSkip
    dsimp only
    split <;> simp [PairSteady]
  · simp [PairSteady]

@[simp] theorem State.exchangeAbandon_pair (s : State) (status : Option Nat) (detail : Nat) : PairSteady (s.exchangeAbandon status detail) s := by
  unfold State.exchangeAbandon
  (repeat' split) <;> simp [PairSteady]

@[simp] theorem State.alcSwitchDrop_pair (s : State) (status detail : Nat) : PairSteady (s.alcSwitchDrop status detail) s := by
  unfold State.alcSwitchDrop
  split <;> simp [PairSteady]

/-- A pair that runs or holds stops at once; another stays as it is. -/
theorem State.alcStopNow_pair (s : State) (status : Option Nat) (run : s.flt.haltSource = none) :
    PairSteady (s.alcStopNow status) { s with alc := { s.alc with
      state := if s.alc.state == .run || s.alc.state == .hold then .stop else s.alc.state } } := by
  unfold State.alcStopNow
  by_cases h : s.alc.state = .run ∨ s.alc.state = .hold
  · have h1 : (s.alc.state == .run || s.alc.state == .hold) = true := by simpa using h
    have h2 : (s.alc.state != .run && s.alc.state != .hold) = false := by rcases h with h | h <;> simp [h]
    simp [h1, h2, run, PairSteady]
  · have h1 : (s.alc.state == .run || s.alc.state == .hold) = false := by simpa [not_or] using h
    have h2 : (s.alc.state != .run && s.alc.state != .hold) = true := by simpa [not_or] using h
    simp [h1, h2, PairSteady]

end Sys2Proof.Machine
end

