-- ==== Sys2Proof/Laws/Ports.lean ====
section
/-!
SUPPORT. What the operations of a link that goes down leave of it: they change its queues, its counters and its rings, never its state or its duplex.
-/
set_option linter.all false
namespace Sys2Proof.Machine

theorem tget_tset_same {α : Type} (k : Nat) (x : α) (t : Table α) : tget k (tset k x t) = some x := by
  induction t with
  | nil => simp [tset, tget]
  | cons e r ih =>
    obtain ⟨j, v⟩ := e
    simp only [tset]
    split
    · simp [tget]
    · split
      · simp [tget]
      · simp only [tget]
        split
        · contradiction
        · exact ih

@[simp] theorem State.port_modPort (s : State) (p : Nat) (f : PortSt → PortSt) : (s.modPort p f).port p = f (s.port p) := by
  simp [State.modPort, State.setPort, State.port, tgetD, tget_tset_same]

/-- A port keeps the state and the duplex of its link. -/
@[reducible] def WireKept (p : Nat) (t s : State) : Prop :=
  (t.port p).link = (s.port p).link ∧ (t.port p).fullDuplex = (s.port p).fullDuplex

theorem WireKept.trans {p : Nat} {a b c : State} (h : WireKept p a b) (h' : WireKept p b c) : WireKept p a c :=
  ⟨h.1.trans h'.1, h.2.trans h'.2⟩

theorem wireKept_of_prt {p : Nat} {t s : State} (h : t.prt = s.prt) : WireKept p t s := by simp [WireKept, State.port, h]

theorem fold_wire {α : Type} (p : Nat) (f : State → α → State) (h : ∀ b a, WireKept p (f b a) b) (l : List α) (b : State) :
    WireKept p (l.foldl f b) b := by
  induction l generalizing b with
  | nil => exact ⟨rfl, rfl⟩
  | cons a l ih => exact (ih (f b a)).trans (h b a)

theorem State.portCount_wire (s : State) (p n : Nat) : WireKept p (s.portCount p n) s := by
  unfold State.portCount
  dsimp only
  split
  · exact WireKept.trans (b := s.modPort p (fun x => { x with cnt := tset n (tgetD n 0 (s.port p).cnt + 1) x.cnt })) (wireKept_of_prt (by simp))
      (by simp [WireKept])
  · simp [WireKept]

theorem State.ringEvent_wire (s : State) (p part type : Nat) : WireKept p (s.ringEvent p part type) s :=
  wireKept_of_prt (by simp [State.ringEvent])

theorem State.hostDone_wire (s : State) (p : Nat) (f : TxFrame) (d : Bool) : WireKept p (s.hostDone p f d) s := by
  unfold State.hostDone
  split
  · split
    · exact ⟨rfl, rfl⟩
    · dsimp only
      have e : ∀ (t : State) (a c d : Nat) (l : List (Nat × List Byte)), ((t.hostWrites a l).ringSignal c d).prt = t.prt := by
        simp [State.ringSignal]
      split
      · simp [WireKept]
      · refine (wireKept_of_prt (e _ _ _ _ _)).trans ?_
        simp [WireKept]
  · exact ⟨rfl, rfl⟩

theorem State.linkDrop_wire (s : State) (p : Nat) (f : TxFrame) : WireKept p (s.linkDrop p f) s := by
  unfold State.linkDrop
  refine (State.hostDone_wire _ p f true).trans ((State.ringEvent_wire _ p _ 3).trans (WireKept.trans ?_ (State.portCount_wire s p 53)))
  simp [WireKept]

theorem State.flushQueue_wire (s : State) (p q : Nat) : WireKept p (s.flushQueue p q) s := by
  unfold State.flushQueue
  exact (fold_wire p _ (fun b a => State.linkDrop_wire b p a) _ _).trans (by simp [WireKept])

theorem State.hostFill_wire (n : Nat) (s : State) (p q : Nat) : WireKept p (s.hostFill n p q) s := by
  induction n generalizing s with
  | zero => exact ⟨rfl, rfl⟩
  | succ n ih =>
    unfold State.hostFill
    dsimp only
    split
    · exact ⟨rfl, rfl⟩
    · split
      · exact ⟨rfl, rfl⟩
      · split
        · exact (ih _).trans ((State.hostDone_wire _ p _ true).trans ((State.portCount_wire _ p 54).trans (by simp [WireKept])))
        · split
          · exact (ih _).trans ((State.linkDrop_wire _ p _).trans (by simp [WireKept]))
          · split
            · exact ⟨rfl, rfl⟩
            · exact (ih _).trans (by simp [WireKept])

theorem State.hostFills_wire (s : State) (p : Nat) : WireKept p (s.hostFills p) s :=
  fold_wire p _ (fun b q => State.hostFill_wire _ b p q) _ s

/-- What the flush and the event of a link that goes down leave. -/
theorem State.flushed_wire (s : State) (p reason : Nat) :
    let s3 := (((List.range 7).map (· + 1)).foldl (fun s q => s.flushQueue p q) s).hostFills p
    WireKept p (s3.evt (s3.portReaders p) (0x020 + 4 * p) (p + 256 * reason)) s :=
  have h := (State.hostFills_wire _ p).trans
    (fold_wire p (fun (s : State) (q : Nat) => s.flushQueue p q) (fun b q => State.flushQueue_wire b p q) ((List.range 7).map (· + 1)) s)
  (wireKept_of_prt (by simp)).trans h

/-- A link that goes down is down, in the duplex it had. -/
theorem State.linkDownOp_wire (s : State) (p reason : Nat) :
    ((s.linkDownOp p reason).port p).link = false ∧ ((s.linkDownOp p reason).port p).fullDuplex = (s.port p).fullDuplex := by
  unfold State.linkDownOp
  dsimp only
  split
  case isTrue h =>
    have h' : (s.port p).link = false := by simpa using h
    split
    · exact (wireKept_of_prt (s := s) (p := p) (by simp)).imp (fun e => e.trans h') id
    · exact ⟨h', rfl⟩
  case isFalse =>
    split
    · refine (State.flushed_wire _ p reason).imp (fun e => e.trans ?_) (fun e => e.trans ?_) <;> simp
    · refine (State.flushed_wire _ p reason).imp (fun e => e.trans ?_) (fun e => e.trans ?_) <;> simp
    · refine ((State.flushed_wire _ p reason).trans (State.linkDrop_wire _ p _)).imp (fun e => e.trans ?_) (fun e => e.trans ?_) <;> simp
    · refine (State.flushed_wire _ p reason).imp (fun e => e.trans ?_) (fun e => e.trans ?_) <;> simp

/-- A change of duplex takes an up link down first (13_ports R373). -/
theorem State.linkUpOp_duplex (s : State) (p speed : Nat) (full fec : Bool) (hl : (s.port p).link = true) (hd : (s.port p).fullDuplex ≠ full) :
    s.linkUpOp p speed full fec = (s.linkDownOp p 2).linkUpOp p speed full fec := by
  have h := (State.linkDownOp_wire s p 2).1
  unfold State.linkUpOp
  simp [hl, hd, h]

end Sys2Proof.Machine
end

