-- ==== Sys2Proof/Laws/Staging.lean ====
section
/-!
SUPPORT. Every operation that changes a staging buffer keeps the canonical form of all of them.
-/
set_option linter.all false
namespace Sys2Proof.Machine

/-- Every buffer of a table is in canonical form. -/
def StWf (t : Table (List Host.Cell)) : Prop := ∀ e ∈ t, Memory.wf e.2 = true

theorem stagingWf_iff (s : State) : s.stagingWf ↔ StWf s.kept.staging := Iff.rfl

@[simp] theorem StWf.nil : StWf [] := by simp [StWf]

theorem StWf.get {t : Table (List Host.Cell)} (h : StWf t) (k : Nat) : Memory.wf (tgetD k [] t) = true := by
  induction t with
  | nil => rfl
  | cons c r ih =>
    obtain ⟨j, v⟩ := c
    have hr : StWf r := fun e he => h e (by simp [he])
    have hv : Memory.wf v = true := h (j, v) (by simp)
    have := ih hr
    simp only [tgetD, tget] at this ⊢
    split
    · simpa using hv
    · exact this

theorem StWf.tset {t : Table (List Host.Cell)} (h : StWf t) (k : Nat) (x : List Host.Cell) (hx : Memory.wf x = true) : StWf (tset k x t) := by
  induction t with
  | nil => intro e he; simp [Machine.tset] at he; subst he; exact hx
  | cons c r ih =>
    obtain ⟨j, v⟩ := c
    have hr : StWf r := fun e he => h e (by simp [he])
    have hv : Memory.wf v = true := h (j, v) (by simp)
    unfold Machine.tset
    intro e he
    split at he
    · simp only [List.mem_cons] at he
      rcases he with rfl | rfl | he
      · exact hx
      · exact hv
      · exact hr e he
    · split at he
      · simp only [List.mem_cons] at he
        rcases he with rfl | he
        · exact hx
        · exact hr e he
      · simp only [List.mem_cons] at he
        rcases he with rfl | he
        · exact hv
        · exact ih hr e he

theorem StWf.tdel {t : Table (List Host.Cell)} (h : StWf t) (k : Nat) : StWf (tdel k t) := by
  induction t with
  | nil => exact h
  | cons c r ih =>
    obtain ⟨j, v⟩ := c
    have hr : StWf r := fun e he => h e (by simp [he])
    have hv : Memory.wf v = true := h (j, v) (by simp)
    unfold Machine.tdel
    intro e he
    split at he
    · exact hr e he
    · simp only [List.mem_cons] at he
      rcases he with rfl | he
      · exact hv
      · exact ih hr e he

theorem StWf.ite {c : Prop} [Decidable c] {a b : Table (List Host.Cell)} (ha : StWf a) (hb : StWf b) : StWf (if c then a else b) := by
  split <;> assumption

variable {s : State}

theorem Memory.takeIn_wf (n : Nat) (l : List (Nat × Nat × List Byte)) (m : List Host.Cell) (h : Memory.wf m = true) :
    Memory.wf (Memory.takeIn n l m) = true := by
  induction l with
  | nil => exact h
  | cons w l ih =>
    unfold Memory.takeIn
    split
    · exact Memory.wf_writeBytes _ _ _ ih
    · exact ih

theorem State.stageWrite_wf (h : StWf s.kept.staging) (n off : Nat) (data : List Byte) : StWf (s.stageWrite n off data).kept.staging :=
  h.tset n _ (Memory.wf_writeBytes _ _ _ (Memory.takeIn_wf _ _ _ (h.get n)))

theorem State.copyTo_wf (h : StWf s.kept.staging) (k : Pkt) (addr : Nat) (data : List Byte) : StWf (s.copyTo k addr data).kept.staging := by
  unfold State.copyTo
  split
  · exact h
  · exact State.stageWrite_wf h _ _ _

theorem copyIf_wf {s : State} (h : StWf s.kept.staging) (c : Bool) (k : Pkt) (addr : Nat) (data : List Byte) :
    StWf (if c then s.copyTo k addr data else s).kept.staging := by
  split
  · exact State.copyTo_wf h _ _ _
  · exact h

theorem State.recExportDone_wf (h : StWf s.kept.staging) (n slot : Nat) : StWf (s.recExportDone n slot).kept.staging := by
  unfold State.recExportDone
  dsimp only
  split
  · split
    · exact h
    · simp only [State.finish_keeps, State.recEvent_keeps, State.setRec_keeps]
      exact copyIf_wf (copyIf_wf h _ _ _ _) _ _ _ _
  · exact h

theorem State.dropCommands_wf (h : StWf s.kept.staging) (n : Nat) : StWf (s.dropCommands n).kept.staging := h.tdel n

theorem State.partReset_wf (h : StWf s.kept.staging) (n : Nat) : StWf (s.partReset n).kept.staging := by
  simp only [State.partReset, State.backlogCheck_keeps, State.modPart_keeps, State.ringsReset_keeps, State.resourcesReset_keeps]
  exact State.dropCommands_wf (by simpa [kept_staging, piece] using h) n

theorem fold_staging {α : Type} (f : State → α → State) (hf : ∀ b a, (f b a).kept.staging = b.kept.staging) (l : List α) (b : State) :
    (l.foldl f b).kept.staging = b.kept.staging := by simp [hf, kept_staging, piece]

theorem State.partDelete_wf (h : StWf s.kept.staging) (n : Nat) : StWf (s.partDelete n).kept.staging := by
  have h0 := State.dropCommands_wf h n
  unfold State.partDelete
  dsimp only
  (repeat' split) <;> simpa [kept_staging, piece] using h0

@[simp] theorem State.startBoot_staging (s : State) : s.startBoot.kept.staging = s.kept.staging := by simp [kept_staging, piece]

@[simp] theorem State.deviceReset_staging (s : State) (c : Nat) : (s.deviceReset c).kept.staging = [] := by
  unfold State.deviceReset
  dsimp only
  split <;> simp [State.strip_staging, kept_staging, piece]

@[simp] theorem State.coldReset_staging (s : State) : s.coldReset.kept.staging = [] := by
  simp [State.coldReset, State.strip_staging, kept_staging, piece]

theorem State.flr_wf (h : StWf s.kept.staging) (n : Nat) : StWf (s.flr n).kept.staging := by
  unfold State.flr
  split
  · simpa [kept_staging, piece] using State.partReset_wf h n
  · exact h

theorem State.copyDone_wf (h : StWf s.kept.staging) (w : Waiting) : StWf (s.copyDone w).kept.staging := by
  unfold State.copyDone
  split
  · simpa [kept_staging, piece] using State.copyTo_wf h _ _ _
  · exact h

theorem State.blockReaction_wf (h : StWf s.kept.staging) (src detail : Nat) : StWf (s.blockReaction src detail).kept.staging := by
  unfold State.blockReaction
  (repeat' split) <;> simp [h, kept_staging, piece]

theorem State.inject_wf (h : StWf s.kept.staging) (p : FltInject) : StWf (s.inject p).kept.staging := by
  unfold State.inject
  dsimp only
  split
  · simp only [State.refreshErr_keeps]
    exact State.blockReaction_wf (by simpa [kept_staging, piece] using h) _ _
  · simpa [kept_staging, piece] using h

theorem State.uncorrectable_wf (h : StWf s.kept.staging) (x : ScrubStep) : StWf (s.uncorrectable x).kept.staging := by
  unfold State.uncorrectable
  dsimp only
  split <;> try (simp [h, kept_staging, piece]; done)
  split <;> simp [h, kept_staging, piece]

theorem State.finding_wf (h : StWf s.kept.staging) (x : ScrubStep) : StWf (s.finding x).kept.staging := by
  unfold State.finding
  dsimp only
  split
  · simpa [kept_staging, piece] using h
  · simpa [kept_staging, piece] using h
  · simpa [kept_staging, piece] using h
  · simpa [kept_staging, piece] using h
  · simpa [kept_staging, piece] using h
  · split
    · exact h
    · exact State.uncorrectable_wf h x

theorem State.evaluateError_wf (h : StWf s.kept.staging) (e : HeldError) : StWf (s.evaluateError e).kept.staging := by
  unfold State.evaluateError
  split
  · exact State.finding_wf h _
  all_goals simpa [kept_staging, piece] using h

theorem State.judge_wf (h : StWf s.kept.staging) (part : Nat) (b : Bool) (e : HeldError) : StWf (s.judge part b e).kept.staging := by
  unfold State.judge
  split
  · exact h
  · exact State.evaluateError_wf h e

theorem State.scrubStep_wf (h : StWf s.kept.staging) (x : ScrubStep) : StWf (s.scrubStep x).kept.staging := by
  unfold State.scrubStep
  dsimp only
  (repeat' split) <;> (try simp only [State.passEnd_keeps]) <;> exact State.judge_wf h _ _ _

theorem fold_wf {α : Type} (f : State → α → State) (hf : ∀ b a, StWf b.kept.staging → StWf (f b a).kept.staging) (l : List α) (b : State)
    (h : StWf b.kept.staging) : StWf (l.foldl f b).kept.staging := by
  induction l generalizing b with
  | nil => exact h
  | cons a l ih => exact ih _ (hf b a h)

theorem State.sliceEnd_wf (h : StWf s.kept.staging) : StWf s.sliceEnd.kept.staging := by
  unfold State.sliceEnd
  exact fold_wf _ (fun b a hb => State.evaluateError_wf hb a) _ _ h

theorem State.selftestDone_wf (h : StWf s.kept.staging) (f : Nat) : StWf (s.selftestDone f).kept.staging := by
  unfold State.selftestDone
  split
  · exact h
  · dsimp only
    have := State.sliceEnd_wf h
    (repeat' split) <;> simpa [kept_staging, piece] using this

theorem State.perstAssert_wf (h : StWf s.kept.staging) : StWf s.perstAssert.kept.staging := by
  unfold State.perstAssert
  dsimp only
  split
  · exact h
  · simp [kept_staging, piece]

theorem State.wakeDone_wf (h : StWf s.kept.staging) (a : Bool) (b : WakeFound) (c : Nat) : StWf (s.wakeDone a b c).kept.staging := by
  unfold State.wakeDone
  (repeat' split) <;> simp [h, kept_staging, piece]

theorem State.lcApply_wf (s : State) (p : LcTransition) (k : Nat) : StWf (s.lcApply p k).kept.staging := by
  simp [State.lcApply, kept_staging, piece]

theorem State.runStarted_wf (h : StWf s.kept.staging) (c : CmdInfo) (k : Pkt) (body : State → CmdOut)
    (hb : ∀ x, StWf x.kept.staging → StWf (body x).st.kept.staging) : StWf (s.runStarted c k body).kept.staging := by
  have h1 := hb s h
  unfold State.runStarted
  split
  · simpa [kept_staging, piece] using h
  · revert h1
    cases body s <;> intro h1 <;> simpa [kept_staging, piece] using h1

/-- A command keeps the form if its body does. -/
theorem cmd_wf (h : StWf s.kept.staging) (i : Instr) (c : CmdInfo) (k : Pkt) (body : State → CmdOut)
    (hb : ∀ x, StWf x.kept.staging → StWf (body x).st.kept.staging) : StWf (OutSt (cmd i c k s body) s).kept.staging := by
  simp only [cmd, outSt_next]
  unfold State.runCmd
  dsimp only
  split
  · exact State.runStarted_wf (by simpa [kept_staging, piece] using h) c k body hb
  · split
    · simpa [kept_staging, piece] using h
    · rename_i s1 ha
      have := State.arrive_keeps _ _ _ _ ha
      have h1 : StWf s1.kept.staging := by simpa [this, kept_staging, piece] using h
      split
      · exact State.runStarted_wf (s := s1.fresh) (by simpa using h1) c k body hb
      · exact h1

/-- An event keeps the form if what happens does. -/
theorem event_wf (h : StWf s.kept.staging) (t : Stamp) (f : State → State) (hf : ∀ x, StWf x.kept.staging → StWf (f x).kept.staging) :
    StWf (OutSt (event t s f) s).kept.staging := hf _ (by simpa [kept_staging, piece] using h)

theorem execDevReset_wf (h : StWf s.kept.staging) (k : Pkt) (kind : Nat) : StWf (OutSt (execDevReset k kind s) s).kept.staging := by
  refine cmd_wf h _ _ _ _ fun x hx => ?_
  simp only [devReset, check_hst_staging]
  split
  · exact hx
  · simp [CmdOut.st, kept_staging, piece]

theorem execFltInject_wf (h : StWf s.kept.staging) (k : Pkt) (p : FltInject) : StWf (OutSt (execFltInject k p s) s).kept.staging := by
  refine cmd_wf h _ _ _ _ fun x hx => ?_
  simp only [fltInject, check_hst_staging]
  split
  · exact hx
  · split
    · simpa [kept_staging, piece] using hx
    · split
      · exact State.inject_wf hx p
      · simpa [kept_staging, piece] using State.inject_wf hx p

theorem execHstPartDelete_wf (h : StWf s.kept.staging) (k : Pkt) (p : HstPart) : StWf (OutSt (execHstPartDelete k p s) s).kept.staging := by
  refine cmd_wf h _ _ _ _ fun x hx => ?_
  simp only [hstPartDelete, check_hst_staging]
  split
  · exact hx
  · simpa [kept_staging, piece] using State.partDelete_wf hx p.part

theorem execHstPartReset_wf (h : StWf s.kept.staging) (k : Pkt) (p : HstPart) : StWf (OutSt (execHstPartReset k p s) s).kept.staging := by
  refine cmd_wf h _ _ _ _ fun x hx => ?_
  have := State.partReset_wf hx p.part
  simp only [hstPartReset, check_hst_staging, ite_st, CmdOut.st_silent, CmdOut.st_wait, ite_kept, Kept.ite_staging]
  exact StWf.ite hx (StWf.ite this (StWf.ite this hx))

theorem execHstStageWrite_wf (h : StWf s.kept.staging) (k : Pkt) (offset len : Nat) (data : List Byte) :
    StWf (OutSt (execHstStageWrite k offset len data s) s).kept.staging := by
  refine cmd_wf h _ _ _ _ fun x hx => ?_
  simp only [hstStageWrite, check_hst_staging]
  split
  · exact hx
  · simpa [kept_staging, piece] using State.stageWrite_wf hx k.part offset data

theorem execLcTransition_wf (h : StWf s.kept.staging) (k : Pkt) (p : LcTransition) : StWf (OutSt (execLcTransition k p s) s).kept.staging := by
  refine cmd_wf h _ _ _ _ fun x hx => ?_
  simp only [lcTransition, check_hst_staging]
  split
  · exact hx
  · split
    · unfold lcMove
      split
      · exact hx
      · simp only [check_hst_staging]
        split
        · exact hx
        · split
          · simpa [kept_staging, piece] using hx
          · simp only [check_hst_staging]
            (repeat' split) <;> first | exact hx | exact State.lcApply_wf _ _ _
    · split <;> simpa [kept_staging, piece] using hx

theorem execPcieFlr_wf (h : StWf s.kept.staging) (t n : Nat) : StWf (OutSt (execPcieFlr t n s) s).kept.staging :=
  event_wf h t _ fun _ hx => State.flr_wf hx n

theorem execDmaCopyDone_wf (h : StWf s.kept.staging) (t n tag : Nat) : StWf (OutSt (execDmaCopyDone t n tag s) s).kept.staging :=
  event_wf h t _ fun x hx => by
    split
    · exact State.copyDone_wf hx _
    · exact hx

theorem execRecExportDone_wf (h : StWf s.kept.staging) (t rcd slot : Nat) : StWf (OutSt (execRecExportDone t rcd slot s) s).kept.staging :=
  event_wf h t _ fun x hx => by
    split
    · exact State.recExportDone_wf hx _ _
    · exact hx

theorem execScrubStep_wf (h : StWf s.kept.staging) (t : Nat) (x : ScrubStep) : StWf (OutSt (execScrubStep t x s) s).kept.staging :=
  event_wf h t _ fun y hx => by
    split
    · exact State.scrubStep_wf hx _
    · exact hx

theorem execSelftestSliceEnd_wf (h : StWf s.kept.staging) (t : Nat) : StWf (OutSt (execSelftestSliceEnd t s) s).kept.staging :=
  event_wf h t _ fun y hx => by
    split
    · exact State.sliceEnd_wf hx
    · exact hx

theorem execSelftestDone_wf (h : StWf s.kept.staging) (t f : Nat) : StWf (OutSt (execSelftestDone t f s) s).kept.staging :=
  event_wf h t _ fun y hx => by
    split
    · exact State.selftestDone_wf hx f
    · exact hx

theorem execPerstNAssert_wf (h : StWf s.kept.staging) (t : Nat) : StWf (OutSt (execPerstNAssert t s) s).kept.staging :=
  event_wf h t _ fun _ hx => State.perstAssert_wf hx

theorem execPorNFall_wf (h : StWf s.kept.staging) (t : Nat) : StWf (OutSt (execPorNFall t s) s).kept.staging :=
  event_wf h t _ fun _ _ => by simp [kept_staging, piece]

theorem execWakeDone_wf (h : StWf s.kept.staging) (t : Nat) (a : Bool) (b : WakeFound) (c : Nat) : StWf (OutSt (execWakeDone t a b c s) s).kept.staging :=
  event_wf h t _ fun _ hx => State.wakeDone_wf hx a b c

end Sys2Proof.Machine
end

