-- ==== Sys2Proof/Tests/Slice0.lean ====
section
/-!
SUPPORT. The model's own tests: for each statement with hypotheses a witness of a state and operands that meet them (witness_<statement>, and for a
statement of several parts witness_<statement>_<part>), an ill-formed term for every check of WellFormed, and figures that the manual works out.
-/
namespace Sys2Proof.Machine

/-- The state in which that command's own rules start. -/
def State.go (s : State) : State := { s with now := Nat.max s.now 8, cap := Nat.max s.now 8, resuming := false }

end Sys2Proof.Machine

namespace Sys2Proof.Tests

open Sys2Proof.Machine

/-- A packet of the owner partition by its queue, with so many parameter bytes. -/
def pk (len : Nat) : Pkt :=
  { recvNs := 8, doneNs := 12, part := 0, chan := .queue, tag := 1, version := 1, paramLen := len, ackPending := false, fence := false }

/-- The device RUNNING and deployed, a held command resumed. -/
def rdy : State :=
  { State.reset with
    resuming := true
    pwr := { State.reset.pwr with state := .running, startupDone := true, porHeld := false }
    sec := { State.reset.sec with life := .deployed } }


/-- A held command of the owner partition that nothing turns away starts as it is resumed. -/
theorem starts {s : State} {c : CmdInfo} {h : Pkt} (hr : s.resuming = true) (hv : h.recv = 8) (ht : s.go.turnedAway c h = none) :
    s.started c h = some s.go := by
  simp only [State.started, hr, if_true, hv]
  exact Option.filter_eq_some_iff.mpr ⟨rfl, by simp [← ht]⟩

/-- A synchrophasor subscription of a stream. -/
def subOf (stream kind : Nat) : IngSubSet :=
  { stream, kind, tbSel := 0, portMask := 1, flags := 0, vlan := 0, dstMac := 0, id := 1, srcIp := 0, dstIp := 0, udpDst := 4713, udpSrc := 0
    selfId := 0, pmuPort := 0, svRate := 0, keyCur := 0xFF, keyNext := 0xFF, rotOverlapMs := 0, confRev := 0, svId := 0 }

/-- A key of ALG 2 with an attribute. -/
def hmacKey (attr : Nat) : Key :=
  { attr, type := 1, alg := 2, keyId := 7, exportable := false, origin := 0, bindMask := 0, boundDigest := 0, bytes := [1, 2, 3] }

/-- A contract record of stream 3. -/
def record0 : Contract :=
  { part := 0, stream := 3, protocol := 0, priority := 0, rate := 50, channels := 4, burst := 1, portMask := 1, deadlineUs := 20000, groupMask := 1
    clusterMask := 1, timeoutMs := 0, outRate := 0, outChannels := 0, state := .admitted, cluster := 0, cost := 100, bytes := 10
    admitted := 0, change := 0, reason := 0, shedDue := 0 }

/-- A setting of base 1 that follows source 1. -/
def baseSet1 : TbSet :=
  { base := 1, source := 1, irigLocal := false, todFromIrig := false, ppsOut := false, disable := false, jumpNs := 1000, jumpCount := 3, acqCount := 10
    lossS := 3, utcOffset := 37, srcAccNs := 100 }

/-- A locked base. -/
def base1 : Base := { set := baseSet1, state := .locked }

/-! ## 02_timetable -/

def group0 : PltGroupSet := { group := 0, tbSel := 0, enable := true, fullHouse := false, delete := false, rate := 50, waitUs := 1000, horizonMs := 0 }

/-- Cluster 0 in service at twice its rating, stream 3 subscribed, group 0 set. -/
def ttState (cs : Table Contract) (p : Profile) (ratio : Nat) (lost : Bool) : State :=
  { rdy with
    ing := { rdy.ing with subs := [(3, subOf 3 0)] }
    plt := { rdy.plt with groups := [(0, { set := group0 })] }
    tt := { rdy.tt with profile := p, contracts := cs, ratios := [(0, ratio), (1, ratio)], basisLost := lost, ratedSince := some 0 }
    sch := { rdy.sch with clusters := [(0, { state := .inService })] } }

def ttFree : State := ttState [] .fixed 1000 false
def ttHeld : State := ttState [(5, record0)] .fixed 1000 false
def ttLive : State := ttState [] .live 1000 false
def ttPlaced : State := ttState [] .placement 1000 false
def ttLost : State := ttState [] .fixed 1000 true

def prop3 : TtPropose :=
  { stream := 3, protocol := 0, priority := 0, rate := 50, channels := 4, burst := 0, flags := 0, portMask := 1, deadlineUs := 20000
    groupMask := 1, clusterMask := 0, timeoutMs := 0, outRate := 0, outChannels := 0, rsvd := 0 }

theorem witness_TimetableCommandsComplete :
    ttFree.started { op := 0x0100, len := some 32 } (pk 32) = some ttFree.go ∧ firstBad (ttFree.go.proposeForm prop3) = none ∧
    ttFree.go.holds 0 kindStream 3 = true ∧ ttFree.go.proposeEntry prop3 = none ∧ ttFree.go.underContract 3 = false ∧
    ttFree.go.proposeGroups prop3 = none ∧ ttFree.go.tt.contracts.length - b2n (ttFree.go.contractOf 3).isSome < 16384 ∧
    (∃ after, ttFree.go.admission (ttFree.go.proposed (pk 32) prop3) = .fits 0 after) ∧
    ttHeld.started { op := 0x0101, len := some 4 } (pk 4) = some ttHeld.go ∧ tget 5 ttHeld.go.tt.contracts = some record0 ∧ record0.part = 0 ∧
    ttHeld.started { op := 0x0102, len := some 4, ro := true } (pk 4) = some ttHeld.go ∧
    ttHeld.started { op := 0x0103, len := some 4 } (pk 4) = some ttHeld.go ∧ record0.state ≠ .shed ∧
    (∃ after, ttHeld.go.chooseCluster 100 1 (fun j => ttHeld.go.commit j - (if j == 0 then 100 else 0)) [] = some (0, after)) ∧
    ttHeld.started { op := 0x0105, len := some 4, ro := true } (pk 4) = some ttHeld.go ∧ ttHeld.go.tt.profile ≠ .placement ∧
    ttHeld.started { op := 0x0106, len := some 8, ro := true } (pk 8) = some ttHeld.go :=
  ⟨starts rfl rfl rfl, by decide, rfl, by decide, by decide, by decide, by decide, ⟨_, rfl⟩, starts rfl rfl rfl, rfl, rfl, starts rfl rfl rfl,
    starts rfl rfl rfl, by decide, ⟨_, rfl⟩, starts rfl rfl rfl, by decide, starts rfl rfl rfl⟩

theorem witness_ProfileAndSpeedRowsComplete_ProfileChanges :
    ttFree.started { op := 0x0104, len := some 4 } (pk 4) = some ttFree.go ∧ profileOf 0 = ttFree.go.tt.profile ∧ ttFree.go.safetyPresent = false ∧
    ttFree.go.heldContracts = [] ∧
    ttLive.started { op := 0x0104, len := some 4 } (pk 4) = some ttLive.go ∧ ttLive.go.tt.profile = .live ∧ ttLive.go.belowRated = false ∧
    (∀ k ∈ allClusters, ttLive.go.commit k ≤ 3400000) ∧
    ttPlaced.started { op := 0x0104, len := some 4 } (pk 4) = some ttPlaced.go ∧ ttPlaced.go.tt.profile = .placement ∧ ttPlaced.go.hst.placed = [] :=
  ⟨starts rfl rfl rfl, rfl, by decide, rfl, starts rfl rfl rfl, rfl, by decide, by decide, starts rfl rfl rfl, rfl, rfl⟩

theorem witness_ProfileAndSpeedRowsComplete_SpeedRowsComplete :
    (ttFree.at 0).fabricUp = true ∧ ((ttFree.at 0).takeRatio 0 1000).belowRated = false ∧
    (((ttFree.at 0).takeRatio 31 1000).judgePair 15).belowRated = false ∧
    (ttLost.at 1000000000).fabricUp = true ∧ ttLost.tt.basisLost = true ∧ ttLost.tt.ratedSince = some 0 ∧ 0 + 1000000000 ≤ (ttLost.at 1000000000).now ∧
    (ttLive.at 100000000).fabricUp = true ∧ ttLive.tt.profile = .live ∧ 100000000 % 100000000 = 0 ∧ ttLive.tt.evalTick = none ∧
    (let s := ttState [(5, { record0 with cost := 5000000 })] .live 1000 false
     (s.at 0).fabricUp = true ∧ s.tt.profile = .live ∧ (s.at 0).clusterRatio 0 * 4000 < (s.at 0).commit 0) :=
  ⟨rfl, by decide, by decide, rfl, rfl, rfl, by decide, rfl, rfl, by decide, rfl, rfl, rfl, by decide⟩

/-! ## 03_ingest -/

def ingState (subs : Table IngSubSet) (streams : Table StreamSt) (stations : Table Station) (cs : Table Contract) : State :=
  { rdy with
    ing := { rdy.ing with subs, streams, stations }
    tt := { rdy.tt with contracts := cs } }

/-- An entry of stream 3 with every default filled. -/
def sub3 : IngSubSet := { subOf 3 0 with tbSel := 1, pmuPort := 4713 }

/-- An authenticated R-SV entry, and a key slot for it. -/
def sub3r : IngSubSet := { sub3 with kind := 1, flags := 128, keyCur := 1, udpDst := 102 }
def keySlots : State := { rdy with sec := { rdy.sec with slots := [(1, { key := some (hmacKey 2) })] } }

/-- Stream 3 has an entry and no contract. -/
def subbed : State := ingState [(3, { sub3 with flags := 1, selfId := 9 })] [] [] []

theorem witness_IngestCommandRowsComplete_SubscriptionCommandsComplete :
    rdy.started { op := 0x0200, len := some 128 } (pk 128) = some rdy.go ∧ sub3 = filledSub { sub3 with udpDst := 0, pmuPort := 0 } ∧
    rdy.go.holds 0 kindStream 3 = true ∧ (∀ e ∈ rdy.go.ing.subs, e.1 ≠ 3 → subsMeet sub3 e.2 = false) ∧ rdy.go.underContract 3 = false ∧
    rdy.go.svFits sub3 = true ∧ sub3.flags.testBit 5 = false ∧ sub3.flags.testBit 7 = false ∧
    keySlots.started { op := 0x0200, len := some 128 } (pk 128) = some keySlots.go ∧ sub3r = filledSub sub3r ∧ sub3r.flags.testBit 7 = true ∧
    keySlots.go.slotFit (pk 128) 1 2 ∧ keySlots.go.svFits sub3r = true ∧
    rdy.go.svFits { sub3 with kind := 2, svRate := 4000 } = true ∧
    subbed.started { op := 0x0201, len := some 4 } (pk 4) = some subbed.go ∧ subbed.go.holds 0 kindStream 3 = true ∧
    (tget 3 subbed.go.ing.subs).isSome = true ∧ subbed.go.underContract 3 = false :=
  ⟨starts rfl rfl rfl, rfl, rfl, by decide, rfl, by decide, by decide, by decide, starts rfl rfl rfl, rfl, by decide, ⟨rfl, by decide, rfl, rfl⟩,
    by decide, by decide, starts rfl rfl rfl, rfl, rfl, rfl⟩

/-- Stream 3 is an R-SV stream; stream 4 has a stored frame. -/
def withFrames : State :=
  ingState [(3, { sub3 with kind := 1 })] [(4, { stored := [(2, { raw := [1, 2], cfgCnt := 0, stamp := 0 })] })] [] []

def goose1 : IngGooseSub :=
  { station := 127, kind := 0, flags := 0, portMask := 1, dstMac := 0, appId := 0, vlan := 0, keyCur := 0xFF, keyNext := 0xFF, srcIp := 0, confRev := 0
    udpDst := 0, gocbRef := 7 }

theorem witness_IngestCommandRowsComplete_IngestCommandsComplete :
    withFrames.started { op := 0x0202, len := none } (pk (8 + ceilDiv 2 4 * 4)) = some withFrames.go ∧ withFrames.go.holds 0 kindStream 3 = true ∧
    (∀ t ∈ [0, 5], t ≤ 5) ∧ tget 3 withFrames.go.ing.subs = some { sub3 with kind := 1 } ∧ withFrames.go.contractOf 3 = none ∧
    subbed.started { op := 0x0203, len := some 4 } (pk 4) = some subbed.go ∧ tget 3 subbed.go.ing.subs = some { sub3 with flags := 1, selfId := 9 } ∧
    (subbed.go.streamSt 3).lastCmd = none ∧
    withFrames.started { op := 0x0204, len := some 16, ro := true } (pk 16) = some withFrames.go ∧ withFrames.go.reads 0 kindStream 4 = true ∧
    tget 3 (withFrames.go.streamSt 4).stored = none ∧ (tget 2 (withFrames.go.streamSt 4).stored).isSome = true ∧ addrFit (pk 16) 0 ∧
    withFrames.started { op := 0x0205, len := some 4, ro := !true } (pk 4) = some withFrames.go ∧
    withFrames.started { op := 0x0206, len := some 100 } (pk 100) = some withFrames.go ∧ withFrames.go.holds 0 kindStation 127 = true ∧
    withFrames.go.stationMapped 127 = false ∧ (∀ e ∈ withFrames.go.ing.stations, e.1 ≠ 127 → stationsMeet goose1 e.2.sub = false) :=
  ⟨starts rfl rfl rfl, rfl, by decide, rfl, rfl, starts rfl rfl rfl, rfl, rfl, starts rfl rfl rfl, rfl, rfl, rfl, .inl rfl, starts rfl rfl rfl,
    starts rfl rfl rfl, rfl, rfl, by decide⟩

/-- Stream 3 is carried by an ACTIVE contract, as what and in what form. -/
def carried (kind rate : Nat) : State :=
  ingState [(3, { sub3 with kind, udpDst := if kind == 2 then 0 else 4713, svRate := if kind == 2 then 4000 else 0 })] [] []
    [(5, { record0 with state := .active, protocol := kind, rate })]

def hdr0 : FrameHdr :=
  { port := 0, arrival := 5, len := 100, dstMac := 0, srcMac := 1, vlan := none, srcIp := 0, dstIp := 9, udpDst := 4713, udpSrc := 4000, redSeq := none }

def noSec : SpduSec := { signed := false, keyId := 0, alg := 0, tagOk := false, number := 0 }

def data0 : DataFrame :=
  { hdr := hdr0, rsv := false, id := 1, svId := 0, supported := true, sizeOk := true, chkOk := true, sec := noSec, sim := false, confRev := 0, ts := none
    smpCnt := 0, timeQuality := 0, length := 100, blocks := [] }

def config0 : ConfigFrame :=
  { hdr := hdr0, id := 1, supported := true, sizeOk := true, chkOk := true, type := 2, ts := 0, layout := none, raw := [] }

def sv0 : SvFrame :=
  { hdr := hdr0, appId := 1, svId := 0, supported := true, formatOk := true, sim := false, second := 0
    asdus := [{ smpCnt := 3999, confRev := 0, smpRate := none, smpSynch := 2, samples := List.replicate 8 (0, 0) }] }

def gooseF : GooseFrame :=
  { hdr := hdr0, rGoose := false, appId := 0, gocbRef := 7, supported := true, sec := noSec, sim := false, test := false, dataOk := true, confRev := 0
    stNum := 1, sqNum := 0, talMs := 1000, values := [] }

/-- Stations 127 waits healthy, 3 for its second frame, both with a deadline; 127 takes what comes to port 0. -/
def stationed : State :=
  ingState [] [] [(3, { sub := goose1, state := .firstSeen, deadline := some 0 }), (127, { sub := goose1, state := .healthy, deadline := some 0 })] []

/-- The frame of `hdr0`, sent to the address of port 0, waits in its receive queue, for a stream, a station or neither. -/
def waits (s : State) (stream station : Option Nat) : State :=
  { s with prt := { s.prt with ports := [(0, { addrs := [9], rxq := [{ arrival := 5, len := 100, station, stream }] })] } }

def carried3 (kind rate : Nat) : State := waits (carried kind rate) (some 3) none

theorem witness_IngestEventRowsComplete_IngestFramesComplete :
    ((waits rdy none none).at 9).fabricUp = true ∧ ((waits rdy none none).at 9).rxWaits hdr0 = true ∧
    ((waits rdy none none).at 9).subOf (if data0.rsv then 1 else 0) data0.hdr 1 0 = none ∧ ((waits rdy none none).at 9).portStops hdr0 false = false ∧
    ((carried3 0 50).at 9).fabricUp = true ∧ ((carried3 0 50).at 9).rxWaits hdr0 = true ∧ (((carried3 0 50).at 9).subOf 0 hdr0 1 0).isSome = true ∧
    ((carried3 0 50).at 9).streamTurn 3 hdr0 = true ∧ data0.more.length ≤ 7 ∧
    ((((carried3 0 50).at 9).rxTake hdr0).streamSt 3).simInUse = false ∧ ((((carried3 0 50).at 9).rxTake hdr0).carrierOf 3).isSome = true ∧
    (((carried3 0 50).at 9).subOf 0 hdr0 config0.id 0).isSome = true ∧ ((carried3 0 50).at 9).quietTurn 3 hdr0 = true ∧ config0.contIdx = 0 ∧ ((((carried3 0 50).at 9).rxTake hdr0).streamSt 3).lastCfg = none ∧
    ((carried3 2 4000).at 9).fabricUp = true ∧ ((carried3 2 4000).at 9).rxWaits hdr0 = true ∧ (((carried3 2 4000).at 9).subOf 2 hdr0 sv0.appId 0).isSome = true ∧
    ((carried3 2 4000).at 9).streamTurn 3 hdr0 = true ∧ sv0.asdus ≠ [] ∧ (∀ a ∈ sv0.asdus, a.smpCnt < 4000 ∧ a.samples.length = 8) ∧
    ((((carried3 2 4000).at 9).rxTake hdr0).carrierOf 3).isSome = true ∧
    (let s := (waits stationed none (some 127)).at 9
     s.fabricUp = true ∧ s.rxWaits hdr0 = true ∧ (s.stationOf hdr0 false 0 7).isSome = true ∧ s.rxTurn hdr0 (fun e => e.station == some 127) = true ∧
     (tget 127 (s.rxTake hdr0).ing.stations).isSome = true) ∧ gooseF.supported = true :=
  ⟨rfl, by decide, by decide, by decide, rfl, by decide, by decide, by decide, by decide, by decide, by decide, by decide, by decide, rfl, by decide, rfl,
    by decide, by decide, by decide, by decide, by decide, by decide, ⟨rfl, by decide, by decide, by decide, by decide⟩, rfl⟩

/-- Stream 3 under a suspended contract, its command frames due. -/
def waitingCmds : State :=
  ingState [(3, { sub3 with flags := 5, selfId := 9 })] [(3, { waitCmds := [2], restartAt := some 0, overlapEnd := some 0 })] []
    [(5, { record0 with state := .suspended })]

theorem witness_IngestEventRowsComplete_IngestTimersComplete :
    (waitingCmds.at 9).fabricUp = true ∧ (tget 3 waitingCmds.ing.subs).isSome = true ∧ (waitingCmds.streamSt 3).onAt = none ∧
    (waitingCmds.streamSt 3).waitCmds = 2 :: [] ∧ (waitingCmds.at 9).pmuFree 3 = true ∧ (waitingCmds.streamSt 3).restartAt = some 0 ∧
    waitingCmds.contractOf 3 = some (5, { record0 with state := .suspended }) ∧ (rdy.at 1000000).fabricUp = true ∧ 1000000 % 1000000 = 0 ∧
    (waitingCmds.streamSt 3).overlapEnd = some 0 ∧ 0 ≤ (waitingCmds.at 9).now ∧
    (stationed.at 9).fabricUp = true ∧ (tget 127 stationed.ing.stations).any (fun x => (stationed.at 9).stationOver 127 x) = true ∧
    (tget 3 stationed.ing.stations).any (fun x => (stationed.at 9).stationOver 3 x) = true :=
  ⟨rfl, rfl, rfl, rfl, by decide, rfl, rfl, rfl, by decide, rfl, by decide, rfl, by decide, by decide⟩

/-! ## 04_platform -/

def groupSet1 : PltGroupSet := { group := 0, tbSel := 1, enable := true, fullHouse := false, delete := false, rate := 50, waitUs := 20000, horizonMs := 2000 }

def outSet1 : PltOutSet :=
  { out := 0, format := 0, group := 0, port := 0, enable := true, answerCmd := true, cfg3 := false, sign := false, delete := false, vlan := 0, idCode := 7
    pcp := 0, dscp := 0, dstMac := 1, udpSrc := 4713, udpDst := 4713, key := 0xFF, tag := 0, dstIp := 9, srcIp := 0, div := 1 }

def slice1 : Slice :=
  { supplement := false, early := false, holdover := false, resumed := false, group := 0, tb := 1, inst := 0, rel := 0, seq := 0, entries := [] }

def ring1 : PltRingSet := { ring := 0, groupMask := 1, enable := true, supplements := false, ringSize := 65536, ringAddr := 0, prodWbAddr := 0 }

def out1 (on : Bool) : Out := { set := { outSet1 with enable := on }, cfgCnt := 0 }

/-- A group, whether it departs, an output stream, whether it runs, a ring and a record of the history. -/
def pltState (st : GroupState) (running : Bool) : State :=
  { rdy with
    tb := { rdy.tb with bases := [(1, base1)] }
    plt := { rdy.plt with
      groups := [(0, { set := groupSet1, state := st, first := some 0 })]
      outs := [(0, out1 running)]
      rings := [(ringKey 0 0, { set := ring1, prod := 64 })]
      history := [slice1] } }

def idle : State := pltState .disabled false
def departing : State := pltState .departing true

/-- A group that nothing names. -/
def lone : State := { rdy with plt := { rdy.plt with groups := [(0, { set := groupSet1 })] } }

theorem witness_GroupAndPlatformCommandsComplete_GroupCommandsComplete :
    lone.started { op := 0x0300, len := some 24 } (pk 24) = some lone.go ∧ lone.go.group 1 = none ∧ (lone.go.group 0).isSome = true ∧
    lone.go.groupNamed 0 = false ∧ groupSet1 = PltGroupSet.filled { groupSet1 with waitUs := 0, horizonMs := 0xFFFFFFFF } ∧ 50 ∈ frameRates ∧
    (∀ e ∈ lone.go.members 1, (e.1 < 65536 → groupSet1.waitUs ≤ e.2.deadlineUs) ∧ e.2.instRate % Nat.max 50 1 = 0) ∧
    (∀ g, lone.go.group 0 = some g → g.state = .disabled) ∧ (∀ g, lone.go.group 1 = some g → g.state = .disabled) ∧
    departing.started { op := 0x0300, len := some 24 } (pk 24) = some departing.go ∧
    (departing.go.group 0).any (fun g => g.state != .disabled && g.set == groupSet1) = true ∧
    (departing.go.group 0).any (fun g => g.state != .disabled && g.set.waitUs != 10000 && g.set.horizonMs != 0) = true ∧
    lone.started { op := 0x0301, len := some 4, ro := true } (pk 4) = some lone.go ∧ lone.go.group 15 = none :=
  ⟨starts rfl rfl rfl, rfl, rfl, by decide, rfl, by decide, by decide, fun g h => by cases h; rfl, fun g h => (by cases h), starts rfl rfl rfl, by decide,
    by decide, starts rfl rfl rfl, rfl⟩

theorem witness_GroupAndPlatformCommandsComplete_PlatformCommandsComplete :
    idle.started { op := 0x0302, len := some 8 } (pk 8) = some idle.go ∧ idle.go.holds 0 kindStream 16383 = true ∧
    idle.started { op := 0x0303, len := some 32 } (pk 32) = some idle.go ∧ ringSizeOk 65536 = true ∧ 2 * idle.go.largestRecord 0 1 ≤ 65536 ∧
    addrFit (pk 32) 0 ∧ (tget (ringKey 0 0) idle.plt.rings).isSome = true ∧ ((64 : W32) - BitVec.ofNat 32 64).toNat ≤ 65536 ∧
    65536 < ((64 : W32) - BitVec.ofNat 32 65).toNat ∧
    idle.started { op := 0x0306, len := some 32, ro := true } (pk 32) = some idle.go ∧
    idle.go.plt.history.find? (fun x => x.group == 0 && instNs x.inst == 0) = some slice1 :=
  ⟨starts rfl rfl rfl, rfl, starts rfl rfl rfl, by decide, by decide, .inl rfl, rfl, by decide, by decide, starts rfl rfl rfl, by decide⟩

def command1 : OutCommand := { port := 0, srcIp := 9, udpDst := 4713, idCode := 7, cmd := 2 }

def matches1 (f : OutCommand) (e : Nat × Out) : Bool :=
  e.2.set.enable && e.2.set.answerCmd && e.2.set.format ≤ 1 && e.2.set.port == f.port && e.2.set.dstIp == f.srcIp && e.2.set.udpSrc == f.udpDst
    && e.2.set.idCode == f.idCode

theorem witness_OutputAndDepartureRowsComplete_OutputRowsComplete :
    idle.started { op := 0x0304, len := some 64 } (pk 64) = some idle.go ∧ outSet1 = PltOutSet.filled { outSet1 with udpSrc := 0, udpDst := 0, div := 0 } ∧
    idle.go.holds 0 kindOut 0 = true ∧ tget 0 idle.go.plt.outs = some (out1 false) ∧ (out1 false).set.enable = false ∧
    idle.go.divOk outSet1 = true ∧ tget 63 idle.go.plt.outs = none ∧
    idle.started { op := 0x0305, len := none } (pk (24 + 8 * 0)) = some idle.go ∧
    ({ out1 false with mapChanged := true } : Out).frameLen + 4 ≤ (idle.go.port 0).maxFrame ∧
    blockOrder [1, 2] = true ∧
    (departing.at 9).fabricUp = true ∧ departing.plt.outs.find? (matches1 command1) = some (0, out1 true) ∧ (out1 true).lastAnswer = none :=
  ⟨starts rfl rfl rfl, rfl, rfl, rfl, rfl, by decide, rfl, starts rfl rfl rfl, by decide, by decide, rfl, by decide, rfl⟩

def item1 (fsn : W32) : Item := { stream := 3, contract := 5, fsn, priority := 0, emit := 0, arrival := 0, inst := 0, vals := [] }

/-- The gate of stream 3 holds the item that is written next. -/
def gated : State := { rdy with sch := { rdy.sch with flows := [(3, { gate := [item1 0], nextWrite := 0 })] } }

theorem witness_OutputAndDepartureRowsComplete_DepartureRowsComplete :
    (gated.at 9).fabricUp = true ∧ (gated.flow 3).gate.find? (fun x => x.fsn == BitVec.ofNat 32 0) = some (item1 0) ∧
    BitVec.ofNat 32 0 = (gated.flow 3).nextWrite ∧ (rdy.flow 3).gate.find? (fun x => x.fsn == BitVec.ofNat 32 7) = none ∧
    ((rdy.flow 3).nextEmit - (rdy.flow 3).nextWrite).toNat ≤ (BitVec.ofNat 32 7 - (rdy.flow 3).nextWrite).toNat ∧
    ((departing.at 90000000).group 0).isSome = true ∧ ((departing.at 90000000).group 0).any (fun g => g.state == .departing && g.nextInst == some 0
      && ((departing.at 90000000).releaseTick g 0).any (fun r => !(departing.at 90000000).pastEntry r.1 && !(departing.at 90000000).lowerFirst 0 r.1 && r.1 + 1000000 ≤ 90000000)) = true :=
  ⟨rfl, by decide, rfl, rfl, by decide, rfl, by decide⟩

/-! ## 05_waveform_chain -/

def unitSet1 : WchUnitSet :=
  { unit := 2, stream := 3, cls := 0, phase := 1, outSel := 3, trackRef := 9, gapFill := 0, stepLevel := 100, fnom60 := false, clear := false, enable := true, undercoatEn := false
    trackMin := 0, timeCorrNs := 0 }

def cmp1 : WchCmpSet := { cmp := 16, qty := 0, mode := 0, level := 0, hyst := 0, persist := 0, finishOnly := false }

/-- Stream 3 carries 4,800 sampled values a second; unit 2 works on it, with a comparator and a tap. -/
def waves (us : Table WUnit) : State :=
  { rdy with
    ing := { rdy.ing with subs := [(3, { subOf 3 2 with svRate := 4800 })] }
    wch := { rdy.wch with units := us, cmps := [(16, { set := cmp1, changed := true })], taps := [(0, { part := 0, unit := 2, input := 0 })] } }

def bare : State := waves []
def wired : State := waves [(2, { set := unitSet1 })]

theorem witness_WaveformRowsComplete_WaveformUnitsComplete :
    wired.started { op := 0x0400, len := some 32 } (pk 32) = some wired.go ∧ tget 2 wired.go.wch.units = some { set := unitSet1 } ∧
    wired.go.underContract 3 = false ∧ wired.go.holds 0 kindUnit 2 = true ∧ wired.go.holds 0 kindStream 3 = true ∧
    unitSet1 = filledUnitSet { unitSet1 with trackRef := 0xFF, stepLevel := 0 } ∧ (tget 3 wired.go.ing.subs).any (fun e => e.kind == 2) = true ∧
    (wired.go.unitOf 3).map (·.1) = some 2 ∧ negOrNan unitSet1.trackMin = false ∧ wired.go.contractOf 3 = none ∧
    bare.started { op := 0x0400, len := some 32 } (pk 32) = some bare.go ∧ tget 2 bare.go.wch.units = none ∧ bare.go.unitOf 3 = none ∧
    wired.started { op := 0x0401, len := some 4, ro := true } (pk 4) = some wired.go ∧ wired.go.holds 0 kindUnit 255 = true ∧
    tget 255 wired.go.wch.units = none :=
  ⟨starts rfl rfl rfl, rfl, rfl, rfl, rfl, rfl, rfl, by decide, by decide, rfl, starts rfl rfl rfl, rfl, rfl, starts rfl rfl rfl, rfl, rfl⟩

theorem witness_WaveformRowsComplete_ComparatorRowsComplete :
    wired.started { op := 0x0402, len := some 24 } (pk 24) = some wired.go ∧ wired.go.holds 0 kindUnit (16 / 8) = true ∧
    (tget 16 wired.go.wch.cmps).any (·.changed) = true ∧ tget 2047 wired.go.wch.cmps = none ∧ wired.go.holds 0 kindUnit (2047 / 8) = true ∧
    wired.started { op := 0x0403, len := some 4, ro := !false } (pk 4) = some wired.go ∧
    wired.started { op := 0x0403, len := some 4, ro := !true } (pk 4) = some wired.go ∧
    wired.started { op := 0x0404, len := some 8 } (pk 8) = some wired.go ∧ (tget 0 wired.go.wch.taps).any (fun x => x.part == 0) = true ∧
    tget 63 wired.go.wch.taps = none :=
  ⟨starts rfl rfl rfl, rfl, rfl, rfl, rfl, starts rfl rfl rfl, starts rfl rfl rfl, starts rfl rfl rfl, rfl, rfl⟩

/-! ## 06_metering -/

def point1 (source : Nat) : NrgPointSet :=
  { mp := 4, source, wiring := 0, unit := if source == 1 then 2 else 0, group := 0, enable := true, reverse := false, stream := 3, ch := [0, 1, 2, 3, 4, 5]
    freqStream := 0xFFFF, freqCh := 0, sFloor := 0 }

def pi1 : NrgPiSet := { pi := 0, form := 1, debounce := 10, tolPm := 5, mp := 4, acc := 0, checkS := 900, weight := 1 }

def po1 : NrgPoSet := { po := 0, enable := true, activeLow := false, mp := 4, acc := 0, pulseMs := 50, gapMs := 50, weight := 1 }

/-- Point 4 is fed by a unit; a pulse input of Form A, and an output in a phase. -/
def meters (ph : PoPhase) (spoilt : Bool) : State :=
  { rdy with nrg := { rdy.nrg with
      points := [(4, { set := point1 1 })], pis := [(0, { set := pi1, spoilt })], pos := [(0, { set := po1, phase := ph })] } }

def still : State := meters .gap false

/-- The line of pulse input 0 changed at 5. -/
def bouncing : State := { still with nrg := { still.nrg with piAt := [(0, 5)] } }

theorem witness_MeteringRowsComplete_MeterPointsComplete :
    still.started { op := 0x0500, len := some 32 } (pk 32) = some still.go ∧ still.go.holds 0 kindMeter 4 = true ∧ (still.go.meter 4).set.source = 1 ∧
    (still.go.meter 255).set.source = 0 ∧ still.go.holds 0 kindUnit 2 = true ∧ firstBad (still.go.slicePointChecks (pk 32) (point1 2)) = none ∧
    negOrNan (point1 1).sFloor = false ∧ pointMoved (point1 1) (point1 2) = true ∧ pointMoved (point1 1) (point1 1) = false ∧
    still.started { op := 0x0501, len := some 4, ro := true } (pk 4) = some still.go ∧ still.go.reads 0 kindMeter 255 = true ∧
    still.started { op := 0x0502, len := some 4 } (pk 4) = some still.go :=
  ⟨starts rfl rfl rfl, rfl, rfl, rfl, rfl, by decide, by decide, rfl, rfl, starts rfl rfl rfl, rfl, starts rfl rfl rfl⟩

theorem witness_MeteringRowsComplete_PulseRowsComplete :
    still.started { op := 0x0503, len := some 24 } (pk 24) = some still.go ∧ pi1 = { pi1 with debounce := if pi1.debounce == 0 then 10 else pi1.debounce } ∧
    still.go.holds 0 kindPulseIn 0 = true ∧ still.go.holds 0 kindPulseIn 15 = true ∧ still.go.holds 0 kindMeter 4 = true ∧
    (still.at 9).fabricUp = true ∧ still.nrg.piLevel.testBit 0 = false ∧ (still.at 10000).now % 10000 = 0 ∧ tget 0 still.nrg.piAt = none ∧
    (tget 0 bouncing.nrg.piAt).any (fun t0 => decide ((bouncing.at 9).now < t0 + bouncing.debounceNs 0)) = true ∧ (tget 0 still.nrg.pis).any (fun x => x.set.form == 1 && !x.spoilt) = true ∧
    (tget 0 (meters .idle true).nrg.pis).any (fun x => x.spoilt) = true ∧ 0 + 1000000000 * 900 ≤ (still.at 900000000000).now ∧
    piMismatch 5 1 0 0 = false ∧
    still.started { op := 0x0504, len := some 24 } (pk 24) = some still.go ∧ still.go.holds 0 kindPulseOut 7 = true ∧
    (tget 0 (meters .active false).nrg.pos).any (fun o => o.phase == .active) = true ∧ (tget 0 still.nrg.pos).any (fun o => o.phase == .gap) = true ∧
    0 + 1000000 * 50 ≤ (still.at 50000000).now ∧ (still.at 49999999).now < 0 + 1000000 * 50 :=
  ⟨starts rfl rfl rfl, rfl, rfl, rfl, rfl, rfl, by decide, by decide, rfl, by decide, rfl, rfl, by decide, by decide, starts rfl rfl rfl, rfl, rfl, rfl,
    by decide, by decide⟩

/-! ## 07_oscillation -/

def band1 : OscModalSet :=
  { band := 0, enable := true, refreshEvent := false, tbSel := 1, winS := 20, modes := 8, persistR := 1, lagMs := 0, zetaMin := 0x3D4CCCCD
    zetaHyst := 0, confMin := 0, eMin := 0 }

def det1 : OscDetSet :=
  { det := 0, src := 1, qty := 0, group := 0, order := 2, enable := true, sourceId := 2, ch := 0, refCh := 0, refStream := 0xFFFF, badPm := 100
    fLow := 0x40A00000, fHigh := 0x41200000, winMs := 1000, level := 0x3F800000, hyst := 0, persist := 0 }

/-- Band 0 is on over a locked base; a detector works on unit 2. -/
def swings : State :=
  { wired with
    tb := { wired.tb with bases := [(1, base1)] }
    osc := { wired.osc with bands := [(0, band1)], dets := [(0, { set := det1 })] } }

theorem witness_OscillationRowsComplete_OscillationCommandsComplete :
    swings.started { op := 0x0600, len := some 40 } (pk 40) = some swings.go ∧ swings.go.holds 0 kindDetector 2047 = true ∧
    tget 2047 swings.go.osc.dets = none ∧ (tget 0 swings.go.osc.dets).isSome = true ∧
    firstBad (swings.go.sourceChecks (pk 40) { src := 1, qty := 0, group := 0, id := 2, ch := 0, refCh := 0, refStream := 0xFFFF }
      { qty := 3, group := 4, id := 8, ch := 10, refCh := 11, refStream := 12 }) = none ∧
    (f32Num det1.fLow).any (fun lo => (f32Num det1.fHigh).any (fun hi => fLt (frac 0) lo && fLt lo hi &&
      fLe (fMul (frac 10) hi) (frac (4 * swings.go.srcRate 1 0 2)) && bandOf lo hi 1 (swings.go.srcRate 1 0 2) == some 1)) = true ∧
    8 ≤ detWindow 1000 (swings.go.srcRate 1 0 2) ∧ detWindow 1000 (swings.go.srcRate 1 0 2) ≤ 65536 ∧ posNum det1.level = true ∧
    negOrNan det1.hyst = false ∧ extLt (extOf (f32Val det1.hyst)) (extOf (f32Val det1.level)) = true ∧ swings.go.fastDets 0 < 512 ∧
    swings.started { op := 0x0601, len := some 4, ro := !false } (pk 4) = some swings.go ∧
    swings.started { op := 0x0601, len := some 4, ro := !true } (pk 4) = some swings.go ∧
    swings.started { op := 0x0602, len := some 32 } (pk 32) = some swings.go ∧ swings.go.holds 0 kindModal 0 = true ∧
    within band1.zetaMin (-1) 1 = true ∧ negOrNan band1.zetaHyst = false ∧ within band1.confMin 0 1 = true ∧ within band1.eMin 0 1 = true ∧
    swings.started { op := 0x0603, len := some 16 } (pk 16) = some swings.go ∧ bandAllows 1 1 (swings.go.srcRate 1 0 2) = true ∧
    firstBad (swings.go.sourceChecks (pk 16) { src := 1, qty := 0, group := 0, id := 2, ch := 0, refCh := 0, refStream := 0xFFFF }
      { qty := 4, group := 5, id := 6, ch := 8, refCh := 9, refStream := 10 }) = none :=
  ⟨starts rfl rfl rfl, rfl, rfl, rfl, by decide, by decide, by decide, by decide, by decide, by decide, by decide, by decide, starts rfl rfl rfl,
    starts rfl rfl rfl, starts rfl rfl rfl, rfl, by decide, by decide, by decide, by decide, starts rfl rfl rfl, by decide, by decide⟩

theorem witness_OscillationRowsComplete_ModalRowsComplete :
    swings.started { op := 0x0604, len := some 16, ro := true } (pk 16) = some swings.go ∧ swings.go.reads 0 kindModal 0 = true ∧ addrFit (pk 16) 0 ∧
    (swings.at 9).fabricUp = true ∧ swings.modalOn = true ∧ swings.osc.bands.filter (fun e => e.2.enable) = [(0, band1)] ∧
    ((swings.at 9).reading 1).isSome = true ∧ swings.osc.seq = 0 ∧
    (let s := { swings with osc := { swings.osc with seq := 1 } }
     s.osc.seq ≠ 0 ∧ ((s.at 9).reading 1).any (fun now => s.osc.refresh == now / 200000000 * 200000000) = true) ∧
    (rdy.at 9).fabricUp = true ∧ rdy.modalOn = false :=
  ⟨starts rfl rfl rfl, rfl, .inl rfl, rfl, rfl, by decide, rfl, rfl, ⟨by decide, by decide⟩, rfl, rfl⟩

/-! ## 08_coherency -/

def cohSet1 : CohSet :=
  { enable := true, exclTu := false, candEvent := false, fnom60 := false, group := 0, minBuses := 2, winMs := 500, persist := 1, clearPersist := 1
    fCoh := 0x3F800000, aCoh := 0x3F800000, fSep := 0x3F800000, fHyst := 0, angGrow := 0 }

/-- A departing group of 50 frames a second, and the engine on over it. -/
def coherent : State :=
  { rdy with
    plt := { rdy.plt with groups := [(0, { set := { group := 0, tbSel := 1, enable := true, fullHouse := false, delete := false, rate := 50, waitUs := 20000, horizonMs := 2000 } })] }
    coh := { rdy.coh with set := some cohSet1 } }

theorem witness_CoherencyRowsComplete :
    coherent.started { op := 0x0700, len := some 32 } (pk 32) = some coherent.go ∧ cohSet1 = { cohSet1 with winMs := if cohSet1.winMs == 0 then 500 else cohSet1.winMs } ∧
    coherent.go.holds 0 kindCoherency 0 = true ∧ (coherent.go.group 0).any (fun g => g.set.rate == 50) = true ∧ 2 ≤ cohWindow 500 50 ∧ cohWindow 500 50 ≤ 480 ∧
    posNum cohSet1.fCoh = true ∧ negOrNan cohSet1.fHyst = false ∧ extLt (extOf (f32Val cohSet1.fHyst)) (extOf (f32Val cohSet1.fSep)) = true ∧
    coherent.started { op := 0x0701, len := none } (pk (8 + 16 * 1)) = some coherent.go ∧
    firstBad (coherent.go.busChecks (pk 24) { stream := 0xFFFF, ch := 0, freqCh := 0xFF, weight := 0 } 8) = none ∧
    coherent.started { op := 0x0702, len := some 16, ro := true } (pk 16) = some coherent.go ∧ coherent.go.reads 0 kindCoherency 0 = true ∧ addrFit (pk 16) 0 ∧
    coherent.started { op := 0x0703, len := some 24, ro := true } (pk 24) = some coherent.go ∧
    (coherent.at 9).fabricUp = true ∧ coherent.coh.set = some cohSet1 ∧ coherent.coh.eval.inst = 0 ∧ coherent.coh.stale = false :=
  ⟨starts rfl rfl rfl, rfl, rfl, rfl, by decide, by decide, by decide, by decide, by decide, starts rfl rfl rfl, rfl, starts rfl rfl rfl, rfl, .inl rfl,
    starts rfl rfl rfl, rfl, rfl, rfl, rfl⟩

/-! ## 09_alarm_logic -/

def pub1 : AlcPub :=
  { head := { dstMac := 0x010CCD010001, dstIp := 0, vlan := 0, prio := 4, appId := 1, gocbRef := 1, datSet := 2, goId := 3, confRev := 1, types := [.scalar .boolean] }
    ports := [0], rGoose := false, keySlot := 0xFF, tagCode := 0, minMs := 4, maxMs := 1000, launchAt := false, offsetUs := 0, safe := [0], frameLen := 64 }

def image1 : AlcImage :=
  { magic := 0x097240A1, format := 1, flags := 1, programId := 7, version := 1, codeALen := 16, codeBLen := 16, retainLen := 0, workLen := 0
    retainLayout := 0, totalLen := 128, errorTask := 0, map := [], points := [{ id := 5, type := 1, kind := .variable }], vars := [], insts := []
    pubs := [pub1], sites := [3], alInvert := 0, alSafe := 0, digest := 0 }

def load1 : AlcLoad := { imageLen := 128, imageAddr := 0 }

def noSites : SitesReached := { a := none, b := none }

def scan1 : Scan := { ts := 0, trig := { byGroup := none, instant := 0 }, budgetUs := 400, errTask := false, inputs := [], sites := noSites, haltNs := 0, haltAt := none }

/-- A program whose variable 5 drives alarm pin 0. -/
def image2 : AlcImage :=
  { image1 with
    map := [{ kind := 20, index := 0, chan := 0, group := 0, type := 1, subst := 0, var := 5 }]
    vars := [{ id := 5, type := 1, init := 0, retained := false }] }

/-- A controller that leaves variable 5 so. -/
def ends5 (v : Nat) : CtlResult := { vars := [(5, .lit v)], calls := [], arithErr := false, selfFail := false }

/-- Both controllers answer the same. -/
def same1 : ScanResult := { a := ends5 1, b := ends5 1 }

/-- The pair in a state with a program, a scan in progress or none. -/
def logic (st : AlcState) (sc : Option Scan) : State :=
  { rdy with
    plt := { rdy.plt with groups := [(0, { set := { group := 0, tbSel := 1, enable := true, fullHouse := false, delete := false, rate := 50, waitUs := 20000, horizonMs := 2000 },
                                             released := [(8, 5, 0)] })] }
    alc := { rdy.alc with
      state := st, scan := sc, active := some image1, standby := some image1, loading := some load1, readbackBad := 3
      setting := some { trig := 0, group := 0, periodUs := 0 }, pubs := [(0, { published := true, nextAt := 9 })] }
    alcx := { rdy.alcx with runStamp := some 0 } }

/-- A checkpoint is being written. -/
def writing : State := (logic .stop none).ckptStart .command

def free1 : State := { logic .stop none with alc := { (logic .stop none).alc with loading := none } }

theorem witness_LogicImageRowsComplete :
    free1.started { op := 0x0800, len := some 24 } (pk 24) = some free1.go ∧ free1.go.holds 0 kindLogic 0 = true ∧ addrFit (pk 24) 0 ∧
    ((logic .stop none).at 9).fabricUp = true ∧ (logic .stop none).alc.loading = some load1 ∧
    ((logic .stop none).at 9).imageBad image1 true true = none ∧ ((logic .stop none).at 9).imageBad image1 false true = some (stAuthFail, 0) ∧
    (logic .run none).started { op := 0x0801, len := some 8, ro := true } (pk 8) = some (logic .run none).go ∧
    (logic .run none).started { op := 0x0801, len := some 8, ro := false } (pk 8) = some (logic .run none).go ∧
    (logic .run none).go.alc.standby = some image1 ∧ (logic .run none).go.mapReason image1 true = none ∧
    rdy.alcx.ckptDue.contains .exchange = false ∧ rdy.alcx.write = none ∧ (logic .stop none).alcx.write = none ∧ writing.alcx.write.isSome = true ∧
    writing.alc.loading = some load1 ∧ load1.imageLen < ({ image1 with totalLen := 256 } : AlcImage).totalLen ∧ image1.totalLen ≤ load1.imageLen :=
  ⟨starts rfl rfl rfl, rfl, .inl rfl, rfl, rfl, by decide, by decide, starts rfl rfl rfl, starts rfl rfl rfl, rfl, by decide, rfl, rfl, rfl, rfl, rfl,
    by decide, by decide⟩

theorem witness_LogicCommandsComplete :
    (logic .stop none).started { op := 0x0802, len := some 4 } (pk 4) = some (logic .stop none).go ∧
    (logic .faulted none).go.row8Unacked = false ∧ (logic .run none).go.alc.scan = none ∧ (logic .run (some scan1)).go.alc.scan.isSome = true ∧
    (logic .stop none).started { op := 0x0803, len := some 12 } (pk 12) = some (logic .stop none).go ∧
    firstBad ((logic .stop none).go.scanSetChecks { trig := 1, group := 0, budgetUs := 0, periodUs := 1000 } 400) = none ∧
    (logic .stop none).started { op := 0x0804, len := some 24 } (pk 24) = some (logic .stop none).go ∧
    (imagePoint image1 5).any (fun x => x.type == 1) = true ∧ tget 5 (logic .stop none).go.alc.forces = none ∧
    (logic .hold none).started { op := 0x0805, len := some 4 } (pk 4) = some (logic .hold none).go ∧ image1.sites.contains 3 = true ∧
    (logic .hold none).go.alc.breaks.contains 3 = false ∧
    (logic .stop none).started { op := 0x0806, len := some 0, ro := true } (pk 0) = some (logic .stop none).go ∧ (logic .stop none).go.reads 0 kindLogic 0 = true ∧
    (logic .stop none).started { op := 0x0807, len := some 24, ro := true } (pk 24) = some (logic .stop none).go ∧
    ((logic .stop none).go.pointValue image1 5).isSome = true ∧
    (logic .stop none).started { op := 0x0808, len := some 0 } (pk 0) = some (logic .stop none).go ∧ (logic .stop none).go.alcx.ckptDue = [] :=
  ⟨starts rfl rfl rfl, rfl, rfl, rfl, starts rfl rfl rfl, by decide, starts rfl rfl rfl, by decide, rfl, starts rfl rfl rfl, by decide, rfl,
    starts rfl rfl rfl, rfl, starts rfl rfl rfl, by decide, starts rfl rfl rfl, rfl⟩

theorem witness_ScanRowsComplete :
    ((logic .run (some scan1)).at 9).fabricUp = true ∧ ((logic .run none).group 0).any (fun g => g.released.find? (fun e => e.1 == 8) == some (8, 5, 0)) = true ∧
    (logic .run none).alcx.runStamp = some 0 ∧ (1000000 - 0) % (1000 * 1000) = 0 ∧ (logic .run (some scan1)).alc.scan = some scan1 ∧
    2000 * 400 < ((logic .run (some scan1)).at 900000).now - scan1.ts - scan1.haltNs ∧
    ((logic .run (some scan1)).at 9).now - scan1.ts - scan1.haltNs ≤ 1000 * 400 ∧ same1.a.selfFail = false ∧
    (let s := (logic .run (some scan1)).at 9
     outputsOf image2 (s.ctlRun image2 scan1 (ends5 1)).vars ≠ outputsOf image2 (s.ctlRun image2 scan1 (ends5 0)).vars) ∧
    (let s := (logic .run (some scan1)).at 9
     crc64 (stateBytes image1 (s.ctlRun image1 scan1 same1.a).vars (s.ctlRun image1 scan1 same1.a).insts)
       = crc64 (stateBytes image1 (s.ctlRun image1 scan1 same1.b).vars (s.ctlRun image1 scan1 same1.b).insts)) ∧
    image1.pubs[0]? = some pub1 ∧ (tget 0 (logic .run none).alc.pubs).any (fun q => q.published && decide (q.nextAt ≤ 9)) = true ∧
    (logic .run none).alc.readbackBad.testBit 0 = true ∧ (logic .run none).alc.readbackBad - 2 ^ 0 ≠ 0 ∧
    0 < ((logic .run none).at 10000000000).now ∧ (((logic .run none).at 10000000000).now - 0) % 10000000000 = 0 ∧
    ((logic .run none).at 9).pwr.startupDone = true :=
  ⟨rfl, by decide, rfl, by decide, rfl, by decide, by decide, rfl, by decide, rfl, rfl, by decide, rfl, by decide, by decide, by decide, rfl⟩

/-! ## 10_recorders -/

def recSet1 : RecSet :=
  { recorder := 1, kind := 1, autoRearm := false, overwrite := false, streamOut := false, fnom60 := false, avg := 1, channels := 2, pre := 10, post := 10
    segMib := 1, closeMs := 50, station := 0 }

def export1 (datLen : Nat) : RecExport := { recorder := 1, slot := 0, format := 1, cfgLen := 0, cfgAddr := 0, datLen, datAddr := 0 }

def record1 : Record :=
  { set := recSet1, tb := 1, rate := 4800, chans := [], seq := 1, slot := 0, causeMask := 1, firstCond := 9, trigK := 0, trigTime := 0, trigFrac := 0
    shortPre := false, trigLate := false, preActual := 0, firstTime := 0, cross := [], points := [], postLeft := 0, complete := true }

def ringSet1 : RecStreamSet := { recorder := 1, enable := true, ringSize := 65536, ringAddr := 0, prodWbAddr := 0 }

def waitExport : Waiting := { pkt := pk 40, opcode := 0x0905, what := .recExport 1, pendingSent := false }

/-- Recorder 1 in a state, with a held record, a ring and an export in progress or none. -/
def recording (st : RecState) (ex : Option ExportLog) : State :=
  { wired with
    tb := { wired.tb with bases := [(1, base1)] }
    hst := { wired.hst with waiting := [waitExport] }
    rcd := { wired.rcd with recs := [(1, { set := recSet1, state := st, tb := 1, rate := 4800, origin := some 0, held := [(0, record1)],
                                           ring := some { set := ringSet1, prod := 64 }, exporting := ex })] } }

def disarmed : State := recording .disarmed none
def armed : State := recording .armed none

def chan1 : RecChan := { stream := 3, ch := 0, comp := 0, name := 0 }

theorem witness_RecorderCommandsComplete :
    disarmed.started { op := 0x0900, len := some 64 } (pk 64) = some disarmed.go ∧ recSet1 = recFilled { recSet1 with avg := 0, closeMs := 0 } ∧
    disarmed.go.holds 0 kindRecorder 1 = true ∧ ((disarmed.go.recComplete 1).recOf 1).idle = true ∧ recSlots recSet1 ≠ 0 ∧
    (disarmed.go.recComplete 1).segments 1 (some 0) + 1 ≤ ((disarmed.go.recComplete 1).part 0).poolMib ∧ (disarmed.go.recComplete 1).segments 1 none + 1 ≤ 4096 ∧
    disarmed.started { op := 0x0901, len := none } (pk (4 + 24 * 1)) = some disarmed.go ∧
    firstBad ([chan1].zipIdx.flatMap (fun e => disarmed.go.recChanChecks (pk 28) 1 (disarmed.go.recGrid 1 chan1) e.2 e.1)) = none ∧
    disarmed.started { op := 0x0902, len := some 16 } (pk 16) = some disarmed.go ∧ (f64Num 0).isSome = true ∧ negOrNan 0 = false ∧ (f32Num 0).isSome = true ∧
    disarmed.started { op := 0x0903, len := some 4 } (pk 4) = some disarmed.go ∧
    armed.started { op := 0x0903, len := some 4 } (pk 4) = some armed.go ∧ (armed.go.recOf 1).idle = false ∧ (armed.go.readingAt 1 (armed.go.doneAt (pk 4))).isSome = true ∧
    disarmed.started { op := 0x0904, len := some 4, ro := true } (pk 4) = some disarmed.go ∧ disarmed.go.reads 0 kindRecorder 63 = true ∧
    disarmed.started { op := 0x0906, len := some 4 } (pk 4) = some disarmed.go ∧ (tget 0 (disarmed.go.recOf 1).held).any (fun x => !x.exporting) = true ∧
    disarmed.started { op := 0x0907, len := some 32 } (pk 32) = some disarmed.go ∧ ringSizeOk 65536 = true ∧ addrFit (pk 32) 0 :=
  ⟨starts rfl rfl rfl, rfl, rfl, by decide, by decide, by decide, by decide, starts rfl rfl rfl, by decide, starts rfl rfl rfl, by decide, by decide, by decide,
    starts rfl rfl rfl, starts rfl rfl rfl, by decide, by decide, starts rfl rfl rfl, rfl, starts rfl rfl rfl, by decide, starts rfl rfl rfl, by decide, .inl rfl⟩

def log1 (datLen : Nat) : ExportLog := { req := export1 datLen, cfg := [], dat := [1, 2] }

theorem witness_RecordRowsComplete :
    disarmed.started { op := 0x0905, len := some 40 } (pk 40) = some disarmed.go ∧ tget 0 (disarmed.go.recOf 1).held = some record1 ∧
    (disarmed.go.recOf 1).exporting = none ∧ disarmed.go.reads 0 kindRecorder 1 = true ∧ addrFit (pk 40) 0 ∧
    ((recording .disarmed (some (log1 0))).at 9).fabricUp = true ∧ ((recording .disarmed (some (log1 0))).recOf 1).exporting = some (log1 0) ∧
    ((recording .disarmed (some (log1 2))).recOf 1).exporting = some (log1 2) ∧
    disarmed.hst.waiting.find? (fun w => w.what == .recExport 1) = some waitExport ∧ (log1 2).dat.length ≤ 2 ∧
    (disarmed.recorder 1).any (fun r => r.ring.isSome) = true ∧ disarmed.holder kindRecorder 1 = 0 ∧ ((64 : W32) - BitVec.ofNat 32 64).toNat ≤ 65536 ∧
    65536 < ((64 : W32) - BitVec.ofNat 32 65).toNat ∧
    (armed.recorder 1).any (fun r => r.storing && (armed.at 10000000000).pointDue r) = true ∧
    (armed.recorder 1).any (fun r => r.storing && !(armed.at 9).pointDue r) = true :=
  ⟨starts rfl rfl rfl, rfl, rfl, rfl, .inl rfl, rfl, rfl, rfl, by decide, by decide, by decide, rfl, by decide, by decide, by decide, by decide⟩

/-! ## 11_clusters -/

def item2 (cancelled : Bool) : Item := { stream := 3, contract := 5, fsn := 7, priority := 0, emit := 0, arrival := 0, inst := 0, vals := [], cancelled }

/-- Cluster 0 in a state, with faults and an item on a core; cluster 1 in service. -/
def lanes (st : ClusterState) (fs : List Nat) (cancelled : Bool) : State :=
  { rdy with sch := { rdy.sch with clusters :=
      [(0, { state := st, faults := fs, cores := [(2, { item := item2 cancelled, start := 0 })] }), (1, { state := .inService })] } }

def serving : State := lanes .inService [] false

theorem witness_ClusterRowsComplete_ClusterServiceRowsComplete :
    serving.started { op := 0x0A00, len := some 4 } (pk 4) = some serving.go ∧ serving.go.inService 0 = true ∧ (∃ j ∈ allClusters, j ≠ 0 ∧ serving.go.inService j = true) ∧
    (serving.go.removalPlan 0).2 = [] ∧
    (lanes .drained [] false).started { op := 0x0A02, len := some 4 } (pk 4) = some (lanes .drained [] false).go ∧
    ((lanes .drained [] false).go.cluster 0).state = .drained ∧
    (lanes .retired [] false).started { op := 0x0A01, len := some 4 } (pk 4) = some (lanes .retired [] false).go ∧
    ((lanes .retired [] false).go.cluster 0).state = .retired ∧ ((lanes .testing [] false).at 9).fabricUp = true ∧
    ((lanes .testing [] false).cluster 0).state = .testing ∧ ((lanes .draining [] false).cluster 0).state = .draining ∧
    ((lanes .draining [] false).at 9).clusterBusy 0 ≠ 0 ∧ (rdy.at 9).clusterBusy 0 = 0 :=
  ⟨starts rfl rfl rfl, rfl, ⟨1, by decide, by decide, rfl⟩, by decide, starts rfl rfl rfl, rfl, starts rfl rfl rfl, rfl, rfl, rfl, rfl, by decide, by decide⟩

def trace1 : SchTraceSet := { enable := true, kindMask := 2, count := 1, ringSize := 65536, ringAddr := 0, prodWbAddr := 0, listAddr := 0, ids := [3] }

theorem witness_ClusterRowsComplete_ClusterWorkRowsComplete :
    ((serving.at 9).fault 64 0 0xFF).recentFaults 0 = [] ∧ (((serving.at 9).fault 64 0 0xFF).cluster 0).state = .inService ∧
    (((lanes .inService [1, 2] false).at 9).fault 64 0 0xFF).recentFaults 0 = [1, 2] ∧
    (serving.coreOf 3 7).any (fun x => !x.2.2.item.cancelled) = true ∧ ((lanes .inService [] true).coreOf 3 7).any (fun x => x.2.2.item.cancelled) = true ∧
    serving.started { op := 0x0A03, len := some 32 } (pk 32) = some serving.go ∧ trace1.kindMask % 2 = 0 ∧ ringSizeOk trace1.ringSize = true ∧
    addrFit (pk 32) 0 ∧ serving.go.holds 0 kindStream 3 = true ∧
    serving.started { op := 0x0A04, len := some 4, ro := !false } (pk 4) = some serving.go ∧
    serving.started { op := 0x0A04, len := some 4, ro := !true } (pk 4) = some serving.go ∧ serving.go.observes 0 = true :=
  ⟨by decide, by decide, by decide, by decide, by decide, starts rfl rfl rfl, by decide, by decide, .inl rfl, rfl, starts rfl rfl rfl, starts rfl rfl rfl, rfl⟩

/-! ## 12_time -/

def refSet0 : TbRefSet := { refSel := 0, rY := 0, rD := 0, xY := 0, xD := 0 }

/-- Base 1 from a source in a state, and what PTP instance 1 does. -/
def timed (b : Base) (x : Ptp) : State := { rdy with tb := { rdy.tb with bases := [(1, b)], ptp := [(1, x)] } }

def base3 : Base := { base1 with set := { baseSet1 with source := 3 } }

def ptpSet1 (mode : Nat) : TbPtpSet :=
  { base := 1, mode, profile := 0, domain := 0, portMask := 1, oneStepMask := 1, priority1 := 128, priority2 := 128, vlan := 0, pcp := 0 }

def announce1 : PtpAnnounce :=
  { port := 0, domain := 0, source := 9, gmId := 9, priority1 := 128, clockClass := 6, accuracy := 0x20, variance := 0, priority2 := 128, steps := 0
    utcValid := true, utcOffset := 37, leap61 := false, leap59 := false, altTlv := [] }

def frame1 : IrigFrame :=
  { cap := 0, widthsOk := true, hasYear := true, ext1344 := false, parityOk := false, tq := 0, utcNs := 0, localNs := 0, leapPending := false
    leapDelete := false, dst := 0 }

def slave : Ptp := { set := ptpSet1 1, slavePort := some 0, awaited := some (0, 9, 7, 5), gm := some announce1 }
def master : Ptp := { set := ptpSet1 3 }

def plain : State := timed base3 master
def following : State := timed base1 slave

theorem witness_TimeCommandsComplete :
    rdy.started { op := 0x0B00, len := some 20 } (pk 20) = some rdy.go ∧ negOrNan refSet0.rY = false ∧ rdy.go.tb.bases = [] ∧
    plain.started { op := 0x0B01, len := some 24 } (pk 24) = some plain.go ∧ plain.go.hst.timeOwner = 0 ∧ rdy.go.baseUsed 1 = false ∧
    firstBad (plain.go.tbSetChecks (tbFilled baseSet1)) = none ∧
    plain.started { op := 0x0B03, len := some 16 } (pk 16) = some plain.go ∧ plain.go.base 1 = some base3 ∧ base3.valid = true ∧
    plain.started { op := 0x0B04, len := some 12 } (pk 12) = some plain.go ∧ base3.set.todFromIrig = false ∧
    plain.started { op := 0x0B05, len := some 8 } (pk 8) = some plain.go ∧
    plain.started { op := 0x0B06, len := some 4, ro := true, stabled := true } (pk 4) = some plain.go :=
  ⟨starts rfl rfl rfl, by decide, rfl, starts rfl rfl rfl, rfl, rfl, by decide, starts rfl rfl rfl, rfl, by decide, starts rfl rfl rfl, rfl,
    starts rfl rfl rfl, starts rfl rfl rfl⟩

def driven : State := { plain with tb := { plain.tb with ppsBase := some 1, ppsHigh := true } }

theorem witness_TimeEventRowsComplete_TimeSignalRowsComplete :
    (driven.at 9).timeUp = true ∧ irigOk frame1 = true ∧ irigOk { frame1 with widthsOk := false } = false ∧ driven.base 1 = some base3 ∧
    driven.tb.ppsBase = some 1 ∧ base3.valid = true ∧ base3.reading (driven.at 0).now % 1000000000 ≤ 4 ∧ driven.tb.ppsHigh = true ∧
    driven.tb.ppsAt + 100000000 ≤ (driven.at 100000000).now :=
  ⟨rfl, by decide, by decide, rfl, rfl, by decide, by decide, rfl, by decide⟩

def leapBase : Base := { base3 with leap := some (false, 0), leapUntil := some 7, lastSample := some 0 }
def waitStep : Waiting := { pkt := pk 16, opcode := 0x0B03, what := .restep 1 3, pendingSent := false }
def leaping : State := { timed leapBase master with hst := { rdy.hst with waiting := [waitStep] } }

theorem witness_TimeEventRowsComplete_BaseRowsComplete :
    (leaping.at 9).timeUp = true ∧ leaping.base 1 = some leapBase ∧ waitStep ∈ leaping.hst.waiting ∧ 3 ≤ (leaping.at 9).now ∧
    leapBase.state = .locked ∧ 0 + 1000000000 * 3 ≤ (leaping.at 3000000000).now ∧ ((0 : Nat) : Int) ≤ leapBase.reading (leaping.at 9).now ∧
    7 ≤ (leaping.at 9).now ∧ (leaping.at 5).now < 7 :=
  ⟨rfl, rfl, by decide, by decide, rfl, by decide, by decide, by decide, by decide⟩

theorem witness_TimeEventRowsComplete_ReferenceRowsComplete :
    (driven.at 9).timeUp = true ∧ driven.tb.extInUse = false ∧ driven.tb.refclkLost = false ∧ driven.tb.ref.refSel ≠ 1 :=
  ⟨rfl, rfl, rfl, by decide⟩

theorem witness_PtpRowsComplete :
    plain.started { op := 0x0B02, len := some 24 } (pk 24) = some plain.go ∧ firstBad (plain.go.ptpSetChecks (ptpSet1 3)) = none ∧
    following.ptpOf 0 = some (1, slave) ∧ (following.at 9).ptpHears slave 0 = true ∧ tget (32 * 9 + 0) slave.foreign = none ∧
    following.fromParent 1 slave 0 9 0 = true ∧ following.fromParent 1 slave 0 8 0 = false ∧ slave.awaited = some (0, 9, 7, 5) ∧
    slave.isMaster 0 = false ∧ master.isMaster 0 = true ∧ (plain.at 9).ptpHears master 0 = true ∧ master.set.oneStepMask.testBit 0 = true ∧
    Config.clockId + 1 ≠ Config.clockId :=
  ⟨starts rfl rfl rfl, by decide, rfl, rfl, rfl, by decide, by decide, rfl, rfl, rfl, rfl, by decide, Nat.succ_ne_self _⟩

/-! ## 13_ports -/

def mode1 (m : Nat) : PrtModeSet :=
  { port := 0, mode := m, fec := 0, an := false, rxPause := false, txPause := false, half := false, linkSrc := false, inband := false, mgmt := false
    maxFrame := 9216, arrivalTb := 0, phyAddr := 0 }

def addr1 : PrtAddrSet := { port := 0, count := 1, mac := 2, addrs := [9] }

def filter1 : PrtFilterSet :=
  { port := 0, filter := 0, enable := true, matchEtype := true, matchDmac := false, matchProto := false, matchUdp := false, etype := 0x0800, ipProto := 0
    udpDst := 0, dmac := 0 }

def rx1 : PrtRingSet := { port := 0, queue := 0, enable := true, bufSize := 256, entries := 64, ringAddr := 0, headWbAddr := 0 }

def txFrame1 : TxFrame := { what := .arpReply, len := 60, launch := none }

/-- A port of a mode with its link up, sending a frame, with rings. -/
def ported (m : Nat) (full : Bool) : State :=
  { rdy with prt := { rdy.prt with ports :=
      [(20, { mode := some { mode1 m with port := 20 }, link := true, fullDuplex := full, speedMbps := 100, sending := some (3, txFrame1), pauseUntil := some 5,
              rxRings := [(0, ringFrom rx1)], txRings := [(0, ringFrom rx1)] })] } }

def frameRx (ok : Bool) : RxFrame :=
  { port := 20, len := 64, fcsOk := ok, wholeOctets := true, tagOk := true, vlan := none, tagged := false, dst := 1, src := 2, etype := 0x9000, redundant := false
    asks := none, pause := none, ip := none, appId := 0, ref := 0, idCode := 0, damaged := false }

theorem witness_PortCommandsComplete :
    rdy.started { op := 0x0C00, len := some 16 } (pk 16) = some rdy.go ∧ mode1 1 = { mode1 1 with maxFrame := if (mode1 1).maxFrame == 0 then 9216 else (mode1 1).maxFrame } ∧
    modeFits 0 1 = true ∧ fecFits 1 0 = true ∧ rdy.go.portNamed 0 = false ∧
    ((ported 6 true).port 20).keepsLink { mode1 6 with port := 20 } = true ∧ ((ported 6 true).port 20).keepsLink { mode1 7 with port := 20 } = false ∧
    rdy.started { op := 0x0C01, len := some 72 } (pk 72) = some rdy.go ∧ macGroup addr1.mac = false ∧ ipBad (((addr1.addrs.take 1)[0]?).getD 0) = false ∧
    rdy.started { op := 0x0C02, len := some 32 } (pk 32) = some rdy.go ∧ rdy.go.holds 0 kindPort 0 = true ∧ tget 0 (rdy.go.port 0).filters = none ∧
    rdy.started { op := 0x0C03, len := some 32 } (pk 32) = some rdy.go ∧ ringEntriesOk 64 = true ∧ addrFit (pk 32) 0 ∧
    rdy.started { op := 0x0C04, len := some 32 } (pk 32) = some rdy.go ∧ rdy.started { op := 0x0C05, len := some 4 } (pk 4) = some rdy.go ∧
    rdy.started { op := 0x0C06, len := some 4, ro := true } (pk 4) = some rdy.go ∧ rdy.started { op := 0x0C07, len := some 4, ro := true } (pk 4) = some rdy.go ∧
    rdy.go.observes 0 = true :=
  ⟨starts rfl rfl rfl, rfl, rfl, rfl, rfl, by decide, by decide, starts rfl rfl rfl, by decide, by decide, starts rfl rfl rfl, rfl, rfl, starts rfl rfl rfl,
    by decide, .inl rfl,
    starts rfl rfl rfl, starts rfl rfl rfl, starts rfl rfl rfl, starts rfl rfl rfl, rfl⟩

theorem witness_PortReceiveRowsComplete :
    (ported 6 true).holds 0 kindPort 20 = true ∧ (BitVec.ofNat 32 64 - (tgetD 0 {} ((ported 6 true).port 20).rxRings).head).toNat ≤ 64 ∧
    64 < (BitVec.ofNat 32 65 - (tgetD 0 {} ((ported 6 true).port 20).rxRings).head).toNat ∧ (tgetD 0 {} ((ported 6 true).port 20).txRings).entries = 64 ∧
    ((ported 6 true).at 9).portAlive 20 = true ∧ (ported 6 true).rxCheck (frameRx true) = none ∧ (ported 6 true).rxCheck (frameRx false) = some 34 ∧
    ((ported 6 true).at 9).mayLink 20 = true ∧ ((ported 6 true).port 20).mode = some { mode1 6 with port := 20 } ∧
    ((ported 4 true).port 20).mode = some { mode1 4 with port := 20 } ∧ ((ported 6 true).port 20).link = true ∧ ((ported 6 true).port 20).fullDuplex = true ∧
    linkFits { mode1 6 with linkSrc := true } 100 true = true ∧ linkFits (mode1 1) 25000 false = false :=
  ⟨rfl, by decide, by decide, by decide, by decide, by decide, by decide, by decide, by decide, by decide, by decide, by decide, by decide, by decide⟩

theorem witness_PortSendRowsComplete :
    ((ported 6 true).port 20).pauseUntil = some 5 ∧ 5 ≤ ((ported 6 true).at 9).now ∧ ((ported 6 true).at 4).now < 5 ∧ ((ported 6 true).port 20).rxq.length < 2048 ∧
    ((ported 6 true).port 20).sending = some (3, txFrame1) ∧ ((ported 6 true).port 20).fullDuplex = true ∧
    ((ported 6 false).port 20).sending = some (3, txFrame1) ∧ ((ported 6 false).port 20).fullDuplex = false ∧ txFrame1.collisions = 0 ∧
    ({ rxq := List.replicate 2048 { arrival := 0, len := 64, station := none, stream := none }, xoff := true } : PortSt).rxq.length = 2048 ∧
    0 + bitsNs 512 100 < ((ported 6 false).at 9000).cap ∧ ((ported 6 false).port 20).startedAt = 0 ∧ ((ported 6 true).at 9).mayPause 20 = false :=
  ⟨by decide, by decide, by decide, by decide, by decide, by decide, by decide, by decide, rfl, List.length_replicate, by decide, by decide, by decide⟩

/-! ## 14_hosts -/

def placed3 : PlacedStream :=
  { part := 0, protocol := 0, rate := 50, channels := 4, groupMask := 0, timeoutMs := 0, cluster := 0, active := true, seen := true, bytes := 100, work := [] }

/-- Placement, with stream 3 subscribed and stream 4 added. -/
def inPlacement : State :=
  { rdy with
    tt := { rdy.tt with profile := .placement }
    ing := { rdy.ing with subs := [(3, subOf 3 0)] }
    hst := { rdy.hst with placed := [(4, placed3)] }
    sch := { rdy.sch with clusters := [(0, { state := .inService })] } }

theorem witness_HostReadsComplete :
    rdy.started { op := 0x0000, len := some 0, ro := true, halt := true, stabled := true, boot := true, tamper := true, blank := true, retired := true }
      (pk 0) = some rdy.go ∧
    rdy.started { op := 0x000E, len := none, ro := true, halt := true, stabled := true, boot := true, tamper := true, blank := true, retired := true }
      (pk 5) = some rdy.go ∧
    rdy.started { op := 0x0008, len := some 8, ro := true } (pk 8) = some rdy.go ∧
    rdy.started { op := 0x000D, len := some 8, ro := true } (pk 8) = some rdy.go ∧ 12 + 4000 ≤ stagingSize ∧
    inPlacement.started { op := 0x7F02, len := some 4, ro := true } (pk 4) = some inPlacement.go ∧
    inPlacement.go.tt.profile = .placement ∧ inPlacement.go.holds 0 kindStream 4 = true ∧ tget 4 inPlacement.go.hst.placed = some placed3 ∧
    inPlacement.started { op := 0x7F03, len := some 0, ro := true } (pk 0) = some inPlacement.go :=
  ⟨starts rfl rfl rfl, starts rfl rfl rfl, starts rfl rfl rfl, starts rfl rfl rfl, by decide, starts rfl rfl rfl, rfl, rfl, rfl, starts rfl rfl rfl⟩

/-- Partition 2 created, partition 3 in reset. -/
def parted : State :=
  { rdy with hst := { rdy.hst with parts := [(0, ownerPart), (2, { state := .created, observeFull := true }), (3, { state := .resetting })] } }

theorem witness_PartitionGrantAndShareRowsComplete_PartitionRowsComplete :
    parted.started { op := 0x0001, len := some 4 } (pk 4) = some parted.go ∧ (parted.go.part 1).state = .absent ∧
    parted.started { op := 0x0002, len := some 4 } (pk 4) = some parted.go ∧ (parted.go.part 2).state ≠ .absent ∧
    parted.started { op := 0x0003, len := some 4 } (pk 4) = some parted.go ∧ (parted.go.part 0).state ≠ .absent ∧
    (parted.go.part 2).state = .created ∧ (parted.go.part 3).state = .resetting ∧ parted.pwr.startupDone = true :=
  ⟨starts rfl rfl rfl, rfl, starts rfl rfl rfl, by decide, starts rfl rfl rfl, by decide, rfl, rfl, rfl⟩

theorem witness_PartitionGrantAndShareRowsComplete_GrantMovesHolders :
    parted.started { op := 0x0004, len := some 16 } (pk 16) = some parted.go ∧ (parted.go.part 2).state ≠ .absent ∧ kindUnit ≠ kindPort ∧
    255 + 1 ≤ kindCount kindUnit ∧ (parted.go.used kindUnit).any (parted.go.movedBy kindUnit 2 255 1).contains = false :=
  ⟨starts rfl rfl rfl, by decide, by decide, by decide, by decide⟩

theorem witness_PartitionGrantAndShareRowsComplete_ShareRowsComplete :
    parted.started { op := 0x0005, len := some 24 } (pk 24) = some parted.go ∧ (parted.go.part 2).state ≠ .absent ∧
    parted.go.shareUsed 2 ≤ 0 ∧ parted.go.pltUsed 2 ≤ 0 ∧ parted.go.sidingsMibUsed 2 ≤ 0 ∧ parted.go.segments 64 (some 2) ≤ 0 ∧
    parted.started { op := 0x0006, len := some 4 } (pk 4) = some parted.go ∧ parted.go.hst.timeOwner = 0 ∧
    parted.go.hst.timeOwner ≠ 2 ∧ parted.go.tt.profile = .fixed ∧ (parted.go.part 2).safety = false ∧ (parted.go.part 2).observeFull = true ∧
    parted.started { op := 0x0007, len := some 16 } (pk 16) = some parted.go ∧ 0 + 1 ≤ kindCount kindStream ∧
    parted.go.holder kindStream 0 = 0 ∧ ([0].filter (fun i => parted.go.holder 1 i != 0)) = [] ∧
    ([0].filter (fun i => parted.go.holder 1 i != 2)).filter (fun i => parted.go.shared 1 i 2 != true) = [0] ∧
    (let s := parted.go.shareWrite 1 2 true [0]
     ([0].filter (fun i => s.holder 1 i != 2)).filter (fun i => s.shared 1 i 2 != false) = [0] ∧ s.shareUsedBy 2 1 0 = false) :=
  ⟨starts rfl rfl rfl, by decide, by decide, by decide, by decide, by decide, starts rfl rfl rfl, rfl, by decide, rfl, rfl, rfl, starts rfl rfl rfl,
    by decide, rfl, by decide, by decide, ⟨by decide, by decide⟩⟩

/-- Slots 1 and 2 hold keys of the in-band channel. -/
def keyed : State := { rdy with sec := { rdy.sec with slots := [(1, { key := some (hmacKey 2) }), (2, { key := some (hmacKey 1) })] } }

theorem witness_HostSettingsComplete :
    rdy.started { op := 0x0009, len := some 24 } (pk 24) = some rdy.go ∧
    powerBetween 4096 16777216 4096 = true ∧ 16 ≤ 4096 / 64 ∧ 8192 % 4096 = 0 ∧
    rdy.started { op := 0x000A, len := some 24 } (pk 24) = some rdy.go ∧
    keyed.started { op := 0x000A, len := some 24 } (pk 24) = some keyed.go ∧ keyed.go.inbandSlot 0 1 2 = true ∧ keyed.go.inbandSlot 0 2 1 = true ∧
    (∀ n ∈ [1, 2], (keyed.go.slot n).updateLost = false ∧ (keyed.go.slot n).unusable = false) ∧
    rdy.started { op := 0x000C, len := none } (pk 9) = some rdy.go ∧ (pk 9).paramLen = 8 + 1 ∧ 16777215 + 1 ≤ stagingSize ∧ rdy.go.stagingWf :=
  ⟨starts rfl rfl rfl, by decide, by decide, by decide, starts rfl rfl rfl, starts rfl rfl rfl, by decide, by decide, by decide,
    starts rfl rfl rfl, rfl, by decide, by intro e he; cases he⟩

def adding : Q31StreamAdd := { stream := 3, protocol := 0, rate := 50, channels := 4, groupMask := 0, timeoutMs := 0 }

theorem witness_CompatibilityRowsComplete :
    inPlacement.started { op := 0x7F00, len := some 16 } (pk 16) = some inPlacement.go ∧ inPlacement.go.tt.profile = .placement ∧
    50 ∈ frameRates ∧ inPlacement.go.holds 0 kindStream 3 = true ∧ tget 3 inPlacement.go.hst.placed = none ∧
    tget 3 inPlacement.go.ing.subs = some (subOf 3 0) ∧ inPlacement.go.leastLoaded [] = some 0 ∧
    inPlacement.go.pltCommit + (inPlacement.go.q31Placed (pk 16) adding 0).bytes ≤ 65011712 ∧ inPlacement.go.chCommit + 4 ≤ 262144 ∧
    inPlacement.started { op := 0x7F01, len := some 4 } (pk 4) = some inPlacement.go ∧ tget 4 inPlacement.go.hst.placed = some placed3 ∧
    inPlacement.started { op := 0x7F04, len := some 0 } (pk 0) = some inPlacement.go :=
  ⟨starts rfl rfl rfl, rfl, by decide, rfl, rfl, rfl, by decide, by decide, by decide, starts rfl rfl rfl, rfl, starts rfl rfl rfl⟩

/-! ## 15_security -/

/-- Slots 0 to 4: a signing key of ALG 5, a wrapping key, a deriving key and an exportable key; slot 9 has lost an update. -/
def keyOf (attr type alg : Nat) (exportable : Bool) : Key :=
  { attr, type, alg, keyId := 1, exportable, origin := 1, bindMask := 0, boundDigest := 0, bytes := [1, 2] }

def keyed15 : State :=
  { rdy with sec := { rdy.sec with
      slots := [(0, { key := some (keyOf 1 4 5 true) }), (1, { key := some (keyOf 3 1 0 false) }), (2, { key := some (keyOf 4 4 0 false) }), (9, { updateLost := true })]
      challenge := some ([1], 7) } }

def tampered : State :=
  { keyed15 with sec := { keyed15.sec with
      tamperLatched := true, eraseDue := true, tamperLog := [{ seq := 0, source := 1, state := 1, stamp := 0, tb1 := 0, value := 0 }] } }

theorem witness_KeyCommandsComplete :
    keyed15.started { op := 0x0D00, len := none } (pk (16 + 32)) = some keyed15.go ∧ keyed15.go.holds 0 kindKey 5 = true ∧ (keyed15.go.slot 5).updateLost = false ∧
    keyed15.go.slotInUse 5 = false ∧ keyCombo 4 4 0 = true ∧ keyed15.go.slotFit (pk 48) 1 3 ∧ keyed15.go.key 1 = some (keyOf 3 1 0 false) ∧
    keyed15.started { op := 0x0D01, len := some 12 } (pk 12) = some keyed15.go ∧
    keyed15.started { op := 0x0D02, len := none } (pk (ceilDiv (16 + 0 + 0) 4 * 4)) = some keyed15.go ∧ keyed15.go.slotFit (pk 16) 2 4 ∧
    keyed15.started { op := 0x0D03, len := some 4, ro := true } (pk 4) = some keyed15.go ∧ keyed15.go.slotFit (pk 4) 0 1 ∧
    keyed15.go.key 0 = some (keyOf 1 4 5 true) ∧
    keyed15.started { op := 0x0D04, len := some 4 } (pk 4) = some keyed15.go ∧ (keyed15.go.slot 5).key = none ∧ (keyed15.go.slot 0).key.isSome = true ∧
    keyed15.started { op := 0x0D05, len := some 4, ro := true } (pk 4) = some keyed15.go ∧ (keyed15.go.slot 9).updateLost = true :=
  ⟨starts rfl rfl rfl, rfl, rfl, rfl, rfl, ⟨rfl, rfl, rfl, rfl⟩, rfl, starts rfl rfl rfl, starts rfl rfl rfl, ⟨rfl, rfl, rfl, rfl⟩, starts rfl rfl rfl,
    ⟨rfl, rfl, rfl, rfl⟩, rfl, starts rfl rfl rfl, rfl, rfl, starts rfl rfl rfl, rfl⟩

theorem witness_SecurityRowsComplete_AttestationRowsComplete :
    keyed15.started { op := 0x0D06, len := some 32, stabled := true, retired := true } (pk 32) = some keyed15.go ∧
    keyed15.started { op := 0x0D07, len := some 36, ro := true } (pk 36) = some keyed15.go ∧ keyed15.go.slotFit (pk 36) 0 1 ∧ (keyOf 1 4 5 true).alg = 5 ∧
    tampered.started { op := 0x0D09, len := some 72, stabled := true, tamper := true, blank := true } (pk 72) = some tampered.go ∧
    tampered.go.sec.tamperLatched = true ∧ 0 + 1 = tampered.go.sec.tamperLog.length ∧ tampered.go.sec.tmpActive = [] ∧
    ({ tampered with cfg := { tampered.cfg with copyA := some { seq := 1, len := 64, profile := 0, settings := [] } } } : State).go.clearanceSigned
      { seq := 0, sig := some { key := .other 0, data := .clearance true 0 } } = true ∧
    tampered.started { op := 0x0D0A, len := some 24, ro := true, halt := true, stabled := true, boot := true, tamper := true, blank := true, retired := true } (pk 24)
      = some tampered.go ∧ tampered.go.observes 0 = true ∧ (((tampered.go.logEntries 1).1.drop 0).take (64 / (tampered.go.logEntries 1).2)).flatten.length = 32 :=
  ⟨starts rfl rfl rfl, starts rfl rfl rfl, ⟨rfl, rfl, rfl, rfl⟩, rfl, starts rfl rfl rfl, rfl, rfl, rfl, by decide, starts rfl rfl rfl, rfl, by decide⟩

/-- Power is good, and the start-up has not been done. -/
def held : State := { State.reset with pwr := { State.reset.pwr with porHeld := false, perstHeld := false } }

theorem witness_SecurityRowsComplete_SecurityEventsComplete :
    tampered.sec.eraseDue = true ∧ tampered.sec.challenge = some ([1], 7) ∧ 7 + 600000000000 ≤ (tampered.at 600000000008).now ∧ (tampered.at 9).now < 7 + 600000000000 ∧
    (keyed15.keyWrite 5 none).uncommitted.contains 5 = true ∧ keyed15.uncommitted.contains 5 = false ∧
    (keyed15.keyWrite 5 none).norHeld (.key 5) = false ∧
    (({ keyed15 with alcx := writing.alcx } : State).keyWrite 5 none).norHeld (.key 5) = true ∧
    held.pwr.startupDone = false ∧ held.pwr.porHeld = false ∧ held.pwr.perstHeld = false :=
  ⟨rfl, rfl, by decide, by decide, by decide, by decide, by decide, by decide, rfl, rfl, rfl⟩

/-! ## 16_safety -/

def faultRec (src : Nat) : FaultRec :=
  { source := src, cls := 1, declared := 1, effective := 1, injected := false, real := true, escalated := false, simultaneous := false, react := false
    part := 0xFF, seq := 0, detail := 0, stamp := 0, acked := false, active := false, ackStamp := 0 }

def test1 (req : Bool) : SelfTest := { parts := 1, requested := req, start := 0 }

/-- The device watched, with a record and a test in progress or none. -/
def watching (q : Option SelfTest) : State :=
  { rdy with
    pwr := { rdy.pwr with porHeld := false, perstHeld := false }
    flt := { rdy.flt with history := [faultRec 93], selftest := q, errFault := false } }

def calm : State := watching none

theorem witness_FaultCommandsComplete :
    calm.started { op := 0x0E00, len := some 0, ro := true, halt := true, stabled := true } (pk 0) = some calm.go ∧
    calm.started { op := 0x0E03, len := some 4, ro := true, halt := true, stabled := true } (pk 4) = some calm.go ∧
    calm.started { op := 0x0E01, len := some 8 } (pk 8) = some calm.go ∧ (faultClass 93).isSome = true ∧
    (calm.go.unacked.filter (ackNames { op := 1, source := 93, cls := 0, clearFirst := false } 5)).filter calm.go.stillActive = [] ∧
    calm.started { op := 0x0E02, len := some 8 } (pk 8) = some calm.go ∧ (faultClass 103).isSome = true ∧
    calm.started { op := 0x0E05, len := some 8 } (pk 8) = some calm.go ∧
    calm.started { op := 0x0E04, len := some 4 } (pk 4) = some calm.go ∧ calm.go.flt.selftest = none :=
  ⟨starts rfl rfl rfl, starts rfl rfl rfl, starts rfl rfl rfl, by decide, by decide, starts rfl rfl rfl, by decide, starts rfl rfl rfl, starts rfl rfl rfl, rfl⟩

theorem witness_ConditionAndScrubRowsComplete_ConditionRowsComplete :
    ({ calm with pwr := { calm.pwr with pfwLow := true } } : State).quietLow 0 true = true ∧ calm.quietLow 0 true = false ∧ calm.quietLow 0 false = false ∧
    (calm.at 9).fabricUp = true ∧ (calm.at 9).watched = true ∧ (true && calm.flt.selftest.any (fun q => q.parts.testBit 3)) = false ∧
    calm.flt.heldErrors.any (HeldError.ofRange 3) = false ∧
    (let s := watching (some { parts := allTests, requested := true, start := 0 });
      s.flt.selftest = some { parts := allTests, requested := true, start := 0 } ∧ allTests.testBit 3 = true ∧ allTests.testBit 2 = true ∧
      ({ s with flt := { s.flt with heldErrors := [.range 3 (some true)] } } : State).flt.heldErrors.any (HeldError.ofRange 3) = true) :=
  ⟨rfl, rfl, rfl, rfl, rfl, rfl, rfl, rfl, rfl, rfl, rfl⟩

def step1 : ScrubStep := { region := .workingStore, unit := 0, sub := 0, addr := 0, finding := .clean, pts := [], scrub := true, inSlice := true, passEnd := true, passMs := 1 }

theorem witness_ConditionAndScrubRowsComplete_ScrubRowsComplete :
    (calm.at 9).watched = true ∧ (step1.inSlice && calm.flt.selftest.any (fun q => q.parts.testBit 0)) = false ∧
    (step1.inSlice && (watching (some (test1 true))).flt.selftest.any (fun q => q.parts.testBit 0)) = true ∧ step1.passEnd = true ∧
    calm.flt.sramAt + 3000000000 ≤ (calm.at 3000000000).now ∧ calm.flt.scrubOver.testBit 0 = false ∧ (calm.at 9).now < calm.flt.dramAt + 90000000000 :=
  ⟨rfl, rfl, rfl, rfl, by decide, rfl, by decide⟩

theorem witness_SelftestRowsComplete :
    calm.flt.errFault = false ∧ (calm.at 500000).now % 500000 = 0 ∧ calm.flt.nextToggle ≤ (calm.at 500000).now ∧ calm.pwr.porHeld = false ∧
    calm.pwr.perstHeld = false ∧ (calm.at 3600000000000).watched = true ∧ calm.pwr.startupAt < (calm.at 3600000000000).now ∧
    ((calm.at 3600000000000).now - calm.pwr.startupAt) % hourNs = 0 ∧ (watching (some (test1 false))).flt.selftest = some (test1 false) ∧
    calm.flt.lastPeriodic + 4200000000000 ≤ (calm.at 4200000000000).now ∧ (true && calm.flt.selftest.any (fun q => q.parts.testBit 4)) = false ∧
    (true && (watching (some { parts := allTests, requested := true, start := 0 })).flt.selftest.any (fun q => q.parts.testBit 4)) = true :=
  ⟨rfl, by decide, by decide, rfl, rfl, rfl, by decide, by decide, rfl, by decide, rfl, rfl⟩

/-! ## 17_power_states: firmware and bundles -/

def asLife (l : LifeCycle) : State := { rdy with sec := { rdy.sec with life := l } }

/-- RETURNED with a challenge drawn. -/
def challenged : State := { rdy with sec := { rdy.sec with life := .returned, challenge := some ([1], 0) } }

/-- DEPLOYED to RETIRED, and the unlock of the test port, each signed. -/
def retire : LcTransition :=
  { op := 1, dest := 4, ownerBoot := false, lcSeq := 0, sig := some { key := .other 0, data := .transition true 2 4 0 } }

def unlock : LcTransition := { op := 3, dest := 0, ownerBoot := false, lcSeq := 0, sig := some { key := .root 0, data := .test true [1] } }

theorem witness_ResetAndLifeComplete :
    rdy.go.moveSigned retire 1 = true ∧ challenged.go.testSigned unlock = true ∧
    rdy.started { op := 0x000B, len := some 4, halt := true, boot := true } (pk 4) = some rdy.go ∧
    rdy.started { op := 0x0D08, len := some 72, blank := true } (pk 72) = some rdy.go ∧ rdy.go.sec.tamperLatched = false ∧
    0 = rdy.go.sec.lifeLog.length ∧ rdy.go.pwr.pfwLow = false ∧ rdy.go.sec.life = .deployed ∧
    challenged.started { op := 0x0D08, len := some 72, blank := true } (pk 72) = some challenged.go ∧ challenged.go.sec.tamperLatched = false ∧
    challenged.go.sec.life = .returned ∧ challenged.go.sec.drbgFailed = false ∧ challenged.go.pwr.pfwLow = false ∧
    challenged.go.sec.challenge.isSome = true ∧ challenged.go.challengeOld = false :=
  ⟨by decide, by decide, starts rfl rfl rfl, starts rfl rfl rfl, rfl, rfl, rfl, rfl, starts rfl rfl rfl, rfl, rfl, rfl, rfl, rfl, by decide⟩

def package : FwLoad := { imageLen := 4096, recovery := false, bank := 0, imageAddr := 0 }

def verdict : FwVerify :=
  { formatOk := true, version := 7, svn := 1, raiseSvn := false, nolivik := some (.root 0), owner := none, writeOk := true, digest := 0 }

/-- A package loads. -/
def loadingFw : State := { rdy with fw := { rdy.fw with loadInFlight := some package } }

/-- Cluster 2 is DRAINED, cluster 3 UPDATING, bank B verified. -/
def drained2 : State :=
  { rdy with
    sch := { rdy.sch with clusters := [(2, { state := .drained }), (3, { state := .updating })] }
    fw := { rdy.fw with bankB := { verified := true } } }

/-- The cores restart, into their own bank or the other. -/
def restarting (dest : Nat) : State := { rdy with fw := { rdy.fw with mgmtRestart := true, mgmtTo := dest } }

theorem witness_FirmwareRowsComplete :
    rdy.started { op := 0x0F03, len := some 24, boot := true } (pk 24) = some rdy.go ∧ rdy.go.sec.bootHold = false ∧
    rdy.go.fw.running = rdy.go.fw.boot ∧ rdy.go.fw.loadInFlight = none ∧ rdy.go.cfg.loading = none ∧ rdy.go.pwr.pfwLow = false ∧
    loadingFw.fw.loadInFlight = some package ∧ loadingFw.sec.imageSigned verdict.nolivik verdict.owner = true ∧ loadingFw.fw.minSvn ≤ 1 ∧ loadingFw.alcx.write = none ∧
    drained2.started { op := 0x0F04, len := some 4 } (pk 4) = some drained2.go ∧ (drained2.go.cluster 2).state = .drained ∧
    (drained2.at 0).fabricUp = true ∧ (drained2.cluster 3).state = .updating ∧
    (let s := { drained2 with sch := rdy.sch }
     s.started { op := 0x0F05, len := some 4 } (pk 4) = some s.go ∧ (s.go.bank (1 - s.go.fw.running)).verified = true ∧
     s.go.fw.minSvn ≤ (s.go.bank (1 - s.go.fw.running)).svn ∧ s.go.hst.waiting = [] ∧ (∀ k ∈ allClusters, (s.go.cluster k).state ≠ .updating) ∧
     s.go.fw.alc = s.go.fw.running ∧ (∀ k ∈ allClusters, (s.go.cluster k).state = .retired ∨ (s.go.cluster k).bank = s.go.fw.running) ∧
     s.go.alc.state = .noProgram) ∧
    (let s := { rdy with alc := { rdy.alc with state := .run } }
     s.started { op := 0x0F05, len := some 4 } (pk 4) = some s.go ∧ s.go.alc.state = .run) ∧
    (restarting 0).fw.mgmtRestart = true ∧ (restarting 0).fw.mgmtTo = (restarting 0).fw.running ∧ (restarting 1).fw.mgmtTo ≠ (restarting 1).fw.running :=
  ⟨starts rfl rfl rfl, rfl, rfl, rfl, rfl, rfl, rfl, rfl, by decide, rfl, starts rfl rfl rfl, rfl, rfl, rfl,
    ⟨starts rfl rfl rfl, rfl, by decide, rfl, by decide, rfl, by decide, rfl⟩, ⟨starts rfl rfl rfl, rfl⟩, rfl, rfl, by decide⟩

def bundle1 : Bundle := { seq := 1, len := 64, profile := 0, settings := [] }

/-- A bundle loads into the copy not latest written. -/
def loadingCfg (b : Bool) : State :=
  { rdy with cfg := { rdy.cfg with loading := some { len := 64, addr := 0 }, copyA := if b then some bundle1 else none, latestIsB := !b, applied := some bundle1 } }

theorem witness_BundleRowsComplete :
    rdy.started { op := 0x0F06, len := some 24 } (pk 24) = some rdy.go ∧ rdy.go.fw.loadInFlight = none ∧ rdy.go.cfg.loading = none ∧
    (loadingCfg false).cfg.loading.isSome = true ∧
    (loadingCfg false).cfg.status { bundle := { bundle1 with seq := 2 }, formatOk := true, signer := some (.other 0) } ((loadingCfg false).cfgOwner bundle1) = stOk ∧
    (loadingCfg false).cfg.targetB = false ∧
    (loadingCfg true).cfg.status { bundle := { bundle1 with seq := 2 }, formatOk := true, signer := some (.other 0) } ((loadingCfg true).cfgOwner bundle1) = stOk ∧
    (loadingCfg true).cfg.targetB = true ∧ (loadingCfg false).alcx.write = none ∧ (loadingCfg true).alcx.write = none ∧
    rdy.started { op := 0x0F07, len := some 24, ro := true } (pk 24) = some rdy.go ∧ rdy.go.observes 0 = true ∧ rdy.go.cfg.which 0 = none ∧
    (loadingCfg true).started { op := 0x0F07, len := some 24, ro := true } (pk 24) = some (loadingCfg true).go ∧
    (loadingCfg true).go.cfg.which 0 = some bundle1 :=
  ⟨starts rfl rfl rfl, rfl, rfl, rfl, by decide, rfl, by decide, rfl, rfl, rfl, starts rfl rfl rfl, rfl, rfl, starts rfl rfl rfl, rfl⟩

/-! ## 17_power_states: the warning, Stabled and wake -/

/-- The pair runs an image. -/
def running1 : State := { rdy with alc := { rdy.alc with state := .run, active := some image1 } }

/-- PFW_N is low, the pair stopped by it or not. -/
def warned (stopped : Bool) : State :=
  { rdy with pwr := { rdy.pwr with pfwLow := true }, alcx := { rdy.alcx with powerFailStop := stopped } }

theorem witness_PowerWarningRowsComplete :
    rdy.pwr.pfwLow = false ∧ rdy.alc.state = .noProgram ∧ running1.pwr.pfwLow = false ∧ running1.alc.state = .run ∧ running1.flt.haltSource = none ∧ running1.fabricUp = true ∧
    running1.alc.active = some image1 ∧ (warned false).pwr.pfwLow = true ∧ (warned false).alcx.powerFailStop = false ∧
    (warned true).pwr.pfwLow = true ∧ (warned true).alcx.powerFailStop = true :=
  ⟨rfl, rfl, rfl, rfl, rfl, rfl, rfl, rfl, rfl, rfl, rfl⟩

/-- The device on its way into Stabled, with a wake kept or without, asleep, or waking. -/
def sleepy (x : PwrState) (kept : Bool) : State := { rdy with pwr := { rdy.pwr with state := x, wakeKept := kept } }

theorem witness_StabledRowsComplete :
    rdy.started { op := 0x0F00, len := some 4 } (pk 4) = some rdy.go ∧ rdy.go.pwr.state = .running ∧ rdy.go.fw.mgmtRestart = false ∧
    (∀ k ∈ allClusters, (rdy.go.cluster k).state ≠ .updating) ∧ rdy.go.alc.state ≠ .run ∧ rdy.go.alc.state ≠ .hold ∧
    rdy.go.fw.loadInFlight = none ∧ rdy.go.cfg.loading = none ∧
    (sleepy .entering false).pwr.state = .entering ∧ (sleepy .entering false).pwr.wakeKept = false ∧ (sleepy .entering true).pwr.wakeKept = true ∧
    (sleepy .entering true).sec.tamperLatched = false ∧ (sleepy .stabled false).pwr.state = .stabled ∧ (sleepy .waking false).pwr.state = .waking ∧
    rdy.started { op := 0x0F01, len := some 0, stabled := true } (pk 0) = some rdy.go ∧
    (sleepy .stabled false).started { op := 0x0F01, len := some 0, stabled := true } (pk 0) = some (sleepy .stabled false).go ∧
    (sleepy .stabled false).go.pwr.state = .stabled ∧ (sleepy .stabled false).go.sec.tamperLatched = false ∧
    rdy.started { op := 0x0F02, len := some 0, ro := true, stabled := true } (pk 0) = some rdy.go :=
  ⟨starts rfl rfl rfl, rfl, rfl, by decide, by decide, by decide, rfl, rfl, rfl, rfl, rfl, rfl, rfl, rfl, starts rfl rfl rfl, starts rfl rfl rfl, rfl, rfl,
    starts rfl rfl rfl⟩

/-! ## 14_hosts: channels, messages and the queue registers -/

/-- Partition 2 with a queue and an event ring. -/
def withPart (p : Part) : State := { rdy with hst := { rdy.hst with parts := [(2, { p with state := .created })] } }

def ring19 (on : Bool) (tail : W32) : QueueRegs := { sqSize := 4096, rqSize := 16384, sqTail := tail, enable := on }

/-- A packet of partition 2 that is too long. -/
def longPk : Pkt := { pk 5000 with part := 2 }

/-- A command of partition 2 that waits for a copy. -/
def copying : Waiting := { pkt := { pk 24 with ackPending := true, part := 2 }, opcode := 0x0804, what := .dmaCopy 0 [1] [2], pendingSent := false }

/-- A latch of POWER_WARN, with or without a record behind it. -/
def latched (r : Option EvRec) : State := withPart { ev := { latches := [(0x016, { holdEnd := 3, pending := r })] } }

def event1 : EvRec := { source := 0x016, alarm := false, held := true, count := 1, detail := 0, first := 1, last := 1 }

/-- A command that waits for its start, with interim replies asked for. -/
def heldPending : HeldCmd := { pkt := { pk 0 with ackPending := true }, opcode := 0x0D04, row := .registerWrite 0 0 0 32 0 }

theorem witness_ChannelErrorRowsComplete :
    longPk.chan = .queue ∧ (let s := withPart { q := ring19 true 64 };
      (s.part 2).queueRuns = true ∧ 32 ≤ ((s.part 2).q.sqTail - (s.part 2).q.sqHead).toNat ∧ (s.part 2).q.malformed 5000 = true ∧ s.replyRoom longPk = true ∧
      s.created 2 = true ∧ s.pwr.startupDone = true) ∧
    rdy.started { op := 0x7E00, len := none, ro := true } (pk 0) = some rdy.go ∧ opcodeKnown 0x7E00 = false ∧
    (let s := { rdy with hst := { rdy.hst with waiting := [copying] } };
      s.pendingDue 2 1 = some copying ∧ s.hst.waiting.find? (fun w => w.copies 2 1) = some copying ∧ copying.what = .dmaCopy 0 [1] [2]) ∧
    (rdy.pendingDue 0 1 = none ∧ (let s := { rdy with held := [heldPending], hst := { rdy.hst with parts := [(0, { ownerPart with q := ring19 true 64 })] } }
      s.pendingHeldDue 0 1 = some heldPending)) ∧
    tget 0x016 ((latched none).part 2).ev.latches = some { holdEnd := 3, pending := none } ∧ 3 ≤ ((latched none).at 4).now ∧ ((latched none).at 2).now < 3 ∧
    tget 0x016 ((latched (some event1)).part 2).ev.latches = some { holdEnd := 3, pending := some event1 } ∧ tget 0x016 (rdy.part 2).ev.latches = none ∧
    (rdy.part 2).queueRuns = false ∧ (rdy.at 9).pendingHeldDue 0 1 = none ∧ rdy.created 2 = false ∧ rdy.hst.waiting.find? (fun w => w.copies 2 1) = none ∧
    copying.buffers 2 1 = true :=
  ⟨rfl, ⟨rfl, by decide, by decide, by decide, rfl, rfl⟩, starts rfl rfl rfl, by decide, ⟨by decide, by decide, rfl⟩, ⟨rfl, by decide⟩, rfl, by decide, by decide, rfl,
    rfl, rfl, rfl, rfl, rfl, rfl⟩

/-- Partition 0 takes messages under slot 1, at port 20. -/
def inbandOn : State :=
  { rdy with
    sec := { rdy.sec with slots := [(1, { key := some (hmacKey 2) })] }
    hst := { rdy.hst with parts := [(0, { state := .created, ib := { enable := true, keyVerify := 1 } })] }
    prt := { rdy.prt with ports := [(20, { mode := some { mode1 1 with port := 20, inband := true }, link := true, speedMbps := 100, side := 1 })] } }

def message (tag : Bool) : ChannelMsg :=
  { port := 20, udpPort := 49470, srcIp := 9, srcPort := 1000, frameLen := 200, partition := 0, keySel := 0, seq := 7, session := true, frameOk := true
    tagOk := tag, opcode := 0x0001, tag := 3 }

theorem witness_MessageRowsComplete :
    (inbandOn.at 0).inbandReaches (message true) = true ∧ inbandOn.sec.bootHold = false ∧ inbandOn.sec.tamperHold = false ∧
    ((inbandOn.at 0).sideTake 20).inbandFits (message true) = true ∧
    (((inbandOn.at 0).sideTake 20).part 0).ib.replay.accept 64 7 = some { any := true, highest := 7, mask := 1 } ∧
    ((inbandOn.at 0).sideTake 20).inbandFits (message false) = false ∧
    (let b : Inband := { enable := true, keyVerify := 1, replay := { any := true, highest := 7, mask := 1 } };
      let s : State := { inbandOn with hst := { inbandOn.hst with parts := [(0, { state := .created, ib := b })] } };
      ((s.at 0).sideTake 20).inbandFits (message true) = true ∧ (((s.at 0).sideTake 20).part 0).ib.replay.accept 64 7 = none) ∧
    inbandOn.pwr.porHeld = false ∧ inbandOn.hst.spiInbox = [] ∧ inbandOn.spiChecked = true ∧ inbandOn.spiVerified (message true) = true ∧
    inbandOn.spiVerified (message false) = false ∧ ({ inbandOn with sec := { inbandOn.sec with life := .blank } } : State).spiChecked = false ∧
    ({ rdy with hst := { rdy.hst with spiSession := some 1 } } : State).hst.spiSession = some 1 ∧
    1 + 60000000000 ≤ (({ rdy with hst := { rdy.hst with spiSession := some 1 } } : State).at 60000000004).now :=
  ⟨by decide, rfl, rfl, by decide, by decide, by decide, ⟨by decide, by decide⟩, rfl, rfl, rfl, by decide, by decide, rfl, rfl, by decide⟩

theorem witness_QueueRegisterRowsComplete :
    (let s := withPart { q := ring19 true 0, ev := { size := 4096 } };
      s.barOpen 2 = true ∧ 64 % 4294967296 % 32 = 0 ∧ (BitVec.ofNat 32 64 - (s.part 2).q.sqHead).toNat ≤ (s.part 2).q.sqSize.toNat ∧
      (s.part 2).q.sqSize.toNat < (BitVec.ofNat 32 8192 - (s.part 2).q.sqHead).toNat ∧
      ((s.part 2).q.rqTail - BitVec.ofNat 32 0).toNat ≤ (s.part 2).q.rqSize.toNat ∧ (s.part 2).q.rqSize.toNat < ((s.part 2).q.rqTail - BitVec.ofNat 32 1).toNat ∧
      ((s.part 2).ev.prod - BitVec.ofNat 32 0).toNat ≤ (s.part 2).ev.size ∧ (s.part 2).ev.size < ((s.part 2).ev.prod - BitVec.ofNat 32 1).toNat) ∧
    (let s := withPart { q := ring19 false 0 };
      s.barOpen 2 = true ∧ (s.part 2).q.enable = false ∧ (s.part 2).q.fits = true) ∧
    (let s := withPart {};
      s.barOpen 2 = true ∧ (s.part 2).q.enable = false ∧ (s.part 2).q.fits = false) :=
  ⟨⟨rfl, by decide, by decide, by decide, by decide, by decide, by decide, by decide⟩, ⟨rfl, rfl, by decide⟩, ⟨rfl, rfl, by decide⟩⟩

/-! ## Registers -/

/-- Partition 2 with its BAR0, captured or not, and a trace ring of 4096 bytes. -/
def barred (shadow : Table Nat) : State :=
  { rdy with
    hst := { rdy.hst with parts := [(0, ownerPart), (2, { state := .created })], shadow }
    sch := { rdy.sch with traces := [(2, { set := { enable := true, kindMask := 1, count := 0, ringSize := 4096, ringAddr := 0, prodWbAddr := 0, listAddr := 0, ids := [] } })] } }

theorem witness_SnapshotsServeOneRead_SnapshotRowsComplete :
    (barred []).barOpen 2 = true ∧ (Instr.tbNowSnapWrite 0 2 1, regOffsets 0xB000 8) ∈ [(Instr.tbNowSnapWrite 0 2 1, regOffsets 0xB000 8)] ∧
    (1 : Nat).testBit 0 = true ∧ (2 : Nat).testBit 0 = false ∧ (barred []).barOpen 0 = true ∧ 23 < 24 ∧ 0xB004 ∈ regOffsets 0xB000 8 :=
  ⟨by decide, by decide, by decide, by decide, by decide, by decide, by decide⟩

theorem witness_SnapshotRowsComplete :
    (barred []).barOpen 2 = true ∧ (barred []).barOpen 0 = true ∧ (1 : Nat).testBit 0 = true ∧ 23 < 24 ∧
    State.reset.barOpen 2 = false ∧ (2 : Nat).testBit 0 = false :=
  ⟨by decide, by decide, by decide, by decide, by decide, by decide⟩

theorem witness_RegisterRowsComplete :
    tget (shadowKey 2 (0xB000 + 8 * 3)) (barred [(shadowKey 2 (0xB000 + 8 * 3), 7)]).hst.shadow = some 7 ∧
    tget (shadowKey 2 (0xB000 + 8 * 0)) (barred []).hst.shadow = none ∧ (barred []).created 2 = true ∧ (barred []).pwr.startupDone = true ∧
    (barred []).barOpen 0 = true ∧ (barred []).barOpen 2 = true ∧
    (∃ r, tget 2 (barred []).sch.traces = some r ∧ (r.prod - BitVec.ofNat 32 0).toNat ≤ r.set.ringSize ∧
      r.set.ringSize < (r.prod - BitVec.ofNat 32 1).toNat) ∧
    0x0C01C % 4 = 0 ∧ 0x0C010 % 8 = 0 ∧ 0x0C011 % 4 ≠ 0 ∧ 4294967295 < 4294967296 :=
  ⟨by decide, by decide, by decide, by decide, by decide, by decide, ⟨_, rfl, by decide, by decide⟩, by decide, by decide, by decide, by decide⟩

/-! ## 17_power_states: start-up, and the test port -/

def report (bankA : Bool) : StartupReport :=
  { bankAOk := bankA, bankBOk := false, copyAOk := false, copyBOk := false, copyARefused := false, copyBRefused := false, selftestFailed := 0, clustersFailed := 0
    keyBad := [], ckptBad := [], imageOk := false, supplyLost := false, conditions := [] }

/-- The pins of reset held or not. -/
def pinned (por perst : Bool) : State := { State.reset with pwr := { State.reset.pwr with porHeld := por, perstHeld := perst } }

theorem witness_StartupRowsComplete :
    (pinned true false).pwr.porHeld = true ∧ (pinned true false).pwr.perstHeld = false ∧ (pinned true true).pwr.perstHeld = true ∧
    (pinned false false).pwr.porHeld = false ∧ (pinned false true).pwr.perstHeld = true ∧ (pinned false false).canStartUp = true ∧
    (pinned false false).bootBank (report true) = some (0, false) ∧ (pinned false false).bootBank (report false) = none :=
  ⟨rfl, rfl, rfl, rfl, rfl, rfl, rfl, rfl⟩

/-- The controller in a state, the life cycle in another. -/
def tapAt (x : TapState) (l : LifeCycle) : State := { rdy with tap := { state := x }, sec := { rdy.sec with life := l } }

theorem witness_TestPortRowCompletes :
    (tapAt .shiftDr .blank).tap.state = .shiftDr ∧ (tapAt .shiftIr .blank).tap.state = .shiftIr ∧ tapNext (tapAt .exit1Ir .deployed).tap.state true = .updateIr ∧
    (tapAt .exit1Ir .deployed).sec.life = .deployed ∧ (tapAt .exit1Ir .retired).sec.life = .retired :=
  ⟨rfl, rfl, rfl, rfl, rfl⟩

/-! ## Rules stated on their own -/

/-- Partition 1 exists, without OBSERVE_FULL. -/
def guest1 : State :=
  { rdy with hst := { rdy.hst with parts := [(0, rdy.part 0), (1, { rdy.part 0 with observeFull := false })] } }

theorem witness_TimetableRegisters :
    (guest1.part 0).state ≠ .absent ∧ (guest1.part 1).state ≠ .absent ∧ guest1.observes 1 = false ∧ 31 < 32 ∧ 0xFFF < 0x1000 ∧ (1 : Nat) ≠ 0 :=
  ⟨by decide, by decide, by decide, by decide, by decide, by decide⟩

def fault9 (n : Nat) : FaultRec :=
  { source := n, cls := 1, declared := 2, effective := 2, injected := false, real := true, escalated := false, acked := false, active := false
    simultaneous := false, react := false, part := 0, seq := 1, detail := 0, stamp := 0, ackStamp := 0 }

/-- The history is full of records of source 255 that nobody has acknowledged. -/
def fullHistory : State := { rdy with flt := { rdy.flt with history := List.replicate 32 (fault9 255) } }

theorem witness_HistoryKeepsTheLatest32 :
    fullHistory.flt.history.length = 32 ∧ fault9 255 ∈ fullHistory.unacked ∧ (fault9 255).source < 256 ∧
    (∀ q ∈ fullHistory.flt.history, q.stamp ≠ ({ fault9 1 with stamp := 1 } : FaultRec).stamp) ∧
    fullHistory.flt.history = fault9 255 :: List.replicate 31 (fault9 255) ∧ (fault9 255).stamp = (fault9 1).stamp ∧
    ({ fault9 1 with declared := 1 } : FaultRec).declared < (fault9 255).declared ∧ (fault9 255).source ≤ (fault9 255).source ∧
    (fault9 1).declared = (fault9 255).declared ∧ (fault9 1).source < (fault9 255).source ∧
    (fault9 255).declared < ({ fault9 1 with declared := 3 } : FaultRec).declared :=
  ⟨by decide, by decide, by decide, by decide, rfl, rfl, by decide, by decide, rfl, by decide, by decide⟩

theorem witness_SignalBoxRegisters : (guest1.part 1).state ≠ .absent ∧ guest1.pwr.startupDone = true ∧ 0xFFF < 0x1000 := ⟨by decide, rfl, by decide⟩

theorem witness_PowerRegisters :
    (guest1.part 1).state ≠ .absent ∧ guest1.pwr.startupDone = true ∧ 0xFFF < 0x1000 ∧ (1 : Nat) ≠ 0 ∧ rdy.barOpen 0 = true ∧ 0xFFC % 4 = 0 ∧
    4294967295 < 4294967296 ∧ rdy.pwr.state ≠ .stabled ∧ ({ rdy with pwr := { rdy.pwr with state := .stabled } } : State).pwr.state = .stabled ∧
    (1 : Nat).testBit 0 = true ∧ (2 : Nat).testBit 0 = false :=
  ⟨by decide, rfl, by decide, by decide, by decide, by decide, by decide, by decide, rfl, by decide, by decide⟩

/-- Cluster 15 runs the other bank. -/
def mixed : State := { rdy with sch := { rdy.sch with clusters := [(15, { rdy.cluster 15 with bank := 1 })] } }

theorem witness_CommitNeedsEveryBlockSwitched :
    mixed.started { op := 0x0F05, len := some 4 } (pk 4) = some mixed.go ∧ (pk 4).part = 0 ∧ (mixed.go.cluster 15).state ≠ .retired ∧
    (mixed.go.cluster 15).bank ≠ mixed.go.fw.running ∧ rdy.started { op := 0x0F05, len := some 4 } (pk 4) = some rdy.go ∧ rdy.go.fw.alc = rdy.go.fw.running ∧
    (∀ k, k < 16 → (rdy.go.cluster k).state = .retired ∨ (rdy.go.cluster k).bank = rdy.go.fw.running) ∧ rdy.go.pwr.pfwLow = false :=
  ⟨starts rfl rfl rfl, rfl, by decide, by decide, starts rfl rfl rfl, rfl, by decide, rfl⟩

/-- A shadow of TT_STATUS is unread in partition 0. -/
def shadowed : State := { rdy with hst := { rdy.hst with shadow := [(shadowKey 0 0x1004, 7)] } }

theorem witness_SnapshotsServeOneRead_SnapshotServesOneRead :
    0x1004 ∈ [0x1004] ∧ (1 : Nat) < 8 ∧ 0xFFFFC < 1048576 ∧ (∀ x ∈ [0x1004], x < 1048576) ∧ (1 : Nat) ≠ 0 ∧ 0xFFFFC ∉ [0x1004] ∧
    tget (shadowKey 0 0x1004) shadowed.hst.shadow = some 7 ∧ tget (shadowKey 0 0x1008) shadowed.hst.shadow = none ∧ 0x1008 % 8 = 0 ∧
    ([(shadowKey 0 0x1004, 7), (shadowKey 0 0x1008, 9)].map (·.1)).Pairwise (· < ·) :=
  ⟨by decide, by decide, by decide, by decide, by decide, by decide, by decide, by decide, by decide, by decide⟩

theorem witness_OpcodesOfTheTable :
    opcodeKnown 0x7F05 = false ∧ rdy.started { op := 0x7F05, len := none, ro := true } (pk 4) = some rdy.go ∧ rdy.go.tt.profile ≠ .placement ∧
    rdy.started { op := 0x7F00, len := some 16 } (pk 16) = some rdy.go ∧ rdy.started { op := 0x7F01, len := some 4 } (pk 4) = some rdy.go ∧
    rdy.started { op := 0x7F02, len := some 4, ro := true } (pk 4) = some rdy.go ∧ rdy.started { op := 0x7F03, len := some 0, ro := true } (pk 0) = some rdy.go ∧
    rdy.started { op := 0x7F04, len := some 0 } (pk 0) = some rdy.go :=
  ⟨by decide, starts rfl rfl rfl, by decide, starts rfl rfl rfl, starts rfl rfl rfl, starts rfl rfl rfl, starts rfl rfl rfl, starts rfl rfl rfl⟩

/-! ## The whole machine -/

/-- A command of the owner partition at the service port that is held and may start. -/
def heldSwitch : HeldCmd := { pkt := { pk 4 with chan := .spi }, opcode := 0x0F05, row := .fwSwitch { pk 4 with chan := .spi } 2 }

def holding : State := { rdy with resuming := false, held := [heldSwitch] }

theorem witness_StepServesTheQueue :
    rdy.pending = [] ∧ pickHeld rdy [] rdy.held = none ∧ holding.pending = [] ∧
    pickHeld holding [] holding.held = some (heldSwitch, []) ∧ step rdy = .next rdy :=
  ⟨rfl, rfl, rfl, by decide, rfl⟩

theorem witness_LifeCycleMovesForward :
    ∃ t : State, exec (.lcTransition (pk 72) retire) rdy = .next t ∧ step { rdy with pending := [.lcTransition (pk 72) retire] } = .next t ∧ t.sec.life = .retired ∧
      t.sec.life ≠ rdy.sec.life := by
  have h : exec (.lcTransition (pk 72) retire) rdy = .next (((rdy.go.at 12).putReply (pk 72) 0x0D08 stOk 0 (rdy.go.at 12).now (zeros 32)).lcApply retire 1) :=
    cmd_silent (starts rfl rfl rfl) rfl
  have e : (((rdy.go.at 12).putReply (pk 72) 0x0D08 stOk 0 (rdy.go.at 12).now (zeros 32)).lcApply retire 1).sec.life = .retired := by
    simp [kept_life, piece, State.lcApply, retire, lifeOf]
  exact ⟨_, h, h, e, by rw [e]; decide⟩

/-- Bank A, which every block runs, asks for MIN_SVN 3. -/
def raising : State := { rdy with fw := { rdy.fw with bankA := { rdy.fw.bankA with svn := 3, raiseSvn := true } } }

theorem witness_MinSvnNeverFalls :
    ∃ t : State, exec (.fwSwitch (pk 4) 2) raising = .next t ∧ step { raising with pending := [.fwSwitch (pk 4) 2] } = .next t ∧ t.fw.minSvn = 3 ∧
      t.fw.minSvn ≠ raising.fw.minSvn := by
  have h : ∃ u : State, exec (.fwSwitch (pk 4) 2) raising = .next (u.answered { op := 0x0F05, len := some 4 } (pk 4) stOk 0 (u.fwReply 0 0)) ∧ u.fw.minSvn = 3 :=
    ⟨_, cmd_answers (starts rfl rfl rfl) rfl, rfl⟩
  obtain ⟨u, h, e⟩ := h
  have e : (u.answered { op := 0x0F05, len := some 4 } (pk 4) stOk 0 (u.fwReply 0 0)).fw.minSvn = 3 := by simpa [State.answered, kept_minSvn] using e
  exact ⟨_, h, h, e, by rw [e]; decide⟩

theorem witness_OnlyTheirRowsChangeThem :
    (∃ t : State, exec (.fwSwitch (pk 4) 2) raising = .next t) ∧ Piece.life ∉ mayChange (.fwSwitch (pk 4) 2) :=
  ⟨witness_MinSvnNeverFalls.imp fun _ h => h.1, by decide⟩

/-- Two bytes stand in the staging buffer of partition 0. -/
def staged : State := { rdy with hst := { rdy.hst with staging := [(0, [⟨4, 9⟩, ⟨8, 1⟩])] } }

theorem witness_StagingStaysCanonical : staged.stagingWf ∧ step staged = .next staged := ⟨by simp [State.stagingWf, staged]; decide, rfl⟩

/-- Every command of another partition that exists, resumed, starts in a deployed running device. -/
theorem witness_OwnerCommandsRefuseOthers :
    ({ pk 4 with part := 1 } : Pkt).part ≠ 0 ∧
    rdy.started { op := 0x0A00, len := some 4 } { pk 4 with part := 1 } = some rdy.go ∧
    rdy.started { op := 0x0A02, len := some 4 } { pk 4 with part := 1 } = some rdy.go ∧
    rdy.started { op := 0x0A01, len := some 4 } { pk 4 with part := 1 } = some rdy.go ∧
    rdy.started { op := 0x000B, len := some 4, halt := true, boot := true } { pk 4 with part := 1 } = some rdy.go ∧
    rdy.started { op := 0x0D08, len := some 72, blank := true } { pk 72 with part := 1 } = some rdy.go ∧
    rdy.started { op := 0x0F03, len := some 24, boot := true } { pk 24 with part := 1 } = some rdy.go ∧
    rdy.started { op := 0x0F04, len := some 4 } { pk 4 with part := 1 } = some rdy.go ∧
    rdy.started { op := 0x0F05, len := some 4 } { pk 4 with part := 1 } = some rdy.go ∧
    rdy.started { op := 0x0F06, len := some 24 } { pk 24 with part := 1 } = some rdy.go ∧
    rdy.started { op := 0x0001, len := some 4 } { pk 4 with part := 1 } = some rdy.go ∧
    rdy.started { op := 0x0002, len := some 4 } { pk 4 with part := 1 } = some rdy.go ∧
    rdy.started { op := 0x0004, len := some 16 } { pk 16 with part := 1 } = some rdy.go ∧
    rdy.started { op := 0x0005, len := some 24 } { pk 24 with part := 1 } = some rdy.go ∧
    rdy.started { op := 0x0006, len := some 4 } { pk 4 with part := 1 } = some rdy.go ∧
    rdy.started { op := 0x0F00, len := some 4 } { pk 4 with part := 1 } = some rdy.go ∧
    rdy.started { op := 0x0F01, len := some 0, stabled := true } { pk 0 with part := 1 } = some rdy.go ∧
    rdy.started { op := 0x0D09, len := some 72, stabled := true, tamper := true, blank := true } { pk 72 with part := 1 } = some rdy.go ∧
    rdy.started { op := 0x0E02, len := some 8 } { pk 8 with part := 1 } = some rdy.go ∧
    rdy.started { op := 0x0E05, len := some 8 } { pk 8 with part := 1 } = some rdy.go ∧
    rdy.started { op := 0x0E04, len := some 4 } { pk 4 with part := 1 } = some rdy.go ∧
    rdy.started { op := 0x0B00, len := some 20 } { pk 20 with part := 1 } = some rdy.go ∧
    rdy.started { op := 0x0B05, len := some 8 } { pk 8 with part := 1 } = some rdy.go ∧
    rdy.started { op := 0x0104, len := some 4 } { pk 4 with part := 1 } = some rdy.go ∧
    rdy.started { op := 0x0105, len := some 4, ro := true } { pk 4 with part := 1 } = some rdy.go ∧
    rdy.started { op := 0x0300, len := some 24 } { pk 24 with part := 1 } = some rdy.go :=
  ⟨by decide, starts rfl rfl rfl, starts rfl rfl rfl, starts rfl rfl rfl, starts rfl rfl rfl, starts rfl rfl rfl, starts rfl rfl rfl, starts rfl rfl rfl, starts rfl rfl rfl, starts rfl rfl rfl, starts rfl rfl rfl, starts rfl rfl rfl, starts rfl rfl rfl, starts rfl rfl rfl, starts rfl rfl rfl, starts rfl rfl rfl, starts rfl rfl rfl, starts rfl rfl rfl, starts rfl rfl rfl, starts rfl rfl rfl, starts rfl rfl rfl, starts rfl rfl rfl, starts rfl rfl rfl, starts rfl rfl rfl, starts rfl rfl rfl, starts rfl rfl rfl⟩

/-! ## WellFormed refuses each ill-formed term -/

theorem test_wf_packet : Instr.wf (.pwrWake (pk 0)) = true := by decide
theorem test_wf_partition : Instr.wf (.pwrWake { pk 0 with part := 8 }) = false := by decide
theorem test_wf_service_port : Instr.wf (.pwrWake { pk 0 with chan := .spi, part := 1 }) = false := by decide
theorem test_wf_completion : Instr.wf (.devReset { pk 4 with recvNs := 16 } 1) = false := by decide
theorem test_wf_tag : Instr.wf (.fwSwitch { pk 4 with tag := 4294967296 } 1) = false := by decide
theorem test_wf_version : Instr.wf (.fwSwitch { pk 4 with version := 256 } 1) = false := by decide
theorem test_wf_length : Instr.wf (.fwSwitch { pk 65536 with tag := 1 } 1) = false := by decide
theorem test_wf_row_partition : Instr.wf (.pcieFlr 0 8) = false := by decide
theorem test_wf_event_source : Instr.wf (.eventHoldoffEnd 0 7 512) = false := by decide
theorem test_wf_ring : Instr.wf (.pltRingConsWrite 0 0 4 0) = false := by decide
theorem test_wf_recorder : Instr.wf (.recPointEvaluate 0 64) = false := by decide
theorem test_wf_slot : Instr.wf (.keyUpdateCommitted 0 256) = false := by decide
theorem test_wf_port : Instr.wf (.linkDown 0 24) = false := by decide
theorem test_wf_time_base : Instr.wf (.tbSourceLoss 0 4) = false := by decide
theorem test_wf_offset : Instr.wf (.registerWrite 0 0 1048576 32 0) = false := by decide
theorem test_wf_width : Instr.wf (.registerWrite 0 0 0 24 0) = false := by decide
theorem test_wf_stream : Instr.wf (.pmuCmdDeferred 0 16384) = false := by decide
theorem test_wf_station : Instr.wf (.stationTalExpiry 0 128) = false := by decide
theorem test_wf_fsn : Instr.wf (.platformWrite 0 0 4294967296) = false := by decide
theorem test_wf_group : Instr.wf (.departureOverdue 0 16 0) = false := by decide
theorem test_wf_dataset : Instr.wf (.gooseRepeat 0 64) = false := by decide
theorem test_wf_logic_input : Instr.wf (.alReadbackMismatch 0 8) = false := by decide
theorem test_wf_pulse_input : Instr.wf (.piCrossCheck 0 16) = false := by decide
theorem test_wf_pulse_output : Instr.wf (.poPulsePhaseEnd 0 8) = false := by decide
theorem test_wf_sentinel : Instr.wf (.sentinelReading 0 32 0) = false := by decide
theorem test_wf_cluster : Instr.wf (.clusterDrained 0 16) = false := by decide
theorem test_wf_fault_cause : Instr.wf (.clusterFault 0 0 3) = false := by decide
theorem test_wf_tamper_code : Instr.wf (.tamperSourceCleared 0 8) = false := by decide
theorem test_wf_selftest : Instr.wf (.selftestDone 0 32) = false := by decide

/-! ## Figures that the manual works out -/

/-- 02_timetable, HM17: 13.60 × 120 = 1,632. -/
theorem test_cost_hm17 : costRate 0 120 16 0 0 = 1632 := by decide

/-- 02_timetable, HM17: 1,088 bytes; 04_platform, HM33: 1,504 bytes. -/
theorem test_demand_examples : platformDemand 16 120 20000 = 1088 ∧ platformDemand 10 50 150000 = 1504 := by decide

/-- 02_timetable, Table 02-4: MC_6 is chosen, at 3,353,632. -/
theorem test_choose_mc6 :
    ({ rdy with sch := { rdy.sch with clusters := [4, 5, 6, 7].map (fun k => (k, { state := .inService })) } } : State).chooseCluster 1632 0x00F0 (fun k => if k = 4 then 3390000 else if k = 5 then 3380000 else if k = 6 then 3352000 else 3395500) [] = some (6, 3353632) := by
  decide

/-- 02_timetable, Table 02-5: WF-B, then WF-A, then WF-C. -/
theorem test_shed_order :
    (({ rdy with tt := { rdy.tt with contracts :=
        [(1, { record0 with priority := 3, admitted := 33150, cluster := 2 }), (2, { record0 with priority := 3, admitted := 38411, cluster := 2 }),
         (3, { record0 with priority := 2, admitted := 39902, cluster := 2 })] } } : State).shedOrder 2).map (·.1) = [2, 1, 3] := by
  decide

/-- 07_oscillation: BD_40 has 250 samples and primes over 417; BD_600 has 800 and primes over 880. -/
def bd (lo hi : BitVec 32) (ms : Nat) : OscDetSet :=
  { det := 40, src := 0, qty := 2, group := 0, order := 4, enable := true, sourceId := 0, ch := 0, refCh := 0, refStream := 0, badPm := 100
    fLow := lo, fHigh := hi, winMs := ms, level := 0, hyst := 0, persist := 24 }

theorem test_detector_windows :
    detWindow 5000 50 = 250 ∧ detPrime (bd 0x3DCCCCCD 0x3F800000 5000) 50 = 417 ∧ detWindow 200 4000 = 800 ∧
    detPrime (bd 0x43AF0000 0x43FA0000 200) 4000 = 880 := by decide

/-- 08_coherency: Nw = round(200 × 50 ÷ 1,000) = 10. -/
theorem test_coherency_window : cohWindow 200 50 = 10 := by decide

/-- 10_recorders: REC_5 takes 389,120 bytes a record; the crossings of Ia and Ib have TRIG_FRAC 64 and 176. -/
def rec5 : RecSet :=
  { recorder := 5, kind := 1, autoRearm := true, overwrite := false, streamOut := false, fnom60 := false, avg := 1, channels := 8, pre := 800, post := 3200
    segMib := 64, closeMs := 25, station := 0 }

theorem test_record_bytes : recBytes rec5 = 389120 := by decide

theorem test_crossings : crossing (frac 4000) (frac 3400) (frac 5800) = some 64 ∧ crossing (frac 4000) (frac 2900) (frac 4500) = some 176 := by decide

/-- 14_hosts, Table 14-12: a raise in the hold-off of its source waits as one record, and the ring holds one. -/
def stormy : State := { rdy with hst := { rdy.hst with parts := [(0, ownerPart), (2, { state := .created, ev := { size := 65536 } })] } }

theorem test_storm :
    (let p := ((stormy.raiseEvent 2 0x121 0x801).raiseEvent 2 0x121 0x802).part 2
     p.ev.prod = 32 ∧ (tget 0x121 p.ev.latches).map (fun l => l.pending.map (fun r => r.count)) = some (some 1)) := by decide

/-- 16_safety, Table 16-6: an injected FS_64 does not escalate FS_65, which escalates a real FS_64 to 2. -/
def boxed (l : List FaultRec) : State :=
  { rdy with
    hst := { rdy.hst with parts := [(0, ownerPart), (2, { state := .created, safety := true })] }
    flt := { rdy.flt with history := l } }

def injected64 : FaultRec := rdy.faultRecord 64 6 3 0 true false false

theorem test_escalation :
    injected64.effective = 1 ∧ ((boxed [injected64]).faultRecord 65 6 0 0 false true true).effective = 3 ∧
    ((boxed [(boxed []).faultRecord 65 6 0 0 false true true, injected64]).faultRecord 64 6 0 0 true true true).effective = 2 := by decide

/-! ## The table's words -/

/-- The table gives no bits, so no word spells a command. -/
theorem test_no_words : decodeTableWord 32 0 = none ∧ State.reset.withFetchWord 32 0 = State.reset := ⟨rfl, rfl⟩

/-! ## One step -/

theorem test_idle : step State.reset = .next State.reset := rfl

theorem test_front : step { State.reset with pending := [.porNFall 7] } = exec (.porNFall 7) State.reset := rfl

end Sys2Proof.Tests
end

section
/-!
PROOFS. The timetable: the cost rate of a contract (02_timetable R46, Table 02-1) and who may read and write the TT_ window of BAR0 (R76).
-/
namespace Sys2Proof.Machine

/-! ## Rounding up -/

/-- Rounding up is adjoint to multiplying back: the whole numbers not below the exact quotient are those not below `ceilDiv`. -/
theorem ceilDiv_le_iff {a b n : Nat} (hb : 0 < b) : ceilDiv a b ≤ n ↔ a ≤ b * n := by
  have h : ceilDiv a b = a ⌈/⌉ b := (Nat.ceilDiv_eq_add_pred_div a b).symm
  rw [h, ceilDiv_le_iff_le_mul hb]

/-! ## The TT_ window of BAR0 -/

/-- The offsets of TT_PROFILE, TT_STATUS, TT_FUSED_RATED and TT_SPEED_n in the TT_ window (R76). -/
def ttOpen (o : Nat) : Prop := o = 0 ∨ o = 4 ∨ o = 8 ∨ ∃ i, i < 32 ∧ o = 0x40 + 4 * i

/-- The offsets of TT_PLT_COMMIT, TT_COUNTS, TT_CH_COMMIT, and of TT_CL_COMMIT_n and TT_CL_LIMIT_n, which alternate (R76). -/
def ttGuarded (o : Nat) : Prop := o = 0x10 ∨ o = 0x18 ∨ o = 0x1C ∨ ∃ i, i < 32 ∧ o = 0x100 + 4 * i

theorem ttOpen_lt {o : Nat} (h : ttOpen o) : o < 0x1000 := by
  obtain rfl | rfl | rfl | ⟨i, hi, rfl⟩ := h <;> omega

theorem ttGuarded_lt {o : Nat} (h : ttGuarded o) : o < 0x1000 := by
  obtain rfl | rfl | rfl | ⟨i, hi, rfl⟩ := h <;> omega

theorem inArray_iff {o base n stride : Nat} : inArray o base n stride = true ↔ base ≤ o ∧ o < base + n * stride := by
  simp [inArray]

/-- The registers open to every partition read the same with and without OBSERVE_FULL. -/
theorem State.ttReg_of_ttOpen (s : State) {o : Nat} (h : ttOpen o) (full full' : Bool) : s.ttReg full o = s.ttReg full' o := by
  obtain rfl | rfl | rfl | ⟨i, hi, rfl⟩ := h
  · rfl
  · rfl
  · rfl
  · have hspeed : inArray (0x40 + 4 * i) 0x40 32 4 = true := inArray_iff.mpr (by omega)
    simp [State.ttReg, hspeed]

/-- The guarded registers lie outside the TT_SPEED array, so without OBSERVE_FULL they read 0. -/
theorem State.ttReg_of_ttGuarded (s : State) {o : Nat} (h : ttGuarded o) : s.ttReg false o = 0 := by
  obtain rfl | rfl | rfl | ⟨i, hi, rfl⟩ := h
  · rfl
  · rfl
  · rfl
  · have hspeed : ¬ inArray (0x100 + 4 * i) 0x40 32 4 = true := by rw [inArray_iff]; omega
    have hbelow : ∀ c, c < 0x100 → 0x100 + 4 * i ≠ c := fun c hc => by omega
    simp [State.ttReg, hspeed, hbelow]

/-- Window 1 of BAR0 is the TT_ window, for a partition that has its BAR0 in a started device. -/
theorem State.liveReg_tt (s : State) (n : Nat) {o : Nat} (ho : o < 0x1000) :
    s.liveReg n (0x1000 + o) = if (s.part n).state == .absent || !s.pwr.startupDone then 0 else s.ttReg (s.observes n) o := by
  have hwin : (0x1000 + o) / 4096 = 1 := by omega
  have hoff : (0x1000 + o) % 4096 = o := by omega
  have hid : ((0x1000 + o) == 0xC000) = false := by simp; omega
  simp [State.liveReg, State.windowReg, hwin, hoff, hid]

theorem State.writeWord_tt (s : State) (n v : Nat) {o : Nat} (ho : o < 0x1000) : s.writeWord n (0x1000 + o) v = s.ttWrite n o v := by
  have hwin : (0x1000 + o) / 4096 = 1 := by omega
  have hoff : (0x1000 + o) % 4096 = o := by omega
  simp [State.writeWord, hwin, hoff]

theorem State.ttWrite_of_ne_owner (s : State) {n : Nat} (hn : n ≠ 0) (o v : Nat) : s.ttWrite n o v = s := by
  simp [State.ttWrite, hn]

/-- A write to the TT_ window by a partition other than the owner is ignored; the second word of an aligned 64-bit write still lies in the window. -/
theorem State.barWrite_tt_of_ne_owner (s : State) {n o : Nat} (hn : n ≠ 0) (ho : o < 0x1000) (w v : Nat) : s.barWrite n (0x1000 + o) w v = s := by
  have hword : ∀ o' v', o' < 0x1000 → s.writeWord n (0x1000 + o') v' = s := fun o' v' ho' => by
    rw [s.writeWord_tt n v' ho', s.ttWrite_of_ne_owner hn]
  unfold State.barWrite
  split
  · rfl
  split
  · exact hword o _ ho
  split
  next halign =>
    have hhigh : o + 4 < 0x1000 := by
      simp only [Bool.and_eq_true, beq_iff_eq] at halign
      omega
    rw [hword o _ ho, Nat.add_assoc, hword (o + 4) _ hhigh]
  · rfl

theorem exec_registerWrite_eq (t n off w v : Nat) (s : State) :
    exec (.registerWrite t n off w v) s = .next ((s.at t).barWrite n off w v) := rfl

end Sys2Proof.Machine

namespace Sys2Proof.Proofs

open Sys2Proof.Machine

/-- Settles O46: each row of Table 02-1 is one `ceilDiv` by 100, which is the least whole number not below the exact sum. -/
theorem costOfAContract : Obligations.CostOfAContract := by
  have hcost : ∀ a n : Nat, ceilDiv a 100 ≤ n ↔ a ≤ 100 * n := fun _ _ => ceilDiv_le_iff (by decide)
  refine ⟨fun rate channels outRate outChannels n => ⟨?_, ?_, ?_, ?_⟩, fun _ _ _ => rfl, fun _ _ => rfl⟩
  · exact hcost ((400 + 60 * channels) * rate) n
  · exact hcost ((400 + 75 * channels) * rate) n
  · exact hcost ((480 + 60 * channels) * rate) n
  · exact hcost (160 * rate + (200 + 60 * outChannels) * outRate) n

/-- Settles O47: the TT_ window depends on the partition only through OBSERVE_FULL, and takes writes of the owner alone. -/
theorem timetableRegisters : Obligations.TimetableRegisters := by
  refine ⟨fun s n m o hn hm ho => ?_, fun s n o hobs ho => ?_, fun t n o v w s hn ho => ?_⟩
  · rw [s.liveReg_tt n (ttOpen_lt ho), s.liveReg_tt m (ttOpen_lt ho), s.ttReg_of_ttOpen ho (s.observes n) (s.observes m)]
    simp [hn, hm]
  · rw [s.liveReg_tt n (ttGuarded_lt ho), hobs, s.ttReg_of_ttGuarded ho, ite_self]
  · rw [exec_registerWrite_eq, (s.at t).barWrite_tt_of_ne_owner hn ho]

end Sys2Proof.Proofs
end

section
/-!
PROOFS. The hosts: the snapshots of BAR0 and the shadow that serves their reads (14_hosts R532), and the opcodes of Table 14-7 (R418).
-/
namespace Sys2Proof.Machine

/-! ## Tables: what a write leaves, and what a deletion leaves -/

theorem tget_tset_of_ne {α : Type} {k j : Nat} (hkj : k ≠ j) (x : α) (t : Table α) : tget k (tset j x t) = tget k t := by
  induction t with
  | nil => simp [tset, tget, hkj]
  | cons e r ih =>
    obtain ⟨i, v⟩ := e
    simp only [tset]
    split
    · simp [tget, hkj]
    split
    next hji => simp [tget, hkj, ← hji]
    · simp only [tget, ih]

theorem tget_eq_none_of_forall_ne {α : Type} {k : Nat} {t : Table α} (h : ∀ j ∈ t.map (·.1), k ≠ j) : tget k t = none := by
  induction t with
  | nil => rfl
  | cons e r ih =>
    obtain ⟨hne, hr⟩ := List.forall_mem_cons.mp h
    simp only [tget, if_neg hne, ih hr]

theorem tdel_sublist {α : Type} (k : Nat) (t : Table α) : (tdel k t).Sublist t := by
  induction t with
  | nil => exact .slnil
  | cons e r ih =>
    simp only [tdel]
    split
    · exact List.sublist_cons_self e r
    · exact ih.cons_cons e

/-- Keys that rise strictly stay so when one is deleted. -/
theorem tdel_keys_rise {α : Type} (k : Nat) {t : Table α} (h : (t.map (·.1)).Pairwise (· < ·)) : ((tdel k t).map (·.1)).Pairwise (· < ·) :=
  h.sublist ((tdel_sublist k t).map _)

/-- Where keys rise strictly a key stands once, so its deletion leaves no entry of it. -/
theorem tget_tdel_same {α : Type} (k : Nat) {t : Table α} (h : (t.map (·.1)).Pairwise (· < ·)) : tget k (tdel k t) = none := by
  induction t with
  | nil => rfl
  | cons e r ih =>
    obtain ⟨habove, hr⟩ := List.pairwise_cons.mp h
    simp only [tdel]
    split
    next hk => exact tget_eq_none_of_forall_ne fun j hj => hk ▸ (habove j hj).ne
    next hk => simp only [tget, if_neg hk, ih hr]

/-- Writing a list of entries leaves every key that is not among theirs. -/
theorem tget_foldl_tset_of_forall_ne {α : Type} {key : Nat → Nat} {k : Nat} (val : Nat → α) (offs : List Nat) (t : Table α) (h : ∀ o ∈ offs, k ≠ key o) :
    tget k (offs.foldl (fun t o => tset (key o) (val o) t) t) = tget k t := by
  induction offs generalizing t with
  | nil => rfl
  | cons o offs ih =>
    obtain ⟨hne, hrest⟩ := List.forall_mem_cons.mp h
    rw [List.foldl_cons, ih _ hrest, tget_tset_of_ne hne]

/-- Writing a list of entries with keys of their own leaves each of them to be read. -/
theorem tget_foldl_tset_of_mem {α : Type} {key : Nat → Nat} (hkey : Function.Injective key) (val : Nat → α) {offs : List Nat} (t : Table α) {o : Nat}
    (ho : o ∈ offs) : tget (key o) (offs.foldl (fun t o => tset (key o) (val o) t) t) = some (val o) := by
  induction offs generalizing t with
  | nil => cases ho
  | cons x offs ih =>
    rw [List.foldl_cons]
    by_cases hlater : o ∈ offs
    · exact ih _ hlater
    · obtain rfl : o = x := (List.mem_cons.mp ho).resolve_right hlater
      have hne : ∀ y ∈ offs, key o ≠ key y := fun y hy he => hlater (hkey he ▸ hy)
      rw [tget_foldl_tset_of_forall_ne val offs _ hne, tget_tset_same]

/-! ## Snapshots (R532) -/

theorem shadowKey_injective (n : Nat) : Function.Injective (shadowKey n) := fun a b h => by
  simp only [shadowKey] at h
  omega

/-- Offsets within BAR0 keep the shadows of two partitions apart. -/
theorem shadowKey_eq_iff {m n o x : Nat} (ho : o < 1048576) (hx : x < 1048576) : shadowKey m o = shadowKey n x ↔ m = n ∧ o = x := by
  simp only [shadowKey]
  omega

theorem State.snap_shadow_of_mem (s : State) (n : Nat) {offs : List Nat} {o : Nat} (ho : o ∈ offs) :
    tget (shadowKey n o) (s.snap n offs).hst.shadow = some (s.liveReg n o) :=
  tget_foldl_tset_of_mem (shadowKey_injective n) (s.liveReg n) s.hst.shadow ho

theorem State.snap_shadow_of_not_captured (s : State) {n m o : Nat} {offs : List Nat} (ho : o < 1048576) (hoffs : ∀ x ∈ offs, x < 1048576)
    (h : m ≠ n ∨ o ∉ offs) : tget (shadowKey m o) (s.snap n offs).hst.shadow = tget (shadowKey m o) s.hst.shadow := by
  refine tget_foldl_tset_of_forall_ne (s.liveReg n) offs s.hst.shadow fun x hx he => ?_
  obtain ⟨rfl, rfl⟩ := (shadowKey_eq_iff ho (hoffs x hx)).mp he
  exact h.elim (fun hm => hm rfl) (fun hn => hn hx)

theorem State.snapIf_of_written (s : State) {n v : Nat} {allowed : Bool} (offs : List Nat) (hv : v.testBit 0 = true) (ha : allowed = true)
    (hopen : s.barOpen n = true) : s.snapIf n v allowed offs = s.snap n offs := by
  simp only [State.snapIf, hv, ha, hopen, Bool.and_self, if_true]

theorem State.snapIf_of_ignored (s : State) (n : Nat) {v : Nat} {allowed : Bool} (offs : List Nat) (h : v.testBit 0 = false ∨ allowed = false) :
    s.snapIf n v allowed offs = s := by
  obtain hv | ha := h
  · simp only [State.snapIf, hv, Bool.false_and, Bool.false_eq_true, if_false]
  · simp only [State.snapIf, ha, Bool.and_false, Bool.false_and, Bool.false_eq_true, if_false]

theorem State.barOpen_at (s : State) (t n : Nat) : (s.at t).barOpen n = s.barOpen n := rfl

/-- A row answers with registers captured at its stamp in the partition's shadow, and with nothing else changed. -/
def Captures (t n : Nat) (offs : List Nat) (s : State) (out : Host.Outcome State Fault Refusal) : Prop :=
  ∃ e, out = .next e ∧ (∀ o ∈ offs, tget (shadowKey n o) e.hst.shadow = some ((s.at t).liveReg n o)) ∧
    e = { s.at t with hst := { s.hst with shadow := e.hst.shadow } }

theorem captures_of_written {t n v : Nat} {s : State} {allowed : Bool} {offs : List Nat} (hopen : s.barOpen n = true) (hv : v.testBit 0 = true)
    (ha : allowed = true) : Captures t n offs s (event t s (fun s => s.snapIf n v allowed offs)) :=
  ⟨(s.at t).snap n offs, event_next ((s.at t).snapIf_of_written offs hv ha ((s.barOpen_at t n).trans hopen)), fun _ ho => (s.at t).snap_shadow_of_mem n ho, rfl⟩

/-- The snapshot registers that capture for whichever partition writes them, each with the registers that it covers. -/
def openSnapshots (t n v : Nat) : List (Instr × List Nat) :=
  [(.pltCntSnapWrite t n v, regOffsets 0x3040 8), (.wchCntSnapWrite t n v, regOffsets 0x4040 12), (.nrgSnapWrite t n v, regOffsets 0x5100 32),
   (.oscCntSnapWrite t n v, regOffsets 0x6040 6), (.cohCntSnapWrite t n v, regOffsets 0x7040 6), (.alcCntSnapWrite t n v, regOffsets 0x8040 8),
   (.recCntSnapWrite t n v, regOffsets 0x9040 7), (.schCntSnapWrite t n v, regOffsets 0xA040 6), (.tbCntSnapWrite t n v, regOffsets 0xB040 8),
   (.tbNowSnapWrite t n v, regOffsets 0xB000 8), (.keyCntSnapWrite t n v, regOffsets 0x10040 10)]

theorem exec_openSnapshots (t n v : Nat) (s : State) : ∀ r ∈ openSnapshots t n v, exec r.1 s = event t s (fun s => s.snapIf n v true r.2) := by
  simp only [openSnapshots, List.forall_mem_cons, List.not_mem_nil, false_imp_iff, implies_true, and_true]
  exact ⟨rfl, rfl, rfl, rfl, rfl, rfl, rfl, rfl, rfl, rfl, rfl⟩

theorem exec_ingCntSnapWrite (t n v : Nat) (s : State) :
    exec (.ingCntSnapWrite t n v) s = event t s (fun s => s.snapIf n v (n == 0) (regOffsets 0x2040 13)) := rfl

theorem exec_prtCntSnapWrite (t n p v : Nat) (s : State) :
    exec (.prtCntSnapWrite t n p v) s = event t s (fun s => s.snapIf n v (decide (p < 24)) (regOffsets (0x18100 + 1024 * p) 55)) := rfl

/-! ## Reads of the shadow (R532) -/

theorem State.readWord_of_captured {s : State} {n off v : Nat} (h : tget (shadowKey n off) s.hst.shadow = some v) :
    s.readWord n off =
      (if s.shadowSeen n off then v else 0, { s with hst := { s.hst with shadow := tdel (shadowKey n off) s.hst.shadow } }) := by
  simp only [State.readWord, h]

/-- A read that latches TB_NOW_HI_n (R367) is itself live. -/
theorem State.readWord_live {s : State} {n off : Nat} (h : tget (shadowKey n off) s.hst.shadow = none) : (s.readWord n off).1 = s.liveReg n off := by
  simp only [State.readWord, h]
  split <;> rfl

theorem State.barRead_pair (s : State) (n : Nat) {off : Nat} (h : off % 8 = 0) :
    s.barRead n off 64 = ((s.readWord n off).1 + 4294967296 * ((s.readWord n off).2.readWord n (off + 4)).1, ((s.readWord n off).2.readWord n (off + 4)).2) := by
  simp only [State.barRead, h, BEq.rfl, Bool.and_self, if_true]

/-! ## The opcodes of Table 14-7 (R418) -/

/-- The groups of Table 14-7, each with the number of its opcodes. -/
def opcodeGroups : List (Nat × Nat) :=
  [(0x00, 15), (0x01, 7), (0x02, 7), (0x03, 7), (0x04, 5), (0x05, 5), (0x06, 5), (0x07, 4), (0x08, 9), (0x09, 8), (0x0A, 5), (0x0B, 7), (0x0C, 8),
   (0x0D, 11), (0x0E, 6), (0x0F, 8), (0x7F, 5)]

theorem groupLengths_length_of_mem : ∀ e ∈ opcodeGroups, (groupLengths e.1).length = e.2 := by decide

theorem opcodeGroups_le : ∀ e ∈ opcodeGroups, e.2 ≤ 256 := by decide

theorem mem_opcodeGroups_of_lt {n g : Nat} (h : n < (groupLengths g).length) : (g, (groupLengths g).length) ∈ opcodeGroups := by
  fun_cases groupLengths g
  case case18 => simp [groupLengths] at h
  all_goals decide

theorem opcodeKnown_iff (op : Nat) : opcodeKnown op = true ↔ ∃ e ∈ opcodeGroups, e.1 * 256 ≤ op ∧ op < e.1 * 256 + e.2 := by
  simp only [opcodeKnown, decide_eq_true_eq]
  constructor
  · intro h
    exact ⟨_, mem_opcodeGroups_of_lt h, by omega, by omega⟩
  · rintro ⟨e, he, hlow, hhigh⟩
    have hle := opcodeGroups_le e he
    have hgroup : op / 256 = e.1 := by omega
    rw [hgroup, groupLengths_length_of_mem e he]
    omega

theorem exec_unknownOpcode (h : Pkt) {op : Nat} (s : State) (hop : opcodeKnown op = false) :
    exec (.unknownOpcode h op) s = cmd (.unknownOpcode h op) { op := op, len := none, ro := true } h s (fun s => refuse s stBadOpcode 2) := by
  change execUnknownOpcode h op s = _
  simp only [execUnknownOpcode, hop, Bool.false_eq_true, if_false]

/-- The check that heads every command of 0x7Fxx turns it away outside the Placement profile. -/
theorem check_refuses_outside_placement {s : State} (hp : s.tt.profile ≠ .placement) (cs : List (Option (Nat × Nat))) (k : Unit → CmdOut) :
    check s (failIf (s.tt.profile != .placement) stWrongState 0 :: cs) k = refuse s stWrongState 0 := by
  have hfail : (s.tt.profile != .placement) = true := bne_iff_ne.mpr hp
  simp only [check, failIf, hfail, if_true, firstBad_some]

theorem onPlaced_refuses_outside_placement {s : State} (hp : s.tt.profile ≠ .placement) (h : Pkt) (stream : Nat) (k : PlacedStream → CmdOut) :
    onPlaced s h stream k = refuse s stWrongState 0 :=
  check_refuses_outside_placement hp _ _

end Sys2Proof.Machine

namespace Sys2Proof.Proofs

open Sys2Proof.Machine

/-- Settles O52: a capture writes entries of one partition's keys, each from the state of the row's stamp, and a read deletes the entry that it takes. -/
theorem snapshotsServeOneRead : Obligations.SnapshotsServeOneRead := by
  refine ⟨fun t n v s hopen => ⟨fun f offs hrow => ?_, fun hv hn => ?_, fun p hv hp => ?_, fun hn => ?_⟩,
    fun s n offs => ⟨fun o ho => s.snap_shadow_of_mem n ho, fun m o _ _ ho hoffs h => s.snap_shadow_of_not_captured ho hoffs h⟩,
    fun s n off v hcap => ?_, fun s n off hlive => State.readWord_live hlive, fun s n off halign => ?_,
    fun t n off ht => ⟨tget_tdel_same _ ht, tdel_keys_rise _ ht⟩⟩
  · have hexec : exec f s = event t s (fun s => s.snapIf n v true offs) := exec_openSnapshots t n v s (f, offs) hrow
    rw [hexec]
    exact ⟨fun hv => captures_of_written hopen hv rfl, fun hv => event_next ((s.at t).snapIf_of_ignored n offs (.inl hv))⟩
  · subst hn
    exact captures_of_written hopen hv rfl
  · exact captures_of_written hopen hv (decide_eq_true hp)
  · rw [exec_ingCntSnapWrite]
    exact event_next ((s.at t).snapIf_of_ignored n _ (.inr (beq_false_of_ne hn)))
  · rw [State.readWord_of_captured hcap]
    exact ⟨rfl, rfl⟩
  · rw [s.barRead_pair n halign]
    exact ⟨rfl, rfl⟩

/-- Settles O53: the lengths by opcode group are Table 14-7, and the first check of each command of 0x7Fxx is the profile. -/
theorem opcodesOfTheTable : Obligations.OpcodesOfTheTable := by
  refine ⟨opcodeKnown_iff, fun h op s s1 hop hs => ?_, fun h p n s s1 hp => ?_⟩
  · rw [exec_unknownOpcode h s hop]
    exact cmd_answers hs rfl
  · have hcheck := check_refuses_outside_placement hp
    have hplaced := onPlaced_refuses_outside_placement hp
    exact ⟨fun hs => cmd_answers hs (hcheck _ _), fun hs => cmd_answers hs (hplaced h n _), fun hs => cmd_answers hs (hplaced h n _),
      fun hs => cmd_answers hs (hcheck _ _), fun hs => cmd_answers hs (hcheck _ _)⟩

end Sys2Proof.Proofs
end

section
/-!
PROOFS. The signal box: the fault history and what it displaces (16_safety R473, R474), and the FLT_ window of BAR0 (R490).
-/
namespace Sys2Proof.Machine

/-! ## Masks -/

theorem maskOf_cons (b : Bool) (l : List Bool) : maskOf (b :: l) = Nat.bit b (maskOf l) := by
  cases b <;> simp [maskOf, b2n, Nat.bit]

theorem testBit_maskOf (l : List Bool) (i : Nat) : (maskOf l).testBit i = l.getD i false := by
  induction l generalizing i with
  | nil => simp [maskOf]
  | cons b l ih =>
    rw [maskOf_cons]
    cases i with
    | zero => rw [Nat.testBit_bit_zero, List.getD_cons_zero]
    | succ i => rw [Nat.testBit_bit_succ, ih, List.getD_cons_succ]

theorem testBit_maskWord (n : Nat) (f : Nat → Bool) {i : Nat} (hi : i < 32) : (maskWord n f).testBit i = f (32 * n + i) := by
  rw [maskWord, testBit_maskOf]
  simp [hi]

/-! ## The FLT_ window of BAR0 (R490) -/

/-- Window 0x11 of BAR0 is the FLT_ window, for a partition that has its BAR0 in a started device. -/
theorem State.liveReg_flt (s : State) {n o : Nat} (hpart : (s.part n).state ≠ .absent) (hstart : s.pwr.startupDone = true) (ho : o < 0x1000) :
    s.liveReg n (0x11000 + o) = s.fltReg o := by
  have hwin : (0x11000 + o) / 4096 = 0x11 := by omega
  have hoff : (0x11000 + o) % 4096 = o := by omega
  have hid : ((0x11000 + o) == 0xC000) = false := by simp; omega
  simp [State.liveReg, State.windowReg, hpart, hstart, hwin, hoff, hid]

theorem State.writeWord_flt (s : State) (n v : Nat) {o : Nat} (ho : o < 0x1000) : s.writeWord n (0x11000 + o) v = s := by
  have hwin : (0x11000 + o) / 4096 = 0x11 := by omega
  simp [State.writeWord, hwin]

/-- A window whose words ignore their writes ignores every access: the second word of an aligned 64-bit write lies in the window too. -/
theorem State.barWrite_of_writeWord_ignored {s : State} {n base o : Nat} (hbase : base % 4096 = 0)
    (hword : ∀ o' v', o' < 0x1000 → s.writeWord n (base + o') v' = s) (ho : o < 0x1000) (w v : Nat) : s.barWrite n (base + o) w v = s := by
  unfold State.barWrite
  split
  · rfl
  split
  · exact hword o _ ho
  split
  next halign =>
    have hhigh : o + 4 < 0x1000 := by
      simp only [Bool.and_eq_true, beq_iff_eq] at halign
      omega
    rw [hword o _ ho, Nat.add_assoc, hword (o + 4) _ hhigh]
  · rfl

/-- FLT_UNACK_n is a word of the sources that have an unacknowledged record. -/
theorem State.fltReg_unack (s : State) {i : Nat} (hi : i < 8) : s.fltReg (0x060 + 4 * i) = maskWord i s.unackSource := by
  have hlow : 0x060 + 4 * i ≠ 0 := by omega
  have hfirst : ¬ inArray (0x060 + 4 * i) 0x020 8 4 = true := by rw [inArray_iff]; omega
  have hactive : ¬ inArray (0x060 + 4 * i) 0x040 8 4 = true := by rw [inArray_iff]; omega
  have hunack : inArray (0x060 + 4 * i) 0x060 8 4 = true := inArray_iff.mpr (by omega)
  simp [State.fltReg, hfirst, hactive, hunack]

/-- An unacknowledged record sets its source's bit in FLT_UNACK_n. -/
theorem State.fltReg_unack_testBit {s : State} {q : FaultRec} (hq : q ∈ s.unacked) (hsrc : q.source < 256) :
    (s.fltReg (0x060 + 4 * (q.source / 32))).testBit (q.source % 32) = true := by
  rw [s.fltReg_unack (by omega), testBit_maskWord _ _ (by omega), Nat.div_add_mod]
  exact List.any_eq_true.mpr ⟨q, hq, beq_self_eq_true _⟩

/-! ## Putting a record into the history (R473, R474) -/

/-- A record once a simultaneous one has been recorded: it carries SIMULTANEOUS. -/
def FaultRec.marked (r q : FaultRec) : FaultRec := if q.stamp == r.stamp then { q with simultaneous := true } else q

/-- The history with a record put in, before what exceeds 32 is cut off. -/
def FaultSt.grown (f : FaultSt) (r : FaultRec) : List FaultRec := insertFault r (f.history.map r.marked)

theorem FaultSt.push_history (f : FaultSt) (r : FaultRec) : (f.push r).history = (f.grown r).take 32 := rfl

theorem FaultSt.push_lost (f : FaultSt) (r : FaultRec) : (f.push r).lost = f.lost + BitVec.ofNat 32 ((f.grown r).drop 32).length := rfl

theorem FaultSt.push_unackDisplaced (f : FaultSt) (r : FaultRec) :
    (f.push r).unackDisplaced = ((f.grown r).drop 32).filter (fun q => !q.acked) ++ f.unackDisplaced := rfl

theorem FaultSt.push_head? (f : FaultSt) (r : FaultRec) : (f.push r).history.head? = (f.grown r).head? := by
  rw [f.push_history, List.head?_take, if_neg (by decide)]

/-- `q'` is what the record `q` has become once `r` is recorded: only one simultaneous with `r` takes another number. -/
structure FaultRec.Follows (r q q' : FaultRec) : Prop where
  source : q'.source = q.source
  acked : q'.acked = q.acked
  stamp : q'.stamp = q.stamp
  seq : q.stamp ≠ r.stamp → q'.seq = q.seq

theorem FaultRec.Follows.trans {r q q' q'' : FaultRec} (h : r.Follows q q') (h' : r.Follows q' q'') : r.Follows q q'' where
  source := h'.source.trans h.source
  acked := h'.acked.trans h.acked
  stamp := h'.stamp.trans h.stamp
  seq hne := (h'.seq (h.stamp ▸ hne)).trans (h.seq hne)

theorem FaultRec.marked_of_ne {r q : FaultRec} (h : q.stamp ≠ r.stamp) : r.marked q = q := by
  simp [FaultRec.marked, h]

@[simp] theorem FaultRec.marked_stamp (r q : FaultRec) : (r.marked q).stamp = q.stamp := by
  unfold FaultRec.marked
  split <;> rfl

@[simp] theorem FaultRec.marked_source (r q : FaultRec) : (r.marked q).source = q.source := by
  unfold FaultRec.marked
  split <;> rfl

@[simp] theorem FaultRec.marked_seq (r q : FaultRec) : (r.marked q).seq = q.seq := by
  unfold FaultRec.marked
  split <;> rfl

@[simp] theorem FaultRec.before_marked (r q : FaultRec) : r.before (r.marked q) = r.before q := by
  unfold FaultRec.marked
  split <;> rfl

theorem FaultRec.follows_marked (r q : FaultRec) : r.Follows q (r.marked q) := by
  unfold FaultRec.marked
  split <;> exact ⟨rfl, rfl, rfl, fun _ => rfl⟩

@[simp] theorem FaultRec.after_source (q r : FaultRec) : (q.after r).source = q.source := by
  unfold FaultRec.after
  split <;> rfl

@[simp] theorem FaultRec.after_acked (q r : FaultRec) : (q.after r).acked = q.acked := by
  unfold FaultRec.after
  split <;> rfl

@[simp] theorem FaultRec.after_stamp (q r : FaultRec) : (q.after r).stamp = q.stamp := by
  unfold FaultRec.after
  split <;> rfl

@[simp] theorem FaultRec.after_seq (q r : FaultRec) : (q.after r).seq = q.seq + 1 := by
  unfold FaultRec.after
  split <;> rfl

theorem FaultRec.follows_after {r q : FaultRec} (h : q.stamp = r.stamp) : r.Follows q (q.after r) :=
  ⟨q.after_source r, q.after_acked r, q.after_stamp r, fun hne => absurd h hne⟩

theorem FaultRec.before_iff (r q : FaultRec) : r.before q = true ↔ q.declared < r.declared ∨ (r.declared = q.declared ∧ r.source < q.source) := by
  simp [FaultRec.before]

theorem insertFault_length (r : FaultRec) (l : List FaultRec) : (insertFault r l).length = l.length + 1 := by
  induction l generalizing r with
  | nil => rfl
  | cons q l ih =>
    simp only [insertFault]
    split
    · rw [List.length_cons, ih, List.length_cons]
    · rfl

/-- A record that comes after the newest one, or at another stamp, is put above it. -/
theorem insertFault_cons_of_not {r q : FaultRec} (l : List FaultRec) (h : ¬ (q.stamp = r.stamp ∧ r.before q = true)) :
    insertFault r (q :: l) = r :: q :: l := by
  rw [insertFault, if_neg (by simpa using h)]

/-- A record that comes before the simultaneous newest one leaves that above it. -/
theorem insertFault_cons_of_before {r q : FaultRec} (l : List FaultRec) (hstamp : q.stamp = r.stamp) (hbefore : r.before q = true) :
    insertFault r (q :: l) = q.after r :: insertFault { r with seq := r.seq - 1 } l := by
  rw [insertFault, if_pos (by simp [hstamp, hbefore])]

theorem insertFault_of_forall_ne {r : FaultRec} {l : List FaultRec} (h : ∀ q ∈ l, q.stamp ≠ r.stamp) : insertFault r l = r :: l := by
  cases l with
  | nil => rfl
  | cons q l => exact insertFault_cons_of_not l fun hq => h q List.mem_cons_self hq.1

/-- No record is lost by putting another one in. -/
theorem exists_follows_mem_insertFault {q : FaultRec} (r : FaultRec) {l : List FaultRec} (hq : q ∈ l) : ∃ q' ∈ insertFault r l, r.Follows q q' := by
  induction l generalizing r with
  | nil => cases hq
  | cons p l ih =>
    by_cases hp : p.stamp = r.stamp ∧ r.before p = true
    · rw [insertFault_cons_of_before l hp.1 hp.2]
      obtain rfl | htail := List.mem_cons.mp hq
      · exact ⟨q.after r, List.mem_cons_self, FaultRec.follows_after hp.1⟩
      · obtain ⟨q', hq', hfollows⟩ := ih { r with seq := r.seq - 1 } htail
        exact ⟨q', List.mem_cons_of_mem _ hq', ⟨hfollows.source, hfollows.acked, hfollows.stamp, hfollows.seq⟩⟩
    · rw [insertFault_cons_of_not l hp]
      exact ⟨q, List.mem_cons_of_mem _ hq, rfl, rfl, rfl, fun _ => rfl⟩

theorem FaultSt.grown_length (f : FaultSt) (r : FaultRec) : (f.grown r).length = f.history.length + 1 := by
  rw [FaultSt.grown, insertFault_length, List.length_map]

/-- A record at a stamp of its own goes on top and changes no other. -/
theorem FaultSt.grown_of_forall_ne {f : FaultSt} {r : FaultRec} (h : ∀ q ∈ f.history, q.stamp ≠ r.stamp) : f.grown r = r :: f.history := by
  have hmarked : f.history.map r.marked = f.history := (List.map_congr_left fun q hq => FaultRec.marked_of_ne (h q hq)).trans (List.map_id _)
  rw [FaultSt.grown, hmarked, insertFault_of_forall_ne h]

theorem FaultSt.exists_follows_mem_grown {f : FaultSt} {q : FaultRec} (r : FaultRec) (hq : q ∈ f.history) : ∃ q' ∈ f.grown r, r.Follows q q' := by
  obtain ⟨q', hq', hfollows⟩ := exists_follows_mem_insertFault r (List.mem_map_of_mem (f := r.marked) hq)
  exact ⟨q', hq', (r.follows_marked q).trans hfollows⟩

/-- A record that does not come before the newest goes on top of it. -/
theorem FaultSt.push_head?_of_not_before {f : FaultSt} {r q : FaultRec} {l : List FaultRec} (hist : f.history = q :: l) (h : ¬ r.before q = true) :
    (f.push r).history.head? = some r := by
  have htop : ¬ ((r.marked q).stamp = r.stamp ∧ r.before (r.marked q) = true) := by
    rw [r.before_marked]
    exact fun hb => h hb.2
  rw [f.push_head?, FaultSt.grown, hist, List.map_cons, insertFault_cons_of_not _ htop, List.head?_cons]

/-- A record that comes before the simultaneous newest one leaves that on top, with the later number. -/
theorem FaultSt.push_head?_of_before {f : FaultSt} {r q : FaultRec} {l : List FaultRec} (hist : f.history = q :: l) (hstamp : q.stamp = r.stamp)
    (h : r.before q = true) : (f.push r).history.head? = some ((r.marked q).after r) := by
  rw [f.push_head?, FaultSt.grown, hist, List.map_cons,
    insertFault_cons_of_before _ ((r.marked_stamp q).trans hstamp) ((r.before_marked q).trans h), List.head?_cons]

/-- An unacknowledged record stays one when another is recorded: in the history, or among the displaced. -/
theorem State.exists_follows_unacked_push {s : State} {q : FaultRec} (r : FaultRec) (hq : q ∈ s.unacked) :
    ∃ q' ∈ ({ s with flt := s.flt.push r } : State).unacked, r.Follows q q' := by
  simp only [State.unacked, FaultSt.push_history, FaultSt.push_unackDisplaced]
  obtain hhist | hgone := List.mem_append.mp hq
  · obtain ⟨hmem, hunacked⟩ := List.mem_filter.mp hhist
    obtain ⟨q', hq', hfollows⟩ := FaultSt.exists_follows_mem_grown r hmem
    have hunacked' : (!q'.acked) = true := by rwa [hfollows.acked]
    refine ⟨q', ?_, hfollows⟩
    rw [← List.append_assoc, ← List.filter_append, List.take_append_drop]
    exact List.mem_append_left _ (List.mem_filter.mpr ⟨hq', hunacked'⟩)
  · exact ⟨q, List.mem_append_right _ (List.mem_append_right _ hgone), rfl, rfl, rfl, fun _ => rfl⟩

end Sys2Proof.Machine

namespace Sys2Proof.Proofs

open Sys2Proof.Machine

/-- Settles O48: putting a record in adds exactly one, above the newest or among the simultaneous ones, and what lies below the 32nd is kept among the
displaced while it is unacknowledged. -/
theorem historyKeepsTheLatest32 : Obligations.HistoryKeepsTheLatest32 := by
  refine ⟨fun f r hlen => ⟨?_, ?_, fun hne => ?_, fun q l hist hstamp => ⟨fun horder => ?_, fun horder => ?_⟩⟩, fun s r q hq => ?_⟩
  · rw [f.push_history]
    exact List.length_take_le 32 _
  · rw [f.push_lost, List.length_drop, f.grown_length]
    split
    next hfull => rw [hfull]; rfl
    next hfull => rw [show f.history.length + 1 - 32 = 0 by omega]; rfl
  · rw [f.push_history, FaultSt.grown_of_forall_ne hne]
    exact ⟨rfl, rfl⟩
  · refine FaultSt.push_head?_of_not_before hist fun hb => ?_
    rw [FaultRec.before_iff] at hb
    omega
  · have hhead := FaultSt.push_head?_of_before hist hstamp ((r.before_iff q).mpr horder)
    exact ⟨_, hhead, by rw [FaultRec.after_source, FaultRec.marked_source], by rw [FaultRec.after_seq, FaultRec.marked_seq]⟩
  · obtain ⟨q', hq', hfollows⟩ := State.exists_follows_unacked_push r hq
    refine ⟨q', hq', hfollows.source, hfollows.seq, fun hsrc => ?_⟩
    rw [← hfollows.source]
    exact State.fltReg_unack_testBit hq' (hfollows.source ▸ hsrc)

/-- Settles O49: the FLT_ window reads its registers without regard to the partition, and has no register that takes a write. -/
theorem signalBoxRegisters : Obligations.SignalBoxRegisters := by
  refine ⟨fun s n o hpart hstart ho => s.liveReg_flt hpart hstart ho, fun t n o v w s ho => ?_⟩
  rw [exec_registerWrite_eq, State.barWrite_of_writeWord_ignored rfl (fun _ v' ho' => (s.at t).writeWord_flt n v' ho') ho]

end Sys2Proof.Proofs
end

section
/-!
PROOFS. Power states: the PWR_ window of BAR0 (17_power_states R514), and the commit of a firmware switch (R512).
-/
namespace Sys2Proof.Machine

/-! ## Reads of the PWR_ window (R514) -/

/-- A partition that has its BAR0 in a started device reads the live word at every offset but HST_ID's. -/
theorem State.liveReg_of_present (s : State) {n off : Nat} (hpart : (s.part n).state ≠ .absent) (hstart : s.pwr.startupDone = true) (hid : off ≠ 0xC000) :
    s.liveReg n off = s.windowReg n off := by
  simp [State.liveReg, hpart, hstart, hid]

theorem State.windowReg_pwr (s : State) (n : Nat) {o : Nat} (ho : o < 0x1000) : s.windowReg n (0x12000 + o) = s.pwrReg o := by
  have hwin : (0x12000 + o) / 4096 = 0x12 := by omega
  have hoff : (0x12000 + o) % 4096 = o := by omega
  simp [State.windowReg, hwin, hoff]

/-! ## Writes of the PWR_ window (R514) -/

theorem State.writeWord_pwr (s : State) (n v : Nat) {o : Nat} (ho : o < 0x1000) : s.writeWord n (0x12000 + o) v = s.pwrWrite n o v := by
  have hwin : (0x12000 + o) / 4096 = 0x12 := by omega
  have hoff : (0x12000 + o) % 4096 = o := by omega
  simp [State.writeWord, hwin, hoff]

/-- An aligned 32-bit write by a partition that has its BAR0 is one write of its word. -/
theorem State.barWrite_word {s : State} {n off v : Nat} (hopen : s.barOpen n = true) (halign : off % 4 = 0) (hv : v < 4294967296) :
    s.barWrite n off 32 v = s.writeWord n off v := by
  simp [State.barWrite, hopen, halign, lowWord, Nat.mod_eq_of_lt hv]

theorem State.wakeWrite_of_acts {s : State} {v : Nat} (hstate : s.pwr.state = .stabled) (hv : v.testBit 0 = true) : s.wakeWrite 0 v = s.wakeStart := by
  simp [State.wakeWrite, hstate, hv]

theorem State.wakeWrite_of_ignored {s : State} {n v : Nat} (h : n ≠ 0 ∨ s.pwr.state ≠ .stabled ∨ v.testBit 0 = false) : s.wakeWrite n v = s := by
  obtain hn | hstate | hv := h
  · simp [State.wakeWrite, hn]
  · simp [State.wakeWrite, hstate]
  · simp [State.wakeWrite, hv]

theorem State.pwrWrite_wake (s : State) (n v : Nat) : s.pwrWrite n 8 v = s.wakeWrite n v := rfl

theorem State.pwrWrite_status (s : State) (v : Nat) :
    s.pwrWrite 0 0 v =
      { s with pwr := { s.pwr with pfwSeen := s.pwr.pfwSeen && !v.testBit 4, wakeRefused := s.pwr.wakeRefused && !v.testBit 5 } } := rfl

theorem State.pwrWrite_of_read_only (s : State) {o : Nat} (hstatus : o ≠ 0) (hwake : o ≠ 8) (n v : Nat) : s.pwrWrite n o v = s := by
  simp [State.pwrWrite, hstatus, hwake]

theorem State.pwrWrite_of_ne_owner (s : State) {n : Nat} (hn : n ≠ 0) (o v : Nat) : s.pwrWrite n o v = s := by
  by_cases hwake : o = 8
  · subst hwake
    rw [s.pwrWrite_wake, State.wakeWrite_of_ignored (.inl hn)]
  · simp [State.pwrWrite, hwake, hn]

/-- The write of one word of the PWR_ window as a row, by partition 0. -/
theorem exec_registerWrite_pwr {t o v : Nat} {s : State} (hopen : s.barOpen 0 = true) (ho : o < 0x1000) (halign : o % 4 = 0) (hv : v < 4294967296) :
    exec (.registerWrite t 0 (0x12000 + o) 32 v) s = .next ((s.at t).pwrWrite 0 o v) := by
  rw [exec_registerWrite_eq, State.barWrite_word ((s.barOpen_at t 0).trans hopen) (by omega) hv, (s.at t).writeWord_pwr 0 v ho]

/-! ## The commit of a firmware switch (R512) -/

theorem State.allSwitched_iff (s : State) :
    s.allSwitched = true ↔ s.fw.alc = s.fw.running ∧ ∀ k, k < 16 → (s.cluster k).state = .retired ∨ (s.cluster k).bank = s.fw.running := by
  simp [State.allSwitched, allClusters]

/-- A controller, or a cluster that is not RETIRED, on another bank than the running one stands against a commit. -/
theorem State.allSwitched_eq_false {s : State}
    (h : s.fw.alc ≠ s.fw.running ∨ ∃ k, k < 16 ∧ (s.cluster k).state ≠ .retired ∧ (s.cluster k).bank ≠ s.fw.running) : s.allSwitched = false := by
  refine Bool.eq_false_iff.mpr fun hall => ?_
  obtain ⟨halc, hclusters⟩ := s.allSwitched_iff.mp hall
  obtain hne | ⟨k, hk, hlive, hbank⟩ := h
  · exact hne halc
  · exact (hclusters k hk).elim hlive hbank

/-- The state with the running bank as its boot bank, and MIN_SVN raised when the package asks for it. -/
def State.committed (s : State) : State :=
  { s with fw := { s.fw with
      boot := s.fw.running
      minSvn := if (s.bank s.fw.running).raiseSvn then Nat.max s.fw.minSvn (s.bank s.fw.running).svn else s.fw.minSvn } }

theorem fwCommit_refuses {s : State} (h : s.allSwitched = false) : fwCommit s = refuse s stWrongState 0 := by
  simp [fwCommit, check, failIf, h]

theorem fwCommit_commits {s : State} (hall : s.allSwitched = true) (hnor : s.pwr.pfwLow = false) :
    fwCommit s = ok (s.committed.evt s.committed.everyone 0x01D (2 + 256)) (s.committed.fwReply s.fw.boot s.fw.running) :=
  check_none (by simp [firstBad_cons_none, hall, hnor])

/-- OP 2 of the owner partition is the commit. -/
theorem fwSwitch_commit {h : Pkt} (hpart : h.part = 0) (s : State) : fwSwitch s h 2 = fwCommit s :=
  check_none (by simp [firstBad_cons_none, hpart])

end Sys2Proof.Machine

namespace Sys2Proof.Proofs

open Sys2Proof.Machine

/-- Settles O50: the window reads its registers without regard to the partition, and of its words PWR_STATUS and PWR_CTRL alone take a write of the
owner. -/
theorem powerRegisters : Obligations.PowerRegisters := by
  refine ⟨fun s n o hpart hstart ho => ?_, fun t n o v w s hn ho => ?_, fun t o v s hopen ho halign hv => ?_⟩
  · rw [s.liveReg_of_present hpart hstart (by omega), s.windowReg_pwr n ho]
  · have hword : ∀ o' v', o' < 0x1000 → (s.at t).writeWord n (0x12000 + o') v' = s.at t := fun o' v' ho' => by
      rw [(s.at t).writeWord_pwr n v' ho', (s.at t).pwrWrite_of_ne_owner hn]
    rw [exec_registerWrite_eq, State.barWrite_of_writeWord_ignored rfl hword ho]
  · rw [exec_registerWrite_pwr hopen ho halign hv]
    refine ⟨fun hstatus hwake => ?_, ?_, ?_, ?_⟩
    · rw [(s.at t).pwrWrite_of_read_only hstatus hwake]
    · rintro rfl
      exact congrArg _ ((s.at t).pwrWrite_status v)
    · rintro rfl hidle
      rw [(s.at t).pwrWrite_wake, State.wakeWrite_of_ignored (s := s.at t) (.inr hidle)]
    · rintro rfl hstate hbit
      rw [(s.at t).pwrWrite_wake, State.wakeWrite_of_acts (s := s.at t) hstate hbit]

/-- Settles O51: the first check of the commit is that every block runs the running bank, and the event of a commit carries 2 with bit 8. -/
theorem commitNeedsEveryBlockSwitched : Obligations.CommitNeedsEveryBlockSwitched := by
  refine fun h s s1 hs hpart => ⟨fun hother => ?_, fun halc hclusters hnor => ?_⟩
  · have hrefuse := fwCommit_refuses (State.allSwitched_eq_false hother)
    exact cmd_answers hs ((fwSwitch_commit hpart s1).trans hrefuse)
  · have hcommit := fwCommit_commits (s1.allSwitched_iff.mpr ⟨halc, hclusters⟩) hnor
    exact ⟨s1.committed, 2 + 256, s1.committed.fwReply s1.fw.boot s1.fw.running, rfl, by decide, rfl,
      cmd_answers hs ((fwSwitch_commit hpart s1).trans hcommit)⟩

end Sys2Proof.Proofs
end

section
/-!
PROOFS. Every row: a step serves the queue, and a piece of the state changes only by the rows named for it.
-/
namespace Sys2Proof.Machine

/-! ## Rows -/

/-- Every row has a meaning, and that meaning ends in a next state. -/
theorem exec_eq_next (c : Instr) (s : State) : exec c s = .next (OutSt (exec c s) s) := by
  cases c
  case unknownOpcode h op =>
    change execUnknownOpcode h op s = .next (OutSt (execUnknownOpcode h op s) s)
    unfold execUnknownOpcode
    split <;> rfl
  all_goals rfl

theorem outSt_of_exec {c : Instr} {s t : State} (h : exec c s = .next t) : OutSt (exec c s) s = t := by
  rw [h]
  rfl

/-- No row touches the queue: each row's own lemma says so. -/
theorem exec_pending {c : Instr} {s t : State} (h : exec c s = .next t) : t.pending = s.pending := by
  rw [← outSt_of_exec h, kept_pending, kept_pending s]
  cases c
  all_goals simp only [exec]; simp

/-- A piece, read as a part of what is kept. -/
theorem Piece.same_iff (x : Piece) (t s : State) : x.same t s ↔ match x with
    | .life => t.kept.life = s.kept.life ∧ t.kept.lifeLog = s.kept.lifeLog ∧ t.kept.ownerHash = s.kept.ownerHash
    | .version => t.kept.minSvn = s.kept.minSvn ∧ t.kept.boot = s.kept.boot
    | .testPort => t.kept.tap = s.kept.tap
    | .staging => t.kept.staging = s.kept.staging
    | .grants => t.kept.grants = s.kept.grants
    | .timeOwner => t.kept.timeOwner = s.kept.timeOwner
    | .reference => t.kept.ref = s.kept.ref
    | .delays => t.kept.delays = s.kept.delays
    | .challenge => t.kept.challenge = s.kept.challenge
    | .errMin => t.kept.errMin = s.kept.errMin := by
  cases x <;> rfl

theorem Piece.same_of_kept (x : Piece) {t s : State} (h : t.kept = s.kept) : x.same t s := by
  rw [Piece.same_iff, h]
  cases x <;> simp

/-- A row that is named for no piece keeps them all. -/
theorem exec_kept {c : Instr} (hc : mayChange c = []) (s : State) : (OutSt (exec c s) s).kept = s.kept := by
  cases c
  all_goals first
    | simp only [mayChange, resetPieces, reduceCtorEq] at hc; done
    | simp only [exec]; simp

/-- A row keeps every piece that it is not named for: for each row of `mayChange` its own lemma says which. -/
theorem exec_same (c : Instr) (s : State) {x : Piece} (hx : x ∉ mayChange c) : x.same (OutSt (exec c s) s) s := by
  by_cases hc : mayChange c = []
  · exact x.same_of_kept (exec_kept hc s)
  · rw [Piece.same_iff]
    fun_cases mayChange c
    case case25 => exact absurd (by simp only [mayChange]) hc
    all_goals
      simp only [exec]
      cases x <;> simp [mayChange, resetPieces] at hx ⊢

/-! ## Steps -/

/-- A step changes nothing, or runs a row on the state with the rest of the queue, and perhaps a command fewer among the held ones. -/
theorem step_cases {s t : State} (h : step s = .next t) :
    (s.pending = [] ∧ t = s) ∨ ∃ c s0, exec c s0 = .next t ∧ s0.pending = s.pending.drop 1 ∧ s0.sec = s.sec ∧ s0.fw = s.fw ∧ s0.hst.staging = s.hst.staging := by
  unfold step at h
  split at h
  next c rest hq => exact .inr ⟨c, _, h, by rw [hq]; rfl, rfl, rfl, rfl⟩
  next hq =>
    split at h
    next x rest hheld => exact .inr ⟨x.row, resumeState s x rest, h, by rw [hq]; exact hq, rfl, rfl, rfl⟩
    next => exact .inl ⟨hq, (Host.Outcome.next.inj h).symm⟩

end Sys2Proof.Machine

namespace Sys2Proof.Proofs

open Sys2Proof.Machine

/-- Settles O1, by the definition of a step. -/
theorem stepRunsTheFrontCommand : Obligations.StepRunsTheFrontCommand := fun _ _ _ => rfl

/-- Settles O2: every row ends in a next state and leaves the queue, so a step takes one row off it. -/
theorem stepServesTheQueue : Obligations.StepServesTheQueue := by
  refine ⟨fun c s => ⟨_, exec_eq_next c s, exec_pending (exec_eq_next c s)⟩, fun s hq hheld => ?_, fun s x rest hq hheld => ?_, fun s t h => ?_⟩
  · simp only [step, hq, hheld]
  · simp only [step, hq, hheld, resumeState]
  · obtain ⟨hq, rfl⟩ | ⟨c, s0, hexec, hpending, -⟩ := step_cases h
    · rw [hq]; rfl
    · rw [exec_pending hexec, hpending]

/-- Settles O56: each row's own lemma says what it keeps. -/
theorem onlyTheirRowsChangeThem : Obligations.OnlyTheirRowsChangeThem := by
  intro c s t h x hx
  rw [← outSt_of_exec h]
  exact exec_same c s hx

end Sys2Proof.Proofs
end

section
/-!
PROOFS. The staging buffers stay in canonical form (14_hosts R423).
-/
namespace Sys2Proof.Machine

/-- A row keeps the form of the staging buffers: it leaves them as they are, or is one of those whose own lemma says so. -/
theorem exec_staging_wf (c : Instr) {s : State} (h : StWf s.kept.staging) : StWf (OutSt (exec c s) s).kept.staging := by
  by_cases hx : Piece.staging ∈ mayChange c
  · fun_cases mayChange c
    case case1 k n => exact execDevReset_wf h k n
    case case2 k p => exact execFltInject_wf h k p
    case case3 t x => exact execScrubStep_wf h t x
    case case4 t => exact execSelftestSliceEnd_wf h t
    case case5 t n => exact execSelftestDone_wf h t n
    case case6 t => exact execPerstNAssert_wf h t
    case case7 t ok found n => exact execWakeDone_wf h t ok found n
    case case8 k p => exact execLcTransition_wf h k p
    case case9 t => exact execPorNFall_wf h t
    case case12 k p => exact execHstPartDelete_wf h k p
    case case13 k p => exact execHstPartReset_wf h k p
    case case14 k off len data => exact execHstStageWrite_wf h k off len data
    case case15 t n => exact execPcieFlr_wf h t n
    case case16 t n tag => exact execDmaCopyDone_wf h t n tag
    case case17 t rcd slot => exact execRecExportDone_wf h t rcd slot
    all_goals simp [mayChange] at hx
  · have hsame : (OutSt (exec c s) s).hst.staging = s.hst.staging := exec_same c s hx
    rw [← kept_staging, hsame]
    exact h

end Sys2Proof.Machine

namespace Sys2Proof.Proofs

open Sys2Proof.Machine

/-- Settles O57: whatever row a step runs keeps the form. -/
theorem stagingStaysCanonical : Obligations.StagingStaysCanonical := by
  intro s t hwf h
  obtain ⟨-, rfl⟩ | ⟨c, s0, hexec, -, -, -, hstaging⟩ := step_cases h
  · exact hwf
  · rw [← outSt_of_exec hexec]
    refine exec_staging_wf c ?_
    rw [← kept_staging, hstaging]
    exact hwf

/-- Settles O58: after reset no partition has a staging buffer. -/
theorem resetStagingIsCanonical : Obligations.ResetStagingIsCanonical := StWf.nil

end Sys2Proof.Proofs
end

section
/-!
PROOFS. The life cycle (15_security R461, R462) and the security version (R443, 17_power_states R509, R512): which rows move them, and how.
-/
namespace Sys2Proof.Machine

/-! ## What the running of a command adds to its body -/

/-- The life cycle with its log, the tamper latch and the firmware are as they were. -/
structure Settled (t s : State) : Prop where
  life : t.sec.life = s.sec.life
  lifeLog : t.sec.lifeLog = s.sec.lifeLog
  tamper : t.sec.tamperLatched = s.sec.tamperLatched
  fw : t.fw = s.fw

theorem Settled.of_eq {t s : State} (hsec : t.sec = s.sec) (hfw : t.fw = s.fw) : Settled t s := by
  constructor <;> simp only [hsec, hfw]

theorem Settled.refl (s : State) : Settled s s := .of_eq rfl rfl

theorem Settled.trans {a b c : State} (h : Settled a b) (h' : Settled b c) : Settled a c :=
  ⟨h.life.trans h'.life, h.lifeLog.trans h'.lifeLog, h.tamper.trans h'.tamper, h.fw.trans h'.fw⟩

theorem Settled.congr {t t' s : State} (h : Settled t s) (hsec : t'.sec = t.sec) (hfw : t'.fw = t.fw) : Settled t' s :=
  .trans (.of_eq hsec hfw) h

theorem settled_of_kept {t s : State} (hkept : t.kept = s.kept) (hsteady : Steady t s) : Settled t s := by
  obtain ⟨-, -, hfw, -, -, -, htamper⟩ := hsteady
  exact ⟨congrArg Kept.life hkept, congrArg Kept.lifeLog hkept, htamper, hfw⟩

theorem State.putReply_settled (s : State) (h : Pkt) (op st d : Nat) (stamp : Stamp) (res : List Byte) : Settled (s.putReply h op st d stamp res) s :=
  settled_of_kept (by simp) (s.putReply_steady h op st d stamp res)

theorem State.pendingFirst_settled (s : State) (c : CmdInfo) (h : Pkt) (done : Stamp) : Settled (s.pendingFirst c h done) s := by
  unfold State.pendingFirst
  split
  · exact s.putReply_settled h _ _ _ _ _
  · exact .refl s

theorem State.takePacket_settled {s s1 : State} {n len : Nat} (h : s.takePacket n len = some s1) : Settled s1 s := by
  unfold State.takePacket at h
  dsimp only at h
  split at h
  · cases h
    constructor <;> simp
  · cases h

theorem State.arrive_settled {s s1 : State} {h : Pkt} {op : Nat} (ha : s.arrive h op = some s1) : Settled s1 s := by
  unfold State.arrive at ha
  split at ha
  · split at ha
    · exact State.takePacket_settled ha
    · cases ha
  all_goals
    split at ha
    · split at ha
      · cases ha
        exact .of_eq rfl rfl
      · cases ha
    · cases ha

/-- A command that starts is turned away, or runs its body and is answered. -/
theorem State.runStarted_settled (s : State) (c : CmdInfo) (h : Pkt) (body : State → CmdOut) :
    Settled (s.runStarted c h body) s ∨ Settled (s.runStarted c h body) (body s).st := by
  unfold State.runStarted
  split
  · exact .inl ((State.putReply_settled _ h _ _ _ _ _).trans (s.pendingFirst_settled c h _))
  · refine .inr ?_
    cases body s with
    | reply s1 st d res => exact (State.putReply_settled _ h _ _ _ _ _).trans (s1.pendingFirst_settled c h _)
    | wait s1 what => exact .of_eq rfl rfl
    | silent s1 => exact .refl s1

/-- A command changes nothing, or what its body changes of a state that is like the one before. -/
theorem cmd_settled (i : Instr) (c : CmdInfo) (h : Pkt) (s : State) (body : State → CmdOut) :
    Settled (OutSt (cmd i c h s body) s) s ∨ ∃ s1, Settled s1 s ∧ Settled (OutSt (cmd i c h s body) s) (body s1).st := by
  have hrun : ∀ s1, Settled s1 s → Settled (s1.runStarted c h body) s ∨ ∃ s1, Settled s1 s ∧ Settled (State.runStarted _ c h body) (body s1).st :=
    fun s1 h1 => (s1.runStarted_settled c h body).imp (·.trans h1) fun h2 => ⟨s1, h1, h2⟩
  have hat : Settled (s.at h.recv) s := .of_eq rfl rfl
  simp only [cmd, outSt_next]
  unfold State.runCmd
  dsimp only
  split
  · exact hrun { s.at h.recv with resuming := false } (.of_eq rfl rfl)
  · split
    · exact .inl hat
    next s1 ha =>
      have h1 : Settled s1 s := (State.arrive_settled ha).trans hat
      split
      · exact hrun s1.fresh (h1.congr rfl rfl)
      · exact .inl (h1.congr rfl rfl)

/-- A command whose first check fails leaves its state; else it goes on. -/
theorem check_st (s : State) (cs : List (Option (Nat × Nat))) (k : Unit → CmdOut) :
    (check s cs k).st = s ∨ (firstBad cs = none ∧ (check s cs k).st = (k ()).st) := by
  unfold check
  split
  · exact .inl rfl
  next hpass => exact .inr ⟨hpass, rfl⟩

/-! ## The life cycle -/

theorem lcSigner_moves {a : LifeCycle} {dest signer : Nat} (h : lcSigner a dest = some signer) :
    LifeMove a (lifeOf dest) ∧ (lifeOf dest).code = dest := by
  fun_cases lcSigner a dest
  case case6 => simp_all [lcSigner]
  all_goals exact ⟨by simp [LifeMove, lifeOf], rfl⟩

/-- The life cycle stands, with its log. -/
def LifeStands (t s : State) : Prop := t.sec.life = s.sec.life ∧ t.sec.lifeLog = s.sec.lifeLog

/-- The log gains an entry at its end, which names the states before and after. -/
def LifeLogged (t s : State) : Prop :=
  ∃ e : LifeEntry, t.sec.lifeLog = s.sec.lifeLog ++ [e] ∧ e.fromState = s.sec.life.code ∧ e.toState = t.sec.life.code

/-- What moves the life cycle: OP 1 of the owner, outside a tamper, signed over that very transition of Table 15-9a. -/
structure LifeMoved (t s : State) (h : Pkt) (p : LcTransition) : Prop where
  owner : h.part = 0
  op : p.op = 1
  untampered : s.sec.tamperLatched = false
  signed : ∃ x, p.sig = some x ∧ x.data = .transition true s.sec.life.code p.dest p.lcSeq
  move : LifeMove s.sec.life t.sec.life
  logged : LifeLogged t s

/-- What LC_TRANSITION can do to the life cycle: nothing, an entry for an unlock, or a move. -/
def LifeEffect (t s : State) (h : Pkt) (p : LcTransition) : Prop :=
  LifeStands t s ∨ (t.sec.life = s.sec.life ∧ LifeLogged t s) ∨ LifeMoved t s h p

theorem State.moveSigned_data {s : State} {p : LcTransition} {signer : Nat} (h : s.moveSigned p signer = true) :
    ∃ x, p.sig = some x ∧ x.data = .transition true s.sec.life.code p.dest p.lcSeq := by
  obtain ⟨x, hx, hdata⟩ := (Option.any_eq_true _ _).mp h
  simp only [Bool.and_eq_true, beq_iff_eq] at hdata
  exact ⟨x, hx, hdata.1⟩

theorem State.lcApply_life (s : State) (p : LcTransition) (signer : Nat) : (s.lcApply p signer).sec.life = lifeOf p.dest := by
  rw [kept_life]
  simp [State.lcApply, kept_life, piece]

theorem State.lcApply_lifeLog (s : State) (p : LcTransition) (signer : Nat) :
    (s.lcApply p signer).sec.lifeLog =
      s.sec.lifeLog ++ [{ seq := s.sec.lifeLog.length, fromState := s.sec.life.code, toState := p.dest, signer, tb1 := s.tb1Log }] := by
  rw [kept_lifeLog]
  simp [State.lcApply, State.lifeEntry, kept_lifeLog, piece]

theorem LifeStands.of_kept {t s : State} (h : t.kept = s.kept) : LifeStands t s := ⟨congrArg Kept.life h, congrArg Kept.lifeLog h⟩

/-- What is said of the state after holds of one that answers it, and what is said of the state before of one like it. -/
theorem LifeEffect.settled {t t' s s' : State} {h : Pkt} {p : LcTransition} (he : LifeEffect t' s' h p) (ht : Settled t t') (hs : Settled s' s) :
    LifeEffect t s h p := by
  obtain ⟨hlife, hlog, htamper, -⟩ := hs
  have hlogged : LifeLogged t' s' → LifeLogged t s := fun ⟨e, he, hfrom, hto⟩ =>
    ⟨e, by rw [ht.lifeLog, he, hlog], by rw [hfrom, hlife], by rw [hto, ht.life]⟩
  obtain ⟨hsame, hlogSame⟩ | ⟨hsame, hadded⟩ | ⟨howner, hop, huntampered, hsigned, hmove, hadded⟩ := he
  · exact .inl ⟨by rw [ht.life, hsame, hlife], by rw [ht.lifeLog, hlogSame, hlog]⟩
  · exact .inr (.inl ⟨by rw [ht.life, hsame, hlife], hlogged hadded⟩)
  · exact .inr (.inr ⟨howner, hop, htamper ▸ huntampered, hlife ▸ hsigned, by rw [ht.life, ← hlife]; exact hmove, hlogged hadded⟩)

theorem State.lcApply_logged (s : State) {p : LcTransition} (signer : Nat) (hcode : (lifeOf p.dest).code = p.dest) : LifeLogged (s.lcApply p signer) s :=
  ⟨_, s.lcApply_lifeLog p signer, rfl, by rw [s.lcApply_life p signer, hcode]⟩

theorem lcMove_effect {s : State} {h : Pkt} {p : LcTransition} (hpart : h.part = 0) (hop : p.op = 1) (htamper : s.sec.tamperLatched = false) :
    LifeEffect (lcMove s h p).st s h p := by
  have hstay : LifeEffect s s h p := .inl ⟨rfl, rfl⟩
  unfold lcMove
  split
  · exact hstay
  next signer htable =>
    obtain he | ⟨-, he⟩ := check_st s _ _
    · rwa [he]
    rw [he]
    split
    next hunsigned => exact .inl (.of_kept (by simp [authFail]))
    next hsigned =>
      obtain he | ⟨-, he⟩ := check_st s _ _
      · rwa [he]
      rw [he, CmdOut.st_silent]
      have hreply : Settled ((s.at h.done).putReply h 0x0D08 stOk 0 (s.at h.done).now (zeros 32)) s :=
        .trans (State.putReply_settled _ h _ _ _ _ _) (.of_eq rfl rfl)
      obtain ⟨hmove, hcode⟩ := lcSigner_moves htable
      refine LifeEffect.settled (.inr (.inr ⟨hpart, hop, ?_, ?_, ?_, State.lcApply_logged _ signer hcode⟩)) (.refl _) hreply
      · rw [hreply.tamper, htamper]
      · rw [hreply.life]
        exact State.moveSigned_data (by simpa using hsigned)
      · rw [State.lcApply_life, hreply.life]
        exact hmove

theorem LifeStands.of_check {s : State} {out : CmdOut} (h : out.st = s) : LifeStands out.st s := by
  rw [h]
  exact ⟨rfl, rfl⟩

@[simp] theorem State.evt_sec (s : State) (parts : List Nat) (src detail : Nat) : (s.evt parts src detail).sec = s.sec := by simp

/-- An entry that names one state twice. -/
theorem LifeLogged.of_lifeEntry {t s s1 : State} {signer : Nat} (ht : t.sec.lifeLog = (s1.lifeEntry s.sec.life.code signer).sec.lifeLog)
    (hlife : s1.sec.life = s.sec.life) (hlog : s1.sec.lifeLog = s.sec.lifeLog) (hsame : t.sec.life = s.sec.life) : LifeLogged t s :=
  ⟨_, ht.trans (congrArg (· ++ _) hlog), congrArg LifeCycle.code hlife, congrArg LifeCycle.code hsame.symm⟩

/-- The state that an unlock leaves, before its event. -/
def lcUnlocked (s : State) (h : Pkt) : State :=
  let s1 : State := { s with sec := { s.sec with challenge := none } }
  let s2 := (s1.at h.done).lifeEntry s.sec.life.code 2
  { s2 with sec := { s2.sec with testUnlocked := true } }

/-- An unlock adds an entry that names the state, which it leaves. -/
theorem lcUnlock_effect (s : State) (h : Pkt) (p : LcTransition) : LifeEffect (lcUnlock s h p).st s h p := by
  obtain he | ⟨-, he⟩ := check_st s [failIf (s.sec.life != .returned) stWrongState 0, norIdle s] _
  · exact .inl (.of_check he)
  rw [lcUnlock, he]
  dsimp only
  split
  · exact .inl ⟨by simp [kept_life, authFail, piece], by simp [kept_lifeLog, authFail, piece]⟩
  · change LifeEffect ((lcUnlocked s h).evt [0] 0x1FB 4) s h p
    have hlife : ((lcUnlocked s h).evt [0] 0x1FB 4).sec.life = s.sec.life := by rw [State.evt_sec]; rfl
    exact .inr (.inl ⟨hlife, .of_lifeEntry (s1 := s.at h.done) (signer := 2) (by rw [State.evt_sec]; rfl) rfl rfl hlife⟩)

theorem lcTransition_effect (s : State) (h : Pkt) (p : LcTransition) : LifeEffect (lcTransition s h p).st s h p := by
  obtain he | ⟨hpass, he⟩ := check_st s
    [ownerOnly h, tamperNeeded s, badIf (p.op == 0 || 3 < p.op) 0, badIf (p.op != 1 && p.dest != 0) 1, badIf (p.op != 1 && p.ownerBoot) 2] _
  · rw [lcTransition, he]
    exact .inl ⟨rfl, rfl⟩
  rw [lcTransition, he]
  simp only [firstBad_cons_none, ownerOnly_none, tamperNeeded, failIf_none] at hpass
  obtain ⟨hpart, htamper, -⟩ := hpass
  split
  next hop => exact lcMove_effect hpart (by simpa using hop) htamper
  split
  · have hchallenge := lcChallenge_keeps s
    exact .inl ⟨hchallenge.2.1, hchallenge.2.2.1⟩
  · exact lcUnlock_effect s h p

/-- LC_TRANSITION leaves the life cycle, adds an entry for an unlock, or moves it. -/
theorem exec_lcTransition_effect (h : Pkt) (p : LcTransition) (s : State) : LifeEffect (OutSt (exec (.lcTransition h p) s) s) s h p := by
  change LifeEffect (OutSt (cmd _ _ h s fun s => lcTransition s h p) s) s h p
  obtain hnone | ⟨s1, hbefore, hafter⟩ := cmd_settled (.lcTransition h p) { op := 0x0D08, len := some 72, blank := true } h s (fun s => lcTransition s h p)
  · exact .inl ⟨hnone.life, hnone.lifeLog⟩
  · exact (lcTransition_effect s1 h p).settled hafter hbefore

/-- A row leaves the life cycle with its log, or is LC_TRANSITION. -/
theorem exec_life (c : Instr) (s : State) : LifeStands (OutSt (exec c s) s) s ∨ ∃ h p, c = .lcTransition h p ∧ LifeEffect (OutSt (exec c s) s) s h p := by
  by_cases hc : ∃ h p, c = .lcTransition h p
  · obtain ⟨h, p, rfl⟩ := hc
    exact .inr ⟨h, p, rfl, exec_lcTransition_effect h p s⟩
  · have hx : Piece.life ∉ mayChange c := by
      fun_cases mayChange c
      case case8 h p => exact absurd ⟨h, p, rfl⟩ hc
      all_goals simp [resetPieces]
    obtain ⟨hlife, hlog, -⟩ := exec_same c s hx
    exact .inl ⟨hlife, hlog⟩

theorem LifeStands.sound {t s : State} (h : LifeStands t s) : LifeMove s.sec.life t.sec.life ∧ (t.sec.lifeLog = s.sec.lifeLog ∨ LifeLogged t s) :=
  ⟨.inl h.1, .inl h.2⟩

theorem LifeEffect.sound {t s : State} {h : Pkt} {p : LcTransition} (he : LifeEffect t s h p) :
    LifeMove s.sec.life t.sec.life ∧ (t.sec.lifeLog = s.sec.lifeLog ∨ LifeLogged t s) := by
  obtain hstands | ⟨hlife, hlogged⟩ | hmoved := he
  · exact hstands.sound
  · exact ⟨.inl hlife, .inr hlogged⟩
  · exact ⟨hmoved.move, .inr hmoved.logged⟩

/-- The log has grown where an entry was added. -/
theorem LifeLogged.ne {t s : State} (h : LifeLogged t s) : t.sec.lifeLog ≠ s.sec.lifeLog := by
  obtain ⟨e, he, -⟩ := h
  rw [he]
  simp

theorem LifeEffect.moved_of_ne {t s : State} {h : Pkt} {p : LcTransition} (he : LifeEffect t s h p) (hne : t.sec.life ≠ s.sec.life) : LifeMoved t s h p := by
  obtain ⟨hlife, -⟩ | ⟨hlife, -⟩ | hmoved := he
  · exact absurd hlife hne
  · exact absurd hlife hne
  · exact hmoved

/-! ## The security version and the boot bank -/

/-- What FW_SWITCH can do to MIN_SVN and the boot bank: nothing, or the commit of OP 2, of the owner, by which MIN_SVN does not fall. -/
def VersionEffect (t s : State) (h : Pkt) (op : Nat) : Prop :=
  (t.fw.minSvn = s.fw.minSvn ∧ t.fw.boot = s.fw.boot) ∨
  (op = 2 ∧ h.part = 0 ∧ s.fw.alc = s.fw.running ∧ t.fw.boot = s.fw.running ∧ s.fw.minSvn ≤ t.fw.minSvn)

theorem VersionEffect.of_kept {t s : State} {h : Pkt} {op : Nat} (hkept : t.kept = s.kept) : VersionEffect t s h op :=
  .inl ⟨congrArg Kept.minSvn hkept, congrArg Kept.boot hkept⟩

theorem State.committed_minSvn (s : State) : s.fw.minSvn ≤ s.committed.fw.minSvn := by
  unfold State.committed
  dsimp only
  split
  · exact Nat.le_max_left _ _
  · exact Nat.le_refl _

theorem fwCommit_effect {s : State} {h : Pkt} (hpart : h.part = 0) : VersionEffect (fwCommit s).st s h 2 := by
  obtain he | ⟨hpass, -⟩ := check_st s [failIf (!s.allSwitched) stWrongState 0, norIdle s] _
  · rw [fwCommit, he]
    exact .of_kept rfl
  simp only [firstBad_cons_none, failIf_none, norIdle_none, Bool.not_eq_false', firstBad_nil, and_true] at hpass
  obtain ⟨hall, hnor⟩ := hpass
  rw [fwCommit_commits hall hnor, CmdOut.st_ok]
  have hfw : (s.committed.evt s.committed.everyone 0x01D (2 + 256)).fw = s.committed.fw := by simp
  exact .inr ⟨rfl, hpart, (s.allSwitched_iff.mp hall).1, congrArg FirmwareSt.boot hfw, by rw [hfw]; exact s.committed_minSvn⟩

theorem fwSwitch_effect (s : State) (h : Pkt) (op : Nat) : VersionEffect (fwSwitch s h op).st s h op := by
  unfold fwSwitch
  obtain he | ⟨hpass, he⟩ := check_st s [ownerOnly h, badIf (op == 0 || 3 < op) 0] _
  · rw [he]
    exact .of_kept rfl
  rw [he]
  obtain ⟨hpart, -⟩ := firstBad_cons_none.mp hpass
  split
  · exact .of_kept (fwRestart_keeps s)
  split
  next hop =>
    obtain rfl : op = 2 := by simpa using hop
    exact fwCommit_effect (ownerOnly_none.mp hpart)
  · exact .of_kept (fwLogic_keeps s h)

theorem exec_fwSwitch_effect (h : Pkt) (op : Nat) (s : State) : VersionEffect (OutSt (exec (.fwSwitch h op) s) s) s h op := by
  change VersionEffect (OutSt (cmd _ _ h s fun s => fwSwitch s h op) s) s h op
  obtain hnone | ⟨s1, hbefore, hafter⟩ := cmd_settled (.fwSwitch h op) { op := 0x0F05, len := some 4 } h s (fun s => fwSwitch s h op)
  · exact .inl ⟨by rw [hnone.fw], by rw [hnone.fw]⟩
  · have heffect := fwSwitch_effect s1 h op
    unfold VersionEffect at heffect ⊢
    rwa [hafter.fw, ← hbefore.fw]

/-- A row leaves MIN_SVN and the boot bank, or is FW_SWITCH. -/
theorem exec_version (c : Instr) (s : State) :
    ((OutSt (exec c s) s).fw.minSvn = s.fw.minSvn ∧ (OutSt (exec c s) s).fw.boot = s.fw.boot) ∨
    ∃ h op, c = .fwSwitch h op ∧ VersionEffect (OutSt (exec c s) s) s h op := by
  by_cases hc : ∃ h op, c = .fwSwitch h op
  · obtain ⟨h, op, rfl⟩ := hc
    exact .inr ⟨h, op, rfl, exec_fwSwitch_effect h op s⟩
  · have hx : Piece.version ∉ mayChange c := by
      fun_cases mayChange c
      case case11 h op => exact absurd ⟨h, op, rfl⟩ hc
      all_goals simp [resetPieces]
    exact .inl (exec_same c s hx)

end Sys2Proof.Machine

namespace Sys2Proof.Proofs

open Sys2Proof.Machine

/-- Settles O54: LC_TRANSITION alone touches the life cycle, and its three effects are looked at one by one. -/
theorem lifeCycleMovesForward : Obligations.LifeCycleMovesForward := by
  refine ⟨fun s t h => ?_, fun c s t h hne => ?_⟩
  · obtain ⟨-, rfl⟩ | ⟨c, s0, hexec, -, hsec, -⟩ := step_cases h
    · exact ⟨.inl rfl, .inl rfl⟩
    · rw [← outSt_of_exec hexec, ← hsec]
      obtain hstands | ⟨h, p, -, heffect⟩ := exec_life c s0
      · exact hstands.sound
      · exact heffect.sound
  · rw [← outSt_of_exec h] at hne ⊢
    obtain hstands | ⟨k, p, rfl, heffect⟩ := exec_life c s
    · exact absurd hstands.1 hne
    · have hmoved := heffect.moved_of_ne hne
      exact ⟨hmoved.logged.ne, k, p, rfl, hmoved.owner, hmoved.op, hmoved.untampered, hmoved.signed⟩

/-- Settles O55: FW_SWITCH alone touches the two, and only by its commit. -/
theorem minSvnNeverFalls : Obligations.MinSvnNeverFalls := by
  refine ⟨fun s t h => ?_, fun c s t h hne => ?_⟩
  · obtain ⟨-, rfl⟩ | ⟨c, s0, hexec, -, -, hfw, -⟩ := step_cases h
    · exact Nat.le_refl _
    · rw [← outSt_of_exec hexec, ← hfw]
      obtain ⟨hsvn, -⟩ | ⟨h, op, -, ⟨hsvn, -⟩ | ⟨-, -, -, -, hrises⟩⟩ := exec_version c s0
      · exact hsvn.ge
      · exact hsvn.ge
      · exact hrises
  · rw [← outSt_of_exec h] at hne ⊢
    obtain ⟨hsvn, hboot⟩ | ⟨k, op, rfl, ⟨hsvn, hboot⟩ | ⟨rfl, hpart, halc, hrunning, -⟩⟩ := exec_version c s
    · exact absurd hne (by simp [hsvn, hboot])
    · exact absurd hne (by simp [hsvn, hboot])
    · exact ⟨k, rfl, hpart, hrunning, halc⟩

end Sys2Proof.Proofs
end

section
/-!
PROOFS. Checks that the commands of many chapters share: lists of checks, key slots (15_security R433, R440, R454) and host buffers (14_hosts R404, R423).
-/
namespace Sys2Proof.Machine

/-! ## Lists of checks -/

theorem firstBad_append_none {a b : List (Option (Nat × Nat))} : firstBad (a ++ b) = none ↔ firstBad a = none ∧ firstBad b = none := by
  induction a with
  | nil => simp
  | cons x r ih => rw [List.cons_append, firstBad_cons_none, firstBad_cons_none, ih, and_assoc]

/-! ## Grants and host buffers -/

/-- Who holds a resource may read it. -/
theorem State.reads_of_holds {s : State} {part kind idx : Nat} (h : s.holds part kind idx = true) : s.reads part kind idx = true := by
  simp [State.reads, h]

@[simp] theorem stagingOnly_none {h : Pkt} {addr : Nat} : stagingOnly h addr = none ↔ addrFit h addr := by
  simp [stagingOnly, addrFit, imp_iff_not_or]

theorem copyOut_length (s : State) (addr : Nat) (data res : List Byte) : copyOut s addr 0 data res = ok s res := rfl

theorem copyOut_waits {n : Nat} (hn : n ≠ 0) (s : State) (addr : Nat) (data res : List Byte) :
    copyOut s addr n data res = .wait s (.dmaCopy addr (data.take n) res) := by
  simp [copyOut, hn]

/-! ## Key slots -/

/-- Slots that carry no mark hold no command up. -/
theorem onSlots_unmarked {s : State} {h : Pkt} {named used : List Nat} {k : Unit → CmdOut} (hlost : ∀ n ∈ named, (s.slot n).updateLost = false)
    (husable : ∀ n ∈ used, (s.slot n).unusable = false) : onSlots s h named used k = k () := by
  have hnone : named.find? (fun n => (s.slot n).updateLost) = none := List.find?_eq_none.mpr (by simpa using hlost)
  have hany : used.any (fun n => (s.slot n).unusable) = false := List.any_eq_false.mpr (by simpa using husable)
  simp only [onSlots, hnone, hany]
  split <;> rfl

end Sys2Proof.Machine
end

section
/-!
PROOFS. The timetable's commands and the rows of cluster speed (02_timetable R51 to R76, R530, R534, Table 02-6a).
-/
namespace Sys2Proof.Machine

/-! ## Proposals (R534) -/

/-- A proposal that passes the checks of its form, its stream and its groups is judged for admission. -/
theorem ttPropose_judged {s : State} {h : Pkt} {p : TtPropose} (hform : firstBad (s.proposeForm p) = none)
    (hholds : s.holds h.part kindStream p.stream = true) (hentry : s.proposeEntry p = none) (hfree : s.underContract p.stream = false)
    (hgroups : s.proposeGroups p = none) : ttPropose s h p = s.proposeAdmit h p := by
  have hpass : firstBad (s.proposeForm p ++
      [s.needs h kindStream p.stream, s.proposeEntry p, failIf (s.underContract p.stream) stBadParam 0, s.proposeGroups p]) = none := by
    rw [firstBad_append hform]
    simp [firstBad_cons_none, *]
  simp only [ttPropose, hpass]

theorem State.proposeAdmit_trial {s : State} {h : Pkt} {p : TtPropose} {k after : Nat} (hroom : s.tt.contracts.length - b2n (s.contractOf p.stream).isSome < 16384)
    (hfits : s.admission (s.proposed h p) = .fits k after) (htrial : p.flags = 1) :
    s.proposeAdmit h p = ok s (proposeReply 0xFFFF k 0 (s.proposed h p).cost (s.proposed h p).bytes after (s.limit k)) := by
  simp [State.proposeAdmit, hroom.not_ge, hfits, htrial]

theorem State.proposeAdmit_admits {s : State} {h : Pkt} {p : TtPropose} {k after : Nat} (hroom : s.tt.contracts.length - b2n (s.contractOf p.stream).isSome < 16384)
    (hfits : s.admission (s.proposed h p) = .fits k after) (hflags : p.flags = 0) :
    s.proposeAdmit h p = ok (s.admitContract (s.proposed h p) k).1
      (proposeReply (s.admitContract (s.proposed h p) k).2 k 1 (s.proposed h p).cost (s.proposed h p).bytes after (s.limit k)) := by
  simp [State.proposeAdmit, hroom.not_ge, hfits, hflags]

/-! ## Commands on a contract (R51, R530) -/

theorem State.visible_of_seen {s : State} {h : Pkt} {id : Nat} {c : Contract} (hc : tget id s.tt.contracts = some c)
    (hseen : c.part = h.part ∨ s.shared kindStream c.stream h.part = true) : s.visible h id = some c := by
  simp only [State.visible, hc]
  exact if_pos (by simpa using hseen)

theorem State.withOwn_of_own {s : State} {h : Pkt} {id : Nat} {c : Contract} (hc : tget id s.tt.contracts = some c) (hown : c.part = h.part)
    (k : Contract → CmdOut) : s.withOwn h id k = k c := by
  simp [State.withOwn, State.visible_of_seen hc (.inl hown), hown]

theorem ttRelease_frees {s : State} {h : Pkt} {id : Nat} {c : Contract} (hprofile : s.tt.profile ≠ .placement) (hc : tget id s.tt.contracts = some c)
    (hown : c.part = h.part) : ttRelease s h id = ok (s.freeContract id) (le 1 c.state.code ++ zeros 3) := by
  simp [ttRelease, hprofile, State.withOwn_of_own hc hown]

theorem ttQuery_answers {s : State} {h : Pkt} {id : Nat} {c : Contract} (hc : tget id s.tt.contracts = some c)
    (hseen : c.part = h.part ∨ s.shared kindStream c.stream h.part = true) : ttQuery s h id = ok s (queryReply id c) := by
  simp only [ttQuery, State.visible_of_seen hc hseen]

theorem ttReplace_moves {s : State} {h : Pkt} {p : TtReplace} {c : Contract} {k after : Nat} (hprofile : s.tt.profile ≠ .placement)
    (hc : tget p.contract s.tt.contracts = some c) (hown : c.part = h.part) (hlive : c.state ≠ .shed)
    (hfits : s.chooseCluster c.cost p.clusterMask (fun j => s.commit j - (if j == c.cluster then c.cost else 0)) [] = some (k, after)) :
    ttReplace s h p = ok
      (if k = c.cluster then s.setContract p.contract { c with clusterMask := p.clusterMask, cluster := k }
        else (s.setContract p.contract { c with clusterMask := p.clusterMask, cluster := k }).moveItems c.cluster p.contract)
      (le 1 c.cluster ++ le 1 k ++ zeros 2 ++ le 4 c.cost ++ le 4 after) := by
  rw [ttReplace, if_neg (by simpa using hprofile), State.withOwn_of_own hc hown, if_neg (by simpa using hlive)]
  simp only [hfits]
  simp only [beq_iff_eq]

/-! ## Profiles (R69, R70, Table 02-6a) -/

/-- TT_SET_PROFILE of the owner, with a profile that there is, goes on to Table 02-6a. -/
theorem ttSetProfile_same {s : State} {h : Pkt} {p : TtSetProfile} (hpart : h.part = 0) (hrange : p.profile < 3) (hsame : profileOf p.profile = s.tt.profile) :
    ttSetProfile s h p = ok s (le 1 s.tt.profile.code ++ le 1 s.tt.profile.code ++ le 2 0) := by
  rw [ttSetProfile, check_none (by simp [firstBad_cons_none, hpart]; omega)]
  simp [hsame]

theorem ttSetProfile_live {s : State} {h : Pkt} {p : TtSetProfile} (hpart : h.part = 0) (hnew : p.profile = 1) (hold : s.tt.profile = .fixed)
    (hsafety : s.safetyPresent = false) : ttSetProfile s h p = profileDone s.enterLive.1 0 1 s.enterLive.2 := by
  rw [ttSetProfile, check_none (by simp [firstBad_cons_none, hpart, hnew])]
  simp [hnew, hold, hsafety, profileOf, Profile.code]

theorem ttSetProfile_fixed_of_live {s : State} {h : Pkt} {p : TtSetProfile} (hpart : h.part = 0) (hnew : p.profile = 0) (hold : s.tt.profile = .live)
    (hrated : s.belowRated = false) (hfit : ∀ k ∈ allClusters, s.commit k ≤ 3400000) :
    ttSetProfile s h p = profileDone (s.withProfile .fixed) 1 0 0 := by
  have hnone : allClusters.filter (fun k => decide (3400000 < s.commit k)) = [] := by simpa using hfit
  rw [ttSetProfile, check_none (by simp [firstBad_cons_none, hpart, hnew])]
  simp [hnew, hold, profileOf, setFixedFromLive, hrated, hnone]

theorem ttSetProfile_placement {s : State} {h : Pkt} {p : TtSetProfile} (hpart : h.part = 0) (hnew : p.profile = 2) (hold : s.tt.profile ≠ .placement)
    (hsafety : s.safetyPresent = false) (hheld : s.heldContracts = []) :
    ttSetProfile s h p = profileDone (s.withProfile .placement) s.tt.profile.code 2 0 := by
  rw [ttSetProfile, check_none (by simp [firstBad_cons_none, hpart, hnew])]
  simp [hnew, hold.symm, profileOf, setPlacement, hsafety, hheld]

theorem ttSetProfile_fixed_of_placement {s : State} {h : Pkt} {p : TtSetProfile} (hpart : h.part = 0) (hnew : p.profile = 0) (hold : s.tt.profile = .placement)
    (hplaced : s.hst.placed = []) : ttSetProfile s h p = profileDone (s.withProfile .fixed) 2 0 0 := by
  rw [ttSetProfile, check_none (by simp [firstBad_cons_none, hpart, hnew])]
  simp [hnew, hold, profileOf, hplaced, Profile.code]

/-! ## Cluster speed (R44, R60 to R64) -/

/-- At rated speed a reading leads to nothing more. -/
theorem State.judgeSpeed_rated {s : State} (hrated : s.belowRated = false) (was : Bool) : s.judgeSpeed was = s := by
  simp [State.judgeSpeed, hrated]

theorem exec_basisRestored_restores {t r : Nat} {s : State} (hup : (s.at t).fabricUp = true) (hlost : s.tt.basisLost = true)
    (hsince : s.tt.ratedSince = some r) (hdue : r + 1000000000 ≤ (s.at t).now) :
    exec (.basisRestored t) s = .next
      (((({ s.at t with tt := { s.tt with basisLost := false } }).faultClear 40).faultClear 41).evtFree
        (({ s.at t with tt := { s.tt with basisLost := false } }).faultClear 40).everyone 0x015) := by
  have hrated : s.tt.ratedSince.any (fun r => decide (r + 1000000000 ≤ (s.at t).now)) = true := any_due hsince hdue
  simp only [exec, execBasisRestored]
  exact event_next (if_pos (Bool.and_eq_true_iff.mpr ⟨Bool.and_eq_true_iff.mpr ⟨hup, hlost⟩, hrated⟩))

theorem exec_liveEvaluation_evaluates {t : Nat} {s : State} (hup : (s.at t).fabricUp = true) (hlive : s.tt.profile = .live) (htick : t % 100000000 = 0)
    (hlast : ∀ e, s.tt.evalTick = some e → e < t) :
    exec (.liveEvaluation t) s = .next (({ s.at t with tt := { s.tt with evalTick := some t } } : State).evaluate allClusters).1 := by
  have hfirst : s.tt.evalTick.all (fun e => decide (e < t)) = true := by
    rw [Option.all_eq_true]
    simpa using hlast
  simp only [exec, execLiveEvaluation]
  exact event_next (if_pos (by simp [hup, hfirst, htick, hlive]))

end Sys2Proof.Machine

namespace Sys2Proof.Proofs

open Sys2Proof.Machine

/-- Settles O3: each command's checks pass, and its body answers. -/
theorem timetableCommandsComplete : Obligations.TimetableCommandsComplete := by
  refine ⟨fun h p s s1 k after hs hform hholds hentry hfree hgroups hroom hfits => ?_, fun h id s s1 c hs hprofile hc hown => ?_,
    fun h id s s1 c hs hc hseen => ?_, fun h p s s1 c k after hs hprofile hc hown hlive hfits => ?_, fun h k s s1 hs hpart hk hprofile => ?_,
    fun h p s s1 hs hcount hfilter => ?_⟩
  · have hjudged := ttPropose_judged hform hholds hentry hfree hgroups
    exact ⟨fun htrial => cmd_answers hs (hjudged.trans (State.proposeAdmit_trial hroom hfits htrial)),
      fun hflags => cmd_answers hs (hjudged.trans (State.proposeAdmit_admits hroom hfits hflags))⟩
  · exact cmd_answers hs (ttRelease_frees hprofile hc hown)
  · exact cmd_answers hs (ttQuery_answers hc hseen)
  · exact cmd_answers hs (ttReplace_moves hprofile hc hown hlive hfits)
  · exact cmd_answers hs (check_none (by simp [firstBad_cons_none, hpart, hprofile]; omega))
  · exact ⟨_, cmd_answers hs (check_none (by simp [firstBad_cons_none]; omega))⟩

/-- Settles O4: the change of profile row by row of Table 02-6a, and each row of cluster speed where its condition holds. -/
theorem profileAndSpeedRowsComplete : Obligations.ProfileAndSpeedRowsComplete := by
  refine ⟨fun h p s s1 hs hpart => ⟨fun hrange hsame => ?_, fun hnew hold hsafety => ?_, fun hnew hold hrated hfit => ?_,
      fun hnew hold hsafety hheld => ?_, fun hnew hold hplaced => ?_⟩,
    fun t n r s hup hn heven hrated => ?_, fun t n r s hup hn hodd hrated => ?_, fun t r s hup hlost hsince hdue => ?_, fun t s hup hlive htick hlast => ?_,
    fun t k s hup hlive hk hover => ?_⟩
  · exact cmd_answers hs (ttSetProfile_same hpart hrange hsame)
  · exact cmd_answers hs (ttSetProfile_live hpart hnew hold hsafety)
  · exact cmd_answers hs (ttSetProfile_fixed_of_live hpart hnew hold hrated hfit)
  · exact cmd_answers hs (ttSetProfile_placement hpart hnew hold hsafety hheld)
  · exact cmd_answers hs (ttSetProfile_fixed_of_placement hpart hnew hold hplaced)
  · exact event_next (by simp [hup, hn, heven, State.judgeSpeed_rated hrated])
  · exact event_next (by simp [hup, hn, hodd, State.judgeSpeed_rated hrated])
  · exact exec_basisRestored_restores hup hlost hsince hdue
  · exact exec_liveEvaluation_evaluates hup hlive htick hlast
  · exact event_next (by simp [hup, hlive, hk, hover])

end Sys2Proof.Proofs
end

section
/-!
PROOFS. The ingest commands (03_ingest R78 to R104).
-/
namespace Sys2Proof.Machine

/-! ## The keys that an entry names (R433) -/

/-- The key slots that an entry names: KEY_CUR, and KEY_NEXT where it is not 0xFF, of one that authenticates. -/
def namedKeys (auth : Bool) (cur next : Nat) : List Nat := if auth then cur :: (if next == 0xFF then [] else [next]) else []

/-- Each key slot that an entry names serves for DECRYPT. -/
def State.keysFit (s : State) (h : Pkt) (auth : Bool) (cur next : Nat) : Prop :=
  auth = true → s.slotFit h cur 2 ∧ (next = 0xFF ∨ s.slotFit h next 2)

theorem State.keysFit.named {s : State} {h : Pkt} {auth : Bool} {cur next n : Nat} (hk : s.keysFit h auth cur next) (hn : n ∈ namedKeys auth cur next) :
    s.slotFit h n 2 := by
  unfold namedKeys at hn
  split at hn
  next hauth =>
    obtain ⟨hcur, hnext⟩ := hk hauth
    split at hn
    · rw [List.mem_singleton.mp hn]
      exact hcur
    next hne =>
      obtain rfl | hn := List.mem_cons.mp hn
      · exact hcur
      · rw [List.mem_singleton.mp hn]
        exact hnext.resolve_left (by simpa using hne)
  · cases hn

theorem onSlots_keysFit {s : State} {h : Pkt} {auth : Bool} {cur next : Nat} (hk : s.keysFit h auth cur next) (k : Unit → CmdOut) :
    onSlots s h (namedKeys auth cur next) (namedKeys auth cur next) k = k () :=
  onSlots_unmarked (fun _ hn => (hk.named hn).2.2.1) fun _ hn => (hk.named hn).2.2.2

theorem State.keySlotChecks_none {s : State} {h : Pkt} {used : Bool} {slot off : Nat} (hfit : used = true → s.slotFit h slot 2) :
    firstBad (s.keySlotChecks h used slot off) = none := by
  cases used with
  | false => rfl
  | true =>
    obtain ⟨hholds, hattr, -⟩ := hfit rfl
    simp [State.keySlotChecks, firstBad_cons_none, hholds, hattr]

theorem State.keysFit.checks {s : State} {h : Pkt} {auth : Bool} {cur next : Nat} (hk : s.keysFit h auth cur next) (a b : Nat) :
    firstBad (s.keySlotChecks h auth cur a) = none ∧ firstBad (s.keySlotChecks h (auth && next != 0xFF) next b) = none := by
  refine ⟨State.keySlotChecks_none fun hauth => (hk hauth).1, State.keySlotChecks_none fun hauth => ?_⟩
  rw [Bool.and_eq_true, bne_iff_ne] at hauth
  exact (hk hauth.1).2.resolve_left hauth.2

theorem vlanOk_iff {v : Nat} : vlanOk v = true ↔ v ≤ 4094 ∨ v = 0xFFFF := by simp [vlanOk]

theorem State.pmuFree_of {s : State} {st : Nat} (h : ∀ t, (s.streamSt st).lastCmd = some t → t + 1000000000 ≤ s.now) : s.pmuFree st = true := all_due h

/-- Where an entry is rewritten, what is new of the station is its entry and the keys that waiting frames came under. -/
theorem State.stationWrite_eq (s : State) (n : Nat) (p : IngGooseSub) : ∃ keys, s.stationWrite n p = s.setStation n { sub := p, keyChanges := keys } := by
  unfold State.stationWrite
  split
  · exact ⟨[], rfl⟩
  · exact ⟨_, rfl⟩

end Sys2Proof.Machine

namespace Sys2Proof.Proofs

open Sys2Proof.Machine

/-- Settles O5: for each command the checks of its table pass one by one. -/
theorem ingestCommandRowsComplete : Obligations.IngestCommandRowsComplete := by
  refine ⟨⟨fun h p0 p s s1 hs hp hstream hholds hkind htb htb' hmask hmask' hpair hmeet hflags hred hauth hvlan hid hsv hself hrate hkeys hrot hfrozen hfits => ?_,
    fun h st s s1 hs hst hholds hset hfree => ?_⟩, fun h p s s1 e hs hlen hst hholds hcount hcount' htypes hqual htype he hkind hnone => ?_,
    fun h p s s1 e hs hst hholds hcmd hcmd' he hkind hflag hlast => ?_, fun h p s s1 hs hst hreads hwhich hwhich' haddr => ?_,
    fun h p s s1 hs hst hholds => ?_, fun h p s s1 hs hst hholds hmapped => ⟨fun hdel => ?_, fun hkind hflags hred hmask hmask' hmeet hvlan hudp href hkeys => ?_⟩⟩
  · have hfit : s1.keysFit h (p.flags.testBit 7) p.keyCur p.keyNext := hkeys
    refine cmd_answers hs ?_
    unfold ingSubSet
    rw [← hp]
    refine (onSlots_keysFit hfit _).trans (check_none ?_)
    obtain ⟨hcur, hnext⟩ := hfit.checks 64 65
    simp only [firstBad_append_none, hcur, hnext]
    have hclear : ∀ a b, (a, b) ∈ s1.ing.subs → ¬a = p.stream → subsMeet p b = false := fun a b => hmeet (a, b)
    simp [firstBad_cons_none, vlanOk_iff, -Nat.testBit_zero]
    refine ⟨⟨by omega, hholds, hkind, by omega, htb', by omega, hmask', hpair, hclear, ⟨⟨hflags, fun h5 => by simpa [h5] using hred⟩, hauth⟩, hvlan,
      fun hk => by have := hid hk; omega, fun hbig hk => by have := hid hk; omega, fun hk => (hsv hk).1, fun hk => (hsv hk).2.1, fun hk => (hsv hk).2.2,
      hself, fun hk => ?_, ?_⟩, hrot, fun hk => (hid hk).2.2, fun hu => hfrozen.resolve_left (by simp [hu]), hfits⟩
    · rw [if_pos hk] at hrate
      rintro hzero
      simp [hzero] at hrate
    · split
      next hk =>
        rw [if_pos hk] at hrate
        simp only [List.mem_cons, List.not_mem_nil, or_false] at hrate
        omega
      next hk => rwa [if_neg hk] at hrate
  · exact cmd_answers hs (check_none (by simp [firstBad_cons_none, hholds, hfree, hset]; omega))
  · refine cmd_answers hs ?_
    unfold ingSetLayout
    simp only [he, hnone, Option.getD_some]
    exact check_none (by simp [firstBad_cons_none, hlen, hholds, htypes, hkind]; grind)
  · have hfree := State.pmuFree_of hlast
    refine cmd_answers hs ((check_none (by simp [firstBad_cons_none, hholds, hfree, he, hkind, hflag, -Nat.testBit_zero]; omega)).trans ?_)
    simp only [he]
    rfl
  · have hpass : ingGetConfig s1 h p = match tget p.which (s1.streamSt p.stream).stored with
        | some f => copyOut s1 p.bufAddr p.bufLen f.raw (le 4 f.raw.length ++ le 2 f.cfgCnt ++ zeros 2 ++ le 8 f.stamp)
        | none => ok s1 (zeros 16) := check_none (by simp [firstBad_cons_none, hreads, imp_iff_not_or, haddr]; grind)
    refine ⟨fun hf => cmd_answers hs ?_, fun f hf hlen => cmd_answers hs ?_, fun f hf hlen => cmd_waits hs ?_⟩
    · rw [hpass, hf]
      rfl
    · rw [hpass, hf, hlen]
      rfl
    · rw [hpass, hf]
      exact copyOut_waits hlen s1 _ _ _
  · exact cmd_answers hs (check_none (by
      split <;> simp [firstBad_cons_none, hholds, State.reads_of_holds hholds] <;> omega))
  · refine cmd_answers hs ?_
    unfold ingGooseSub
    rw [if_pos (by simpa using hdel)]
    exact check_none (by simp [firstBad_cons_none, hholds, hmapped]; omega)
  · have hfit : s1.keysFit h (p.flags.testBit 1) p.keyCur p.keyNext := hkeys
    refine ⟨cmd_answers hs ?_, (s1.at h.done).stationWrite_eq p.station p⟩
    have hp : { p with udpDst := if p.kind == 1 && p.udpDst == 0 then 102 else p.udpDst } = p := by
      rw [if_neg (by simp [hkind])]
    unfold ingGooseSub
    rw [hp, if_neg (by simp [hkind])]
    refine (onSlots_keysFit hfit _).trans (check_none ?_)
    obtain ⟨hcur, hnext⟩ := hfit.checks 18 19
    simp only [firstBad_append_none, hcur, hnext]
    have hclear : ∀ a b, (a, b) ∈ s1.ing.stations → ¬a = p.station → stationsMeet p b.sub = false := fun a b => hmeet (a, b)
    simp [firstBad_cons_none, vlanOk_iff, hholds, hmapped]
    exact ⟨⟨hst, by omega, ⟨hflags, fun h2 => by simpa [h2] using hred⟩, by omega, hmask', hclear, hvlan⟩, fun _ => hudp, href⟩

end Sys2Proof.Proofs
end

section
/-!
PROOFS. The frames that ingest takes and its timers (03_ingest R81 to R109).
-/
namespace Sys2Proof.Machine

/-! ## Checks that a plain frame passes: not authenticated, not redundant, not simulated -/

theorem State.subSecure_plain {e : IngSubSet} (hauth : e.flags.testBit 7 = false) (s : State) (st : Nat) (h : FrameHdr) (sec : SpduSec) :
    s.subSecure st e h sec = (s, true) := by
  simp [State.subSecure, hauth]

theorem State.subPasses_plain {s : State} {st : Nat} {e : IngSubSet} (hred : subRedundant e = false) (hsim : (s.streamSt st).simInUse = false) (h : FrameHdr) :
    s.subPasses st e h false = (s, true) := by
  simp [State.subPasses, State.dupSeen, hred, simDrops, hsim, State.simNoted]

/-! ## Frames -/

theorem State.takeUnmatched_of_free {s : State} {h : FrameHdr} (hfree : s.portStops h false = false) :
    s.takeUnmatched h = (s.rxTake h).unmatched h (s.cameTagged h) := by
  simp [State.takeUnmatched, hfree]

theorem State.dataFrame_unmatched {s : State} {f : DataFrame} (hup : s.fabricUp = true) (hwaits : s.rxWaits f.hdr = true)
    (hnone : s.subOf (if f.rsv then 1 else 0) f.hdr f.id f.svId = none) : s.dataFrame f = s.takeUnmatched f.hdr := by
  simp [State.dataFrame, hup, hwaits, hnone]

theorem State.dataFrame_matched {s : State} {f : DataFrame} {st : Nat} {e : IngSubSet} (hup : s.fabricUp = true) (hwaits : s.rxWaits f.hdr = true)
    (hsub : s.subOf (if f.rsv then 1 else 0) f.hdr f.id f.svId = some (st, e)) (hturn : s.streamTurn st f.hdr = true) :
    s.dataFrame f = (s.rxTake f.hdr).dataOf st e f := by
  simp [State.dataFrame, hup, hwaits, hsub, hturn]

/-- A whole and plain data frame of a carried stream goes on to its contract. -/
theorem State.dataOf_carried {s : State} {st id : Nat} {e : IngSubSet} {k : Contract} {f : DataFrame} (hsupported : f.supported = true) (hmore : f.more.length ≤ 7)
    (hwhole : f.rsv = false → f.sizeOk = true ∧ f.chkOk = true) (hauth : e.flags.testBit 7 = false) (hred : subRedundant e = false)
    (hsim : (f.rsv && f.sim) = false) (huse : (s.streamSt st).simInUse = false) (hcarrier : s.carrierOf st = some (id, k)) :
    s.dataOf st e f = s.dataAsdus st e id k f := by
  have hsize : (!f.rsv && !f.sizeOk) = false := by cases hrsv : f.rsv <;> simp [hwhole, hrsv]
  have hchk : (!f.rsv && !f.chkOk) = false := by cases hrsv : f.rsv <;> simp [hwhole, hrsv]
  simp [State.dataOf, hsupported, hmore.not_gt, hsize, hchk, State.subSecure_plain hauth, hsim, State.subPasses_plain hred huse, hcarrier]

theorem State.configFrame_matched {s : State} {f : ConfigFrame} {st : Nat} {e : IngSubSet} (hup : s.fabricUp = true) (hwaits : s.rxWaits f.hdr = true)
    (hsub : s.subOf 0 f.hdr f.id 0 = some (st, e)) (hturn : s.quietTurn st f.hdr = true) : s.configFrame f = (s.rxTake f.hdr).configOf st e f := by
  simp [State.configFrame, hup, hwaits, hsub, hturn]

/-- A whole and plain configuration frame that is the stream's first is put together. -/
theorem State.configOf_part {s : State} {st : Nat} {e : IngSubSet} {f : ConfigFrame} (hsupported : f.supported = true) (hsize : f.sizeOk = true)
    (hchk : f.chkOk = true) (hred : subRedundant e = false) (hfirst : (s.streamSt st).lastCfg = none) : s.configOf st e f = s.configPart st e f := by
  simp [State.configOf, hsupported, hsize, hchk, hred, State.dupSeen, hfirst]

theorem State.configPart_whole {s : State} {st : Nat} {e : IngSubSet} {f : ConfigFrame} (hred : subRedundant e = false) (hwhole : f.type ≠ 3 ∨ f.contIdx = 0) :
    s.configPart st e f = (s.modStream st (fun x => { x with lastCfg := some f.hdr.arrival })).configTake st e f := by
  have hone : (f.type != 3 || f.contIdx == 0) = true := by simpa using hwhole
  simp [State.configPart, hone, hred, State.dupEnter]

theorem State.svFrame_matched {s : State} {f : SvFrame} {st : Nat} {e : IngSubSet} (hup : s.fabricUp = true) (hwaits : s.rxWaits f.hdr = true)
    (hsub : s.subOf 2 f.hdr f.appId f.svId = some (st, e)) (hturn : s.streamTurn st f.hdr = true) : s.svFrame f = (s.rxTake f.hdr).svOf st e f := by
  simp [State.svFrame, hup, hwaits, hsub, hturn]

/-- A whole and plain sampled-value frame of a carried stream goes on to its contract. -/
theorem State.svOf_carried {s : State} {st id : Nat} {e : IngSubSet} {k : Contract} {f : SvFrame} (hsupported : f.supported = true) (hformat : f.formatOk = true)
    (hsome : f.asdus ≠ []) (hcount : f.asdus.length ≤ 8) (hasdus : ∀ a ∈ f.asdus, a.smpCnt < e.svRate ∧ a.samples.length = 8) (hred : subRedundant e = false)
    (hsim : f.sim = false) (huse : (s.streamSt st).simInUse = false) (hcarrier : s.carrierOf st = some (id, k)) (hrate : k.rate = e.svRate) :
    s.svOf st e f = s.svCarried st e id k f := by
  have hform : f.asdus.any (fun a => decide (e.svRate ≤ a.smpCnt) || a.samples.length != 8) = false := by
    rw [List.any_eq_false]
    intro a ha
    obtain ⟨hcnt, hlen⟩ := hasdus a ha
    simp [hcnt.not_ge, hlen]
  simp [State.svOf, hsupported, hformat, hsome, hcount.not_gt, hform, hsim, State.subPasses_plain hred huse, hcarrier, hrate]

/-- A supported GOOSE frame of a station goes to the station's checks. -/
theorem State.gooseFrame_passes {s : State} {f : GooseFrame} {n : Nat} {x : Station} (hup : s.fabricUp = true) (hwaits : s.rxWaits f.hdr = true)
    (hstation : s.stationOf f.hdr f.rGoose f.appId f.gocbRef = some (n, x)) (hturn : s.rxTurn f.hdr (fun e => e.station == some n) = true)
    (hsupported : f.supported = true) (hplain : f.rGoose = false) (hx : tget n (s.rxTake f.hdr).ing.stations = some x) :
    s.gooseFrame f = (s.rxTake f.hdr).stationPasses n x f := by
  have hplainly : (s.rxTake f.hdr).stationSecure n x f = (s.rxTake f.hdr, true) := by simp [State.stationSecure, hplain]
  simp only [State.gooseFrame, hstation, hplainly, hx]
  simp [hup, hwaits, hturn, hsupported]

/-! ## Timers -/

theorem State.pmuDeferred_sends {s : State} {st cmd : Nat} {rest : List Nat} {e : IngSubSet} (he : tget st s.ing.subs = some e) (hflag : e.flags.testBit 0 = true)
    (hon : (s.streamSt st).onAt = none) (hwait : (s.streamSt st).waitCmds = cmd :: rest) (hfree : s.pmuFree st = true) :
    s.pmuDeferred st = (s.modStream st (fun x => { x with waitCmds := rest })).pmuSend st e cmd := by
  simp [State.pmuDeferred, he, hon, hwait, hflag, hfree, -Nat.testBit_zero]

theorem State.pmuRestart_repeats {s : State} {st id due : Nat} {e : IngSubSet} {k : Contract} (he : tget st s.ing.subs = some e)
    (hflag : e.flags.testBit 2 = true) (hdue : (s.streamSt st).restartAt = some due) (hnow : due ≤ s.now) (hk : s.contractOf st = some (id, k))
    (hsuspended : k.state = .suspended) :
    s.pmuRestart st = (s.pmuPair st).modStream st (fun x => { x with restartAt := some (s.now + 10000000000) }) := by
  simp only [State.pmuRestart, he, hdue, hk, Option.any_some]
  exact if_pos (by simp [hnow, hsuspended, hflag])

theorem State.overlapOver_of {s : State} {t st due : Nat} (hdue : (s.streamSt st).overlapEnd = some due) (hnow : due ≤ (s.at t).now) :
    ((s.at t).streamSt st).overlapEnd.any (fun e => decide (e ≤ (s.at t).now)) = true := by
  have hsame : ((s.at t).streamSt st).overlapEnd = some due := hdue
  rw [hsame, Option.any_some]
  exact decide_eq_true hnow

/-- What stays in the duplicate table is recent, and no source stays without a number. -/
theorem State.dupForget_recent (s : State) : ∀ d ∈ s.dupForget.ing.dup, d.seqs ≠ [] ∧ ∀ q ∈ d.seqs, s.now < q.2 + s.forgetNs := by
  intro d hd
  simp only [State.dupForget, List.mem_filter, List.mem_map] at hd
  obtain ⟨⟨d', -, rfl⟩, hsome⟩ := hd
  exact ⟨by simpa using hsome, fun q hq => by simpa using (List.mem_filter.mp hq).2⟩

theorem State.talExpiry_drops {s : State} {n : Nat} {x : Station} (hup : s.fabricUp = true) (hx : tget n s.ing.stations = some x)
    (hover : s.stationOver n x = true) (hstate : x.state = .healthy) : s.talExpiry n = s.stationDrop n x := by
  simp [State.talExpiry, hx, hup, hover, hstate]

theorem State.waitExpiry_waits {s : State} {n : Nat} {x : Station} (hup : s.fabricUp = true) (hx : tget n s.ing.stations = some x)
    (hover : s.stationOver n x = true) (hstate : x.state = .firstSeen) :
    s.waitExpiry n = s.setStation n { x with state := .waiting, deadline := none } := by
  simp [State.waitExpiry, hx, hup, hover, hstate]

end Sys2Proof.Machine

namespace Sys2Proof.Proofs

open Sys2Proof.Machine

/-- Settles O6: each row takes its frame in turn, or finds its time come, and does its one thing. -/
theorem ingestEventRowsComplete : Obligations.IngestEventRowsComplete := by
  refine ⟨⟨fun t f s hup hwaits hnone hfree => ?_,
      fun t f s st id e k hup hwaits hsub hturn hsupported hmore hwhole hauth hred hsim huse hcarrier => ?_,
      fun t f s st e hup hwaits hsub hturn hsupported hsize hchk hred hfirst => ⟨?_, fun hone => ?_⟩,
      fun t f s st id e k hup hwaits hsub hturn hsupported hformat hsome hcount hasdus hred hsim huse hcarrier hrate => ?_,
      fun t f s n x hup hwaits hstation hturn hsupported hplain hx => ?_⟩,
    fun t st cmd rest s e hup he hflag hon hwait hfree => ?_, fun t st id due s e k hup he hflag hdue hnow hk hsuspended => ?_, fun t s hup htick => ?_,
    fun t st due s hdue hnow => ?_, fun t s => ?_, fun t n s x hup hx hover => ⟨fun hstate => ?_, fun hstate => ?_⟩⟩
  · simp only [exec, execIngestDataFrame]
    exact event_next ((State.dataFrame_unmatched hup hwaits hnone).trans (State.takeUnmatched_of_free hfree))
  · simp only [exec, execIngestDataFrame]
    exact event_next ((State.dataFrame_matched hup hwaits hsub hturn).trans
      (State.dataOf_carried hsupported hmore hwhole hauth hred hsim huse hcarrier))
  · simp only [exec, execIngestConfigFrame]
    exact event_next ((State.configFrame_matched hup hwaits hsub hturn).trans (State.configOf_part hsupported hsize hchk hred hfirst))
  · exact State.configPart_whole hred hone
  · simp only [exec, execIngestSvFrame]
    exact event_next ((State.svFrame_matched hup hwaits hsub hturn).trans
      (State.svOf_carried hsupported hformat hsome hcount hasdus hred hsim huse hcarrier hrate))
  · simp only [exec, execIngestGooseFrame]
    exact event_next (State.gooseFrame_passes hup hwaits hstation hturn hsupported hplain hx)
  · simp only [exec, execPmuCmdDeferred]
    exact event_next ((if_pos hup).trans (State.pmuDeferred_sends he hflag hon hwait hfree))
  · simp only [exec, execPmuRestartRepeat]
    exact event_next ((if_pos hup).trans (State.pmuRestart_repeats he hflag hdue hnow hk hsuspended))
  · simp only [exec, execSilenceCheck]
    exact event_next (if_pos (by simp [hup, htick]))
  · simp only [exec, execKeyRotationOverlapEnd]
    exact event_next (if_pos (State.overlapOver_of hdue hnow))
  · exact ⟨_, rfl, (s.at t).dupForget_recent⟩
  · simp only [exec, execStationTalExpiry]
    exact event_next (State.talExpiry_drops hup hx hover hstate)
  · simp only [exec, execStationWaitTimeout]
    exact event_next (State.waitExpiry_waits hup hx hover hstate)

end Sys2Proof.Proofs
end

section
/-!
PROOFS. The commands of groups, policies, departure rings and history (04_platform R118 to R121, R131, R139).
-/
namespace Sys2Proof.Machine

/-! ## PLT_GROUP_SET (R118 to R120) -/

/-- A started PLT_GROUP_SET whose body gives the group's reply. -/
theorem cmd_groupAnswers {s s1 e : State} {i : Instr} {h : Pkt} {body : State → CmdOut} {n : Nat} {first : Option Nat}
    (hs : s.started { op := 0x0300, len := some 24 } h = some s1) (hb : body s1 = e.groupReply n first) :
    cmd i { op := 0x0300, len := some 24 } h s body = .next (e.groupAnswered h n first) := by
  cases first with
  | none => exact cmd_answers hs hb
  | some i => exact cmd_answers hs hb

theorem groupSet_deletes_none {s : State} {h : Pkt} {p : PltGroupSet} (hpart : h.part = 0) (hgroup : p.group ≤ 15) (hdel : p.delete = true)
    (hnone : s.group p.group = none) : groupSet s h p = ok s (zeros 12) := by
  rw [groupSet, if_pos hdel, check_none (by simp [firstBad_cons_none, hpart, hgroup])]
  simp [hnone]

theorem groupSet_deletes {s : State} {h : Pkt} {p : PltGroupSet} (hpart : h.part = 0) (hgroup : p.group ≤ 15) (hdel : p.delete = true)
    (hsome : (s.group p.group).isSome = true) (hfree : s.groupNamed p.group = false) :
    groupSet s h p = ({ s with plt := { s.plt with groups := tdel p.group s.plt.groups } } : State).groupReply p.group none := by
  rw [groupSet, if_pos hdel, check_none (by simp [firstBad_cons_none, hpart, hgroup])]
  simp [Option.isNone_eq_false_iff.mpr hsome, hfree]

/-- A setting of a group that passes every check of PLT_GROUP_SET. -/
structure State.GroupFits (s : State) (h : Pkt) (p : PltGroupSet) : Prop where
  owner : h.part = 0
  keep : p.delete = false
  group : p.group ≤ 15
  base : 1 ≤ p.tbSel ∧ p.tbSel ≤ 3
  rate : p.rate ∈ frameRates
  wait : 1000 ≤ p.waitUs ∧ p.waitUs ≤ 500000
  horizon : p.horizonMs ≤ 10000
  live : ∀ g, s.group p.group = some g → g.state ≠ .disabled → g.set.tbSel = p.tbSel ∧ g.set.rate = p.rate
  members : ∀ e ∈ s.members p.group, (e.1 < 65536 → p.waitUs ≤ e.2.deadlineUs) ∧ e.2.instRate % Nat.max p.rate 1 = 0

/-- The group departs, or waits for its base. -/
def State.groupLive (s : State) (n : Nat) : Bool := (s.group n).any (fun g => g.state != .disabled)

/-- The group with the setting. -/
def State.groupWith (s : State) (p : PltGroupSet) : Group :=
  match s.group p.group with
  | some g => { g with set := p }
  | none => { set := p }

theorem State.groupWith_eq (s : State) (p : PltGroupSet) :
    s.groupWith p = ((s.group p.group).map (fun g => { g with set := p })).getD { set := p } := by
  unfold State.groupWith
  cases s.group p.group <;> rfl

theorem rate_ne_zero_of_mem {r : Nat} (h : r ∈ frameRates) : r ≠ 0 := by
  rintro rfl
  simp [frameRates] at h

theorem State.GroupFits.groupBreaks_none {s : State} {h : Pkt} {p : PltGroupSet} (hf : s.GroupFits h p) : s.groupBreaks p.group p.waitUs p.rate = none := by
  rw [State.groupBreaks, List.find?_eq_none]
  intro e he
  obtain ⟨hwait, hrate⟩ := hf.members e he
  simp only [hrate, bne_self_eq_false, Bool.or_false, Bool.and_eq_true, decide_eq_true_eq, not_and, not_lt]
  exact hwait

theorem State.GroupFits.live_unmoved {s : State} {h : Pkt} {p : PltGroupSet} (hf : s.GroupFits h p) :
    (s.groupLive p.group && (s.group p.group).any (fun g => g.set.tbSel != p.tbSel || g.set.rate != p.rate)) = false := by
  unfold State.groupLive
  cases hg : s.group p.group with
  | none => rfl
  | some g =>
    by_cases hstate : g.state = .disabled
    · simp [hstate]
    · obtain ⟨htb, hrate⟩ := hf.live g hg hstate
      simp [htb, hrate]

/-- What PLT_GROUP_SET does with a setting that fits. -/
theorem State.GroupFits.sets {s : State} {h : Pkt} {p : PltGroupSet} (hf : s.GroupFits h p) : groupSet s h p =
    if !p.enable then
      (((s.setGroup p.group { s.groupWith p with state := .disabled, first := none, last := none, house := [], released := [] }).freeSlots).metersRefresh).groupReply
        p.group none
    else if !s.groupLive p.group then
      (s.groupEnable p.group (s.groupWith p) (s.doneAt h)).groupReply p.group
        (((s.groupEnable p.group (s.groupWith p) (s.doneAt h)).group p.group).bind (·.first))
    else
      let oldSet := ((s.group p.group).map (·.set)).getD p
      let w := if oldSet.waitUs == p.waitUs then (s.groupWith p, (s.groupWith p).nextInst) else s.groupWait (s.groupWith p) p.waitUs (s.doneAt h)
      let g1 : Group := if oldSet.horizonMs == p.horizonMs then w.1 else { w.1 with horizons := (s.doneAt h, p.horizonMs) :: w.1.horizons }
      (s.setGroup p.group g1).groupReply p.group w.2 := by
  have hlive := hf.live_unmoved
  have hbreaks := hf.groupBreaks_none
  have hrate := rate_ne_zero_of_mem hf.rate
  obtain ⟨hpart, hdel, hgroup, hbase, hmem, hwait, hhorizon, -, -⟩ := hf
  rw [groupSet, if_neg (by simp [hdel])]
  refine check_none ?_
  unfold State.groupLive at hlive
  simp only [firstBad_cons_none, hlive, hbreaks]
  simp [hpart, hrate, hmem]
  and_intros <;> omega

theorem groupSet_disables {s : State} {h : Pkt} {p : PltGroupSet} (hf : s.GroupFits h p) (hoff : p.enable = false) : groupSet s h p =
    (((s.setGroup p.group { s.groupWith p with state := .disabled, first := none, last := none, house := [], released := [] }).freeSlots).metersRefresh).groupReply
      p.group none := by
  rw [hf.sets, if_pos (by simp [hoff])]

theorem groupSet_enables {s : State} {h : Pkt} {p : PltGroupSet} (hf : s.GroupFits h p) (hon : p.enable = true)
    (hidle : ∀ g, s.group p.group = some g → g.state = .disabled) : groupSet s h p =
    (s.groupEnable p.group (s.groupWith p) (s.doneAt h)).groupReply p.group
      (((s.groupEnable p.group (s.groupWith p) (s.doneAt h)).group p.group).bind (·.first)) := by
  have hnot : s.groupLive p.group = false := by
    unfold State.groupLive
    cases hg : s.group p.group with
    | none => rfl
    | some g => simp [hidle g hg]
  rw [hf.sets, if_neg (by simp [hon]), if_pos (by simp [hnot])]

theorem groupSet_changes {s : State} {h : Pkt} {p : PltGroupSet} {g g1 : Group} {w : Group × Option Nat} (hf : s.GroupFits h p) (hon : p.enable = true)
    (hg : s.group p.group = some g) (hlive : g.state ≠ .disabled)
    (hw : w = if g.set.waitUs = p.waitUs then (s.groupWith p, (s.groupWith p).nextInst) else s.groupWait (s.groupWith p) p.waitUs (s.doneAt h))
    (hg1 : g1 = if g.set.horizonMs = p.horizonMs then w.1 else { w.1 with horizons := (s.doneAt h, p.horizonMs) :: w.1.horizons }) :
    groupSet s h p = (s.setGroup p.group g1).groupReply p.group w.2 := by
  rw [hf.sets, if_neg (by simp [hon]), if_neg (by simp [State.groupLive, hg, hlive])]
  simp only [hg, Option.map_some, Option.getD_some, beq_iff_eq]
  rw [hg1, hw]

/-! ## PLT_CHAN_POLICY, PLT_RING_SET, PLT_HISTORY_READ -/

theorem pltGroupQuery_passes {n : Nat} (hn : n ≤ 15) (s : State) : pltGroupQuery s n =
    match s.group n with
    | none => ok s (zeros 40)
    | some g =>
      ok s (le 1 g.state.code ++ le 1 (b2n g.set.enable + 2 * b2n g.set.fullHouse) ++ le 1 g.set.tbSel ++ zeros 1 ++ le 4 g.set.rate
        ++ le 4 g.set.waitUs ++ le 4 g.set.horizonMs ++ le 8 ((g.last.map instNs).getD 0) ++ le 8 g.seq ++ le 2 (s.members n).length ++ zeros 6) :=
  check_none (by simp [firstBad_cons_none, hn])

theorem pltRingSet_passes {s : State} {h : Pkt} {p : PltRingSet} (hring : p.ring ≤ 3) (hmask : p.groupMask < 65536)
    (hset : p.ringSize = 0 ∨ (ringSizeOk p.ringSize = true ∧ 2 * s.largestRecord h.part p.groupMask ≤ p.ringSize ∧ addrFit h p.ringAddr ∧
      p.ringAddr % 4096 = 0 ∧ addrFit h p.prodWbAddr ∧ p.prodWbAddr % 8 = 0)) :
    firstBad [badIf (3 < p.ring) 0, badIf (65536 ≤ p.groupMask) 2, badIf (!ringSizeOk p.ringSize) 8,
      badIf (p.ringSize != 0 && p.ringSize < 2 * s.largestRecord h.part p.groupMask) 8, if p.ringSize != 0 then stagingOnly h p.ringAddr else none,
      badIf (p.ringSize != 0 && p.ringAddr % 4096 != 0) 16, if p.ringSize != 0 then stagingOnly h p.prodWbAddr else none,
      badIf (p.ringSize != 0 && p.prodWbAddr % 8 != 0) 24] = none := by
  obtain hoff | ⟨hsize, hlarge, hring', hpage, hwb, halign⟩ := hset
  · simp [firstBad_cons_none, hring, hmask, hoff, ringSizeOk]
  · simp [firstBad_cons_none, hring, hmask, hsize, hlarge, hring', hpage, hwb, halign]

theorem State.ringConsWrite_takes {s : State} {part ring v : Nat} {r : DepRing} (hring : ring ≤ 3) (hr : tget (ringKey part ring) s.plt.rings = some r)
    (hfits : (r.prod - BitVec.ofNat 32 v).toNat ≤ r.set.ringSize) : s.ringConsWrite part ring v =
    { s with plt := { s.plt with rings := tset (ringKey part ring) { r with cons := BitVec.ofNat 32 v } s.plt.rings } } := by
  simp only [State.ringConsWrite, hr]
  exact if_pos (by simpa [hring] using hfits)

theorem State.ringConsWrite_ignores {s : State} {part ring v : Nat} {r : DepRing} (hr : tget (ringKey part ring) s.plt.rings = some r)
    (hover : r.set.ringSize < (r.prod - BitVec.ofNat 32 v).toNat) : s.ringConsWrite part ring v = s := by
  simp only [State.ringConsWrite, hr]
  exact if_neg (by rw [Bool.and_eq_true, decide_eq_true_eq, decide_eq_true_eq]; omega)

theorem pltHistoryRead_copies {s : State} {h : Pkt} {p : PltHistoryRead} {x : Slice} (hgroup : p.group ≤ 15) (haddr : p.bufLen = 0 ∨ addrFit h p.bufAddr)
    (hx : s.plt.history.find? (fun x => x.group == p.group && instNs x.inst == p.instant) = some x) :
    pltHistoryRead s h p = copyOut s p.bufAddr p.bufLen (sliceImage (s.seen h.part x) 0) (le 4 (recordLen (s.seen h.part x)) ++ zeros 4) := by
  rw [pltHistoryRead, check_none (by simpa [firstBad_cons_none, hgroup] using or_iff_not_imp_left.mp haddr)]
  simp only [hx]

end Sys2Proof.Machine

namespace Sys2Proof.Proofs

open Sys2Proof.Machine

/-- Settles O7: each command's checks pass; PLT_GROUP_SET takes one of its three ways. -/
theorem groupAndPlatformCommandsComplete : Obligations.GroupAndPlatformCommandsComplete := by
  refine ⟨⟨fun h p s s1 hs hpart hgroup hdel => ⟨fun hnone => ?_, fun hsome hfree => ?_⟩,
      fun h p0 p s s1 g0 hs hpart hp hdel hgroup htb htb' hrate hwait hwait' hhorizon hlive hmembers hg0 => ?_,
      fun h n s s1 hs hn => ⟨fun hnone => cmd_answers hs ?_, fun g hg => cmd_answers hs ?_⟩⟩,
    fun h p s s1 hs hst hholds hcount hlast hpolicy hlimit => ?_, fun h p s s1 hs hring hmask hset => ?_,
    fun t part ring v s r hring hr => ⟨fun hfits => ?_, fun hover => ?_⟩, fun h p s s1 x hs hgroup haddr hx => ?_⟩
  · exact cmd_answers hs (groupSet_deletes_none hpart hgroup hdel hnone)
  · exact cmd_groupAnswers hs (groupSet_deletes hpart hgroup hdel hsome hfree)
  · have hfit : s1.GroupFits h p := ⟨hpart, hdel, hgroup, ⟨htb, htb'⟩, hrate, ⟨hwait, hwait'⟩, hhorizon, hlive, hmembers⟩
    obtain rfl : g0 = s1.groupWith p := hg0.trans (s1.groupWith_eq p).symm
    subst hp
    exact ⟨fun hoff => cmd_groupAnswers hs (groupSet_disables hfit hoff), fun hon hidle => cmd_groupAnswers hs (groupSet_enables hfit hon hidle),
      fun g g1 w hon hg hstate hw hg1 => cmd_groupAnswers hs (groupSet_changes hfit hon hg hstate hw hg1)⟩
  · rw [pltGroupQuery_passes hn, hnone]
    rfl
  · rw [pltGroupQuery_passes hn, hg]
    rfl
  · exact cmd_answers hs (check_none (by simp [firstBad_cons_none, hholds]; grind))
  · refine cmd_answers hs ?_
    unfold pltRingSet
    exact check_none (pltRingSet_passes hring hmask hset)
  · simp only [exec, execPltRingConsWrite]
    exact event_next (State.ringConsWrite_takes hring hr hfits)
  · simp only [exec, execPltRingConsWrite]
    exact event_next (State.ringConsWrite_ignores hr hover)
  · have hcopies := pltHistoryRead_copies hgroup haddr hx
    refine ⟨fun hlen => cmd_answers hs (hcopies.trans ?_), fun hlen => cmd_waits hs (hcopies.trans ?_)⟩
    · rw [hlen]
      rfl
    · exact copyOut_waits hlen s1 _ _ _

end Sys2Proof.Proofs
end

section
/-!
PROOFS. Output streams (04_platform R141 to R143), and the writes and departures of the platform (R124 to R136, R146, 11_clusters R327, R329).
-/
namespace Sys2Proof.Machine

/-! ## Output streams -/

/-- A setting without deletion that passes the checks of PLT_OUT_SET, of a stream that is not signed. -/
structure State.OutFits (s : State) (h : Pkt) (p : PltOutSet) : Prop where
  keep : p.delete = false
  out : p.out ≤ 63
  holds : s.holds h.part kindOut p.out = true
  named : p.idCode ≠ 0 ∧ p.dstMac ≠ 0 ∧ p.dstIp ≠ 0
  format : p.format ≤ 2
  group : p.group ≤ 15
  port : p.port ≤ 23
  vlan : p.vlan ≤ 4094
  idCode : p.idCode ≤ 65535 ∧ (p.format ≤ 1 → p.idCode ≠ 65535)
  pcp : p.pcp ≤ 7
  dscp : p.dscp ≤ 63
  unsigned : p.sign = false
  tag : p.tag ≤ 3
  div : s.divOk p = true

theorem pltOutSet_deletes {s : State} {h : Pkt} {p0 p : PltOutSet} (hp : PltOutSet.filled p0 = p) (hout : p.out ≤ 63)
    (hholds : s.holds h.part kindOut p.out = true) (hdel : p.delete = true) (hidle : ∀ o, tget p.out s.plt.outs = some o → o.set.enable = false) :
    pltOutSet s h p0 = ok { s with plt := { s.plt with outs := tdel p.out s.plt.outs } } := by
  have hstopped : (tget p.out s.plt.outs).any (fun o => o.set.enable) = false := by
    rw [Option.any_eq_false]
    simpa using hidle
  unfold pltOutSet
  rw [hp, if_pos hdel]
  exact check_none (by simp only [firstBad_cons_none, hstopped]; simp [hout, hholds])

/-- What PLT_OUT_SET does with a setting that fits, of a stream that does not run. -/
theorem State.OutFits.sets {s : State} {h : Pkt} {p0 p : PltOutSet} (hf : s.OutFits h p) (hp : PltOutSet.filled p0 = p)
    (hidle : (tget p.out s.plt.outs).any (fun o => o.set.enable) = false) : pltOutSet s h p0 =
    match tget p.out s.plt.outs with
    | none => ok { s with plt := { s.plt with outs := tset p.out { set := p, cfgCnt := 0 } s.plt.outs } }
    | some o =>
      if p.enable then ok { s with plt := { s.plt with outs := tset p.out (o.started p) s.plt.outs } }
      else ok { s with plt := { s.plt with outs := tset p.out { o with set := p } s.plt.outs } } := by
  obtain ⟨hdel, hout, hholds, ⟨hid, hmac, hip⟩, hformat, hgroup, hport, hvlan, ⟨hcode, hcode'⟩, hpcp, hdscp, hsign, htag, hdiv⟩ := hf
  unfold pltOutSet
  rw [hp, if_neg (by simp [hdel])]
  simp only [hidle, hsign, Bool.false_and, Bool.false_eq_true, if_false]
  rw [onSlots_unmarked (by simp) (by simp), check_none]
  · simp only [Bool.not_false, Bool.and_true] <;> rfl
  · simp [firstBad_cons_none, hout, hholds, hid, hmac, hip, hformat, hgroup, hport, hvlan, hcode, hpcp, hdscp, htag, hdiv]
    exact hcode'

theorem pltOutSet_sets_new {s : State} {h : Pkt} {p0 p : PltOutSet} (hf : s.OutFits h p) (hp : PltOutSet.filled p0 = p)
    (hnone : tget p.out s.plt.outs = none) :
    pltOutSet s h p0 = ok { s with plt := { s.plt with outs := tset p.out { set := p, cfgCnt := 0 } s.plt.outs } } := by
  rw [hf.sets hp (by simp [hnone]), hnone]

theorem pltOutSet_starts {s : State} {h : Pkt} {p0 p : PltOutSet} {o : Out} (hf : s.OutFits h p) (hp : PltOutSet.filled p0 = p)
    (ho : tget p.out s.plt.outs = some o) (hidle : o.set.enable = false) (hon : p.enable = true) :
    pltOutSet s h p0 = ok { s with plt := { s.plt with outs := tset p.out (o.started p) s.plt.outs } } := by
  rw [hf.sets hp (by simp [ho, hidle]), ho]
  exact if_pos hon

theorem pltOutMap_clears {s : State} {h : Pkt} {p : PltOutMap} {o o' : Out} (hlen : h.paramLen = 24 + 8 * p.entries.length) (hout : p.out ≤ 63)
    (hholds : s.holds h.part kindOut p.out = true) (hblock : p.block ≤ 255) (ho : tget p.out s.plt.outs = some o) (hidle : o.set.enable = false)
    (ho' : o' = { o with blocks := tdel p.block o.blocks, types := tdel p.block o.types, mapChanged := true }) (hnone : p.entries = [])
    (hfits : o'.frameLen + 4 ≤ (s.port o.set.port).maxFrame) :
    pltOutMap s h p = ok { s with plt := { s.plt with outs := tset p.out o' s.plt.outs } } := by
  subst ho'
  simp only [pltOutMap, ho, hnone, List.length_nil, beq_self_eq_true, if_true]
  exact check_none (by simp [firstBad_cons_none, hlen, hnone, hout, hholds, hblock, hidle, hfits])

theorem pltOutMap_writes {s : State} {h : Pkt} {p : PltOutMap} {o o' : Out} (hlen : h.paramLen = 24 + 8 * p.entries.length) (hout : p.out ≤ 63)
    (hholds : s.holds h.part kindOut p.out = true) (hblock : p.block ≤ 255) (ho : tget p.out s.plt.outs = some o) (hidle : o.set.enable = false)
    (ho' : o' = { o with blocks := tset p.block p o.blocks, types := tset p.block (p.entries.map s.mapType) o.types, mapChanged := true })
    (hsome : p.entries ≠ []) (hcount : p.entries.length ≤ 256) (hreads : ∀ e ∈ p.entries, s.reads h.part kindStream e.stream = true)
    (horder : o.set.format ≤ 1 → blockOrder (p.entries.map s.mapType) = true) (hfits : o'.frameLen + 4 ≤ (s.port o.set.port).maxFrame) :
    pltOutMap s h p = ok { s with plt := { s.plt with outs := tset p.out o' s.plt.outs } } := by
  subst ho'
  have hne : (p.entries.length == 0) = false := by simpa using hsome
  have hseen : p.entries.find? (fun e => !s.reads h.part kindStream e.stream) = none := List.find?_eq_none.mpr (by simpa using hreads)
  simp only [pltOutMap, ho, hne, Bool.false_eq_true, if_false]
  refine check_none ?_
  simp only [firstBad_cons_none, hseen]
  simp [hlen, hout, hholds, hblock, hcount, hidle, hfits]
  exact fun hformat _ => horder hformat

/-! ## Command frames (R143) -/

/-- The output stream that a command frame is for. -/
def State.outOf (s : State) (f : OutCommand) : Option (Nat × Out) :=
  s.plt.outs.find? (fun e => e.2.set.enable && e.2.set.answerCmd && e.2.set.format ≤ 1 && e.2.set.port == f.port
    && e.2.set.dstIp == f.srcIp && e.2.set.udpSrc == f.udpDst && e.2.set.idCode == f.idCode)

theorem State.outCommand_obeys {s : State} {f : OutCommand} {n : Nat} {o : Out} (ho : s.outOf f = some (n, o)) (hcmd : 1 ≤ f.cmd) (hcmd' : f.cmd ≤ 2)
    (hfirst : o.lastAnswer = none) : s.outCommand f =
    (({ s with plt := { s.plt with outs := tset n { o with lastAnswer := some s.now, on := decide (f.cmd = 2) } s.plt.outs } } : State).evtFree
      [s.holder kindOut n] 0x0A9) := by
  have hon : (if f.cmd == 1 then false else if f.cmd == 2 then true else o.on) = decide (f.cmd = 2) := by
    obtain h1 | h2 : f.cmd = 1 ∨ f.cmd = 2 := by omega
    · simp [h1]
    · simp [h2]
  unfold State.outOf at ho
  simp only [State.outCommand, ho, hfirst, Option.any_none, hon]
  rw [if_neg (by simp; omega), if_neg (by simp), if_pos hcmd']

theorem State.outCommand_ignores {s : State} {f : OutCommand} {n a : Nat} {o : Out} (ho : s.outOf f = some (n, o)) (hcmd : 1 ≤ f.cmd) (hcmd' : f.cmd ≤ 2)
    (hlast : o.lastAnswer.any (fun t => decide (s.now < t + a)) = true) (ha : a = 1000000000) :
    s.outCommand f = { s with plt := { s.plt with outs := tset n { o with ignored := o.ignored + 1 } s.plt.outs } } := by
  subst ha
  unfold State.outOf at ho
  simp only [State.outCommand, ho]
  rw [if_neg (by simp; omega), if_pos hlast]

/-! ## Writes and departures -/

theorem State.platformWrite_releases {s : State} {st n : Nat} {x : Item} (hx : (s.flow st).gate.find? (fun x => x.fsn == BitVec.ofNat 32 n) = some x)
    (hnext : BitVec.ofNat 32 n = (s.flow st).nextWrite) : s.platformWrite st n = s.gateRelease (s.flow st) x := by
  simp only [State.platformWrite, hx]
  exact if_pos (by simpa using hnext)

theorem State.platformWrite_faults {s : State} {st n : Nat} (hnone : (s.flow st).gate.find? (fun x => x.fsn == BitVec.ofNat 32 n) = none)
    (hout : ((s.flow st).nextEmit - (s.flow st).nextWrite).toNat ≤ (BitVec.ofNat 32 n - (s.flow st).nextWrite).toNat) :
    s.platformWrite st n = (s.gateHold st).faultPair 65 66 st 0xFF := by
  simp only [State.platformWrite, hnone]
  exact if_neg hout.not_gt

theorem State.departure_releases {s : State} {n i rel : Nat} {early : Bool} {g : Group} (hg : s.group n = some g) (hstate : g.state = .departing)
    (hnext : g.nextInst = some i) (htick : s.releaseTick g i = some (rel, early)) (hentry : s.pastEntry rel = false) (hfirst : s.lowerFirst n rel = false) :
    s.departure n i = (s.release n g i rel early).latency 2 (s.now - rel) (some 20000) := by
  simp [State.departure, hg, hstate, hnext, htick, hentry, hfirst]

/-- A release tick has passed by a span, which is a variable as in `any_due`. -/
theorem any_overdue {o : Option (Nat × Bool)} {r n d : Nat} {early : Bool} (ho : o = some (r, early)) (hd : r + d ≤ n) :
    o.any (fun x => decide (x.1 + d ≤ n)) = true := by
  subst ho
  simpa using hd

theorem exec_departureOverdue_faults {t n i rel : Nat} {early : Bool} {s : State} {g : Group} (hup : (s.at t).fabricUp = true) (hg : s.group n = some g)
    (hstate : g.state = .departing) (hnext : g.nextInst = some i) (htick : (s.at t).releaseTick g i = some (rel, early))
    (hover : rel + 1000000 ≤ (s.at t).now) :
    exec (.departureOverdue t n i) s = .next ((s.at t).free.2.faultPair 44 45 (s.at t).free.1 0xFF) := by
  have hg' : (s.at t).group n = some g := hg
  have hlate : ((s.at t).releaseTick g i).any (fun r => decide (r.1 + 1000000 ≤ (s.at t).now)) = true := any_overdue htick hover
  simp only [exec, execDepartureOverdue]
  refine event_next ?_
  simp only [hg', hup, hstate, hnext, hlate, beq_self_eq_true, Bool.and_self, if_true]

end Sys2Proof.Machine

namespace Sys2Proof.Proofs

open Sys2Proof.Machine

/-- Settles O8: each command's checks pass, and each event finds what it is for. -/
theorem outputAndDepartureRowsComplete : Obligations.OutputAndDepartureRowsComplete := by
  refine ⟨⟨fun h p0 p s s1 hs hp hout hholds => ⟨fun hdel hidle => ?_,
        fun hdel hid hmac hip hformat hgroup hport hvlan hcode hcode' hpcp hdscp hsign htag hdiv => ?_⟩,
      fun h p s s1 o hs hlen hout hholds hblock ho hidle => ⟨fun o' ho' hnone hfits => ?_, fun o' ho' hsome hcount hreads horder hfits => ?_⟩,
      fun t f s n o hup ho hcmd hcmd' => ⟨fun hfirst => ?_, fun a ha hlast => ?_⟩⟩,
    fun t st n s hup => ⟨fun x hx hnext => ?_, fun hnone hbeyond => ?_⟩,
    fun t n i rel early s g hup hg hstate hnext htick => ⟨fun hentry hfirst => ?_, fun hover => ?_⟩, fun t s => rfl⟩
  · exact cmd_answers hs (pltOutSet_deletes hp.symm hout hholds hdel hidle)
  · have hfit : s1.OutFits h p := ⟨hdel, hout, hholds, ⟨hid, hmac, hip⟩, hformat, hgroup, hport, hvlan, ⟨hcode, hcode'⟩, hpcp, hdscp, hsign, htag, hdiv⟩
    exact ⟨fun hnone => cmd_answers hs (pltOutSet_sets_new hfit hp.symm hnone),
      fun o ho hidle hon => cmd_answers hs (pltOutSet_starts hfit hp.symm ho hidle hon)⟩
  · exact cmd_answers hs (pltOutMap_clears hlen hout hholds hblock ho hidle ho' hnone hfits)
  · exact cmd_answers hs (pltOutMap_writes hlen hout hholds hblock ho hidle ho' hsome hcount hreads horder hfits)
  · simp only [exec, execOutCommandFrame]
    exact event_next ((if_pos hup).trans (State.outCommand_obeys (s := s.at t) ho hcmd hcmd' hfirst))
  · simp only [exec, execOutCommandFrame]
    exact event_next ((if_pos hup).trans (State.outCommand_ignores (s := s.at t) ho hcmd hcmd' (any_within ha hlast) rfl))
  · simp only [exec, execPlatformWrite]
    exact event_next ((if_pos hup).trans (State.platformWrite_releases (s := s.at t) hx hnext))
  · simp only [exec, execPlatformWrite]
    exact event_next ((if_pos hup).trans (State.platformWrite_faults (s := s.at t) hnone hbeyond))
  · simp only [exec, execDepartureRelease]
    exact event_next ((if_pos hup).trans (State.departure_releases (s := s.at t) hg hstate hnext htick hentry hfirst))
  · exact exec_departureOverdue_faults hup hg hstate hnext htick hover

end Sys2Proof.Proofs
end

section
/-!
PROOFS. The waveform chain's commands (05_waveform_chain R151 to R153): units, comparators and harmonic taps.
-/
namespace Sys2Proof.Machine

/-! ## Units -/

/-- A setting without CLEAR that passes the checks of WCH_UNIT_SET in range, holder and source, and under the contracts that stand. -/
structure State.UnitFits (s : State) (h : Pkt) (p : WchUnitSet) : Prop where
  keep : p.clear = false
  unit : p.unit ≤ 255
  stream : p.stream ≤ 16383
  holdsUnit : s.holds h.part kindUnit p.unit = true
  holdsStream : s.holds h.part kindStream p.stream = true
  outSel : 1 ≤ p.outSel ∧ p.outSel ≤ 65535
  waveform : ∃ e, tget p.stream s.ing.subs = some e ∧ e.kind = 2
  alone : ∀ e, s.unitOf p.stream = some e → e.1 = p.unit
  nominal : p.fnom60 = true → s.svRate p.stream ≠ 4000 ∧ s.svRate p.stream ≠ 12800
  cls : p.cls ≤ 1
  phase : p.phase ≤ 1
  trackRef : p.trackRef ≤ 13
  gapFill : p.gapFill ≤ 3
  stepLevel : 10 ≤ p.stepLevel ∧ p.stepLevel ≤ 1000
  trackMin : negOrNan p.trackMin = false
  timeCorr : -100000 ≤ p.timeCorrNs ∧ p.timeCorrNs ≤ 100000
  frozen : (s.underContract p.stream = true ∨ (tget p.unit s.wch.units).any (fun u => s.underContract u.set.stream) = true) →
    ∀ v, tget p.unit s.wch.units = some v → unitFrozenSet v.set p = true

/-- A contract that holds on the stream of the setting keeps its deadline (R163). -/
def State.unitKeeps (s : State) (p : WchUnitSet) (g : Geo) : Prop :=
  ∀ e, s.contractOf p.stream = some e → e.2.isHeld = true →
    refuseReason (s.svRate p.stream) p.outSel e.2 = 0 ∧ g.ns (g.total (selFreq p.outSel)) + 500000 ≤ e.2.deadlineUs * 1000

/-- The unit with the setting: what it has of another stream goes. -/
def State.unitWith (s : State) (p : WchUnitSet) : WUnit :=
  match tget p.unit s.wch.units with
  | some u => if u.set.stream == p.stream then { u with set := p } else { set := p }
  | none => { set := p }

theorem State.unitWith_eq {s : State} {p : WchUnitSet} {u : WUnit}
    (hu : tget p.unit s.wch.units = none ∧ u = { set := p } ∨
      ∃ v, tget p.unit s.wch.units = some v ∧ u = if v.set.stream = p.stream then { v with set := p } else { set := p }) : s.unitWith p = u := by
  unfold State.unitWith
  obtain ⟨hnone, rfl⟩ | ⟨v, hsome, rfl⟩ := hu
  · rw [hnone]
  · rw [hsome]
    simp only [beq_iff_eq]

theorem wchUnitSet_clears {s : State} {h : Pkt} {p : WchUnitSet} {u : WUnit} (hclear : p.clear = true) (hunit : p.unit ≤ 255)
    (hholds : s.holds h.part kindUnit p.unit = true) (hu : tget p.unit s.wch.units = some u) (hfree : s.underContract u.set.stream = false) :
    wchUnitSet s h p = ok ({ s with wch := { s.wch with units := tdel p.unit s.wch.units } }).metersRefresh (zeros 24) := by
  unfold wchUnitSet
  rw [if_pos (show (filledUnitSet p).clear = true from hclear)]
  exact check_none (by simp [firstBad_cons_none, filledUnitSet, hunit, hholds, hu, hfree])

/-- The settings that contracts freeze are as they were, where a contract stands. -/
theorem State.UnitFits.frozen_unmoved {s : State} {h : Pkt} {p : WchUnitSet} (hf : s.UnitFits h p) :
    ((s.underContract p.stream || (tget p.unit s.wch.units).any (fun u => s.underContract u.set.stream))
      && (tget p.unit s.wch.units).any (fun u => !unitFrozenSet u.set p)) = false := by
  rw [Bool.and_eq_false_imp, Bool.or_eq_true]
  intro hheld
  rw [Option.any_eq_false]
  intro v hv
  simp [hf.frozen hheld v hv]

theorem State.unitKeeps.unrefused {s : State} {p : WchUnitSet} {g : Geo} (hk : s.unitKeeps p g) :
    ((s.contractOf p.stream).map (·.2)).any (fun c => c.isHeld && refuseReason (s.svRate p.stream) p.outSel c != 0) = false := by
  cases hc : s.contractOf p.stream with
  | none => rfl
  | some e =>
    rw [Option.map_some, Option.any_some, Bool.and_eq_false_imp]
    intro hheld
    simp [(hk e hc hheld).1]

theorem State.unitKeeps.in_time {s : State} {p : WchUnitSet} {g : Geo} (hk : s.unitKeeps p g) :
    ((s.contractOf p.stream).map (·.2)).any
      (fun c => c.isHeld && decide (c.deadlineUs * 1000 < g.ns (g.total (selFreq p.outSel)) + 500000)) = false := by
  cases hc : s.contractOf p.stream with
  | none => rfl
  | some e =>
    rw [Option.map_some, Option.any_some, Bool.and_eq_false_imp]
    intro hheld
    exact decide_eq_false (hk e hc hheld).2.not_gt

/-- What WCH_UNIT_SET does with a setting that fits. -/
theorem State.UnitFits.sets {s : State} {h : Pkt} {p0 p : WchUnitSet} {rate : Option Nat} (hf : s.UnitFits h p) (hp : filledUnitSet p0 = p)
    (hrate : rate = (s.contractOf p.stream).map (fun e => e.2.outRate)) (hk : s.unitKeeps p (geoOf p (s.svRate p.stream) (rate.getD 50))) :
    wchUnitSet s h p0 = ((s.setUnit p.unit (s.unitWith p)).unitRefresh p.unit).metersRefresh.unitReply p (s.svRate p.stream) rate := by
  have hfrozen := hf.frozen_unmoved
  have hrefuse := hk.unrefused
  have htime := hk.in_time
  obtain ⟨hclear, hunit, hstream, hholds, hholds', ⟨hsel, hsel'⟩, ⟨e, hsub, hkind⟩, halone, hnom, hcls, hphase, href, hgap, ⟨hstep, hstep'⟩, hmin,
    ⟨hcorr, hcorr'⟩, -⟩ := hf
  have hother : (s.unitOf p.stream).any (fun e => e.1 != p.unit) = false := by
    rw [Option.any_eq_false]
    intro e he
    simp [halone e he]
  subst hrate
  unfold wchUnitSet
  rw [hp, if_neg (by simp [hclear])]
  simp only [Option.map_map, Function.comp_def] at hrefuse htime ⊢
  refine check_none ?_
  simp only [firstBad_cons_none, hfrozen, hrefuse, htime, hother]
  simp [hunit, hstream, hholds, hholds', hsub, hkind, hsel', hcls, hphase, href, hgap, hmin]
  refine ⟨by omega, fun h60 => hnom h60, by omega, by omega⟩

theorem delta5_p {p : WchUnitSet} (hcls : p.cls = 0) (r : Nat) :
    delta5 p r = some (if p.phase = 0 then 0 else if p.fnom60 then 325000 else 400000) := by
  simp only [delta5, hcls, beq_self_eq_true, if_true, beq_iff_eq]
  split <;> rfl

/-- The figures of a P-class unit are all stated. -/
theorem State.unitReply_p {s : State} {p : WchUnitSet} {sv : Nat} {rate : Option Nat} {g : Geo} (hcls : p.cls = 0) (hg : g = geoOf p sv (rate.getD 50)) :
    s.unitReply p sv rate = ok s (le 2 g.fp ++ le 1 g.r ++ zeros 1 ++ le 4 (g.ns (g.total (selFreq p.outSel))) ++ le 4 (g.ns (g.frontEnd + g.half * g.r))
      ++ le 4 (g.ns g.settle) ++ le 4 (if p.phase = 0 then 0 else if p.fnom60 then 325000 else 400000) ++ le 1 (popCount 16 p.outSel) ++ zeros 3) := by
  subst hg
  simp only [State.unitReply, delta5_p hcls, hcls, beq_self_eq_true, Bool.true_or, Option.isSome_some, Bool.and_self, if_true]

theorem State.unitReply_m (s : State) (p : WchUnitSet) (sv : Nat) (rate : Option Nat) :
    ∃ t res, s.unitReply p sv rate = ok t res ∧ (t = s ∨ t = s.free.2.free.2.free.2) := by
  unfold State.unitReply
  refine ⟨_, _, rfl, ?_⟩
  exact ite_eq_or_eq _ _ _

theorem wchUnitQuery_passes {s : State} {h : Pkt} {n : Nat} (hn : n ≤ 255) (hholds : s.holds h.part kindUnit n = true) : wchUnitQuery s h n =
    match tget n s.wch.units with
    | none => ok s (zeros 32)
    | some u =>
      ok s (le 1 u.state.code ++ le 1 (b2n u.mode1) ++ le 1 u.reason ++ zeros 1 ++ le 2 u.set.stream ++ le 2 u.set.outSel
        ++ le 4 u.fImage.toNat ++ le 4 u.switches ++ le 8 u.lastSwitch
        ++ le 8 ((u.switchN.map (fun x => twos 64 ((geoOf u.set (s.svRate u.set.stream) 50).sampleNs u.set x))).getD 0)) :=
  check_none (by simp [firstBad_cons_none, hn, hholds])

/-! ## Comparators and harmonic taps -/

theorem wchCmpSet_sets {s : State} {h : Pkt} {p : WchCmpSet} (hcmp : p.cmp ≤ 2047) (hholds : s.holds h.part kindUnit (p.cmp / 8) = true)
    (hqty : p.qty ≤ 15) (hmode : p.mode ≤ 3) (hmode' : p.mode = 3 → 14 ≤ p.qty) (hlevel : f32Nan p.level = false) (hhyst : negOrNan p.hyst = false) :
    wchCmpSet s h p = ok { s with wch := { s.wch with
      cmps := tset p.cmp { set := p, changed := (tget p.cmp s.wch.cmps).any (·.changed), stamp := ((tget p.cmp s.wch.cmps).map (·.stamp)).getD 0 }
        s.wch.cmps } } :=
  check_none (by simpa [firstBad_cons_none, hcmp, hholds, hqty, hmode, hlevel, hhyst] using hmode')

theorem wchCmpRead_passes {s : State} {h : Pkt} {p : WchCmpRead} (hgroup : p.group ≤ 63) : wchCmpRead s h p =
    ok (if p.clear then
        { s with wch := { s.wch with cmps := tmap (fun n c =>
          if n / 32 == p.group && s.holds h.part kindUnit (n / 8) then { c with changed := false } else c) s.wch.cmps } }
      else s)
      (le 4 (mask32 (fun i => (s.cmpsOf h.part p.group i).any (·.asserted))) ++ le 4 (mask32 (fun i => (s.cmpsOf h.part p.group i).any (·.changed)))
        ++ ((List.range 32).map (fun i => le 8 (((s.cmpsOf h.part p.group i).map (fun c => twos 64 c.stamp)).getD 0))).flatten) :=
  check_none (by simp [firstBad_cons_none, hgroup])

theorem wchHxSet_sets {s : State} {h : Pkt} {p : WchHxSet} (hhx : p.hx ≤ 63) (hinput : p.input ≤ 7) (hunit : p.unit ≤ 255)
    (hholds : s.holds h.part kindUnit p.unit = true) (hown : ∀ x, tget p.hx s.wch.taps = some x → x.part = h.part) : wchHxSet s h p =
    ok { s with wch := { s.wch with
      taps := if p.enable then tset p.hx { part := h.part, unit := p.unit, input := p.input } s.wch.taps else tdel p.hx s.wch.taps } } := by
  have hfree : (tget p.hx s.wch.taps).any (fun x => x.part != h.part) = false := by
    rw [Option.any_eq_false]
    intro x hx
    simp [hown x hx]
  exact check_none (by simp only [firstBad_cons_none, hfree]; simp [hhx, hinput, hunit, hholds])

end Sys2Proof.Machine

namespace Sys2Proof.Proofs

open Sys2Proof.Machine

/-- Settles O9: each command's checks pass, and a P-class unit's figures are all stated in the reply. -/
theorem waveformRowsComplete : Obligations.WaveformRowsComplete := by
  refine ⟨⟨fun h p s s1 u hs hclear hunit hholds hu hfree => cmd_answers hs (wchUnitSet_clears hclear hunit hholds hu hfree),
      fun h p0 p s s1 u rate g hs hp hclear hunit hstream hholds hholds' hsel hsel' hsub halone hnom hcls hphase href hgap hstep hstep' hmin hcorr hcorr'
        hfrozen hrate hg hkeeps hu => ?_,
      fun h n s s1 hs hn hholds => ⟨fun hnone => cmd_answers hs ?_, fun u hu => cmd_answers hs ?_⟩⟩,
    fun h p s s1 hs hcmp hholds hqty hmode hmode' hlevel hhyst => ?_, fun h p s s1 hs hgroup => ?_,
    fun h p s s1 hs hhx hinput hunit hholds hown => ?_⟩
  · have hfit : s1.UnitFits h p := ⟨hclear, hunit, hstream, hholds, hholds', ⟨hsel, hsel'⟩, hsub, halone, hnom, hcls, hphase, href, hgap, ⟨hstep, hstep'⟩,
      hmin, ⟨hcorr, hcorr'⟩, hfrozen⟩
    have hsets := hfit.sets hp.symm hrate (hg ▸ hkeeps)
    rw [State.unitWith_eq hu] at hsets
    refine ⟨fun hp0 => cmd_answers hs (hsets.trans (State.unitReply_p hp0 hg)), fun _ => ?_⟩
    obtain ⟨t, res, hreply, ht⟩ := State.unitReply_m ((s1.setUnit p.unit u).unitRefresh p.unit).metersRefresh p (s1.svRate p.stream) rate
    exact ⟨t, res, cmd_answers hs (hsets.trans hreply), ht⟩
  · rw [wchUnitQuery_passes hn hholds, hnone]
    rfl
  · rw [wchUnitQuery_passes hn hholds, hu]
    rfl
  · have hsets := wchCmpSet_sets hcmp hholds hqty hmode hmode' hlevel hhyst
    refine ⟨fun hnone => cmd_answers hs ?_, fun x hx => cmd_answers hs ?_⟩
    · rw [hsets, hnone]
      rfl
    · rw [hsets, hx]
      rfl
  · refine ⟨fun hkeep => cmd_answers hs ?_, fun hclear => cmd_answers hs ?_⟩
    · rw [wchCmpRead_passes hgroup, if_neg (by simp [hkeep])]
      rfl
    · rw [wchCmpRead_passes hgroup, if_pos hclear]
      rfl
  · have hsets := wchHxSet_sets hhx hinput hunit hholds hown
    refine ⟨fun hon => cmd_answers hs ?_, fun hoff => cmd_answers hs ?_⟩
    · rw [hsets, if_pos hon]
      rfl
    · rw [hsets, if_neg (by simp [hoff])]
      rfl

end Sys2Proof.Proofs
end

section
/-!
PROOFS. OSC_SIG_SET keeps of a signal that it sets anew whether the latest refresh took it in (07_oscillation R218).
-/
namespace Sys2Proof.Machine

/-- A signal of band M on unit 2. -/
def unitSignal : OscSigSet := { sig := 0, band := 1, src := 1, qty := 0, group := 0, sourceId := 2, ch := 0, refCh := 0, refStream := 0xFFFF }

/-- Signal 0 is set, and the latest refresh took it in. -/
def withSignal : State := { Tests.swings with osc := { Tests.swings.osc with sigs := [(0, { set := unitSignal, wasIn := true })] } }

/-- Whether signal 0 was in the latest refresh, of the state an outcome leads to. -/
def signalIn : Host.Outcome State Fault Refusal → Option Bool
  | .next s => (tget 0 s.osc.sigs).map (·.wasIn)
  | _ => none

end Sys2Proof.Machine

namespace Sys2Proof.Proofs

open Sys2Proof.Machine

/-- Refutes O11: OSC_SIG_SET of a signal that the latest refresh took in keeps that mark, where the statement sets the signal with the mark down. -/
theorem not_oscillationRowsComplete : ¬ Obligations.OscillationRowsComplete := by
  intro h
  obtain ⟨⟨-, -, -, hset⟩, -⟩ := h
  obtain ⟨-, hsets⟩ := hset (Tests.pk 16) unitSignal withSignal withSignal.go (Tests.starts rfl rfl rfl) (by decide) rfl
  have hout := congrArg signalIn (hsets (by decide) (by decide) (by decide) (by decide))
  exact absurd hout (by decide)

end Sys2Proof.Proofs
end

section
/-!
PROOFS. Metering points, pulse inputs and pulse outputs (06_metering R192 to R197).
-/
namespace Sys2Proof.Machine

/-! ## Points -/

theorem nrgPointSet_off {s : State} {h : Pkt} {p : NrgPointSet} (hmp : p.mp ≤ 255) (hholds : s.holds h.part kindMeter p.mp = true) (hoff : p.source = 0) :
    nrgPointSet s h p = if (s.meter p.mp).set.source == 0 then ok s
      else ok ((s.setMeter p.mp (({ s.meter p.mp with set := offPoint p.mp, running := false, lost := false } : Meter).cleared (s.doneAt h))).nrgEvent
        kindMeter p.mp 0x103) := by
  unfold nrgPointSet
  rw [if_pos (by simp [hoff])]
  exact check_none (by simp [firstBad_cons_none, hmp, hholds])

/-- A setting that feeds a point passes the checks of NRG_POINT_SET. -/
structure State.PointFits (s : State) (h : Pkt) (p : NrgPointSet) : Prop where
  mp : p.mp ≤ 255
  holds : s.holds h.part kindMeter p.mp = true
  fed : p.source = 1 ∨ p.source = 2
  byUnit : p.source = 1 → p.wiring ≤ 1 ∧ s.holds h.part kindUnit p.unit = true
  bySlice : p.source = 2 → (p.wiring = 0 ∨ p.wiring = 2) ∧ p.unit = 0 ∧ firstBad (s.slicePointChecks h p) = none
  unit : p.unit ≤ 255
  floor : negOrNan p.sFloor = false

/-- The checks of a point that is fed pass, whichever feeds it. -/
theorem State.PointFits.checks {s : State} {h : Pkt} {p : NrgPointSet} (hf : s.PointFits h p) :
    firstBad
      ([ badIf (255 < p.mp) 0, s.needs h kindMeter p.mp, badIf (2 < p.source) 2, badIf (2 < p.wiring || p.wiring == (if p.source == 1 then 2 else 1)) 3
       , badIf (255 < p.unit || (p.source == 2 && p.unit != 0)) 4, if p.source == 1 then s.needs h kindUnit p.unit else none ]
       ++ (if p.source == 2 then s.slicePointChecks h p else []) ++ [badIf (negOrNan p.sFloor) 20]) = none := by
  obtain ⟨hmp, hholds, hfed, hunit, hslice, hrange, hfloor⟩ := hf
  obtain h1 | h2 := hfed
  · obtain ⟨hwiring, hholds'⟩ := hunit h1
    simp [firstBad_cons_none, h1, hmp, hholds, hholds', hrange, hfloor]
    omega
  · obtain ⟨hwiring, hzero, hchecks⟩ := hslice h2
    simp [firstBad_cons_none, firstBad_append_none, h2, hmp, hholds, hzero, hchecks, hfloor]
    omega

/-- What NRG_POINT_SET does with a setting that feeds the point. -/
theorem State.PointFits.sets {s : State} {h : Pkt} {p : NrgPointSet} (hf : s.PointFits h p) : nrgPointSet s h p =
    let old := s.meter p.mp
    let m : Meter := { old with set := p, running := false, lost := false }
    let s1 := s.setMeter p.mp (if old.set.source == 0 then m.cleared (s.doneAt h)
      else if pointMoved old.set p then m.cleared (s.doneAt h) else { m with running := old.running, lost := old.lost })
    ok ((if !(old.set.source == 0) && pointMoved old.set p then s1.nrgEvent kindMeter p.mp 0x103 else s1).meterRefresh p.mp) := by
  have hfed : ¬ (p.source == 0) = true := by
    rw [beq_iff_eq]
    exact fun h0 => by simpa [h0] using hf.fed
  unfold nrgPointSet
  rw [if_neg hfed]
  exact check_none hf.checks

theorem nrgPointSet_new {s : State} {h : Pkt} {p : NrgPointSet} (hf : s.PointFits h p) (hold : (s.meter p.mp).set.source = 0) : nrgPointSet s h p =
    ok ((s.setMeter p.mp (({ s.meter p.mp with set := p, running := false, lost := false } : Meter).cleared (s.doneAt h))).meterRefresh p.mp) := by
  rw [hf.sets]
  simp only [hold, beq_self_eq_true, Bool.not_true, Bool.false_and, Bool.false_eq_true, if_true, if_false]

theorem nrgPointSet_moved {s : State} {h : Pkt} {p : NrgPointSet} (hf : s.PointFits h p) (hold : (s.meter p.mp).set.source ≠ 0)
    (hmoved : pointMoved (s.meter p.mp).set p = true) : nrgPointSet s h p =
    ok (((s.setMeter p.mp (({ s.meter p.mp with set := p, running := false, lost := false } : Meter).cleared (s.doneAt h))).nrgEvent
      kindMeter p.mp 0x103).meterRefresh p.mp) := by
  rw [hf.sets]
  simp only [beq_eq_false_iff_ne.mpr hold, hmoved, Bool.not_false, Bool.and_self, Bool.false_eq_true, if_true, if_false]

theorem nrgPointSet_kept {s : State} {h : Pkt} {p : NrgPointSet} (hf : s.PointFits h p) (hold : (s.meter p.mp).set.source ≠ 0)
    (hmoved : pointMoved (s.meter p.mp).set p = false) : nrgPointSet s h p =
    ok ((s.setMeter p.mp { s.meter p.mp with set := p }).meterRefresh p.mp) := by
  rw [hf.sets]
  simp only [beq_eq_false_iff_ne.mpr hold, hmoved, Bool.and_false, Bool.false_eq_true, if_false]

theorem nrgPointRead_passes {s : State} {h : Pkt} {n : Nat} (hn : n ≤ 255) (hreads : s.reads h.part kindMeter n = true) :
    nrgPointRead s h n = ok s (meterReply n (s.meter n)) :=
  check_none (by simp [firstBad_cons_none, hn, hreads])

theorem nrgAccClear_passes {s : State} {h : Pkt} {n : Nat} (hn : n ≤ 255) (hholds : s.holds h.part kindMeter n = true) :
    nrgAccClear s h n = ok ((s.at h.done).accClear n) (le 8 ((s.at h.done).accClear n).now) :=
  check_none (by simp [firstBad_cons_none, hn, hholds])

/-! ## Pulse inputs -/

theorem nrgPiSet_sets {s : State} {h : Pkt} {p0 p : NrgPiSet}
    (hp : p = { p0 with debounce := if p0.debounce == 0 then 10 else p0.debounce, checkS := if p0.checkS == 0 then 900 else p0.checkS })
    (hpi : p.pi ≤ 15) (hholds : s.holds h.part kindPulseIn p.pi = true) (hform : p.form ≤ 2)
    (hpair : p.form = 2 → p.pi % 2 = 0 ∧ s.holds h.part kindPulseIn (p.pi + 1) = true) (hmp : p.mp ≤ 255) (hacc : p.acc ≤ 5)
    (htol : p.tolPm ≠ 0 → s.holds h.part kindMeter p.mp = true ∧ p.weight ≠ 0) (hcheck : 60 ≤ p.checkS) (hcheck' : p.checkS ≤ 86400) :
    nrgPiSet s h p0 = ok (s.setPi p.pi (s.checkFrom { tgetD p.pi { set := p } s.nrg.pis with
      set := p, closed := if p.form == 2 then closedLine s.nrg.piLevel p.pi else none } (s.doneAt h))) := by
  unfold nrgPiSet
  rw [← hp]
  refine check_none ?_
  simp [firstBad_cons_none, hpi, hholds, hform, hmp, hacc]
  refine ⟨fun hf => by have := (hpair hf).1; omega, fun hf => (hpair hf).2, fun ht => (htol ht).1, by omega, ?_⟩
  exact fun hweight => by_contra fun ht => (htol ht).2 hweight

theorem State.piLevel_same {s : State} {n : Nat} {level : Bool} (hsame : s.nrg.piLevel.testBit n = level) : s.piLevel n level = s := by
  simp [State.piLevel, State.piTakes, hsame]

theorem State.piLevel_bounces {s : State} {n t0 : Nat} {level : Bool} (hat : tget n s.nrg.piAt = some t0) (hearly : s.now < t0 + s.debounceNs n) :
    s.piLevel n level = s := by
  simp [State.piLevel, State.piTakes, hat, hearly]

theorem State.piLevel_pulses {s : State} {n : Nat} {x : PulseIn} (hn : n ≤ 15) (hlow : s.nrg.piLevel.testBit n = false) (hgrid : s.now % 10000 = 0)
    (hstable : ∀ t0, tget n s.nrg.piAt = some t0 → t0 + s.debounceNs n ≤ s.now)
    (halone : ∀ y, tget (n - n % 2) s.nrg.pis = some y → y.set.form ≠ 2) (hx : tget n s.nrg.pis = some x) (hform : x.set.form = 1) :
    s.piLevel n true = ({ s with nrg := { s.nrg with piLevel := s.nrg.piLevel + 2 ^ n, piAt := tset n s.now s.nrg.piAt } } : State).setPi n x.pulse := by
  have hearly : (tget n s.nrg.piAt).any (fun t => decide (s.now < t + s.debounceNs n)) = false := by
    rw [Option.any_eq_false]
    exact fun t ht => by simpa using hstable t ht
  have htakes : s.piTakes n true = true := by
    simp only [State.piTakes, hearly, hlow, hgrid]
    simp [hn]
  have hpair : (tget (n - n % 2) s.nrg.pis).filter (fun x => x.set.form == 2) = none := by
    rw [Option.filter_eq_none_iff]
    exact fun y hy => by simpa using halone y hy
  simp only [State.piLevel, htakes, State.formC, hpair, hx, hform]
  simp

/-- What the end of a check interval that is due does. -/
theorem State.piCheck_due {s : State} {n a : Nat} {x : PulseIn} (hx : tget n s.nrg.pis = some x) (hform : x.set.form ≠ 0) (htol : x.set.tolPm ≠ 0)
    (ha : a = 1000000000) (hdue : x.checkStart + a * x.set.checkS ≤ s.now) : s.piCheck n =
    let acc := s.accTotal x.set.mp x.set.acc
    let inc : Int := (((acc.2 + 256 - x.wrapStart) % 256 * 2 ^ 64 + acc.1 : Nat) : Int) - (x.accStart : Int)
    let s1 := s.setPi n (s.checkFrom { x with skipped := x.skipped + b2n x.spoilt } (x.checkStart + a * x.set.checkS))
    if !x.spoilt && piMismatch x.set.tolPm x.set.weight x.pulses inc then
      let part := s.holder kindPulseIn n
      ({ s1 with nrg := { s1.nrg with mismatchSeen := part :: s1.nrg.mismatchSeen.filter (· != part) } }).nrgEvent kindPulseIn n 0x104
    else s1 := by
  subst ha
  simp only [State.piCheck, hx]
  exact if_neg (by simpa only [Bool.or_eq_true, beq_iff_eq, decide_eq_true_eq, hform, htol, false_or, not_lt] using hdue)

theorem State.piCheck_spoilt {s : State} {n a : Nat} {x : PulseIn} (hx : tget n s.nrg.pis = some x) (hform : x.set.form ≠ 0) (htol : x.set.tolPm ≠ 0)
    (ha : a = 1000000000) (hdue : x.checkStart + a * x.set.checkS ≤ s.now) (hspoilt : x.spoilt = true) : s.piCheck n =
    s.setPi n (s.checkFrom { x with skipped := x.skipped + 1 } (x.checkStart + a * x.set.checkS)) := by
  rw [State.piCheck_due hx hform htol ha hdue]
  simp only [hspoilt, Bool.not_true, Bool.false_and, Bool.false_eq_true, if_false]
  rfl

theorem State.piCheck_agrees {s : State} {n a : Nat} {x : PulseIn} (hx : tget n s.nrg.pis = some x) (hform : x.set.form ≠ 0) (htol : x.set.tolPm ≠ 0)
    (ha : a = 1000000000) (hdue : x.checkStart + a * x.set.checkS ≤ s.now) (hspoilt : x.spoilt = false)
    (hagrees : piMismatch x.set.tolPm x.set.weight x.pulses
      (((((s.accTotal x.set.mp x.set.acc).2 + 256 - x.wrapStart) % 256 * 2 ^ 64 + (s.accTotal x.set.mp x.set.acc).1 : Nat) : Int) - (x.accStart : Int)) = false) :
    s.piCheck n = s.setPi n (s.checkFrom x (x.checkStart + a * x.set.checkS)) := by
  rw [State.piCheck_due hx hform htol ha hdue]
  simp only [hagrees, Bool.and_false, Bool.false_eq_true, if_false, hspoilt]
  rfl

/-! ## Pulse outputs -/

theorem nrgPoSet_sets {s : State} {h : Pkt} {p0 p : NrgPoSet} (hp : p = { p0 with gapMs := if p0.gapMs == 0 then p0.pulseMs else p0.gapMs })
    (hpo : p.po ≤ 7) (hholds : s.holds h.part kindPulseOut p.po = true) (hmp : p.mp ≤ 255) (hholds' : s.holds h.part kindMeter p.mp = true) (hacc : p.acc ≤ 5)
    (hpulse : 1 ≤ p.pulseMs) (hpulse' : p.pulseMs ≤ 1000) (hgap : p.gapMs ≤ 1000) (hweight : p.weight ≠ 0) : nrgPoSet s h p0 =
    let o : PulseOut := { tgetD p.po { set := p } s.nrg.pos with spill := 0, pending := 0, backlogSeen := false, lostInBacklog := false }
    ok (s.setPo p.po (if (tgetD p.po { set := p } s.nrg.pos).phase == .active then { o with next := some p } else { o with set := p, next := none })) := by
  unfold nrgPoSet
  rw [← hp]
  refine check_none ?_
  simp [firstBad_cons_none, hpo, hholds, hmp, hholds', hacc, hpulse', hgap, hweight]
  omega

theorem State.poPhaseEnd_active {s : State} {n : Nat} {o : PulseOut} (ho : tget n s.nrg.pos = some o) (hphase : o.phase = .active) : s.poPhaseEnd n =
    if s.now < o.phaseAt + 1000000 * o.set.pulseMs then s
    else s.setPo n { o with set := o.next.getD o.set, next := none, phase := .gap, phaseAt := s.now } := by
  simp only [State.poPhaseEnd, ho, hphase]

theorem State.poPhaseEnd_gap {s : State} {n : Nat} {o : PulseOut} (ho : tget n s.nrg.pos = some o) (hphase : o.phase = .gap) : s.poPhaseEnd n =
    if s.now < o.phaseAt + 1000000 * o.set.gapMs then s else s.setPo n (PulseOut.drive { o with phase := .idle } s.now) := by
  simp only [State.poPhaseEnd, ho, hphase]

end Sys2Proof.Machine

namespace Sys2Proof.Proofs

open Sys2Proof.Machine

/-- Settles O10: each command's checks pass, and each pin, interval and phase is met in the case that the statement names. -/
theorem meteringRowsComplete : Obligations.MeteringRowsComplete := by
  refine ⟨⟨fun h p s s1 hs hmp hholds => ⟨fun hoff hold => ?_, fun hoff hold => ?_, fun hfed hunit hslice hrange hfloor => ?_⟩,
      fun h n s s1 hs hn hreads => cmd_answers hs (nrgPointRead_passes hn hreads),
      fun h n s s1 hs hn hholds => cmd_answers hs (nrgAccClear_passes hn hholds)⟩,
    fun h p0 p s s1 hs hp hpi hholds hform hpair hmp hacc htol hcheck hcheck' =>
      cmd_answers hs (nrgPiSet_sets hp hpi hholds hform hpair hmp hacc htol hcheck hcheck'),
    fun t n level s hup hn => ⟨fun hsame => ?_, fun t0 hat hearly => ?_, fun x hlow hlevel hgrid hstable halone hx hform => ?_⟩,
    fun t n s x a inc hup hx hform htol hdue ha hinc => ⟨fun hspoilt => ?_, fun hspoilt hagrees => ?_⟩,
    fun h p0 p s s1 o hs hp hpo hholds hmp hholds' hacc hpulse hpulse' hgap hweight ho => ?_,
    fun t n s o hup ho => ⟨fun hphase hdue => ?_, fun hphase hdue => ?_, fun hphase hearly => ?_, fun hphase hearly => ?_⟩⟩
  · exact cmd_answers hs ((nrgPointSet_off hmp hholds hoff).trans (if_pos (by simp [hold])))
  · exact cmd_answers hs ((nrgPointSet_off hmp hholds hoff).trans (if_neg (by simp [hold])))
  · have hfit : s1.PointFits h p := ⟨hmp, hholds, hfed, hunit, hslice, hrange, hfloor⟩
    exact ⟨fun hold => cmd_answers hs (nrgPointSet_new hfit hold), fun hold hmoved => cmd_answers hs (nrgPointSet_moved hfit hold hmoved),
      fun hold hmoved => cmd_answers hs (nrgPointSet_kept hfit hold hmoved)⟩
  · simp only [exec, execPiLevelAccepted]
    exact event_next ((if_pos hup).trans (State.piLevel_same (s := s.at t) hsame))
  · simp only [exec, execPiLevelAccepted]
    exact event_next ((if_pos hup).trans (State.piLevel_bounces (s := s.at t) hat hearly))
  · subst hlevel
    simp only [exec, execPiLevelAccepted]
    exact event_next ((if_pos hup).trans (State.piLevel_pulses (s := s.at t) hn hlow hgrid hstable halone hx hform))
  · simp only [exec, execPiCrossCheck]
    exact event_next ((if_pos hup).trans (State.piCheck_spoilt (s := s.at t) hx hform htol rfl hdue hspoilt))
  · subst ha hinc
    simp only [exec, execPiCrossCheck]
    exact event_next ((if_pos hup).trans (State.piCheck_agrees (s := s.at t) hx hform htol rfl hdue hspoilt hagrees))
  · subst ho
    have hsets := nrgPoSet_sets hp hpo hholds hmp hholds' hacc hpulse hpulse' hgap hweight
    refine ⟨fun hphase => cmd_answers hs (hsets.trans ?_), fun hphase => cmd_answers hs (hsets.trans ?_)⟩
    · simp only [hphase, beq_self_eq_true, if_true]
      rfl
    · simp only [beq_eq_false_iff_ne.mpr hphase, Bool.false_eq_true, if_false]
      rfl
  · simp only [exec, execPoPulsePhaseEnd]
    exact event_next ((if_pos hup).trans ((State.poPhaseEnd_active (s := s.at t) ho hphase).trans (if_neg hdue.not_gt)))
  · simp only [exec, execPoPulsePhaseEnd]
    exact event_next ((if_pos hup).trans ((State.poPhaseEnd_gap (s := s.at t) ho hphase).trans (if_neg hdue.not_gt)))
  · simp only [exec, execPoPulsePhaseEnd]
    exact event_next ((if_pos hup).trans ((State.poPhaseEnd_active (s := s.at t) ho hphase).trans (if_pos hearly)))
  · simp only [exec, execPoPulsePhaseEnd]
    exact event_next ((if_pos hup).trans ((State.poPhaseEnd_gap (s := s.at t) ho hphase).trans (if_pos hearly)))

end Sys2Proof.Proofs
end

section
/-!
PROOFS. The coherency engine's commands and its overdue evaluation (08_coherency R230, R251).
-/
namespace Sys2Proof.Machine

/-- A setting that passes the checks of COH_SET, over a group and with a window of so many frames. -/
structure State.CohFits (s : State) (h : Pkt) (p : CohSet) (g : Group) (nw : Nat) : Prop where
  holds : s.holds h.part kindCoherency 0 = true
  group : p.group ≤ 15
  isSet : s.group p.group = some g
  minBuses : 2 ≤ p.minBuses ∧ p.minBuses ≤ 4096
  winMs : 100 ≤ p.winMs ∧ p.winMs ≤ 2000
  window : nw = cohWindow p.winMs g.set.rate
  frames : 2 ≤ nw ∧ nw ≤ 480
  fCoh : posNum p.fCoh = true
  aCoh : posNum p.aCoh = true
  fSep : posNum p.fSep = true
  fHyst : negOrNan p.fHyst = false
  under : extLt (extOf (f32Val p.fHyst)) (extOf (f32Val p.fSep)) = true
  angGrow : negOrNan p.angGrow = false

theorem State.CohFits.sets {s : State} {h : Pkt} {p0 p : CohSet} {g : Group} {nw : Nat} (hf : s.CohFits h p g nw)
    (hp : p = { p0 with winMs := if p0.winMs == 0 then 500 else p0.winMs }) : cohSetCmd s h p0 =
    ok { s with coh := { s.coh with next := s.coh.next ++ [(p, s.doneAt h)] } } (le 2 nw ++ le 2 s.coh.busesSet ++ zeros 4) := by
  obtain ⟨hholds, hgroup, hset, ⟨hmin, hmin'⟩, ⟨hwin, hwin'⟩, rfl, ⟨hnw, hnw'⟩, hfCoh, haCoh, hfSep, hfHyst, hunder, hang⟩ := hf
  unfold cohSetCmd
  rw [← hp]
  simp only [hset, Option.map_some, Option.getD_some]
  refine check_none ?_
  simp [firstBad_cons_none, hholds, hgroup, hmin', hfCoh, haCoh, hfSep, hfHyst, hunder, hang]
  omega

theorem cohBusSet_sets {s : State} {h : Pkt} {p : CohBusSet} (hlen : h.paramLen = 8 + 16 * p.count) (hholds : s.holds h.part kindCoherency 0 = true)
    (hfirst : p.first ≤ 4095) (hcount : 1 ≤ p.count) (hcount' : p.count ≤ 253) (hlast : p.first + p.count ≤ 4096) (hentries : p.entries.length = p.count)
    (hbuses : firstBad (((List.range p.entries.length).zip p.entries).flatMap (fun e => s.busChecks h e.2 (8 + 16 * e.1))) = none) :
    cohBusSet s h p = ok { s with coh := { s.coh with nextBuses := s.coh.nextBuses ++ busChanges p (s.doneAt h) } } := by
  unfold cohBusSet
  refine check_none (firstBad_append_none.mpr ⟨?_, hbuses⟩)
  simp [firstBad_cons_none, hlen, hholds, hfirst, hentries]
  omega

theorem cohIslandRead_copies {s : State} {h : Pkt} {p : BufRead} (hreads : s.reads h.part kindCoherency 0 = true)
    (haddr : p.bufLen = 0 ∨ addrFit h p.bufAddr) :
    cohIslandRead s h p = copyOut s p.bufAddr p.bufLen s.coh.image (cohReply s.coh.image.length s.coh.seq) :=
  check_none (by simpa [firstBad_cons_none, hreads] using or_iff_not_imp_left.mp haddr)

theorem cohBusRead_copies {s : State} {h : Pkt} {p : CohBusRead} (hreads : s.reads h.part kindCoherency 0 = true) (hlast : p.first + p.count ≤ 4096)
    (haddr : p.bufLen = 0 ∨ addrFit h p.bufAddr) :
    cohBusRead s h p = copyOut s p.bufAddr p.bufLen (s.coh.busImage p.first p.count) (cohReply (32 + 16 * p.count) s.coh.seq) :=
  check_none (by simpa [firstBad_cons_none, hreads, hlast] using or_iff_not_imp_left.mp haddr)

theorem exec_cohEvaluationOverdue_discards {t instant : Nat} {s : State} {q : CohSet} (hup : (s.at t).fabricUp = true) (hq : s.coh.set = some q)
    (hon : q.enable = true) (hinst : s.coh.eval.inst = instant) (hfresh : s.coh.stale = false) :
    exec (.cohEvaluationOverdue t instant) s = .next ((s.at t).cohDiscard true) := by
  simp only [exec, execCohEvaluationOverdue]
  exact event_next (if_pos (by simp [hup, hq, hon, hinst, hfresh]))

theorem exec_cohEvaluationOverdue_other {t instant : Nat} {s : State} (hinst : s.coh.eval.inst ≠ instant) :
    exec (.cohEvaluationOverdue t instant) s = .next (s.at t) := by
  simp only [exec, execCohEvaluationOverdue]
  exact event_next (if_neg (by simp [hinst]))

end Sys2Proof.Machine

namespace Sys2Proof.Proofs

open Sys2Proof.Machine

/-- Settles O12: each command's checks pass, and an evaluation is discarded exactly when it is the latest. -/
theorem coherencyRowsComplete : Obligations.CoherencyRowsComplete := by
  refine ⟨fun h p0 p s s1 g nw hs hp hholds hgroup hset hmin hmin' hwin hwin' hnw hfew hmany hfCoh haCoh hfSep hfHyst hunder hang => ?_,
    fun h p s s1 hs hlen hholds hfirst hcount hcount' hlast hentries hbuses =>
      cmd_answers hs (cohBusSet_sets hlen hholds hfirst hcount hcount' hlast hentries hbuses),
    fun h p s s1 hs hreads => ⟨fun hlen => ?_, fun hlen haddr => ?_⟩, fun h p s s1 hs hreads hlast => ⟨fun hlen => ?_, fun hlen haddr => ?_⟩,
    fun t instant s q hup hq => ⟨fun hon hinst hfresh => ⟨rfl, rfl, rfl, fun s2 s3 hs2 hs3 => ?_⟩, exec_cohEvaluationOverdue_other⟩⟩
  · have hfit : s1.CohFits h p g nw :=
      ⟨hholds, hgroup, hset, ⟨hmin, hmin'⟩, ⟨hwin, hwin'⟩, hnw, ⟨hfew, hmany⟩, hfCoh, haCoh, hfSep, hfHyst, hunder, hang⟩
    exact cmd_answers hs (hfit.sets hp)
  · exact cmd_answers hs ((cohIslandRead_copies hreads (.inl hlen)).trans (by rw [hlen]; exact copyOut_length _ _ _ _))
  · exact cmd_waits hs ((cohIslandRead_copies hreads (.inr haddr)).trans (copyOut_waits hlen _ _ _ _))
  · exact cmd_answers hs ((cohBusRead_copies hreads hlast (.inl hlen)).trans (by rw [hlen]; exact copyOut_length _ _ _ _))
  · exact cmd_waits hs ((cohBusRead_copies hreads hlast (.inr haddr)).trans (copyOut_waits hlen _ _ _ _))
  · subst hs3 hs2 hinst
    exact exec_cohEvaluationOverdue_discards hup hq hon rfl hfresh

end Sys2Proof.Proofs
end

section
/-!
PROOFS. A refused image reports the mark UPDATE_LOST of a slot that its publications sign with, and so takes it away (09_alarm_logic R258, 15_security R454).
-/
namespace Sys2Proof.Machine

/-- An image whose publication signs with slot 1. -/
def signedImage : AlcImage := { Tests.image1 with pubs := [{ Tests.pub1 with rGoose := true, keySlot := 1 }] }

/-- An image waits to be verified, and slot 1 has lost an update. -/
def lostUpdate : State :=
  { Tests.logic .stop none with sec := { (Tests.logic .stop none).sec with slots := [(1, { key := some (Tests.hmacKey 1), updateLost := true })] } }

/-- Whether slot 1 is marked UPDATE_LOST, of the state an outcome leads to. -/
def slotLost : Host.Outcome State Fault Refusal → Option Bool
  | .next s => some (s.slot 1).updateLost
  | _ => none

end Sys2Proof.Machine

namespace Sys2Proof.Proofs

open Sys2Proof.Machine

/-- Refutes O13: an image whose publication signs with a slot that is marked UPDATE_LOST is refused, which reports the mark and takes it away, where the
statement leaves the slots as they were. -/
theorem not_logicImageRowsComplete : ¬ Obligations.LogicImageRowsComplete := by
  intro h
  obtain ⟨-, hverified, -, -⟩ := h
  obtain ⟨-, -, hrefused, -⟩ := hverified 9 { image := signedImage, sigOk := true } lostUpdate _ Tests.load1 rfl rfl rfl
  have hout := congrArg slotLost (hrefused stWrongState 0x10001 rfl (by decide) (by decide))
  exact absurd hout (by decide)

end Sys2Proof.Proofs
end

section
/-!
PROOFS. The logic pair's commands (09_alarm_logic R269, R275, R276, R281 and Table 09-4).
-/
namespace Sys2Proof.Machine

@[simp] theorem pairNeeded_none {s : State} {h : Pkt} : pairNeeded s h = none ↔ s.holds h.part kindLogic 0 = true := needs_none

/-! ## ALC_MODE -/

/-- The reply of ALC_MODE, with the states before and after. -/
def modeReply (old new : AlcState) : List Byte := le 1 old.code ++ le 1 new.code ++ zeros 2

theorem alcMode_runs {s : State} {h : Pkt} {p : AlcMode} (hholds : s.holds h.part kindLogic 0 = true) (hmode : p.mode = 2) (hstate : s.alc.state = .stop)
    (hrestart : p.restart ≤ 1) : alcMode s h p = ok ((s.at h.done).alcRun (p.restart == 1) (s.doneAt h)) (modeReply .stop .run) := by
  unfold alcMode
  rw [hstate, hmode]
  exact check_none (by simp [firstBad_cons_none, hholds, hrestart])

/-- What ALC_MODE with MODE 1 does from a state that it may stop. -/
theorem alcMode_stops {s : State} {h : Pkt} {p : AlcMode} (hholds : s.holds h.part kindLogic 0 = true) (hmode : p.mode = 1)
    (hstate : s.alc.state ≠ .noProgram) (hacked : s.alc.state = .faulted → s.row8Unacked = false) : alcMode s h p =
    match s.alc.state with
    | .stop => ok s (modeReply s.alc.state .stop)
    | .faulted => ok (s.alcTo .stop 9) (modeReply s.alc.state .stop)
    | .hold => ok (s.alcStopped 7) (modeReply s.alc.state .stop)
    | _ => if s.alc.scan.isSome then .wait { s with alc := { s.alc with stopAt := true } } (.alcStop s.alc.state.code)
           else ok (s.alcStopped 3) (modeReply s.alc.state .stop) := by
  unfold alcMode
  rw [hmode]
  exact check_none (by simpa [firstBad_cons_none, hholds, hstate] using hacked)

/-! ## ALC_SCAN_SET, ALC_FORCE and ALC_BREAK -/

theorem alcScanSet_sets {s : State} {h : Pkt} {p : AlcScanSet} (hholds : s.holds h.part kindLogic 0 = true)
    (hchecks : firstBad (s.scanSetChecks p (scanBudget p)) = none)
    (hstate : s.alc.setting = some (scanSettingOf p) ∨ s.alc.state = .stop ∨ s.alc.state = .noProgram) : alcScanSet s h p = ok (s.putScanSet p) := by
  unfold alcScanSet
  refine check_none ?_
  rw [List.cons_append, firstBad_cons_none, firstBad_append_none, firstBad_cons_none]
  refine ⟨pairNeeded_none.mpr hholds, hchecks, failIf_none.mpr ?_, rfl⟩
  obtain hsame | hstop | hempty := hstate
  · simp [hsame]
  · simp [hstop]
  · simp [hempty]

/-- An ALC_FORCE that passes every check. -/
structure State.ForceFits (s : State) (h : Pkt) (p : AlcForce) (im : AlcImage) : Prop where
  holds : s.holds h.part kindLogic 0 = true
  state : s.alc.state ≠ .noProgram
  active : s.alc.active = some im
  point : p.op = 3 ∨ ((p.op = 1 ∨ p.op = 2) ∧ (imagePoint im p.point).any (fun x => x.type == p.type) = true)
  room : p.op = 1 → tget p.point s.alc.forces = none → s.alc.forces.length < 256

theorem State.ForceFits.forces {s : State} {h : Pkt} {p : AlcForce} {im : AlcImage} (hf : s.ForceFits h p im) : alcForce s h p =
    let done := fun (f : Table Force) => ok ((s.at h.done).setForces f) (le 2 f.length ++ zeros 2)
    if p.op == 1 then done (tset p.point (s.newForce p (s.doneAt h)) s.alc.forces)
    else if p.op == 2 then done (tdel p.point s.alc.forces)
    else done [] := by
  obtain ⟨hholds, hstate, hactive, hpoint, hroom⟩ := hf
  unfold alcForce
  simp only [hactive, Option.bind_some]
  refine check_none ?_
  obtain hall | ⟨hop, htype⟩ := hpoint
  · simp [firstBad_cons_none, hholds, hstate, hall]
  · obtain ⟨x, hx, htype⟩ := Option.any_eq_true _ _ |>.mp htype
    simp [firstBad_cons_none, hholds, hstate]
    grind

theorem alcBreak_sets {s : State} {h : Pkt} {p : AlcBreak} {im : AlcImage} (hholds : s.holds h.part kindLogic 0 = true) (hactive : s.alc.active = some im)
    (hop : p.op = 1) (hsite : im.sites.contains p.site = true) (hnew : s.alc.breaks.contains p.site = false) (hroom : s.alc.breaks.length < 8) :
    alcBreak s h p = ok { s with alc := { s.alc with breaks := p.site :: s.alc.breaks } } := by
  have hall : alcBreak s h p = ok { s with alc := { s.alc with breaks := if s.alc.breaks.contains p.site then s.alc.breaks else p.site :: s.alc.breaks } } := by
    unfold alcBreak
    simp only [hactive, Option.any_some, hop]
    exact check_none (by simp only [firstBad_cons_none, hsite, hnew]; simpa [hholds] using hroom)
  rw [hall, hnew]
  rfl

theorem alcBreak_releases {s : State} {h : Pkt} {p : AlcBreak} {im : AlcImage} (hholds : s.holds h.part kindLogic 0 = true) (hactive : s.alc.active = some im)
    (hop : p.op = 2) (hsite : im.sites.contains p.site = true) :
    alcBreak s h p = ok { s with alc := { s.alc with breaks := s.alc.breaks.filter (· != p.site) } } := by
  unfold alcBreak
  simp only [hactive, Option.any_some, hop]
  exact check_none (by simp only [firstBad_cons_none, hsite]; simp [hholds])

theorem alcBreak_resumes {s : State} {h : Pkt} {p : AlcBreak} (hholds : s.holds h.part kindLogic 0 = true) (hop : p.op = 3 ∨ p.op = 4)
    (hstate : s.alc.state = .hold) : alcBreak s h p = ok ((s.at h.done).scanResume p.next) := by
  unfold alcBreak
  obtain hop | hop := hop
  · rw [hop, hstate]
    exact check_none (by simp [firstBad_cons_none, hholds])
  · rw [hop, hstate]
    exact check_none (by simp [firstBad_cons_none, hholds])

/-! ## The reads and ALC_CHECKPOINT -/

theorem alcQuery_answers {s : State} {h : Pkt} (hreads : s.reads h.part kindLogic 0 = true) : ∃ res, alcQuery s h = ok s res :=
  ⟨_, check_none (by simp [firstBad_cons_none, hreads])⟩

theorem alcVarRead_copies {s : State} {h : Pkt} {p : AlcVarRead} {im : AlcImage} (hholds : s.holds h.part kindLogic 0 = true) (hcount : 1 ≤ p.count)
    (hcount' : p.count ≤ 64) (hlist : addrFit h p.listAddr) (hbuf : addrFit h p.bufAddr) (hstate : s.alc.state ≠ .noProgram)
    (hactive : s.alc.active = some im) (hpoints : ∀ i ∈ p.ids.take p.count, (s.pointValue im i).isSome = true) :
    ∃ data, alcVarRead s h p = .wait s (.dmaCopy p.bufAddr data []) := by
  have hnone : (p.ids.take p.count).any (fun i => (s.pointValue im i).isNone) = false := by
    rw [List.any_eq_false]
    exact fun i hi => by simpa [Option.isSome_iff_ne_none] using hpoints i hi
  have hprogram : (if s.alc.state == .noProgram then none else s.alc.active) = some im := by simp [hstate, hactive]
  unfold alcVarRead
  simp only [hprogram, Option.any_some, hnone]
  rw [check_none (by simp [firstBad_cons_none, hholds, hcount', hlist, hbuf]; omega), copyOut_waits (by omega)]
  exact ⟨_, rfl⟩

theorem alcCheckpoint_waits {s : State} {h : Pkt} (hholds : s.holds h.part kindLogic 0 = true) (hstate : s.alc.state ≠ .noProgram)
    (hpower : s.pwr.pfwLow = false) (hwrite : s.alcx.write = none) (hdue : s.alcx.ckptDue = []) :
    alcCheckpoint s h = .wait ((s.at h.done).ckptWant .command) .checkpoint :=
  check_none (by simp [firstBad_cons_none, hholds, hstate, hpower, hwrite, hdue])

end Sys2Proof.Machine

namespace Sys2Proof.Proofs

open Sys2Proof.Machine

/-- Settles O14: each command's checks pass; ALC_MODE, ALC_FORCE and ALC_BREAK take the way of their operation and of the pair's state. -/
theorem logicCommandsComplete : Obligations.LogicCommandsComplete := by
  refine ⟨fun h p s s1 hs hholds => ⟨fun hmode hstate hrestart => ?_, fun hmode hstate => ?_, fun hmode hstate hacked => ?_, fun hmode hstate => ?_,
      fun hmode hstate hscan => ?_, fun hmode hstate hscan => ?_⟩,
    fun h p s s1 hs hholds hchecks hstate => cmd_answers hs (alcScanSet_sets hholds hchecks hstate),
    fun h p s s1 im f hs hholds hstate hactive hall hone hset hpoint hroom => ?_,
    fun h p s s1 im hs hholds hactive => ⟨fun hop hsite hnew hroom => cmd_answers hs (alcBreak_sets hholds hactive hop hsite hnew hroom),
      fun hop hsite => cmd_answers hs (alcBreak_releases hholds hactive hop hsite),
      fun hop hstate => cmd_answers hs (alcBreak_resumes hholds hop hstate)⟩,
    fun h s s1 hs hreads => ?_,
    fun h p s s1 im hs hholds hcount hcount' hlist hbuf hstate hactive hpoints => ?_,
    fun h s s1 hs hholds hstate hpower hwrite hdue => cmd_waits hs (alcCheckpoint_waits hholds hstate hpower hwrite hdue)⟩
  · exact cmd_answers hs (alcMode_runs hholds hmode hstate hrestart)
  · refine cmd_answers hs ((alcMode_stops hholds hmode (by simp [hstate]) (by simp [hstate])).trans ?_)
    simp only [hstate]
    rfl
  · refine cmd_answers hs ((alcMode_stops hholds hmode (by simp [hstate]) (fun _ => hacked)).trans ?_)
    simp only [hstate]
    rfl
  · refine cmd_answers hs ((alcMode_stops hholds hmode (by simp [hstate]) (by simp [hstate])).trans ?_)
    simp only [hstate]
    rfl
  · refine cmd_answers hs ((alcMode_stops hholds hmode (by simp [hstate]) (by simp [hstate])).trans ?_)
    simp only [hstate, hscan]
    rfl
  · refine cmd_waits hs ((alcMode_stops hholds hmode (by simp [hstate]) (by simp [hstate])).trans ?_)
    simp only [hstate, hscan]
    rfl
  · have hforces := (State.ForceFits.mk hholds hstate hactive hpoint hroom).forces
    obtain hop | ⟨hop | hop, -⟩ := hpoint
    · rw [hall hop]
      exact cmd_answers hs (hforces.trans (by simp only [hop]; rfl))
    · rw [hset hop]
      exact cmd_answers hs (hforces.trans (by simp only [hop]; rfl))
    · rw [hone hop]
      exact cmd_answers hs (hforces.trans (by simp only [hop]; rfl))
  · obtain ⟨res, hres⟩ := alcQuery_answers hreads
    exact ⟨res, cmd_answers hs hres⟩
  · obtain ⟨data, hdata⟩ := alcVarRead_copies hholds hcount hcount' hlist hbuf hstate hactive hpoints
    exact ⟨data, cmd_waits hs hdata⟩

end Sys2Proof.Proofs
end

section
/-!
PROOFS. The end of a checkpoint's write lets a pending exchange apply at the STOP boundary (09_alarm_logic R285).
-/
namespace Sys2Proof.Machine

/-- The pair stands in STOP, an exchange is pending and no checkpoint is due. -/
def pendingExchange : State := { Tests.logic .stop none with alc := { (Tests.logic .stop none).alc with exchange := some 0 } }

/-- Whether an exchange is pending, in the state an outcome leads to. -/
def exchangePends : Host.Outcome State Fault Refusal → Option Bool
  | .next s => some s.alc.exchange.isSome
  | _ => none

end Sys2Proof.Machine

namespace Sys2Proof.Proofs

open Sys2Proof.Machine

/-- Refutes O15: CHECKPOINT_WRITE_DONE applies an exchange that is pending in STOP with no checkpoint due, where the statement ends the write alone. -/
theorem not_scanRowsComplete : ¬ Obligations.ScanRowsComplete := by
  intro h
  obtain ⟨-, -, -, -, -, -, -, -, hdone⟩ := h
  have hout := congrArg exchangePends (hdone 9 true pendingExchange rfl)
  exact absurd hout (by decide)

end Sys2Proof.Proofs
end

section
/-!
PROOFS. The recorders' commands, exports, stream rings and points (10_recorders R295 to R313).
-/
namespace Sys2Proof.Machine

/-! ## REC_SET and REC_CHAN_SET -/

/-- The state that REC_SET works on: a record whose last point is stored is complete. -/
def State.recSettled (s : State) (n : Nat) : State := if (s.recOf n).state = .disarmed then s.recComplete n else s

theorem State.recSettled_eq {s s2 : State} {n : Nat} (hdis : (s.recOf n).state = .disarmed → s2 = s.recComplete n)
    (hother : (s.recOf n).state ≠ .disarmed → s2 = s) : s.recSettled n = s2 := by
  unfold State.recSettled
  split
  next h => exact (hdis h).symm
  next h => exact (hother h).symm

theorem recSettled_guarded {s : State} {n : Nat} (hn : n ≤ 63) :
    (if (decide (n < 64) && (s.recOf n).state == .disarmed) = true then s.recComplete n else s) = s.recSettled n := by
  unfold State.recSettled
  exact if_congr (by simp [Nat.lt_succ_of_le hn]) rfl rfl

theorem recSet_off {s : State} {h : Pkt} {p0 p : RecSet} (hp : recFilled p0 = p) (hn : p.recorder ≤ 63)
    (hholds : s.holds h.part kindRecorder p.recorder = true) (hidle : ((s.recSettled p.recorder).recOf p.recorder).idle = true) (hoff : p.kind = 0) :
    recSet s h p0 = ok ((s.recSettled p.recorder).setRec p.recorder { offRecorder p.recorder with
      seq := ((s.recSettled p.recorder).recOf p.recorder).seq }) (zeros 8) := by
  unfold recSet
  rw [hp]
  simp only [recSettled_guarded hn]
  rw [if_pos (by simp [hoff]), check_none (by simp [firstBad_cons_none, hn, hholds, hidle])]

/-- A setting that turns a recorder on and passes the checks of REC_SET; `s2` is the state that it works on. -/
structure State.RecFits (s : State) (h : Pkt) (p : RecSet) (s2 : State) (own : Nat) : Prop where
  recorder : p.recorder ≤ 63
  holds : s.holds h.part kindRecorder p.recorder = true
  idle : (s2.recOf p.recorder).idle = true
  owner : own = s2.holder kindRecorder p.recorder
  kind : 1 ≤ p.kind ∧ p.kind ≤ 2
  channels : 1 ≤ p.channels ∧ p.channels ≤ 32
  post : p.post ≠ 0
  segMib : 1 ≤ p.segMib ∧ p.segMib ≤ 4096
  avg : p.avg ≤ 256
  pre : p.streamOut = true → p.pre ≤ recCapacity p / 2
  closeMs : p.closeMs ≤ 10000
  slots : p.streamOut = false → recSlots p ≠ 0
  pool : s2.segments p.recorder (some own) + p.segMib ≤ (s2.part own).poolMib
  memory : s2.segments p.recorder none + p.segMib ≤ 4096

theorem State.RecFits.sets {s : State} {h : Pkt} {p0 p : RecSet} {own : Nat} (hf : s.RecFits h p (s.recSettled p.recorder) own) (hp : recFilled p0 = p) :
    recSet s h p0 = ok ((s.recSettled p.recorder).setRec p.recorder (((s.recSettled p.recorder).recOf p.recorder).reset p))
      (le 1 (recSlots p) ++ zeros 3 ++ le 4 (recBytes p)) := by
  obtain ⟨hn, hholds, hidle, rfl, ⟨hkind, hkind'⟩, ⟨hch, hch'⟩, hpost, ⟨hseg, hseg'⟩, havg, hpre, hclose, hslots, hpool, hmem⟩ := hf
  unfold recSet
  rw [hp]
  simp only [recSettled_guarded hn]
  rw [if_neg (by simp; omega), check_none]
  simp only [firstBad_cons_none, hidle]
  simp [hn, hholds, hkind', hch', hpost, hseg', havg, hclose, hpool, hmem]
  exact ⟨by omega, by omega, hpre, hslots⟩

/-- The one grid of the channels: that of the entries kept, or of those that come. -/
def State.chanGrid (s : State) (kind : Nat) (kept : Table RecChan) (entries : List RecChan) : Option (Nat × Nat) :=
  match kept with
  | e :: _ => s.recGrid kind e.2
  | [] => entries.head?.bind (s.recGrid kind)

theorem State.chanGrid_eq {s : State} {kind : Nat} {kept : Table RecChan} {entries : List RecChan} {grid : Option (Nat × Nat)}
    (hsome : ∀ e l, kept = e :: l → grid = s.recGrid kind e.2) (hnone : kept = [] → grid = entries.head?.bind (s.recGrid kind)) :
    s.chanGrid kind kept entries = grid := by
  cases kept with
  | nil => exact (hnone rfl).symm
  | cons e l => exact (hsome e l rfl).symm

theorem recChanSet_sets {s : State} {h : Pkt} {p : RecChanSet} {kept : Table RecChan} {grid : Option (Nat × Nat)} (hn : p.recorder ≤ 63)
    (hlen : h.paramLen = 4 + 24 * p.entries.length) (hholds : s.holds h.part kindRecorder p.recorder = true)
    (hidle : (s.recOf p.recorder).idle = true) (hcount : 1 ≤ p.count) (hentries : p.entries.length = p.count)
    (hlast : p.first + p.count ≤ (s.recOf p.recorder).set.channels)
    (hkept : kept = (s.recOf p.recorder).chans.filter (fun e => !(decide (p.first ≤ e.1) && decide (e.1 < p.first + p.count))))
    (hgrid : ∀ e l, kept = e :: l → grid = s.recGrid (s.recOf p.recorder).set.kind e.2)
    (hgrid' : kept = [] → grid = p.entries.head?.bind (s.recGrid (s.recOf p.recorder).set.kind))
    (hchans : firstBad (p.entries.zipIdx.flatMap (fun e => s.recChanChecks h (s.recOf p.recorder).set.kind grid e.2 e.1)) = none) :
    recChanSet s h p = ok (s.setRec p.recorder { (s.recOf p.recorder).onGrid ((grid.map (·.1)).getD 0) ((grid.map (·.2)).getD 0) with
      chans := p.entries.zipIdx.foldl (fun t e => tset (p.first + e.2) e.1 t) kept
      types := (s.recOf p.recorder).types.filter (fun e => kept.any (fun k => k.1 == e.1)) }) := by
  obtain rfl := State.chanGrid_eq hgrid hgrid'
  subst hkept
  unfold recChanSet
  refine check_none (firstBad_append_none.mpr ⟨firstBad_append_none.mpr ⟨?_, hchans⟩, ?_⟩)
  · simp [firstBad_cons_none, hlen, hn, hholds, hentries, hlast]
    omega
  · simp [firstBad_cons_none, hidle]

/-! ## REC_COND_SET, REC_ARM, REC_QUERY and REC_RELEASE -/

/-- What REC_COND_SET does once its checks pass. -/
theorem recCondSet_passes {s : State} {h : Pkt} {p : RecCondSet} (hn : p.recorder ≤ 63) (hholds : s.holds h.part kindRecorder p.recorder = true)
    (hcond : p.cond ≤ 7 ∨ (p.cond = 10 ∧ (s.recOf p.recorder).set.kind = 2)) (hedge : p.edge ≤ if p.cond = 10 then 1 else 3)
    (hanalog : p.cond ≠ 10 → p.edge ≠ 0 → p.chan < (s.recOf p.recorder).set.channels ∧ (f64Num p.level).isSome = true ∧ negOrNan p.hyst = false ∧
      (f32Num p.hyst).isSome = true) :
    recCondSet s h p = ok (s.setRec p.recorder { s.recOf p.recorder with
      conds := if p.edge == 0 then tdel p.cond (s.recOf p.recorder).conds else tset p.cond { set := p } (s.recOf p.recorder).conds }) := by
  unfold recCondSet
  refine check_none ?_
  by_cases hten : p.cond = 10
  · have hkind : (s.recOf p.recorder).set.kind = 2 := by omega
    simpa [firstBad_cons_none, hn, hholds, hten, hkind] using hedge
  · have hseven : p.cond ≤ 7 := by omega
    simp only [hten, if_false] at hedge
    by_cases hoff : p.edge = 0
    · simp [firstBad_cons_none, hn, hholds, hten, hseven, hoff]
    · obtain ⟨hchan, hlevel, hhyst, hnum⟩ := hanalog hten hoff
      simp [firstBad_cons_none, hn, hholds, hten, hseven, hedge, hoff, hchan, hhyst, hlevel, hnum]

theorem recArm_arms {s : State} {h : Pkt} {p : RecArm} (hn : p.recorder ≤ 63) (hholds : s.holds h.part kindRecorder p.recorder = true) (hop : p.op = 1)
    (hstate : (s.recOf p.recorder).state = .disarmed) (hring : (s.recOf p.recorder).set.streamOut = true → (s.recOf p.recorder).ringSet = true) :
    recArm s h p = ok ((s.recComplete p.recorder).recArmed p.recorder ((s.recComplete p.recorder).recOf p.recorder) (s.doneAt h)) := by
  unfold recArm
  rw [check_none (by simpa [firstBad_cons_none, hn, hholds, hop, hstate] using hring), if_pos (by simp [hop])]

theorem recArm_disarms {s : State} {h : Pkt} {p : RecArm} (hn : p.recorder ≤ 63) (hholds : s.holds h.part kindRecorder p.recorder = true) (hop : p.op = 2)
    (hidle : (s.recOf p.recorder).idle = false) : recArm s h p = ok (s.setRec p.recorder (s.recOf p.recorder).disarm) := by
  unfold recArm
  rw [check_none (by simp [firstBad_cons_none, hn, hholds, hop, hidle]), if_neg (by simp [hop]), if_pos (by simp [hop])]

theorem recArm_triggers {s : State} {h : Pkt} {p : RecArm} (hn : p.recorder ≤ 63) (hholds : s.holds h.part kindRecorder p.recorder = true) (hop : p.op = 3)
    (hidle : (s.recOf p.recorder).idle = false) : recArm s h p =
    match s.readingAt (s.recOf p.recorder).tb (s.doneAt h) with
    | some ns => ok (s.recTrigger p.recorder 9 ns)
    | none => ok (s.free.2.recTrigger p.recorder 9 s.free.1) := by
  unfold recArm
  rw [check_none (by simp [firstBad_cons_none, hn, hholds, hop, hidle]), if_neg (by simp [hop]), if_neg (by simp [hop])] <;> rfl

theorem recQuery_passes {s : State} {h : Pkt} {n : Nat} (hn : n ≤ 63) (hreads : s.reads h.part kindRecorder n = true) : recQuery s h n =
    ok s (le 1 (s.recOf n).state.code ++ le 1 (recSlots (s.recOf n).set) ++ le 1 (s.recOf n).held.length ++ zeros 5 ++ le 4 (s.recOf n).store.length ++ zeros 4
      ++ (s.recOf n).bySeq.flatMap (fun x => le 1 x.slot ++ zeros 1 ++ le 2 x.flags ++ le 2 x.causeMask ++ zeros 2 ++ le 8 x.seq)) := by
  unfold recQuery
  exact check_none (by simp [firstBad_cons_none, hn, hreads])

theorem recRelease_all {s : State} {h : Pkt} {p : RecRelease} (hn : p.recorder ≤ 63) (hholds : s.holds h.part kindRecorder p.recorder = true)
    (hslot : p.slot = 0xFF) : recRelease s h p =
    ok ((s.setRec p.recorder { s.recOf p.recorder with held := (s.recOf p.recorder).held.filter (·.2.exporting) }).recFreed p.recorder (s.doneAt h)) := by
  unfold recRelease
  rw [check_none (by simp [firstBad_cons_none, hn, hholds, hslot]), if_pos (by simp [hslot])]

theorem recRelease_one {s : State} {h : Pkt} {p : RecRelease} {x : Record} (hn : p.recorder ≤ 63) (hholds : s.holds h.part kindRecorder p.recorder = true)
    (hslot : p.slot ≠ 0xFF) (hx : tget p.slot (s.recOf p.recorder).held = some x) (hfree : x.exporting = false) : recRelease s h p =
    ok ((s.setRec p.recorder { s.recOf p.recorder with held := tdel p.slot (s.recOf p.recorder).held }).recFreed p.recorder (s.doneAt h)) := by
  unfold recRelease
  rw [check_none (by simp [firstBad_cons_none, hn, hholds, hx, hfree]), if_neg (by simp [hslot])]

/-! ## Stream rings -/

theorem recStreamSet_sets {s : State} {h : Pkt} {p : RecStreamSet} (hn : p.recorder ≤ 63) (hholds : s.holds h.part kindRecorder p.recorder = true)
    (hstate : (s.recOf p.recorder).state ≠ .filling)
    (hset : p.ringSize = 0 ∨ (ringSizeOk p.ringSize = true ∧ addrFit h p.ringAddr ∧ p.ringAddr % 4096 = 0 ∧ addrFit h p.prodWbAddr ∧ p.prodWbAddr % 8 = 0)) :
    recStreamSet s h p = ok ((s.setRec p.recorder { s.recOf p.recorder with ring := some { set := p } }).recDrain p.recorder) := by
  unfold recStreamSet
  refine check_none ?_
  obtain hoff | ⟨hsize, hring, hpage, hwb, halign⟩ := hset
  · simp [firstBad_cons_none, hn, hholds, hstate, hoff, ringSizeOk]
  · simp [firstBad_cons_none, hn, hholds, hstate, hsize, hring, hpage, hwb, halign]

theorem State.recConsWrite_takes {s : State} {part n v : Nat} {r : Rec} {q : StreamRing} (hn : n ≤ 63) (hr : s.recorder n = some r) (hq : r.ring = some q)
    (hpart : s.holder kindRecorder n = part) (hfits : (q.prod - BitVec.ofNat 32 v).toNat ≤ q.set.ringSize) : s.recConsWrite part n v =
    (s.setRec n { r with ring := some { q with cons := BitVec.ofNat 32 v } }).recDrain n := by
  simp only [State.recConsWrite, hr, hq, hpart]
  refine if_pos ?_
  rw [Bool.and_eq_true, Bool.and_eq_true]
  exact ⟨⟨decide_eq_true (Nat.lt_succ_of_le hn), beq_self_eq_true part⟩, decide_eq_true hfits⟩

theorem State.recConsWrite_ignores {s : State} {part n v : Nat} {r : Rec} {q : StreamRing} (hr : s.recorder n = some r) (hq : r.ring = some q)
    (hover : q.set.ringSize < (q.prod - BitVec.ofNat 32 v).toNat) : s.recConsWrite part n v = s := by
  simp only [State.recConsWrite, hr, hq]
  refine if_neg ?_
  rw [Bool.and_eq_true, decide_eq_true_eq]
  exact fun hall => hover.not_ge hall.2

/-! ## Exports -/

theorem recExport_waits {s : State} {h : Pkt} {p : RecExport} {x : Record} (hn : p.recorder ≤ 63) (hreads : s.reads h.part kindRecorder p.recorder = true)
    (hx : tget p.slot (s.recOf p.recorder).held = some x) (hformat : p.format ≤ 1) (hcfg : p.format = 0 → p.cfgLen = 0 ∨ addrFit h p.cfgAddr)
    (hdat : p.datLen = 0 ∨ addrFit h p.datAddr) (hfree : (s.recOf p.recorder).exporting = none) : recExport s h p =
    .wait (s.setRec p.recorder { (s.recOf p.recorder).lock p.slot true with exporting := some (s.exportLog p.recorder x p) }) (.recExport p.recorder) := by
  unfold recExport
  simp only [hx]
  refine check_none ?_
  simp [firstBad_cons_none, hn, hreads, hformat, hfree]
  exact ⟨fun hf hl => (hcfg hf).resolve_left hl, or_iff_not_imp_left.mp hdat⟩

/-- The configuration file is written: the form has one, and its buffer holds it. -/
def ExportLog.cfgFits (l : ExportLog) : Prop := l.req.format = 0 ∧ l.req.cfgLen ≠ 0 ∧ l.cfg.length ≤ l.req.cfgLen

/-- The data file is written: its buffer holds it. -/
def ExportLog.datFits (l : ExportLog) : Prop := l.req.datLen ≠ 0 ∧ l.dat.length ≤ l.req.datLen

theorem ExportLog.cfgFits_iff (l : ExportLog) :
    (l.req.format == 0 && l.req.cfgLen != 0 && decide (l.cfg.length ≤ l.req.cfgLen)) = true ↔ l.cfgFits := by
  simp [ExportLog.cfgFits, and_assoc]

theorem ExportLog.datFits_iff (l : ExportLog) : (l.req.datLen != 0 && decide (l.dat.length ≤ l.req.datLen)) = true ↔ l.datFits := by
  simp [ExportLog.datFits]

/-- What remains of a record in the list of those copied out: the files that were written. -/
def ExportLog.written (l : ExportLog) : ExportLog :=
  { l with
    cfg := if l.req.format = 0 ∧ l.req.cfgLen ≠ 0 ∧ l.cfg.length ≤ l.req.cfgLen then l.cfg else []
    dat := if l.req.datLen ≠ 0 ∧ l.dat.length ≤ l.req.datLen then l.dat else [] }

theorem State.recExportDone_ends {s s3 s4 s1 s2 : State} {n slot : Nat} {l : ExportLog} {w : Waiting} (hl : (s.recOf n).exporting = some l)
    (hw : s.hst.waiting.find? (fun w => w.what == .recExport n) = some w) (hslot : l.req.slot = slot)
    (h3 : s3 = if l.req.format = 0 ∧ l.req.cfgLen ≠ 0 ∧ l.cfg.length ≤ l.req.cfgLen then s.copyTo w.pkt l.req.cfgAddr l.cfg else s)
    (h4 : s4 = if l.req.datLen ≠ 0 ∧ l.dat.length ≤ l.req.datLen then s3.copyTo w.pkt l.req.datAddr l.dat else s3)
    (h1 : s1 = s4.setRec n { (s4.recOf n).lock slot false with exporting := none })
    (h2 : s2 = { s1 with rcd := { s1.rcd with exports := l.written :: s1.rcd.exports } }) :
    s.recExportDone n slot = (s2.recEvent n 0x1C8 slot).finish w stOk 0 (le 4 l.cfg.length ++ zeros 4 ++ le 8 l.dat.length) := by
  have hfits := l.cfgFits_iff
  have hfits' := l.datFits_iff
  simp only [ExportLog.cfgFits, ExportLog.datFits] at hfits hfits'
  subst h2 h1 h4 h3
  simp only [State.recExportDone, hl, hw, hslot, bne_self_eq_false, Bool.false_eq_true, if_false, hfits, hfits', ExportLog.written]

end Sys2Proof.Machine

namespace Sys2Proof.Proofs

open Sys2Proof.Machine

/-- Settles O16: each command's checks pass, and the recorder is set by the command's operation. -/
theorem recorderCommandsComplete : Obligations.RecorderCommandsComplete := by
  refine ⟨fun h p0 p s s1 s2 r n own hs hp hn hn' hholds hdis hother hr hidle hown => ?_,
    fun h p s s1 r kept grid hs hn hlen hholds hr hidle hcount hentries hlast hkept hgrid hgrid' hchans => ?_,
    fun h p s s1 r hs hn hholds hr hcond => ?_, fun h p s s1 r hs hn hholds hr => ?_,
    fun h n s s1 hs hn hreads => cmd_answers hs (recQuery_passes hn hreads),
    fun h p s s1 r hs hn hholds hr => ?_,
    fun h p s s1 hs hn hholds hstate hset => cmd_answers hs (recStreamSet_sets hn hholds hstate hset)⟩
  · obtain rfl := State.recSettled_eq hdis hother
    subst hr hn
    refine ⟨fun hoff => cmd_answers hs (recSet_off hp.symm hn' hholds hidle hoff),
      fun hkind hkind' hch hch' hpost hseg hseg' havg hpre hclose hslots hpool hmem => ?_⟩
    have hfit : s1.RecFits h p (s1.recSettled p.recorder) own := ⟨hn', hholds, hidle, hown, ⟨hkind, hkind'⟩, ⟨hch, hch'⟩, hpost, ⟨hseg, hseg'⟩, havg, hpre,
      hclose, hslots, hpool, hmem⟩
    exact cmd_answers hs (hfit.sets hp.symm)
  · subst hr
    exact cmd_answers hs (recChanSet_sets hn hlen hholds hidle hcount hentries hlast hkept hgrid hgrid' hchans)
  · subst hr
    refine ⟨fun hoff => cmd_answers hs ((recCondSet_passes hn hholds hcond (by simp [hoff]) (fun _ h0 => absurd hoff h0)).trans ?_),
      fun hten hone => cmd_answers hs ((recCondSet_passes hn hholds hcond (by simp [hten, hone]) (fun hne => absurd hten hne)).trans ?_),
      fun hseven hedge hedge' hchan hlevel hhyst hnum =>
        cmd_answers hs ((recCondSet_passes hn hholds hcond (by rw [if_neg (by omega)]; exact hedge') (fun _ _ => ⟨hchan, hlevel, hhyst, hnum⟩)).trans ?_)⟩
    · rw [if_pos (by simp [hoff])]
      rfl
    · rw [if_neg (by simp [hone])]
      rfl
    · rw [if_neg (by simp; omega)]
      rfl
  · subst hr
    refine ⟨fun hop hstate hring => cmd_answers hs (recArm_arms hn hholds hop hstate hring),
      fun hop hidle => cmd_answers hs (recArm_disarms hn hholds hop hidle),
      fun ns hop hidle hns => cmd_answers hs ((recArm_triggers hn hholds hop hidle).trans ?_),
      fun hop hidle hnone => cmd_answers hs ((recArm_triggers hn hholds hop hidle).trans ?_)⟩
    · rw [hns]
      rfl
    · rw [hnone]
      rfl
  · subst hr
    exact ⟨fun hslot => cmd_answers hs (recRelease_all hn hholds hslot), fun x hslot hx hfree => cmd_answers hs (recRelease_one hn hholds hslot hx hfree)⟩

/-- Settles O17: the copy of a record waits and ends with the files that fit; counts, points and records each meet the case that the statement names. -/
theorem recordRowsComplete : Obligations.RecordRowsComplete := by
  refine ⟨fun h p s s1 r x hs hn hreads hr hx hformat hcfg hdat hfree => ?_,
    fun t n slot s s1 s2 r l w hup hr hl hw hslot s3 s4 h3 h4 h1 h2 => ?_,
    fun t part n v s r q hn hr hq hpart => ⟨fun hfits => ?_, fun hover => ?_⟩,
    fun t n s r hup hr => ⟨fun hstoring hdue => ?_, fun hstoring hdue => ?_⟩, fun t n s hup => ?_⟩
  · subst hr
    refine cmd_waits hs ((recExport_waits hn hreads hx hformat hcfg hdat hfree).trans ?_)
    simp only [State.exportLog, beq_iff_eq]
  · subst hr
    simp only [exec, execRecExportDone]
    exact event_next ((if_pos hup).trans (State.recExportDone_ends (s := s.at t) hl hw hslot h3 h4 h1 h2))
  · simp only [exec, execRecStreamConsWrite]
    exact event_next (State.recConsWrite_takes (s := s.at t) hn hr hq hpart hfits)
  · simp only [exec, execRecStreamConsWrite]
    exact event_next (State.recConsWrite_ignores (s := s.at t) hr hq hover)
  · have hr' : (s.at t).recorder n = some r := hr
    simp only [exec, execRecPointEvaluate]
    refine event_next ?_
    simp only [hr', hup, hstoring, hdue, Bool.not_true, Bool.and_self, Bool.false_eq_true, if_false, if_true]
  · have hr' : (s.at t).recorder n = some r := hr
    simp only [exec, execRecPointEvaluate]
    refine event_next ?_
    simp only [hr', hup, hdue, Bool.not_true, Bool.and_false, Bool.false_eq_true, if_false]
  · simp only [exec, execRecComplete]
    exact event_next (if_pos hup)

end Sys2Proof.Proofs
end

section
/-!
PROOFS. The rows of the clusters and the scheduler (11_clusters R323, R327, R333 to R338 and Table 11-2).
-/
namespace Sys2Proof.Machine

/-! ## Drain, retirement and rejoining -/

theorem closeCluster_closes {s : State} {k row : Nat} {force : Bool} {st : ClusterState} (hother : ∃ j ∈ allClusters, j ≠ k ∧ s.inService j = true)
    (hshed : (s.removalPlan k).2 = [] ∨ force = true ∨ s.tt.profile = .placement) : closeCluster s k force st row =
    let r := (s.clusterTo k st row).removeCluster k 5
    ok r.1 (le 2 r.2.1 ++ le 2 r.2.2 ++ le 2 (r.1.clusterBusy k) ++ zeros 2) := by
  obtain ⟨j, hj, hne, hin⟩ := hother
  have hany : allClusters.any (fun j => j != k && s.inService j) = true := List.any_eq_true.mpr ⟨j, hj, by simp [hne, hin]⟩
  have hfree : (!(s.removalPlan k).2.isEmpty && !force && s.tt.profile != .placement) = false := by
    obtain hnone | hforce | hplaced := hshed
    · simp [hnone]
    · simp [hforce]
    · simp [hplaced]
  unfold closeCluster
  rw [hany, if_neg (by simp)]
  exact if_neg (by simp only [hfree]; exact Bool.false_ne_true)

theorem schDrain_passes {s : State} {h : Pkt} {p : SchCluster} (hpart : h.part = 0) (hk : p.cluster ≤ 15) (hin : s.inService p.cluster = true) :
    schDrain s h p = closeCluster s p.cluster p.flag .draining 1 :=
  check_none (by simp [firstBad_cons_none, hpart, hk, hin])

theorem schRetire_passes {s : State} {h : Pkt} {p : SchCluster} (hpart : h.part = 0) (hk : p.cluster ≤ 15) : schRetire s h p =
    match (s.cluster p.cluster).state with
    | .inService => closeCluster s p.cluster p.flag .retired 12
    | .drained => ok (s.clusterTo p.cluster .retired 10) (zeros 8)
    | .faulted => ok (s.clusterTo p.cluster .retired 10) (zeros 8)
    | _ => refuse s stWrongState 0 :=
  check_none (by simp [firstBad_cons_none, hpart, hk])

theorem schRejoin_passes {s : State} {h : Pkt} {p : SchCluster} (hpart : h.part = 0) (hk : p.cluster ≤ 15) : schRejoin s h p =
    let go := fun (row : Nat) =>
      CmdOut.wait ((s.modCluster p.cluster (fun c => c.cleared s.now)).clusterTo p.cluster .testing row) (.rejoin p.cluster)
    match (s.cluster p.cluster).state with
    | .drained => go 5
    | .faulted => go 5
    | .retired => if p.flag then go 6 else refuse s stWrongState 0
    | _ => refuse s stWrongState 0 :=
  check_none (by simp [firstBad_cons_none, hpart, hk])

theorem schRetire_out {s : State} {h : Pkt} {p : SchCluster} (hpart : h.part = 0) (hk : p.cluster ≤ 15)
    (hstate : (s.cluster p.cluster).state = .drained ∨ (s.cluster p.cluster).state = .faulted) :
    schRetire s h p = ok (s.clusterTo p.cluster .retired 10) (zeros 8) := by
  rw [schRetire_passes hpart hk]
  obtain hstate | hstate := hstate
  · rw [hstate]
  · rw [hstate]

theorem schRetire_live {s : State} {h : Pkt} {p : SchCluster} (hpart : h.part = 0) (hk : p.cluster ≤ 15)
    (hstate : (s.cluster p.cluster).state = .inService) : schRetire s h p = closeCluster s p.cluster p.flag .retired 12 := by
  rw [schRetire_passes hpart hk, hstate]

theorem schRejoin_out {s : State} {h : Pkt} {p : SchCluster} (hpart : h.part = 0) (hk : p.cluster ≤ 15)
    (hstate : (s.cluster p.cluster).state = .drained ∨ (s.cluster p.cluster).state = .faulted) :
    schRejoin s h p = .wait ((s.modCluster p.cluster (fun c => c.cleared s.now)).clusterTo p.cluster .testing 5) (.rejoin p.cluster) := by
  rw [schRejoin_passes hpart hk]
  obtain hstate | hstate := hstate
  · simp only [hstate]
  · simp only [hstate]

theorem schRejoin_retired {s : State} {h : Pkt} {p : SchCluster} (hpart : h.part = 0) (hk : p.cluster ≤ 15)
    (hstate : (s.cluster p.cluster).state = .retired) (hflag : p.flag = true) :
    schRejoin s h p = .wait ((s.modCluster p.cluster (fun c => c.cleared s.now)).clusterTo p.cluster .testing 6) (.rejoin p.cluster) := by
  rw [schRejoin_passes hpart hk]
  simp only [hstate, hflag, if_true]

/-! ## The self-test of a cluster and its drain -/

theorem State.clusterResult_eq (s : State) (k result : Nat) :
    s.clusterResult k result = if result = 0 ∧ (s.cluster k).bank ≠ s.fw.running then 3 else result :=
  if_congr (by simp) rfl rfl

theorem clusterTested_passed {s : State} {k result : Nat} (hq : s.clusterResult k result = 0) : clusterTested s k result =
    let s1 := (s.clusterTo k .inService 7).setMark k false
    (s1.evtFree s1.observers 0x012).finishAll (fun w => w.what == .rejoin k) stOk 0 (fun _ => zeros 4) := by
  unfold clusterTested
  exact if_pos (by rw [hq]; rfl)

theorem clusterTested_failed {s : State} {k result : Nat} (hq : s.clusterResult k result ≠ 0) : clusterTested s k result =
    ((s.clusterTo k .faulted 8).fault 64 k 0xFF).finishAll (fun w => w.what == .rejoin k) stFaulted 64
      (fun _ => le 1 (s.clusterResult k result) ++ zeros 3) := by
  unfold clusterTested
  exact if_neg (by simpa using hq)

theorem exec_clusterSelftestDone_testing {t k result : Nat} {s : State} (hk : k < 16) (hup : (s.at t).fabricUp = true)
    (hstate : (s.cluster k).state = .testing) : exec (.clusterSelftestDone t k result) s = .next (clusterTested (s.at t) k result) := by
  have hstate' : ((s.at t).cluster k).state = .testing := hstate
  simp only [exec, execClusterSelftestDone]
  exact event_next (if_pos (by simp only [hk, hup, hstate', beq_self_eq_true, decide_true, Bool.and_self]))

theorem exec_clusterDrained_draining {t k : Nat} {s : State} (hk : k < 16) (hup : (s.at t).fabricUp = true) (hstate : (s.cluster k).state = .draining) :
    exec (.clusterDrained t k) s = .next (if (s.at t).clusterBusy k = 0 then (s.at t).clusterTo k .drained 2 else s.at t) := by
  have hstate' : ((s.at t).cluster k).state = .draining := hstate
  simp only [exec, execClusterDrained]
  exact event_next (if_congr (by simp only [hk, hup, hstate', beq_self_eq_true, decide_true, Bool.and_self, Bool.true_and, beq_iff_eq]) rfl rfl)

/-! ## Faults and items -/

theorem exec_clusterFault_faults {t k cause : Nat} {s : State} (hk : k < 16) (hup : (s.at t).fabricUp = true) (hcause : cause < 3) :
    exec (.clusterFault t k cause) s = .next (((s.at t).fault 64 k 0xFF).clusterFaulted k) := by
  simp only [exec, execClusterFault]
  exact event_next (if_pos (by simp only [hk, hup, hcause, decide_true, Bool.and_self]))

/-- A fault of a cluster in service moves its contracts and its work (R335). -/
theorem State.clusterFaulted_live {s s2 : State} {k : Nat} (h2 : s2 = s.modCluster k (fun c => { c with faults := s.recentFaults k ++ [s.now] }))
    (hstate : (s.cluster k).state = .inService) : s.clusterFaulted k =
    ((if 2 ≤ (s.recentFaults k).length then (s2.clusterTo k .retired 11).fault 67 k 0xFF else s2.clusterTo k .faulted 9).removeCluster k 6).1.restartItems k := by
  subst h2
  have hthird : decide (3 ≤ (s.recentFaults k ++ [s.now]).length) = decide (2 ≤ (s.recentFaults k).length) :=
    decide_eq_decide.mpr (by rw [List.length_append, List.length_singleton]; omega)
  have hlive : (ClusterState.inService == .retired) = false := rfl
  simp only [State.clusterFaulted, hstate, hthird, hlive, beq_self_eq_true, Bool.true_or, Bool.not_true, Bool.false_and, Bool.false_eq_true, if_false,
    if_true, decide_eq_true_eq]

theorem exec_item_of_core {t st fsn k core : Nat} {s : State} {r : CoreRun} (hup : (s.at t).fabricUp = true) (hcore : s.coreOf st fsn = some (k, core, r)) :
    exec (.itemComplete t st fsn) s = .next (if r.item.cancelled then (s.at t).abortRun k core r else (s.at t).completeRun k core r) ∧
    exec (.itemAbort t st fsn) s = .next (if r.item.cancelled then (s.at t).abortRun k core r else s.at t) := by
  have hcore' : (if (s.at t).fabricUp = true then (s.at t).coreOf st fsn else none) = some (k, core, r) := (if_pos hup).trans hcore
  simp only [exec, execItemComplete, execItemAbort]
  exact ⟨event_next (by simp only [hcore']), event_next (by simp only [hcore'])⟩

/-! ## Observation -/

theorem schTraceSet_sets {s : State} {h : Pkt} {p : SchTraceSet} (hon : p.enable = true → p.kindMask ≠ 0) (heven : p.kindMask % 2 = 0)
    (hmask : p.kindMask ≤ 127) (hcount : p.count ≤ 64)
    (hset : p.ringSize = 0 ∨ (ringSizeOk p.ringSize = true ∧ addrFit h p.ringAddr ∧ p.ringAddr % 4096 = 0 ∧ addrFit h p.prodWbAddr ∧ p.prodWbAddr % 8 = 0))
    (hlist : p.count = 0 ∨ addrFit h p.listAddr) (hids : ∀ i ∈ p.ids.take p.count, s.holds h.part kindStream i = true) : schTraceSet s h p =
    ok { s with sch := { s.sch with traces := tset h.part { set := { p with ids := p.ids.take p.count } } s.sch.traces } } := by
  have hheld : (p.ids.take p.count).any (fun i => !s.holds h.part kindStream i) = false := List.any_eq_false.mpr (fun i hi => by simp [hids i hi])
  have hlist' := or_iff_not_imp_left.mp hlist
  unfold schTraceSet
  refine check_none ?_
  obtain hoff | ⟨hsize, hring, hpage, hwb, halign⟩ := hset
  · simp [firstBad_cons_none, heven, hmask, hcount, hoff, ringSizeOk, hheld]
    exact ⟨hon, hlist'⟩
  · simp [firstBad_cons_none, heven, hmask, hcount, hsize, hring, hpage, hwb, halign, hheld]
    exact ⟨hon, hlist'⟩

theorem schObsRead_passes {s : State} {h : Pkt} {p : SchObsRead} (hobs : s.observes h.part = true) (hfirst : p.first ≤ 15) (hlast : p.first + p.count ≤ 16) :
    schObsRead s h p =
    ok (if p.clear then
        ((List.range p.count).map (· + p.first)).foldl (fun s k => s.modCluster k (fun c => { c with maxDepth := [], waitMax := [] })) s
      else s) (((List.range p.count).map (· + p.first)).flatMap (fun k => s.obsEntry k)) :=
  check_none (by simp [firstBad_cons_none, hobs, hfirst, hlast])

end Sys2Proof.Machine

namespace Sys2Proof.Proofs

open Sys2Proof.Machine

/-- Settles O18: each command's checks pass, and each event is met in the state of the cluster that the statement names. -/
theorem clusterRowsComplete : Obligations.ClusterRowsComplete := by
  refine ⟨⟨fun h p s s1 r hs hpart hk hin hother hshed hr => ?_,
      fun h p s s1 r hs hpart hk => ⟨fun hstate => cmd_answers hs (schRetire_out hpart hk hstate), fun hstate hother hshed hr => ?_⟩,
      fun h p s s1 hs hpart hk => ⟨fun hstate => cmd_waits hs (schRejoin_out hpart hk hstate),
        fun hstate hflag => cmd_waits hs (schRejoin_retired hpart hk hstate hflag)⟩,
      fun t k q result s s1 hk hup hstate hq => ?_,
      fun t k s hk hup hstate => ⟨fun hidle => ?_, fun hbusy => ?_⟩⟩,
    fun t k cause s s1 hk hup hcause h1 => ?_, fun t k s hk => ?_,
    fun t st fsn k core s r hup hcore => ?_,
    fun h p s s1 hs hon heven hmask hcount hset hlist hids => cmd_answers hs (schTraceSet_sets hon heven hmask hcount hset hlist hids),
    fun h p s s1 hs hobs hfirst hlast => ⟨fun hkeep => cmd_answers hs ?_, fun hclear => cmd_answers hs ?_⟩⟩
  · subst hr
    exact cmd_answers hs ((schDrain_passes hpart hk hin).trans (closeCluster_closes hother hshed))
  · subst hr
    exact cmd_answers hs ((schRetire_live hpart hk hstate).trans (closeCluster_closes hother hshed))
  · have hres : (s.at t).clusterResult k result = q := (State.clusterResult_eq (s.at t) k result).trans hq.symm
    have hexec := exec_clusterSelftestDone_testing (result := result) hk hup hstate
    refine ⟨fun h0 h1 => ?_, fun h0 => ?_⟩
    · subst h1
      rw [hexec, clusterTested_passed (hres.trans h0)]
    · rw [hexec, clusterTested_failed (fun h => h0 (hres.symm.trans h)), hres]
  · rw [exec_clusterDrained_draining hk hup hstate, if_pos hidle]
  · rw [exec_clusterDrained_draining hk hup hstate, if_neg hbusy]
  · subst h1
    refine ⟨exec_clusterFault_faults hk hup hcause, fun s2 h2 hstate => ⟨fun hfew => ?_, fun hthird => ?_⟩⟩
    · rw [State.clusterFaulted_live h2 hstate, if_neg hfew.not_ge]
    · rw [State.clusterFaulted_live h2 hstate, if_pos hthird]
  · simp only [exec, execClusterFaultAgeout]
    exact event_next (if_pos hk)
  · obtain ⟨hcomplete, habort⟩ := exec_item_of_core hup hcore
    refine ⟨fun hcancelled => ⟨?_, ?_⟩, fun hruns => ⟨?_, ?_⟩⟩
    · rw [hcomplete, if_pos hcancelled]
    · rw [habort, if_pos hcancelled]
    · rw [hcomplete, if_neg (by simp [hruns])]
    · rw [habort, if_neg (by simp [hruns])]
  · rw [schObsRead_passes hobs hfirst hlast, if_neg (by simp [hkeep])]
    rfl
  · rw [schObsRead_passes hobs hfirst hlast, if_pos hclear]
    rfl

end Sys2Proof.Proofs
end

section
/-!
PROOFS. The commands of time (12_time R353, R361, R362, R364 and Table 12-8).
-/
namespace Sys2Proof.Machine

@[simp] theorem timeOwnerOnly_none {s : State} {h : Pkt} : s.timeOwnerOnly h = none ↔ s.hst.timeOwner = h.part := by
  simp [State.timeOwnerOnly]

theorem State.base_setBase_same (s : State) (n : Nat) (b : Base) : (s.setBase n b).base n = some b := tget_tset_same n b s.tb.bases

theorem State.baseOf_eq {s : State} {n : Nat} {b : Base} (hb : s.base n = some b) : s.baseOf n = b := by
  simp [State.baseOf, hb]

/-! ## TB_REF_SET and TB_SET -/

theorem tbRefSet_sets {s : State} {h : Pkt} {p : TbRefSet} (hpart : h.part = 0) (hsel : p.refSel ≤ 1) (hrY : negOrNan p.rY = false)
    (hrD : negOrNan p.rD = false) (hxY : negOrNan p.xY = false) (hxD : negOrNan p.xD = false)
    (hpps : p.refSel = 0 → ∀ e ∈ s.tb.bases, e.2.set.source ≠ 3) : tbRefSet s h p = ok ({ s with tb := { s.tb with ref := p } } : State).pllSelect := by
  refine check_none ?_
  simp only [firstBad_cons_none, ownerOnly_none, badIf_none, failIf_none, Bool.and_eq_false_imp, beq_iff_eq, hrY, hrD, hxY, hxD, firstBad_nil, true_and,
    and_true]
  refine ⟨hpart, decide_eq_false hsel.not_gt, fun hzero => List.any_eq_false.mpr ?_⟩
  exact fun e he => by simpa using hpps hzero e he

theorem tbSet_disables {s : State} {h : Pkt} {p0 p : TbSet} (howner : s.hst.timeOwner = h.part) (hp : tbFilled p0 = p) (hoff : p.disable = true)
    (hbase : 1 ≤ p.base) (hbase' : p.base ≤ 3) (hfree : s.baseUsed p.base = false) : tbSet s h p0 = ok (s.tbApply p) := by
  unfold tbSet
  rw [hp, if_pos hoff]
  refine check_none ?_
  simp [firstBad_cons_none, howner, hbase', hfree]
  omega

theorem tbSet_sets {s : State} {h : Pkt} {p0 p : TbSet} (howner : s.hst.timeOwner = h.part) (hp : tbFilled p0 = p) (hon : p.disable = false)
    (hchecks : firstBad (s.tbSetChecks p) = none) : tbSet s h p0 = ok ((s.at h.done).tbApply p) := by
  unfold tbSet
  rw [hp, if_neg (by simp [hon])]
  exact check_none (firstBad_cons_none.mpr ⟨timeOwnerOnly_none.mpr howner, hchecks⟩)

/-! ## TB_RESTEP -/

/-- What TB_RESTEP does on a valid base. -/
theorem tbRestep_passes {s : State} {h : Pkt} {p : TbRestep} {b : Base} (howner : s.hst.timeOwner = h.part) (hbase : 1 ≤ p.base) (hbase' : p.base ≤ 3)
    (hb : s.base p.base = some b) (hvalid : b.valid = true) (hhow : p.how = 1 ∨ (p.how = 2 ∧ p.delta ≠ 0)) : tbRestep s h p =
    if p.how == 2 then ok ((s.at h.done).restepped p.base b p.delta) (restepReply p.delta (s.at h.done).now)
    else .wait s (.restep p.base (h.recv + 1000000000 * b.set.lossS)) := by
  have hnone : p.base ≠ 0 := by omega
  unfold tbRestep
  simp only [hb]
  refine check_none ?_
  obtain h1 | ⟨h2, hdelta⟩ := hhow
  · simp [firstBad_cons_none, howner, hbase', hnone, hvalid, h1]
  · simp [firstBad_cons_none, howner, hbase', hnone, hvalid, h2, hdelta]

/-! ## TB_TOD_SET -/

/-- What TB_TOD_SET does on a base whose source is PPS and whose time of day is not that of IRIG-B. -/
theorem tbTodSet_passes {s : State} {h : Pkt} {p : TbTodSet} {b : Base} (howner : s.hst.timeOwner = h.part) (hbase : 1 ≤ p.base) (hbase' : p.base ≤ 3)
    (hsec : p.seconds ≠ 0) (hb : s.base p.base = some b) (hsource : b.set.source = 3) (htod : b.set.todFromIrig = false) (hleap : p.leap ≤ 2) :
    tbTodSet s h p =
    let ns : Int := if b.valid then b.reading s.now else (p.seconds : Int) * 1000000000
    let s1 := if b.state == .unacquired then s.setBase p.base { b with tod := some (p.seconds, none) } else s
    if p.leap == 0 then
      ok (match s1.base p.base with
        | some b1 => s1.setBase p.base { b1 with leap := none }
        | none => s1)
    else ok (s1.leapAnnounce p.base (p.leap == 2) (nextHalfYear (b.utcDay ns))) := by
  have hnone : p.base ≠ 0 := by omega
  unfold tbTodSet
  simp only [hb]
  exact check_none (by simp [firstBad_cons_none, howner, hbase', hnone, hsec, hleap, State.baseOf_eq hb, hsource, htod])

/-! ## TB_PORT_DELAY_SET and TB_QUERY -/

theorem tbPortDelaySet_sets {s : State} {h : Pkt} {p : TbPortDelaySet} (hpart : h.part = 0) (hport : p.port ≤ 23) (hrx : p.rxNs ≤ 10000)
    (htx : p.txNs ≤ 10000) : tbPortDelaySet s h p =
    ok { s with tb := { s.tb with
      delays := tset p.port (p.rxNs, p.txNs) s.tb.delays, oldDelays := tset p.port (s.doneAt h, tgetD p.port (0, 0) s.tb.delays) s.tb.oldDelays } } :=
  check_none (by simp [firstBad_cons_none, hpart, hport, hrx, htx])

theorem tbQuery_reference {s : State} {h : Pkt} : tbQuery s h 0 = ok (s.at h.done) (zeros 8 ++ le 8 (s.at h.done).now ++ zeros 48) := by
  unfold tbQuery
  rw [check_none (by simp [firstBad_cons_none])]
  rfl

theorem tbQuery_base {s : State} {h : Pkt} {n : Nat} (hn : 1 ≤ n) (hn' : n ≤ 3) : ∃ res, tbQuery s h n = ok (s.at h.done) res := by
  unfold tbQuery
  rw [check_none (by simp [firstBad_cons_none, hn']), if_neg (by simp; omega)]
  exact ⟨_, rfl⟩

end Sys2Proof.Machine

namespace Sys2Proof.Proofs

open Sys2Proof.Machine

/-- Settles O19: each command's checks pass; TB_RESTEP and TB_TOD_SET take the way of their operand and of the base's state. -/
theorem timeCommandsComplete : Obligations.TimeCommandsComplete := by
  refine ⟨fun h p s s1 hs hpart hsel hrY hrD hxY hxD hpps => cmd_answers hs (tbRefSet_sets hpart hsel hrY hrD hxY hxD hpps),
    fun h p0 p s s1 hs howner hp => ⟨fun hoff hbase hbase' hfree => cmd_answers hs (tbSet_disables howner hp.symm hoff hbase hbase' hfree),
      fun hon hchecks => cmd_answers hs (tbSet_sets howner hp.symm hon hchecks)⟩,
    fun h p s s1 b hs howner hbase hbase' hb hvalid => ⟨fun hhow hdelta => cmd_answers hs ?_, fun hhow => cmd_waits hs ?_⟩,
    fun h p s s1 b hs howner hbase hbase' hsec hb hsource htod => ?_,
    fun h p s s1 hs hpart hport hrx htx => cmd_answers hs (tbPortDelaySet_sets hpart hport hrx htx),
    fun h n s s1 hs => ⟨fun hn => ?_, fun hn hn' => ?_⟩⟩
  · exact (tbRestep_passes howner hbase hbase' hb hvalid (.inr ⟨hhow, hdelta⟩)).trans (if_pos (by simp [hhow]))
  · exact (tbRestep_passes howner hbase hbase' hb hvalid (.inl hhow)).trans (if_neg (by simp [hhow]))
  · have hpasses := fun hleap => tbTodSet_passes howner hbase hbase' hsec hb hsource htod hleap
    refine ⟨fun hleap hstate => cmd_answers hs ((hpasses (by omega)).trans ?_), fun hleap hstate => cmd_answers hs ((hpasses (by omega)).trans ?_),
      fun hleap hvalid hstate => cmd_answers hs ((hpasses (by omega)).trans ?_)⟩
    · simp only [hleap, hstate, beq_self_eq_true, if_true, State.base_setBase_same]
      rfl
    · simp only [hleap, beq_eq_false_iff_ne.mpr hstate, beq_self_eq_true, Bool.false_eq_true, if_true, if_false, hb]
      rfl
    · have hsome : ¬ (p.leap == 0) = true := by simp; omega
      simp only [hsome, beq_eq_false_iff_ne.mpr hstate, hvalid, Bool.false_eq_true, if_true, if_false]
      rfl
  · subst hn
    exact cmd_answers hs tbQuery_reference
  · obtain ⟨res, hres⟩ := tbQuery_base hn hn'
    exact ⟨res, cmd_answers hs hres⟩

end Sys2Proof.Proofs
end

section
/-!
PROOFS. The PTP instances' rows (12_time R358, R359).
-/
namespace Sys2Proof.Machine

theorem tbPtpSet_sets {s : State} {h : Pkt} {p : TbPtpSet} (howner : s.hst.timeOwner = h.part) (hchecks : firstBad (s.ptpSetChecks p) = none) :
    tbPtpSet s h p = ok (s.ptpApply p) :=
  check_none (firstBad_cons_none.mpr ⟨timeOwnerOnly_none.mpr howner, hchecks⟩)

/-! ## Announce -/

theorem State.announceTaken_other {s : State} {m : PtpAnnounce} {n : Nat} {x : Ptp} (hx : s.ptpOf m.port = some (n, x))
    (hhears : s.ptpHears x m.port = true) (hdomain : m.domain ≠ x.set.domain) : s.announceTaken m = (s.sideTake m.port).ptpDiscard := by
  simp only [State.announceTaken, hx, hhears, bne_iff_ne.mpr hdomain, Bool.true_or, Bool.not_true, Bool.false_eq_true, if_false, if_true]

/-- An Announce of a master that was not heard before. -/
theorem State.announceTaken_new {s s2 : State} {m : PtpAnnounce} {n : Nat} {x : Ptp} (hx : s.ptpOf m.port = some (n, x))
    (hhears : s.ptpHears x m.port = true) (hdomain : m.domain = x.set.domain) (hmode : x.set.mode ≠ 3) (hsteps : m.steps < 255)
    (hforeign : m.gmId ≠ Config.clockId) (hnew : tget (32 * m.source + m.port) x.foreign = none)
    (h2 : s2 = ((s.sideTake m.port).setPtp n { x with
      foreign := tset (32 * m.source + m.port) { ann := m, last := s.now, count := 1 } x.foreign }).bmca n) : s.announceTaken m =
    if ((tget n s2.tb.ptp).bind (·.gm)).any (fun g => g.source == m.source && g.port == m.port) then s2.parentAnnounced n m else s2 := by
  have hused : (m.domain != x.set.domain || x.set.mode == 3 || decide (255 ≤ m.steps) || m.gmId == Config.clockId) = false := by
    simp [hdomain, hmode, hsteps, hforeign]
  subst h2
  simp only [State.announceTaken, hx, hhears, hused, hnew, Bool.not_true, Bool.false_eq_true, if_false]

/-! ## Sync and Follow_Up -/

theorem State.syncTaken_other {s : State} {m : PtpSync} {n : Nat} {x : Ptp} (hx : s.ptpOf m.port = some (n, x)) (hhears : s.ptpHears x m.port = true)
    (hparent : s.fromParent n x m.port m.source m.domain = false) : s.syncTaken m = (s.sideTake m.port).ptpDiscard := by
  simp only [State.syncTaken, hx, hhears, hparent, Bool.not_true, Bool.not_false, Bool.false_eq_true, if_false, if_true]

theorem State.syncTaken_parent {s : State} {m : PtpSync} {n cap : Nat} {x : Ptp} (hx : s.ptpOf m.port = some (n, x)) (hhears : s.ptpHears x m.port = true)
    (hcap : cap = m.cap + (s.delayAt m.port m.cap).1) (hparent : s.fromParent n x m.port m.source m.domain = true) : s.syncTaken m =
    if m.twoStep then (s.sideTake m.port).setPtp n { x with awaited := some (m.port, m.source, m.seq, cap) }
    else (s.sideTake m.port).ptpSample n m.port cap m.origin := by
  subst hcap
  simp only [State.syncTaken, hx, hhears, hparent, Bool.not_true, Bool.false_eq_true, if_false]

theorem State.followUpTaken_unawaited {s : State} {m : PtpFollowUp} {n : Nat} {x : Ptp} (hx : s.ptpOf m.port = some (n, x))
    (hhears : s.ptpHears x m.port = true) (hnone : x.awaited = none) : s.followUpTaken m = (s.sideTake m.port).ptpDiscard := by
  simp only [State.followUpTaken, hx, hhears, hnone, Bool.not_true, Bool.false_eq_true, if_false]

theorem State.followUpTaken_awaited {s : State} {m : PtpFollowUp} {n cap : Nat} {x : Ptp} (hx : s.ptpOf m.port = some (n, x))
    (hhears : s.ptpHears x m.port = true) (hwait : x.awaited = some (m.port, m.source, m.seq, cap))
    (hparent : s.fromParent n x m.port m.source m.domain = true) :
    s.followUpTaken m = ((s.sideTake m.port).setPtp n { x with awaited := none }).ptpSample n m.port cap m.origin := by
  simp only [State.followUpTaken, hx, hhears, hwait, hparent, Bool.not_true, Bool.false_eq_true, if_false, beq_self_eq_true, Bool.and_self, if_true]

/-! ## Messages sent -/

theorem exec_ptpMessageTransmit_sends {t n port : Nat} {kind : PtpKind} {s : State} {x : Ptp} (hx : tget n s.tb.ptp = some x)
    (hhears : (s.at t).ptpHears x port = true) (hmode : x.set.mode ≠ 0) (hport : x.set.portMask.testBit port = true) :
    exec (.ptpMessageTransmit t n port kind) s = .next ((s.at t).ptpTransmit n x port kind) := by
  have hx' : tget n (s.at t).tb.ptp = some x := hx
  simp only [exec, execPtpMessageTransmit]
  refine event_next ?_
  simp only [hx']
  exact if_pos (by simp only [hhears, bne_iff_ne.mpr hmode, hport, Bool.and_self])

theorem State.ptpTransmit_no_master {s : State} {n port : Nat} {x : Ptp} {kind : PtpKind} (hkind : kind ≠ .pdelayReq) (hmaster : x.isMaster port = false) :
    s.ptpTransmit n x port kind = s := by
  cases kind with
  | pdelayReq => exact absurd rfl hkind
  | announce => simp [State.ptpTransmit, hmaster]
  | sync => simp [State.ptpTransmit, hmaster]

theorem State.ptpTransmit_announce {s : State} {n port : Nat} {x : Ptp} (hmaster : x.isMaster port = true) :
    s.ptpTransmit n x port .announce = s.ptpSend n x port 1 := if_pos hmaster

theorem State.ptpTransmit_sync {s : State} {n port : Nat} {x : Ptp} (hmaster : x.isMaster port = true) : s.ptpTransmit n x port .sync =
    if x.set.oneStepMask.testBit port then s.ptpSend n x port 0 else (s.ptpSend n x port 0).ptpSend n x port 4 := by
  simp only [State.ptpTransmit, hmaster, Bool.not_true, Bool.false_eq_true, if_false]

/-! ## Peer delays -/

theorem pdelayFrames_request (port domain : Nat) : (pdelayFrames (.request port domain) == 2) = false := rfl

theorem pdelayFrames_exchange (port domain : Nat) (rt turn : Int) (two : Bool) : (pdelayFrames (.exchange port domain rt turn two) == 2) = two := by
  cases two <;> rfl

theorem State.pdelayTaken_request {s : State} {port domain n : Nat} {x : Ptp} (hx : s.ptpOf port = some (n, x)) (hhears : s.ptpHears x port = true)
    (hdomain : domain = x.set.domain) (hone : x.set.oneStepMask.testBit port = true) :
    s.pdelayTaken (.request port domain) = (s.sideTake port).ptpSend n x port 3 := by
  simp only [State.pdelayTaken, hx, hhears, hdomain, hone, pdelayFrames_request, bne_self_eq_false, Bool.not_true, Bool.false_eq_true, if_false, if_true]

theorem State.pdelayTaken_exchange {s u : State} {port domain n : Nat} {rt turn : Int} {x : Ptp} {two : Bool} {d : Nat × Nat}
    (hx : s.ptpOf port = some (n, x)) (hhears : s.ptpHears x port = true) (hdomain : domain = x.set.domain)
    (hu : u = if two = true then (s.sideTake port).sideTake port else s.sideTake port) (hd : d = u.delayAt port u.cap) :
    s.pdelayTaken (.exchange port domain rt turn two) =
    { u with tb := { u.tb with pathDelay := tset port ((rt + (d.1 : Int) - (d.2 : Int) - turn) / 2) u.tb.pathDelay } } := by
  subst hd hu
  simp only [State.pdelayTaken, hx, hhears, hdomain, pdelayFrames_exchange, bne_self_eq_false, Bool.not_true, Bool.false_eq_true, if_false]

end Sys2Proof.Machine

namespace Sys2Proof.Proofs

open Sys2Proof.Machine

/-- Settles O21: each message is met as the PTP clock of its port hears it, and each timer as that clock's port stands. -/
theorem ptpRowsComplete : Obligations.PtpRowsComplete := by
  refine ⟨fun h p s s1 hs howner hchecks => cmd_answers hs (tbPtpSet_sets howner hchecks),
    fun t m s s2 n x hx hhears => ⟨fun hdomain => ?_, fun hdomain hmode hsteps hforeign hnew h2 => ?_⟩,
    fun t n port s x hup hx => ?_,
    fun t m s n x cap hx hhears hcap => ⟨fun hparent => ?_, fun hparent htwo => ?_, fun hparent hone => ?_⟩,
    fun t m s n x cap hx hhears => ⟨fun hnone => ?_, fun hwait hparent => ?_⟩,
    fun t n port kind s x hx hhears hmode hport => ?_,
    fun t port domain n rt turn s x d hx hhears hdomain => ⟨fun hone => ?_, fun two u hu hd => ?_⟩⟩
  · simp only [exec, execPtpAnnounceReceived]
    exact event_next (State.announceTaken_other (s := s.at t) hx hhears hdomain)
  · have htaken := State.announceTaken_new (s := s.at t) hx hhears hdomain hmode hsteps hforeign hnew h2
    simp only [exec, execPtpAnnounceReceived]
    exact ⟨fun hparent => event_next (htaken.trans (if_pos hparent)), fun hother => event_next (htaken.trans (if_neg (by simp only [hother]; decide)))⟩
  · have hx' : tget n (s.at t).tb.ptp = some x := hx
    simp only [exec, execPtpAnnounceTimeout]
    refine event_next ?_
    simp only [hx', hup, if_true]
  · simp only [exec, execPtpSyncReceived]
    exact event_next (State.syncTaken_other (s := s.at t) hx hhears hparent)
  · simp only [exec, execPtpSyncReceived]
    exact event_next ((State.syncTaken_parent (s := s.at t) hx hhears hcap hparent).trans (if_pos htwo))
  · simp only [exec, execPtpSyncReceived]
    exact event_next ((State.syncTaken_parent (s := s.at t) hx hhears hcap hparent).trans (if_neg (by simp [hone])))
  · simp only [exec, execPtpFollowUpReceived]
    exact event_next (State.followUpTaken_unawaited (s := s.at t) hx hhears hnone)
  · simp only [exec, execPtpFollowUpReceived]
    exact event_next (State.followUpTaken_awaited (s := s.at t) hx hhears hwait hparent)
  · have hsends := exec_ptpMessageTransmit_sends (kind := kind) hx hhears hmode hport
    refine ⟨fun hkind => ?_, fun hkind hmaster => ?_, fun hkind hmaster => ?_, fun hkind hmaster hone => ?_, fun hkind hmaster htwo => ?_⟩
    · subst hkind
      exact hsends
    · rw [hsends, State.ptpTransmit_no_master hkind hmaster]
    · subst hkind
      rw [hsends, State.ptpTransmit_announce hmaster]
    · subst hkind
      rw [hsends, State.ptpTransmit_sync hmaster, if_pos hone]
    · subst hkind
      rw [hsends, State.ptpTransmit_sync hmaster, if_neg (by simp [htwo])]
  · simp only [exec, execPtpPdelayMessage]
    exact event_next (State.pdelayTaken_request (s := s.at t) hx hhears hdomain hone)
  · simp only [exec, execPtpPdelayMessage]
    exact event_next (State.pdelayTaken_exchange (s := s.at t) hx hhears hdomain hu hd)

end Sys2Proof.Proofs
end

section
/-!
PROOFS. The ports' commands (13_ports R372, R373, R399).
-/
namespace Sys2Proof.Machine

/-! ## PRT_MODE_SET -/

theorem PortSt.duplexUnder_eq (x : PortSt) (p : PrtModeSet) :
    x.duplexUnder p = if p.mode = 6 ∨ p.mode = 7 then (if p.linkSrc = true then !p.half else x.fullDuplex) else true :=
  if_congr (by simp) rfl rfl

theorem PortSt.keepsLink_iff (x : PortSt) (p : PrtModeSet) : x.keepsLink p = true ↔
    (∃ m, x.mode = some m ∧ m.mode = p.mode ∧ m.fec = p.fec) ∧ x.duplexUnder p = x.fullDuplex ∧
    (x.link = false ∨ p.linkSrc = false ∨ modeSpeed p.mode = 0 ∨ modeSpeed p.mode = x.speedMbps) := by
  unfold PortSt.keepsLink
  cases x.mode <;> simp [and_assoc, or_assoc]

/-- A setting that Table 13-1 allows. -/
structure State.ModeFits (s : State) (h : Pkt) (p : PrtModeSet) : Prop where
  owner : h.part = 0
  port : p.port ≤ 23
  mode : modeFits p.port p.mode = true
  fec : fecFits p.mode p.fec = true
  an : p.an = true → p.mode = 3 ∨ p.mode = 5
  half : p.half = true → (p.mode = 6 ∨ p.mode = 7) ∧ p.linkSrc = true
  maxFrame : 1518 ≤ p.maxFrame ∧ p.maxFrame ≤ 9216
  arrivalTb : p.arrivalTb ≤ 3
  phyAddr : p.phyAddr ≤ 31
  off : p.mode = 0 → s.portNamed p.port = false

/-- MGMT is taken from every other port. -/
def State.mgmtMoved (s : State) (p : PrtModeSet) : State :=
  if p.mgmt then
    { s with prt := { s.prt with ports := tmap (fun n x =>
        if n == p.port then x else { x with mode := x.mode.map (fun m => { m with mgmt := false }) }) s.prt.ports } }
  else s

theorem State.ModeFits.sets {s : State} {h : Pkt} {p0 p : PrtModeSet} (hf : s.ModeFits h p)
    (hp : p = { p0 with maxFrame := if p0.maxFrame == 0 then 9216 else p0.maxFrame }) : prtModeSet s p0 h =
    ok (((if (s.port p.port).keepsLink p then s else s.linkDownOp p.port 2).mgmtMoved p).modPort p.port (fun x => { x with
      mode := some p, fullDuplex := (s.port p.port).duplexUnder p
      oldMode := if (s.port p.port).keepsLink p then some (s.doneAt h, x.mode) else none })) := by
  obtain ⟨hpart, hport, hmode, hfec, han, hhalf, ⟨hmax, hmax'⟩, htb, hphy, hoff⟩ := hf
  unfold prtModeSet
  rw [← hp]
  refine check_none ?_
  simp only [firstBad_cons_none, ownerOnly_none, badIf_none, failIf_none, hmode, hfec, Bool.not_true, firstBad_nil, true_and, and_true]
  simp [hpart, hport, hmax', htb, hphy]
  exact ⟨fun h hne => (han h).resolve_left hne, fun h => (hhalf h).imp_left or_iff_not_imp_left.mp, by omega, hoff⟩

/-! ## The other settings -/

theorem prtAddrSet_sets {s : State} {h : Pkt} {p : PrtAddrSet} (hpart : h.part = 0) (hport : p.port ≤ 23) (hcount : p.count ≤ 4)
    (hmac : macGroup p.mac = false) (hips : ∀ i < (p.addrs.take p.count).length, ipBad (((p.addrs.take p.count)[i]?).getD 0) = false) :
    prtAddrSet s p h = ok (s.modPort p.port (fun x => { x with mac := p.mac, addrs := p.addrs.take p.count })) := by
  have hnone : (List.range (p.addrs.take p.count).length).find? (fun i => ipBad (((p.addrs.take p.count)[i]?).getD 0)) = none :=
    List.find?_eq_none.mpr (fun i hi => by rw [hips i (List.mem_range.mp hi)]; exact Bool.false_ne_true)
  unfold prtAddrSet
  refine check_none ?_
  simp only [firstBad_cons_none, hnone]
  simp [hpart, hport, hcount, hmac]

theorem prtFilterSet_sets {s : State} {h : Pkt} {p : PrtFilterSet} (hport : p.port ≤ 23) (hfilter : p.filter ≤ 31)
    (hholds : s.holds h.part kindPort p.port = true) (hown : ∀ e, tget p.filter (s.port p.port).filters = some e → e.1 = h.part) :
    prtFilterSet s p h = ok (s.modPort p.port (fun x => { x with
      filters := if p.enable then tset p.filter (h.part, p) x.filters else tdel p.filter x.filters })) := by
  have hfree : (tget p.filter (s.port p.port).filters).any (fun e => e.1 != h.part) = false := by
    rw [Option.any_eq_false]
    intro e he
    simp [hown e he]
  exact check_none (by simp only [firstBad_cons_none, hfree]; simp [hport, hfilter, hholds])

theorem prtRxringSet_sets {s : State} {h : Pkt} {p : PrtRingSet} (hport : p.port ≤ 23) (hholds : s.holds h.part kindPort p.port = true)
    (hqueue : p.queue = 0) (hentries : ringEntriesOk p.entries = true) (hpage : p.ringAddr % 4096 = 0) (halign : p.headWbAddr % 8 = 0)
    (hset : p.entries = 0 ∨ (256 ≤ p.bufSize ∧ p.bufSize ≤ 16384 ∧ p.bufSize % 256 = 0 ∧ addrFit h p.ringAddr ∧ addrFit h p.headWbAddr)) :
    prtRxringSet s p h = ok (s.modPort p.port (fun x => { x with rxRings := tset h.part (ringFrom p) x.rxRings })) := by
  refine check_none ?_
  obtain hoff | ⟨hbuf, hbuf', hmult, hring, hwb⟩ := hset
  · simp only [firstBad_cons_none, hentries]
    simp [hport, hholds, hqueue, hpage, halign, hoff]
  · simp only [firstBad_cons_none, hentries]
    simp [hport, hholds, hqueue, hpage, halign, hbuf, hbuf', hmult, hring, hwb]
    omega

theorem prtTxringSet_sets {s : State} {h : Pkt} {p : PrtRingSet} (hport : p.port ≤ 23) (hholds : s.holds h.part kindPort p.port = true)
    (hqueue : 4 ≤ p.queue) (hqueue' : p.queue ≤ 7) (hbuf : p.bufSize = 0) (hentries : ringEntriesOk p.entries = true) (hpage : p.ringAddr % 4096 = 0)
    (halign : p.headWbAddr % 8 = 0) (hset : p.entries = 0 ∨ (addrFit h p.ringAddr ∧ addrFit h p.headWbAddr)) : prtTxringSet s p h =
    ok (((s.dropHostFrames p.port h.part true).modPort p.port (fun x => { x with txRings := tset h.part (ringFrom p) x.txRings })).kick p.port) := by
  refine check_none ?_
  obtain hoff | ⟨hring, hwb⟩ := hset
  · simp only [firstBad_cons_none, hentries]
    simp [hport, hholds, hqueue, hqueue', hbuf, hpage, halign, hoff]
  · simp only [firstBad_cons_none, hentries]
    simp [hport, hholds, hqueue, hqueue', hbuf, hpage, halign, hring, hwb]

theorem prtTxqSet_sets {s : State} {h : Pkt} {p : PrtTxqSet} (hpart : h.part = 0) (hport : p.port ≤ 23) (hqueue : p.queue = 2 ∨ (4 ≤ p.queue ∧ p.queue ≤ 7))
    (hlate : p.lateMode ≤ 1) : prtTxqSet s p h = ok (s.modPort p.port (fun x => { x with lateMode := tset p.queue p.lateMode x.lateMode })) :=
  check_none (by simp [firstBad_cons_none, hpart, hport, hlate]; omega)

/-! ## The reads -/

theorem prtQuery_passes {s : State} {h : Pkt} {n : Nat} (hn : n ≤ 23) (hholds : s.holds h.part kindPort n = true) : prtQuery s h n =
    ok s (le 1 (((s.port n).mode.map (·.mode)).getD 0) ++ le 1 (((s.port n).mode.map (·.fec)).getD 0)
      ++ le 1 (b2n (s.port n).link + 2 * b2n (s.port n).fullDuplex + 4 * b2n (s.paused n) + 8 * b2n (s.port n).xoff) ++ zeros 1
      ++ le 4 (if (s.port n).link then (s.port n).speedMbps else 0) ++ le 6 (s.portMac n) ++ zeros 2) := by
  unfold prtQuery
  exact check_none (by simp [firstBad_cons_none, hn, hholds])

theorem State.portMac_eq (s : State) (n : Nat) : s.portMac n = if (s.port n).mac = 0 then Config.portMac n else (s.port n).mac :=
  if_congr (by simp) rfl rfl

theorem prtCntRead_passes {s : State} {h : Pkt} {n : Nat} (hn : n ≤ 23) (hobs : s.observes h.part = true) : prtCntRead s h n =
    ok s (le 8 s.now ++ ((List.range 55).map (fun i => le 4 (tgetD i 0 (s.port n).cnt).toNat)).flatten) :=
  check_none (by simp [firstBad_cons_none, hn, hobs])

end Sys2Proof.Machine

namespace Sys2Proof.Proofs

open Sys2Proof.Machine

/-- Settles O22: each command's checks pass; PRT_MODE_SET takes the link down unless the settings keep it, and moves MGMT. -/
theorem portCommandsComplete : Obligations.PortCommandsComplete := by
  refine ⟨fun h p0 p s s1 s2 s3 same full x hs hpart hp hport hmode hfec han hhalf hmax hmax' htb hphy hoff hx hfull hsame hkeep hdown hno hmgmt => ?_,
    fun h p s s1 hs hpart hport hcount hmac hips => cmd_answers hs (prtAddrSet_sets hpart hport hcount hmac hips),
    fun h p s s1 hs hport hfilter hholds hown => cmd_answers hs (prtFilterSet_sets hport hfilter hholds hown),
    fun h p s s1 hs hport hholds hqueue hentries hpage halign hset =>
      cmd_answers hs (prtRxringSet_sets hport hholds hqueue hentries hpage halign hset),
    fun h p s s1 hs hport hholds hqueue hqueue' hbuf hentries hpage halign hset =>
      cmd_answers hs (prtTxringSet_sets hport hholds hqueue hqueue' hbuf hentries hpage halign hset),
    fun h p s s1 hs hpart hport hqueue hlate => cmd_answers hs (prtTxqSet_sets hpart hport hqueue hlate),
    fun h n s s1 => ⟨fun hs hn hholds => ?_, fun hs hn hobs => cmd_answers hs (prtCntRead_passes hn hobs)⟩⟩
  · have hfit : s1.ModeFits h p := ⟨hpart, hport, hmode, hfec, han, hhalf, ⟨hmax, hmax'⟩, htb, hphy, hoff⟩
    subst hx
    obtain rfl : (s1.port p.port).duplexUnder p = full := (PortSt.duplexUnder_eq _ p).trans hfull.symm
    obtain rfl : (s1.port p.port).keepsLink p = same := Bool.eq_iff_iff.mpr ((PortSt.keepsLink_iff _ p).trans hsame.symm)
    have h2 : (if (s1.port p.port).keepsLink p then s1 else s1.linkDownOp p.port 2) = s2 := by
      split
      next h => exact (hkeep h).symm
      next h => exact (hdown (Bool.eq_false_iff.mpr h)).symm
    have h3 : s2.mgmtMoved p = s3 := by
      unfold State.mgmtMoved
      split
      next h => exact (hmgmt h).symm
      next h => exact (hno (Bool.eq_false_iff.mpr h)).symm
    have hsets := hfit.sets hp
    rw [h2, h3] at hsets
    exact cmd_answers hs hsets
  · rw [← State.portMac_eq]
    exact cmd_answers hs (prtQuery_passes hn hholds)

end Sys2Proof.Proofs
end

section
/-!
PROOFS. The ports' receiving and sending (13_ports R374 to R388).
-/
namespace Sys2Proof.Machine

/-! ## Receiving -/

theorem State.rxTailWrite_takes {s : State} {part port v : Nat} {bufs : List Nat} {r : HostRing} (hholds : s.holds part kindPort port = true)
    (hr : r = tgetD part {} (s.port port).rxRings) (hfits : (BitVec.ofNat 32 v - r.head).toNat ≤ r.entries) :
    s.rxTailWrite part port { tail := v, bufs } = s.modPort port (fun x => { x with
      rxRings := tset part { r with tail := BitVec.ofNat 32 v, bufs := r.posted (BitVec.ofNat 32 v) bufs } x.rxRings }) := by
  subst hr
  unfold State.rxTailWrite
  exact if_pos (by rw [hholds, Bool.true_and]; exact decide_eq_true hfits)

theorem State.rxTailWrite_ignores {s : State} {part port v : Nat} {bufs : List Nat} {r : HostRing} (hr : r = tgetD part {} (s.port port).rxRings)
    (hover : r.entries < (BitVec.ofNat 32 v - r.head).toNat) : s.rxTailWrite part port { tail := v, bufs } = s := by
  subst hr
  unfold State.rxTailWrite
  exact if_neg (by rw [Bool.and_eq_true, decide_eq_true_eq]; exact fun h => hover.not_ge h.2)

theorem exec_prtTxTailWrite_takes {t part port v : Nat} {descs : List TxDesc} {s : State} {r : HostRing} (hholds : s.holds part kindPort port = true)
    (hr : r = tgetD part {} (s.port port).txRings) (hfits : (BitVec.ofNat 32 v - r.head).toNat ≤ r.entries) :
    exec (.prtTxTailWrite t part port v descs) s = .next (((s.at t).modPort port (fun x => { x with txRings := tset part { r with
      tail := BitVec.ofNat 32 v, descs := r.descs ++ descs.take (BitVec.ofNat 32 v - r.tail).toNat } x.txRings })).kick port) := by
  have hholds' : (s.at t).holds part kindPort port = true := hholds
  subst hr
  simp only [exec, execPrtTxTailWrite]
  exact event_next (if_pos (by rw [hholds', Bool.true_and]; exact decide_eq_true hfits))

theorem exec_prtTxTailWrite_ignores {t part port v : Nat} {descs : List TxDesc} {s : State} {r : HostRing}
    (hr : r = tgetD part {} (s.port port).txRings) (hover : r.entries < (BitVec.ofNat 32 v - r.head).toNat) :
    exec (.prtTxTailWrite t part port v descs) s = .next (s.at t) := by
  subst hr
  simp only [exec, execPrtTxTailWrite]
  exact event_next (if_neg (by rw [Bool.and_eq_true, decide_eq_true_eq]; exact fun h => hover.not_ge h.2))

/-- A frame that crosses the ball of a port whose link is up. -/
theorem State.rxFrame_alive {s s0 : State} {f : RxFrame} (halive : s.portAlive f.port = true)
    (h0 : s0 = s.modPort f.port (fun x => { x with carrierUntil := s.cap + bitsNs (8 * f.len) x.speedMbps })) : s.rxFrame f =
    match s0.rxCheck f with
    | some n => s0.portCount f.port n
    | none =>
      let s1 := s0.portCounts f.port (sizeBin f.len :: s0.rxTypes f (s0.rxStamp f.port))
      if f.damaged then s1.portFault f.port 0 else s1.classify f := by
  subst h0
  unfold State.rxFrame
  exact if_neg (by rw [halive]; exact Bool.false_ne_true)

/-! ## Links -/

theorem exec_linkUp_of_mode {t port speed : Nat} {full lock : Bool} {s : State} {m : PrtModeSet} (hmay : (s.at t).mayLink port = true)
    (hm : (s.port port).mode = some m) : exec (.linkUp t port speed full lock) s = .next
      (if linkFits m speed full then (s.at t).linkUpOp port speed full (lock && m.fec != 0) else s.at t) := by
  have hm' : ((s.at t).port port).mode = some m := hm
  simp only [exec, execLinkUp]
  refine event_next ?_
  simp only [hmay, hm', Option.any_some, Bool.true_and]

theorem exec_sgmiiControlWord_of_mode {t port speed : Nat} {link full : Bool} {s : State} {m : PrtModeSet} (hmay : (s.at t).mayLink port = true)
    (hm : (s.port port).mode = some m) (hmode : m.mode = 4) (hspeed : speed = 10 ∨ speed = 100 ∨ speed = 1000) :
    exec (.sgmiiControlWord t port link full speed) s = .next
      (if link && !full then (s.at t).linkDownOp port 3
       else if link then (s.at t).linkUpOp port speed true false else (s.at t).linkDownOp port 2) := by
  have hm' : ((s.at t).port port).mode = some m := hm
  simp only [exec, execSgmiiControlWord]
  exact event_next (if_neg (by simp [hmay, hm', hmode]; omega))

theorem exec_mdioPoll_of_mode {t port speed : Nat} {link full : Bool} {s : State} {m : PrtModeSet} (hmay : (s.at t).mayLink port = true)
    (hm : (s.port port).mode = some m) (hmode : m.mode = 6 ∨ m.mode = 7) (hsrc : m.linkSrc = false) (hspeed : speed = 10 ∨ speed = 100) :
    exec (.mdioPoll t port link full speed) s = .next
      (if !link then (s.at t).linkDownOp port 2 else (s.at t).linkUpOp port speed full false) := by
  have hm' : ((s.at t).port port).mode = some m := hm
  simp only [exec, execMdioPoll]
  exact event_next (if_neg (by simp [hmay, hm', hsrc]; omega))

/-! ## Pauses -/

theorem PortSt.pauseTaken_wire (x : PortSt) (now : Stamp) : (x.pauseTaken now).sending = x.sending ∧ (x.pauseTaken now).fullDuplex = x.fullDuplex := by
  unfold PortSt.pauseTaken
  cases x.pauseIn with
  | none => exact ⟨rfl, rfl⟩
  | some e =>
    dsimp only
    repeat' split
    all_goals exact ⟨rfl, rfl⟩

theorem State.pauseSettle_wire (s : State) (p : Nat) :
    ((s.pauseSettle p).port p).sending = (s.port p).sending ∧ ((s.pauseSettle p).port p).fullDuplex = (s.port p).fullDuplex := by
  unfold State.pauseSettle
  split
  · rw [State.port_modPort]
    exact PortSt.pauseTaken_wire _ _
  · exact ⟨rfl, rfl⟩

theorem State.sendPause_up {s : State} {p quanta : Nat} (hmay : s.mayPause p = true) :
    s.sendPause p quanta = (s.modPort p (fun x => { x with pauseOwed := some quanta, xoffAt := s.now })).kick p := by
  unfold State.mayPause at hmay
  simp only [Bool.and_eq_true] at hmay
  exact if_pos hmay.1.1

/-! ## The end of a frame -/

/-- The half-duplex counters of a frame that has left (R388). -/
def halfCounts (f : TxFrame) (csLost : Bool) : List Nat :=
  (if f.collisions = 0 then [] else if f.collisions = 1 then [46] else [47]) ++ (if f.deferred = true then [50] else [])
    ++ (if csLost = true then [51] else [])

theorem halfCounts_eq (f : TxFrame) (csLost : Bool) :
    (if f.collisions == 1 then [46] else if decide (1 < f.collisions) then [47] else []) ++ (if f.deferred then [50] else []) ++ (if csLost then [51] else [])
    = halfCounts f csLost := by
  unfold halfCounts
  obtain h | h | h : f.collisions = 0 ∨ f.collisions = 1 ∨ 1 < f.collisions := by omega
  · simp [h]
  · simp [h]
  · have h0 : f.collisions ≠ 0 := by omega
    have h1 : f.collisions ≠ 1 := by omega
    simp [h, h0, h1]

/-- The counters of half duplex, and none in full duplex. -/
theorem halfCounts_of_duplex {f : TxFrame} {csLost half : Bool} {l : List Nat} (hfull : half = false → l = []) (hhalf : half = true → l = halfCounts f csLost) :
    (if half && f.collisions == 1 then [46] else if half && decide (1 < f.collisions) then [47] else []) ++ (if half && f.deferred then [50] else [])
      ++ (if half && csLost then [51] else []) = l := by
  cases half with
  | false => simp [hfull rfl]
  | true => rw [hhalf rfl, ← halfCounts_eq]; simp only [Bool.true_and]

/-- TX_FRAME_END of a frame that is being sent. -/
theorem State.txFrameEnd_sending {s s0 : State} {p q : Nat} {f : TxFrame} {csLost damaged : Bool} {half : List Nat}
    (hf : (s.port p).sending = some (q, f)) (h0 : s0 = s.pauseSettle p) (hfull : (s.port p).fullDuplex = true → half = [])
    (hhalf : (s.port p).fullDuplex = false → half = halfCounts f csLost) : s.txFrameEnd p csLost damaged =
    let s1 := (s0.modPort p (fun x => { x with sending := none, gapUntil := s0.cap + bitsNs 96 x.speedMbps })).pauseBegins p
    ((if damaged then s1.portFault p f.what.ringPart
      else ({ s1 with prt := { s1.prt with sent := { port := p, frame := f, stamp := s0.txStamp p } :: s1.prt.sent } } : State).portCounts p
        ([17 + sizeBin (Nat.max f.len 60 + 4)] ++ s0.txTypes f.what f.data ++ half)).frameGone p f damaged).kick p := by
  subst h0
  obtain ⟨hsending, hduplex⟩ := s.pauseSettle_wire p
  have hcounts := halfCounts_of_duplex (f := f) (csLost := csLost) (half := !(s.port p).fullDuplex) (l := half) (by simpa using hfull) (by simpa using hhalf)
  simp only [State.txFrameEnd, hsending, hf, hduplex, List.append_assoc] at hcounts ⊢
  simp only [hcounts]

/-! ## Collisions -/

theorem State.modPort_congr {s : State} {p : Nat} {f g : PortSt → PortSt} (h : f (s.port p) = g (s.port p)) : s.modPort p f = s.modPort p g :=
  congrArg (s.setPort p) h

/-- TX_COLLISION of a frame that is being sent in half duplex, told of as it is. -/
theorem State.txCollision_sending {s s1 : State} {p q : Nat} {f : TxFrame} {late : Bool} (hhalf : (s.port p).fullDuplex = false)
    (hf : (s.port p).sending = some (q, f))
    (h1 : s1 = s.modPort p (fun x => { x with sending := none, gapUntil := s.cap + bitsNs 128 x.speedMbps }))
    (hlate : late = true ↔ (s.port p).startedAt + bitsNs 512 (s.port p).speedMbps < s.cap) : s.txCollision p late =
    if late then ((s1.portCounts p (48 :: if f.deferred then [50] else [])).frameGone p f true).kick p
    else if 16 ≤ f.collisions + 1 then ((s1.portCounts p (49 :: if f.deferred then [50] else [])).frameGone p f true).kick p
    else s1.free.2.modPort p (fun x => { x with
      retry := some (q, { f with collisions := f.collisions + 1 })
      backoffUntil := s.cap + bitsNs 32 (s.port p).speedMbps
        + s1.free.1 % 2 ^ (Nat.min (f.collisions + 1) 10) * bitsNs 512 (s.port p).speedMbps }) := by
  have hsame : (late != decide ((s.port p).startedAt + bitsNs 512 (s.port p).speedMbps < s.cap)) = false := by
    rw [bne_eq_false_iff_eq, Bool.eq_iff_iff, hlate, decide_eq_true_eq]
  have hspeed : (s1.free.2.port p).speedMbps = (s.port p).speedMbps := by
    have hfree : s1.free.2.port p = s1.port p := rfl
    rw [hfree, h1, State.port_modPort]
  simp only [State.txCollision, hhalf, hsame, hf, Bool.or_self, Bool.false_eq_true, if_false, -Nat.reduceLeDiff, ← h1]
  refine if_congr Iff.rfl rfl (if_congr Iff.rfl rfl (State.modPort_congr ?_))
  simp only [hspeed]

end Sys2Proof.Machine

namespace Sys2Proof.Proofs

open Sys2Proof.Machine

/-- Settles O23: each count, frame and link word is met as the port's ring, checks and mode take it. -/
theorem portReceiveRowsComplete : Obligations.PortReceiveRowsComplete := by
  refine ⟨fun t part port v bufs s r hholds hr => ⟨fun hfits => ?_, fun hover => ?_⟩,
    fun t part port v descs s r hholds hr => ⟨fun hfits => exec_prtTxTailWrite_takes hholds hr hfits, fun hover => exec_prtTxTailWrite_ignores hr hover⟩,
    fun t f s s0 s1 halive h0 => ⟨fun n hn => ?_, fun hnone h1 => ⟨fun hdamaged => ?_, fun hwhole => ?_⟩⟩,
    fun t port speed full lock s m hmay hm => ⟨fun hfits => ?_, fun hfits => ?_⟩,
    fun t port s => ?_,
    fun t port speed link full s m hmay hm => ⟨fun hmode hspeed => ?_, fun hmode hsrc hspeed => ?_⟩⟩
  · simp only [exec, execPrtRxTailWrite]
    exact event_next (State.rxTailWrite_takes (s := s.at t) hholds hr hfits)
  · simp only [exec, execPrtRxTailWrite]
    exact event_next (State.rxTailWrite_ignores (s := s.at t) hr hover)
  · simp only [exec, execPortRxFrame]
    refine event_next ((State.rxFrame_alive (s := s.at t) halive h0).trans ?_)
    rw [hn]
  · simp only [exec, execPortRxFrame]
    refine event_next ((State.rxFrame_alive (s := s.at t) halive h0).trans ?_)
    rw [hnone, h1]
    exact if_pos hdamaged
  · simp only [exec, execPortRxFrame]
    refine event_next ((State.rxFrame_alive (s := s.at t) halive h0).trans ?_)
    rw [hnone, h1]
    exact if_neg (by simp [hwhole])
  · rw [exec_linkUp_of_mode hmay hm, if_pos hfits]
  · rw [exec_linkUp_of_mode hmay hm, if_neg (by simp [hfits])]
  · simp only [exec, execLinkDown]
    exact event_next rfl
  · rw [exec_sgmiiControlWord_of_mode hmay hm hmode hspeed]
    refine ⟨fun hlink hfull => ?_, fun hlink hfull => ?_, fun hlink => ?_⟩
    · rw [if_pos (by simp [hlink, hfull])]
    · rw [if_neg (by simp [hfull]), if_pos hlink]
    · rw [if_neg (by simp [hlink]), if_neg (by simp [hlink])]
  · rw [exec_mdioPoll_of_mode hmay hm hmode hsrc hspeed]
    refine ⟨fun hlink => ?_, fun hlink => ?_, fun hup hduplex => State.linkUpOp_duplex _ _ _ _ _ hup hduplex⟩
    · rw [if_pos (by simp [hlink])]
    · rw [if_neg (by simp [hlink])]

/-- Settles O24: each timer, frame end and collision is met as the port and the frame that it sends stand. -/
theorem portSendRowsComplete : Obligations.PortSendRowsComplete := by
  refine ⟨fun t port e q s hin hend => ?_, fun t port u s hin huntil => ⟨fun hdue => ?_, fun hearly => ?_⟩,
    fun t port s => ⟨fun hxoff hlen hmay hdue => ?_, fun hnot => ?_⟩,
    fun t p q csLost s s0 s1 s2 f half hf h0 h1 hfull hhalf => ⟨fun h2 => ?_, ?_⟩,
    fun t port s => ?_,
    fun t p q late s s1 f held hhalf hf h1 hheld hlate => ?_,
    fun t port s => ?_⟩
  · have hin' : ((s.at t).port port).pauseIn = some (e, q) := hin
    simp only [exec, execPauseExpiry]
    exact event_next (if_pos (by rw [hin']; exact decide_eq_true hend))
  · have hin' : ((s.at t).port port).pauseIn = none := hin
    have huntil' : ((s.at t).port port).pauseUntil = some u := huntil
    simp only [exec, execPauseExpiry]
    exact event_next ((if_neg (by rw [hin']; exact Bool.false_ne_true)).trans (if_pos (by rw [huntil']; exact decide_eq_true hdue)))
  · have hin' : ((s.at t).port port).pauseIn = none := hin
    have huntil' : ((s.at t).port port).pauseUntil = some u := huntil
    simp only [exec, execPauseExpiry]
    exact event_next ((if_neg (by rw [hin']; exact Bool.false_ne_true)).trans (if_neg (by
      rw [huntil', Option.any_some, decide_eq_true_eq]; exact hearly.not_ge)))
  · have hdue' : ((s.at t).port port).xoffAt + quantaNs 0xFFFF ((s.at t).port port).speedMbps / 2 ≤ (s.at t).now := hdue
    have hlen' : 2048 ≤ ((s.at t).port port).rxq.length := hlen
    have hxoff' : ((s.at t).port port).xoff = true := hxoff
    simp only [exec, execXoffRepeat]
    exact event_next ((if_pos (by simp only [hxoff', hlen', hmay, hdue', decide_true, Bool.and_self])).trans (State.sendPause_up hmay))
  · simp only [exec, execXoffRepeat]
    refine event_next (if_neg ?_)
    simp only [Bool.and_eq_true, decide_eq_true_eq]
    rintro ⟨⟨⟨-, hlen⟩, -⟩, hdue⟩
    exact hnot.elim (fun h => h.not_ge hlen) (fun h => h.not_ge hdue)
  · subst h1 h2
    simp only [exec, execTxFrameEnd]
    exact event_next ((State.txFrameEnd_sending (s := s.at t) hf h0 hfull hhalf).trans (by simp only [Bool.false_eq_true, if_false]))
  · subst h1
    simp only [exec, execTxFrameEnd]
    exact event_next ((State.txFrameEnd_sending (s := s.at t) hf h0 hfull hhalf).trans (by simp only [if_true]))
  · simp only [exec, execTxLaunchTime]
    exact event_next rfl
  · subst hheld
    have hcollides := State.txCollision_sending (s := s.at t) hhalf hf h1 hlate
    simp only [exec, execTxCollision]
    refine ⟨fun hl => event_next (hcollides.trans (if_pos hl)),
      fun hl hmany => event_next (hcollides.trans ((if_neg (by simp [hl])).trans (if_pos (by omega)))),
      fun hl hfew => event_next (hcollides.trans ((if_neg (by simp [hl])).trans (if_neg (by omega))))⟩
  · simp only [exec, execBackoffExpiry]
    exact event_next rfl

end Sys2Proof.Proofs
end

section
/-!
PROOFS. The commands that only read the hosts' state, the settings of rings and channels, and the QV3100 commands (14_hosts R423, R424, R430).
-/
namespace Sys2Proof.Machine

/-! ## Lengths of images -/

theorem le_length (n v : Nat) : (le n v).length = n := by
  induction n generalizing v with
  | zero => rfl
  | succ n ih => simp [le, ih]

theorem bitMap_length (n : Nat) (f : Nat → Bool) : (bitMap n f).length = n := by simp [bitMap]

/-! ## HST_GRANT_QUERY -/

theorem hstGrantQuery_checks {h : Pkt} {p : HstGrantQuery} (hpart : p.part ≤ 7) (hcaller : h.part = p.part ∨ h.part = 0)
    (hkind : p.kind ≤ 14) : firstBad [badIf (7 < p.part) 0, if h.part == p.part then none else ownerOnly h, badIf (14 < p.kind) 1] = none := by
  simpa [firstBad_cons_none, hpart, hkind] using or_iff_not_imp_left.mp hcaller

theorem hstGrantQuery_shares {s : State} {h : Pkt} {p : HstGrantQuery} (hpart : p.part ≤ 7) (hcaller : h.part = p.part ∨ h.part = 0)
    (hkind : p.kind = 0) : hstGrantQuery s h p = ok s
      (le 4 (s.part p.part).capacity ++ le 4 (s.part p.part).platform ++ le 4 (s.part p.part).sidingsMib ++ le 4 (s.part p.part).poolMib
        ++ le 1 (s.privByte p.part) ++ zeros 3) :=
  (check_none (hstGrantQuery_checks hpart hcaller (by omega))).trans (by simp [hkind])

theorem hstGrantQuery_maps {s : State} {h : Pkt} {p : HstGrantQuery} (hpart : p.part ≤ 7) (hcaller : h.part = p.part ∨ h.part = 0)
    (hkind : 1 ≤ p.kind) (hkind' : p.kind ≤ 14) : ∃ res, hstGrantQuery s h p = ok s res ∧ res.length = 4020 := by
  refine ⟨_, check_none (hstGrantQuery_checks hpart hcaller hkind'), ?_⟩
  have hne : (p.kind == 0) = false := by simp; omega
  simp [hne, le_length, bitMap_length, zeros]

/-! ## The staging buffer -/

theorem stageChecks_none {offset len : Nat} (hlen : 1 ≤ len) (hlen' : len ≤ 4000) (hfit : offset + len ≤ stagingSize) :
    firstBad (stageChecks offset len) = none := by
  simp [stageChecks, firstBad_cons_none, hlen', hfit]
  omega

/-- Bytes staged for a partition are none of those left when its staged writes are dropped. -/
theorem Memory.takeIn_dropped_same (n : Nat) (l : List (Nat × Nat × List Byte)) (m : List Host.Cell) :
    Memory.takeIn n (l.filter (fun w => w.1 != n)) m = m := by
  induction l with
  | nil => rfl
  | cons w l ih =>
    by_cases hw : w.1 = n
    · simpa [hw] using ih
    · simpa [hw, Memory.takeIn] using ih

theorem Memory.takeIn_dropped_other {n k : Nat} (hn : n ≠ k) (l : List (Nat × Nat × List Byte)) (m : List Host.Cell) :
    Memory.takeIn n (l.filter (fun w => w.1 != k)) m = Memory.takeIn n l m := by
  induction l with
  | nil => rfl
  | cons w l ih =>
    by_cases hw : w.1 = k
    · simpa [hw, Memory.takeIn, Ne.symm hn] using ih
    · simp [hw, Memory.takeIn, ih]

theorem State.stagingOf_stageWrite_same (s : State) (n off : Nat) (data : List Byte) :
    (s.stageWrite n off data).stagingOf n = Memory.writeBytes off (data.take (stagingSize - off)) (s.stagingOf n) := by
  simp [State.stagingOf, State.stageWrite, Memory.takeIn_dropped_same, tgetD, tget_tset_same]

theorem State.stagingOf_stageWrite_other (s : State) {n k : Nat} (hn : n ≠ k) (off : Nat) (data : List Byte) :
    (s.stageWrite k off data).stagingOf n = s.stagingOf n := by
  simp [State.stagingOf, State.stageWrite, Memory.takeIn_dropped_other hn, tgetD, tget_tset_of_ne hn]

theorem State.stagingOf_wf {s : State} (hwf : s.stagingWf) (n : Nat) : Memory.wf (s.stagingOf n) = true :=
  Memory.takeIn_wf _ _ _ (((stagingWf_iff s).mp hwf).get n)

theorem State.read_stageWrite {s : State} (hwf : s.stagingWf) {n off : Nat} {data : List Byte} (hfit : off + data.length ≤ stagingSize) (a : Nat) :
    Memory.read a ((s.stageWrite n off data).stagingOf n) =
      if off ≤ a ∧ a < off + data.length then data.getD (a - off) 0 else Memory.read a (s.stagingOf n) := by
  rw [State.stagingOf_stageWrite_same, List.take_of_length_le (by omega), Memory.read_writeBytes _ _ _ _ (State.stagingOf_wf hwf n)]

/-! ## The event ring and the in-band channel -/

theorem hstEvtRingSet_sets {s : State} {h : Pkt} {p : HstEvtRingSet}
    (hset : p.ringSize = 0 ∨ (powerBetween 4096 16777216 p.ringSize = true ∧ (p.reserve = 0 ∨ (16 ≤ p.reserve ∧ p.reserve ≤ p.ringSize / 64)) ∧
      addrFit h p.ringAddr ∧ p.ringAddr % 4096 = 0)) :
    hstEvtRingSet s h p = ok ((s.modPart h.part (fun x => { x with ev := { x.ev with
      size := p.ringSize, reserve := if p.reserve = 0 then 64 else p.reserve, addr := p.ringAddr, prod := 0, cons := 0,
      stopped := false } })).drainRing h.part) := by
  have hchecks : firstBad
      [ badIf (p.ringSize != 0 && !powerBetween 4096 16777216 p.ringSize) 0
      , badIf (p.ringSize != 0 && p.reserve != 0 && (p.reserve < 16 || p.ringSize / 64 < p.reserve)) 4
      , if p.ringSize != 0 then stagingOnly h p.ringAddr else none, badIf (p.ringSize != 0 && p.ringAddr % 4096 != 0) 8 ] = none := by
    rcases hset with hoff | ⟨hpower, hreserve, hfit, halign⟩
    · simp [firstBad_cons_none, hoff]
    · simp [firstBad_cons_none, hpower, hfit, halign]
      omega
  unfold hstEvtRingSet
  exact (check_none hchecks).trans (by simp only [beq_iff_eq])

theorem hstInbandSet_disables {s : State} {h : Pkt} {p : HstInbandSet} (henable : p.enable = false) (hverify : p.keyVerify = 0xFF)
    (hnext : p.keyVerifyNext = 0xFF) (hsign : p.keySign = 0xFF) (hport : h.part = 0 ∨ p.udpPort = 0) :
    hstInbandSet s h p = ok (s.inbandSet h.part p) := by
  have hnamed : [p.keyVerify, p.keyVerifyNext, p.keySign].filter (· != 0xFF) = [] := by simp [hverify, hnext, hsign]
  unfold hstInbandSet
  rw [hnamed]
  refine (onSlots_unmarked (by simp) (by simp)).trans (check_none ?_)
  simpa [firstBad_cons_none, henable, hverify, hnext, hsign] using or_iff_not_imp_left.mp hport

theorem hstInbandSet_enables {s : State} {h : Pkt} {p : HstInbandSet} (hverify : p.keyVerify ≠ 0xFF) (hnext : p.keyVerifyNext = 0xFF)
    (hsign : p.keySign ≠ 0xFF) (hslotV : s.inbandSlot h.part p.keyVerify 2 = true) (hslotS : s.inbandSlot h.part p.keySign 1 = true)
    (hslots : ∀ n ∈ [p.keyVerify, p.keySign], (s.slot n).updateLost = false ∧ (s.slot n).unusable = false) (hport : h.part = 0 ∨ p.udpPort = 0) :
    hstInbandSet s h p = ok (s.inbandSet h.part p) := by
  have hnamed : [p.keyVerify, p.keyVerifyNext, p.keySign].filter (· != 0xFF) = [p.keyVerify, p.keySign] := by simp [hverify, hnext, hsign]
  unfold hstInbandSet
  rw [hnamed]
  refine (onSlots_unmarked (fun n hn => (hslots n hn).1) (fun n hn => (hslots n hn).2)).trans (check_none ?_)
  simpa [firstBad_cons_none, hnext, hslotV, hslotS] using or_iff_not_imp_left.mp hport

/-! ## QV3100 commands -/

/-- A stream that Q31_STREAM_ADD takes. -/
structure State.AddFits (s : State) (h : Pkt) (p : Q31StreamAdd) (e : IngSubSet) : Prop where
  profile : s.tt.profile = .placement
  stream : p.stream < 16384
  protocol : p.protocol ≤ 2
  rate : p.rate ∈ frameRates
  channels : 1 ≤ p.channels ∧ p.channels ≤ 256
  holds : s.holds h.part kindStream p.stream = true
  free : tget p.stream s.hst.placed = none
  entry : tget p.stream s.ing.subs = some e
  kind : e.kind = if p.protocol ≤ 1 then 0 else 1
  groups : (maskBits 16 p.groupMask).all (fun g => (s.group g).isSome) = true

theorem kindOfProtocol_eq {protocol : Nat} (hp : protocol ≤ 2) : kindOfProtocol protocol = if protocol ≤ 1 then 0 else 1 := by
  unfold kindOfProtocol
  split
  · rfl
  · rw [if_pos (by simp; omega)]

theorem State.AddFits.entry_fits {s : State} {h : Pkt} {p : Q31StreamAdd} {e : IngSubSet} (hf : s.AddFits h p e) : s.q31Entry p = none := by
  simp only [State.q31Entry, hf.entry, hf.kind, kindOfProtocol_eq hf.protocol]
  simp

theorem State.AddFits.adds {s : State} {h : Pkt} {p : Q31StreamAdd} {e : IngSubSet} {k : Nat} (hf : s.AddFits h p e) (hk : s.leastLoaded [] = some k)
    (hplt : s.pltCommit + (s.q31Placed h p k).bytes ≤ 65011712) (hch : s.chCommit + p.channels ≤ 262144) :
    q31StreamAdd s h p = ok { s with hst := { s.hst with placed := tset p.stream (s.q31Placed h p k) s.hst.placed } } (le 1 k ++ zeros 3) := by
  have hentry := hf.entry_fits
  obtain ⟨hprofile, hstream, hprotocol, hrate, hchannels, hholds, hfree, _, _, hgroups⟩ := hf
  have hgroups' : (maskBits 16 p.groupMask).any (fun g => (s.group g).isNone) = false :=
    List.any_eq_false.mpr fun g hg => by simp [Option.isSome_iff_ne_none.mp (List.all_eq_true.mp hgroups g hg)]
  have hrate0 : p.rate ≠ 0 := fun h0 => absurd (h0 ▸ hrate) (by decide)
  unfold q31StreamAdd
  refine (check_none ?_).trans ?_
  · simp only [firstBad_cons_none, hentry, hgroups', hfree]
    simp [hprofile, hrate0, hprotocol, hrate, hholds]
    omega
  · have hroom : (65011712 < s.pltCommit + (s.q31Placed h p k).bytes || 262144 < s.chCommit + (s.q31Placed h p k).channels) = false := by
      rw [Bool.or_eq_false_iff, decide_eq_false_iff_not, decide_eq_false_iff_not]
      exact ⟨Nat.not_lt.mpr hplt, Nat.not_lt.mpr hch⟩
    simp only [hk, hroom, Bool.false_eq_true, if_false]

/-- What an added stream leaves when it is removed, its items being cancelled. -/
def State.placedRemoved (s : State) (stream : Nat) (p : PlacedStream) : State :=
  (({ s with hst := { s.hst with placed := tdel stream s.hst.placed }, plt := { s.plt with slots := tdel (placedKey stream) s.plt.slots } }
    : State).houseCheckAll p.groupMask).metersRefresh

/-- A command on a placed stream of its caller goes on. -/
theorem onPlaced_placed {s : State} {h : Pkt} {stream : Nat} {p : PlacedStream} {k : PlacedStream → CmdOut} (hprofile : s.tt.profile = .placement)
    (hstream : stream < 16384) (hholds : s.holds h.part kindStream stream = true) (hp : tget stream s.hst.placed = some p) :
    onPlaced s h stream k = k p := by
  refine (check_none ?_).trans (by simp only [hp])
  simp [firstBad_cons_none, hprofile, hholds]
  omega

theorem q31StreamRemove_removes {s : State} {h : Pkt} {stream : Nat} {p : PlacedStream} (hprofile : s.tt.profile = .placement)
    (hstream : stream < 16384) (hholds : s.holds h.part kindStream stream = true) (hp : tget stream s.hst.placed = some p) :
    q31StreamRemove s h stream = ok ((s.cancelItems (fun x => x.stream == stream)).placedRemoved stream p) :=
  onPlaced_placed hprofile hstream hholds hp

end Sys2Proof.Machine

namespace Sys2Proof.Proofs
open Sys2Proof.Machine

/-- Settles O25: each command passes its checks and answers on the state it began with. -/
theorem hostReadsComplete : Obligations.HostReadsComplete := by
  unfold Obligations.HostReadsComplete
  refine ⟨fun h s s1 hs => cmd_answers hs rfl, fun h data s s1 hs => cmd_answers hs rfl,
    fun h p s s1 hs hpart hcaller hkind => cmd_answers hs (hstGrantQuery_shares hpart hcaller hkind),
    fun h p s s1 hs hpart hcaller hkind hkind' => ?_,
    fun h offset len s s1 hs hlen hlen' hfit => cmd_answers hs (check_none (stageChecks_none hlen hlen' hfit)),
    fun h stream s s1 p hs hprofile hstream hholds hp => cmd_answers hs (onPlaced_placed hprofile hstream hholds hp),
    fun h s s1 hs hprofile => cmd_answers hs (check_none (by simp [firstBad_cons_none, hprofile]))⟩
  obtain ⟨res, hbody, hlength⟩ := hstGrantQuery_maps (s := s1) hpart hcaller hkind hkind'
  exact ⟨res, cmd_answers hs hbody, hlength⟩

/-- Settles O27: a write to staging reads back by the law of written bytes, and another partition's buffer is another entry. -/
theorem hostSettingsComplete : Obligations.HostSettingsComplete := by
  unfold Obligations.HostSettingsComplete
  refine ⟨fun h p s s1 hs hset => cmd_answers hs (hstEvtRingSet_sets hset),
    fun h p s s1 hs henable hverify hnext hsign hport => cmd_answers hs (hstInbandSet_disables henable hverify hnext hsign hport),
    fun h p s s1 hs hverify hnext hsign hslotV hslotS hslots hport =>
      cmd_answers hs (hstInbandSet_enables hverify hnext hsign hslotV hslotS hslots hport),
    fun h offset len data s s1 hs hparam hdata hlen hlen' hfit hwf =>
      ⟨s1.stageWrite h.part offset data, cmd_answers hs ?_, fun a => ?_, fun n hn => State.stagingOf_stageWrite_other s1 hn offset data⟩⟩
  · exact check_none (firstBad_cons_none.mpr ⟨by simp [hparam], stageChecks_none hlen hlen' hfit⟩)
  · subst hdata
    exact State.read_stageWrite hwf hfit a

/-- Settles O28: in Placement each command passes its checks. -/
theorem compatibilityRowsComplete : Obligations.CompatibilityRowsComplete := by
  unfold Obligations.CompatibilityRowsComplete
  refine ⟨fun h p s s1 k e hs hprofile hstream hprotocol hrate hch hch' hholds hfree hentry hkind hgroups hk hplt hcommit =>
      cmd_answers hs (State.AddFits.adds ⟨hprofile, hstream, hprotocol, hrate, ⟨hch, hch'⟩, hholds, hfree, hentry, hkind, hgroups⟩ hk hplt hcommit),
    fun h stream s s1 p hs hprofile hstream hholds hp s2 hs2 => ?_,
    fun h s s1 hs hprofile hpart => cmd_answers hs (check_none (by simp [firstBad_cons_none, hprofile, hpart]))⟩
  rw [hs2]
  exact cmd_answers hs (q31StreamRemove_removes hprofile hstream hholds hp)

end Sys2Proof.Proofs
end

section
/-!
PROOFS. A grant of a key slot whose update was lost reports the mark and moves nothing (14_hosts R405, 15_security R454).
-/
namespace Sys2Proof.Machine

/-- Partition 2 is created, and slot 1, which the owner partition holds, has lost an update. -/
def lostSlot : State := { Tests.parted with sec := { Tests.parted.sec with slots := [(1, { updateLost := true })] } }

/-- A grant of slot 1 to partition 2. -/
def slotGrant : HstGrant := { kind := kindKey, dest := 2, force := true, remove := false, first := 1, count := 1 }

/-- Who holds slot 1, in the state that an outcome leads to. -/
def slotHolder : Host.Outcome State Fault Refusal → Option Nat
  | .next s => some (s.holder kindKey 1)
  | _ => none

theorem State.holder_answered (s : State) (c : CmdInfo) (h : Pkt) (st d : Nat) (res : List Byte) (kind idx : Nat) :
    (s.answered c h st d res).holder kind idx = s.holder kind idx := by
  simp [State.answered, State.holder, kept_grants]

theorem slotHolder_grant : slotHolder (exec (.hstGrant (Tests.pk 16) slotGrant) lostSlot) = some 0 := by decide

end Sys2Proof.Machine

namespace Sys2Proof.Proofs
open Sys2Proof.Machine

/-- Refutes O26: a grant by force of slot 1, marked UPDATE_LOST, to partition 2 is refused, which reports the mark, and the slot stays with the owner
partition; the statement has it moved. -/
theorem not_partitionGrantAndShareRowsComplete : ¬ Obligations.PartitionGrantAndShareRowsComplete := by
  intro h
  obtain ⟨-, ⟨hgrant, -⟩, -⟩ := h
  obtain ⟨t, res, hout, hholder⟩ := hgrant (Tests.pk 16) slotGrant lostSlot lostSlot.go (Tests.starts rfl rfl rfl) rfl rfl (by decide) (by decide)
    (by decide) (by decide) (by decide) (by decide) (.inl rfl)
  have hmoved : t.holder kindKey 1 = 2 := hholder kindKey 1
  have hstays := (congrArg slotHolder hout).symm.trans slotHolder_grant
  rw [slotHolder, State.holder_answered, hmoved] at hstays
  exact absurd hstays (by decide)

end Sys2Proof.Proofs
end

section
/-!
PROOFS. The key commands (15_security R434 to R440, R452, R454).
-/
namespace Sys2Proof.Machine

/-! ## Checks of the key commands -/

theorem loadAllowed_none {s : State} (hlife : s.sec.life ≠ .returned) (htamper : s.sec.tamperLatched = false) : firstBad (loadAllowed s) = none := by
  simp [loadAllowed, firstBad_cons_none, tamperNeeded, hlife, htamper]

theorem inUse_none {s : State} {slot : Nat} {force : Bool} (hfree : force = true ∨ s.slotInUse slot = false) : inUse s slot force = none := by
  simpa [inUse, or_iff_not_imp_left] using hfree

/-- A combination of Table 15-2 with both of its fields in range. -/
structure ComboFits (attr type alg : Nat) : Prop where
  attrs : 1 ≤ attr ∧ attr ≤ 4
  types : 1 ≤ type ∧ type ≤ 4
  combo : keyCombo attr type alg = true

theorem ComboFits.none {attr type alg oa ot ol : Nat} (hf : ComboFits attr type alg) : firstBad (comboBad attr type alg oa ot ol) = none := by
  obtain ⟨⟨ha, ha'⟩, ⟨ht, ht'⟩, hcombo⟩ := hf
  simp [comboBad, firstBad_cons_none, hcombo, ha', ht', Nat.ne_of_gt ha, Nat.ne_of_gt ht]

/-! ## KEY_IMPORT -/

/-- What every import meets. -/
structure State.ImportFits (s : State) (h : Pkt) (p : KeyImport) : Prop where
  life : s.sec.life ≠ .returned
  untampered : s.sec.tamperLatched = false
  length : h.paramLen = 16 + p.len
  nonempty : p.len ≠ 0
  holds : s.holds h.part kindKey p.slot = true
  unmarked : (s.slot p.slot).updateLost = false
  free : p.force = true ∨ s.slotInUse p.slot = false
  power : s.pwr.pfwLow = false

theorem State.ImportFits.plain {s : State} {h : Pkt} {p : KeyImport} (hf : s.ImportFits h p) (hformat : p.format = 0) (hchan : h.chan = .queue)
    (hcombo : ComboFits p.attr p.type p.alg) (hlen : p.len = keyLen p.type) :
    keyImport s h p = putKey s p.slot { attr := p.attr, type := p.type, alg := p.alg, keyId := p.keyId, exportable := p.exportable, origin := 1
                                        bindMask := 0, boundDigest := 0, bytes := p.key } := by
  obtain ⟨hlife, htamper, hparam, hsome, hholds, hmark, hfree, hpfw⟩ := hf
  have hw : (p.format == 1) = false := by rw [hformat]; rfl
  unfold keyImport
  simp only [hw, Bool.false_eq_true, if_false]
  refine (check_none (loadAllowed_none hlife htamper)).trans
    ((onSlots_unmarked (by simp [hmark]) (by simp)).trans (check_none ?_))
  simp only [firstBad_append_none, hcombo.none, firstBad_cons_none, inUse_none hfree, norIdle_none.mpr hpfw]
  simp [hparam, hsome, hholds, hformat, hchan, ← hlen]

/-- What a wrapped import names besides. -/
structure State.WrapFits (s : State) (h : Pkt) (p : KeyImport) (w : Key) : Prop where
  format : p.format = 1
  slot : s.slotFit h p.wrapSlot 3
  key : s.key p.wrapSlot = some w
  attr : p.attr = 0
  type : p.type = 0
  alg : p.alg = 0
  plain : p.exportable = false
  keyId : p.keyId = 0
  length : p.len = 32 ∨ p.len = 48 ∨ p.len = 80

/-- What a wrapped import does with the plaintext, or without one. -/
def State.imported (s : State) (p : KeyImport) : Option (List Byte) → CmdOut
  | none => authFail s
  | some d =>
    match unwrapKey d with
    | none => refuse s stBadParam 16
    | some k => putKey s p.slot k

theorem State.ImportFits.wrapped {s : State} {h : Pkt} {p : KeyImport} {w : Key} (hf : s.ImportFits h p) (hw : s.WrapFits h p w) :
    keyImport s h p = s.imported p (Config.aesUnwrap w.bytes p.key) := by
  obtain ⟨hlife, htamper, hparam, hsome, hholds, hmark, hfree, hpfw⟩ := hf
  obtain ⟨hformat, ⟨hwholds, hwattr, hwmark, hwuse⟩, hkey, hattr, htype, halg, hexp, hid, hlen⟩ := hw
  have hon : (p.format == 1) = true := by rw [hformat]; rfl
  unfold keyImport
  simp only [hon, if_true]
  refine (check_none (loadAllowed_none hlife htamper)).trans
    ((onSlots_unmarked (by simp [hmark, hwmark]) (by simp [hwuse])).trans ((check_none ?_).trans ?_))
  · simp only [firstBad_append_none, firstBad_cons_none, inUse_none hfree, norIdle_none.mpr hpfw, hwattr]
    simp [hparam, hsome, hholds, hwholds, hformat, hattr, htype, halg, hexp, hid]
    omega
  · simp only [hkey, Option.bind_some]
    rfl

/-! ## KEY_GENERATE and KEY_DERIVE -/

/-- What a generated key meets. -/
structure State.GenerateFits (s : State) (h : Pkt) (p : KeyGenerate) : Prop where
  life : s.sec.life ≠ .returned
  untampered : s.sec.tamperLatched = false
  holds : s.holds h.part kindKey p.slot = true
  unmarked : (s.slot p.slot).updateLost = false
  combo : ComboFits p.attr p.type p.alg
  free : p.force = true ∨ s.slotInUse p.slot = false
  random : s.sec.drbgFailed = false
  power : s.pwr.pfwLow = false

theorem State.GenerateFits.generates {s : State} {h : Pkt} {p : KeyGenerate} (hf : s.GenerateFits h p) :
    keyGenerate s h p = putKey (s.draw (keyLen p.type)).2 p.slot
      { attr := p.attr, type := p.type, alg := p.alg, keyId := p.keyId, exportable := p.exportable, origin := 3
        bindMask := 0, boundDigest := 0, bytes := (s.draw (keyLen p.type)).1 } := by
  obtain ⟨hlife, htamper, hholds, hmark, hcombo, hfree, hdrbg, hpfw⟩ := hf
  refine (check_none (loadAllowed_none hlife htamper)).trans
    ((onSlots_unmarked (by simp [hmark]) (by simp)).trans (check_none ?_))
  simp only [firstBad_append_none, hcombo.none, firstBad_cons_none, inUse_none hfree, norIdle_none.mpr hpfw]
  simp [hholds, drbgNeeded, hdrbg]

/-- What a derived key meets. -/
structure State.DeriveFits (s : State) (h : Pkt) (p : KeyDerive) (src : Key) : Prop where
  life : s.sec.life ≠ .returned
  untampered : s.sec.tamperLatched = false
  length : h.paramLen = ceilDiv (16 + p.salt.length + p.info.length) 4 * 4
  slot : s.slotFit h p.src 4
  key : s.key p.src = some src
  holds : s.holds h.part kindKey p.dst = true
  unmarked : (s.slot p.dst).updateLost = false
  other : p.src ≠ p.dst
  combo : ComboFits p.attr p.type p.alg
  mask : p.bindMask ≤ 15
  salt : p.salt.length ≤ 64
  info : p.info.length ≤ 128
  free : p.force = true ∨ s.slotInUse p.dst = false
  power : s.pwr.pfwLow = false

theorem State.DeriveFits.derives {s : State} {h : Pkt} {p : KeyDerive} {src : Key} (hf : s.DeriveFits h p src) :
    keyDerive s h p = putKey s p.dst
      { attr := p.attr, type := p.type, alg := p.alg, keyId := p.keyId, exportable := p.exportable, origin := 4
        bindMask := p.bindMask, boundDigest := if p.bindMask == 0 then 0 else s.boundValue p.bindMask, bytes := s.derived src p } := by
  obtain ⟨hlife, htamper, hparam, ⟨hsholds, hsattr, hsmark, hsuse⟩, hkey, hholds, hmark, hother, hcombo, hmask, hsalt, hinfo, hfree, hpfw⟩ := hf
  unfold keyDerive
  refine (check_none (loadAllowed_none hlife htamper)).trans
    ((onSlots_unmarked (by simp [hmark, hsmark]) (by simp [hsuse])).trans ((check_none ?_).trans (by simp only [hkey])))
  simp only [firstBad_append_none, hcombo.none, firstBad_cons_none, inUse_none hfree, norIdle_none.mpr hpfw, hsattr]
  simp [hparam, hsholds, hholds, hother, hmask, hsalt, hinfo]

/-! ## KEY_WRAP, KEY_DELETE and KEY_QUERY -/

theorem keyWrapCmd_wraps {s : State} {h : Pkt} {p : KeyWrap} {k w : Key} (hwrap : s.slotFit h p.wrapSlot 3) (hslot : s.slotFit h p.slot k.attr)
    (hkey : s.key p.slot = some k) (hexp : k.exportable = true) (hw : s.key p.wrapSlot = some w) :
    keyWrapCmd s h p = ok s (le 2 (16 + keyLen k.type) ++ zeros 2 ++ Config.aesWrap w.bytes (wrapPlain k)) := by
  obtain ⟨hwholds, hwattr, hwmark, hwuse⟩ := hwrap
  obtain ⟨hholds, -, hmark, huse⟩ := hslot
  unfold keyWrapCmd
  refine (onSlots_unmarked (by simp [hmark, hwmark]) (by simp [huse, hwuse])).trans ((check_none ?_).trans (by simp only [hkey, hw]))
  simp only [firstBad_cons_none, hwattr]
  simp [hholds, hwholds, hkey, hexp]

theorem keyDelete_deletes {s : State} {h : Pkt} {p : KeyDelete} (hholds : s.holds h.part kindKey p.slot = true)
    (hmark : (s.slot p.slot).updateLost = false) (hfree : p.force = true ∨ s.slotInUse p.slot = false) (hpfw : s.pwr.pfwLow = false) :
    keyDelete s h p = if (s.slot p.slot).key.isSome then .wait (s.keyWrite p.slot none) (.keyCommit p.slot []) else ok s :=
  (onSlots_unmarked (by simp [hmark]) (by simp)).trans
    (check_none (by simp [firstBad_cons_none, hholds, inUse_none hfree, norIdle_none.mpr hpfw]))

theorem keyQuery_answers {s : State} {h : Pkt} {n : Nat} (hn : n ≤ 255) (hholds : s.holds h.part kindKey n = true) :
    keyQuery s h n = ok (if (s.slot n).updateLost then s.setSlot n { s.slot n with updateLost := false } else s) (s.keyReply n) :=
  check_none (by simp [firstBad_cons_none, hn, hholds])

end Sys2Proof.Machine

namespace Sys2Proof.Proofs
open Sys2Proof.Machine

/-- Settles O29: a slot that fits carries no mark, and with the checks passed the update begins. -/
theorem keyCommandsComplete : Obligations.KeyCommandsComplete := by
  unfold Obligations.KeyCommandsComplete
  refine ⟨fun h p s s1 hs hlife htamper hparam hsome hholds hmark hfree hpfw => ?_,
    fun h p s s1 k hs hlife htamper hholds hmark ha ha' ht ht' hcombo hfree hdrbg hpfw hk => ?_,
    fun h p s s1 src k hs hlife htamper hparam hslot hkey hholds hmark hother ha ha' ht ht' hcombo hmask hsalt hinfo hfree hpfw hk => ?_,
    fun h p s s1 k w hs hwrap hslot hkey hexp hw => cmd_answers hs (keyWrapCmd_wraps hwrap hslot hkey hexp hw),
    fun h p s s1 hs hholds hmark hfree hpfw => ?_, fun h n s s1 hs hn hholds => ?_⟩
  · have hfits : s1.ImportFits h p := ⟨hlife, htamper, hparam, hsome, hholds, hmark, hfree, hpfw⟩
    refine ⟨fun hformat hchan ha ha' ht ht' hcombo hlen => cmd_waits hs (hfits.plain hformat hchan ⟨⟨ha, ha'⟩, ⟨ht, ht'⟩, hcombo⟩ hlen),
      fun w hformat hslot hkey hattr htype halg hexp hid hlen => ?_⟩
    have hwrapped := hfits.wrapped ⟨hformat, hslot, hkey, hattr, htype, halg, hexp, hid, hlen⟩
    refine ⟨fun hnone => cmd_answers hs (hwrapped.trans ?_), fun d hd hnone => cmd_answers hs (hwrapped.trans ?_),
      fun d k hd hk => cmd_waits hs (hwrapped.trans ?_)⟩
    · rw [hnone, State.imported, authFail]
    · simp only [hd, State.imported, hnone, refuse]
    · simp only [hd, State.imported, hk, putKey]
  · subst hk
    exact cmd_waits hs (State.GenerateFits.generates ⟨hlife, htamper, hholds, hmark, ⟨⟨ha, ha'⟩, ⟨ht, ht'⟩, hcombo⟩, hfree, hdrbg, hpfw⟩)
  · subst hk
    exact cmd_waits hs (State.DeriveFits.derives
      ⟨hlife, htamper, hparam, hslot, hkey, hholds, hmark, hother, ⟨⟨ha, ha'⟩, ⟨ht, ht'⟩, hcombo⟩, hmask, hsalt, hinfo, hfree, hpfw⟩)
  · have hbody := keyDelete_deletes hholds hmark hfree hpfw
    exact ⟨fun hnone => cmd_answers hs (hbody.trans (by simp [hnone, ok])), fun hsome => cmd_waits hs (hbody.trans (if_pos hsome))⟩
  · have hbody := keyQuery_answers hn hholds
    exact ⟨fun hmark => cmd_answers hs (hbody.trans (by simp [hmark, ok])), fun hmark => cmd_answers hs (hbody.trans (by simp [hmark, ok]))⟩

end Sys2Proof.Proofs
end

section
/-!
PROOFS. Attestation, clearance, logs and the events of the security core (15_security R436, R444, R447, R448, R452, R459, R464).
-/
namespace Sys2Proof.Machine

/-! ## Commands -/

theorem attRespond_responds {s : State} {h : Pkt} {p : AttRespond} {k : Key} (htamper : s.sec.tamperLatched = false) (hslot : s.slotFit h p.slot 1)
    (hkey : s.key p.slot = some k) (halg : k.alg = 5) : attRespond s h p = ok s
      (hmacBytes k.bytes (ascii "QV7240-ATT" ++ le 8 Config.serial.toNat ++ p.challenge ++ digestBytes (s.bmr 1) ++ digestBytes (s.bmr 2))) := by
  obtain ⟨hholds, hattr, hmark, huse⟩ := hslot
  rw [hkey, Option.any_some] at hattr
  have hfit : (s.key p.slot).any (fun k => k.attr == 1 && k.alg == 5) = true := by rw [hkey, Option.any_some, hattr, halg]; rfl
  unfold attRespond
  refine (check_none (by simp [firstBad_cons_none, tamperNeeded, htamper])).trans ((onSlots_unmarked (by simp [hmark]) (by simp [huse])).trans
    ((check_none ?_).trans (by simp only [hkey])))
  simp only [firstBad_cons_none, hfit]
  simp [hholds]

theorem tamperClear_clears {s : State} {h : Pkt} {p : TamperClear} (hpart : h.part = 0) (htamper : s.sec.tamperLatched = true)
    (hseq : p.seq + 1 = s.sec.tamperLog.length) (hquiet : s.sec.tmpActive = [])
    (hsigned : s.sec.life = .blank ∨ s.sec.life = .personalised ∨ s.clearanceSigned p = true) (hdrbg : s.sec.drbgFailed = false)
    (hpfw : s.pwr.pfwLow = false) : tamperClear s h p = ok (s.at h.done).tamperCleared := by
  have hauth : (!(s.sec.life == .blank || s.sec.life == .personalised) && !s.clearanceSigned p) = false := by
    rcases hsigned with hlife | hlife | hsig
    · simp [hlife]
    · simp [hlife]
    · simp [hsig]
  unfold tamperClear
  refine check_none ?_
  simp only [firstBad_cons_none, hauth, norIdle_none]
  simp [hpart, htamper, hseq, hquiet, drbgNeeded, hdrbg, hpfw]

theorem logRead_copies {s : State} {h : Pkt} {p : LogRead} {out : List (List Byte)} (hlog : p.log ≤ 3)
    (hobserves : p.log = 1 ∨ p.log = 2 → s.observes h.part = true) (hbuf : p.bufLen = 0 ∨ addrFit h p.bufAddr)
    (hout : out = ((s.logEntries p.log).1.drop p.first).take (p.bufLen / (s.logEntries p.log).2)) :
    logRead s h p = copyOut s p.bufAddr out.flatten.length out.flatten
      (le 4 out.length ++ le 4 (p.first + out.length) ++ le 4 (s.logEntries p.log).1.length ++ zeros 4) := by
  subst hout
  refine check_none ?_
  have hsee : ((p.log == 1 || p.log == 2) && !s.observes h.part) = false := by
    rw [Bool.and_eq_false_imp]
    intro hone
    simp [hobserves (by simpa using hone)]
  simp only [firstBad_cons_none, hsee]
  simpa [hlog, or_iff_not_imp_left] using hbuf

/-! ## Events -/

theorem Waiting.updates_eq {sel : Waiting → Bool} {n : Nat} (hsel : ∀ w, sel w = match w.what with
    | .keyCommit k _ => k == n
    | _ => false) : sel = Waiting.updates n := funext fun w => hsel w

/-- What a key command that waits for its commit is to answer. -/
def Waiting.keyResult (w : Waiting) : List Byte :=
  match w.what with
  | .keyCommit _ res => res
  | _ => []

theorem Waiting.keyResult_eq {res : Waiting → List Byte} (hres : ∀ w, res w = match w.what with
    | .keyCommit _ b => b
    | _ => []) : res = Waiting.keyResult := funext fun w => hres w

theorem State.keyCommitted_commits {s : State} {n : Nat} (hopen : s.uncommitted.contains n = true) (hnor : s.norHeld (.key n) = false) :
    s.keyCommitted n = s.keyFinish n := if_pos (by simp only [hopen, hnor, Bool.not_false, Bool.and_self])

theorem State.keyCommitted_waits {s : State} {n : Nat} (hnone : s.uncommitted.contains n = false ∨ s.norHeld (.key n) = true) :
    s.keyCommitted n = s := by
  refine if_neg ?_
  rcases hnone with hopen | hnor
  · simp only [hopen, Bool.false_and, Bool.false_eq_true, not_false_eq_true]
  · simp only [hnor, Bool.not_true, Bool.and_false, Bool.false_eq_true, not_false_eq_true]

theorem State.challengeOld_eq {s : State} {c : List Byte} {since : Nat} (hch : s.sec.challenge = some (c, since)) :
    s.challengeOld = decide (since + 600000000000 ≤ s.now) := by
  rw [State.challengeOld, hch, Option.any_some]

end Sys2Proof.Machine

namespace Sys2Proof.Proofs
open Sys2Proof.Machine

/-- Settles O30: each command passes its checks, and each event takes the branch of its condition. -/
theorem securityRowsComplete : Obligations.SecurityRowsComplete := by
  unfold Obligations.SecurityRowsComplete
  refine ⟨⟨fun h nonce s s1 s2 hs hs2 => ?_, fun h p s s1 k hs htamper hslot hkey halg => cmd_answers hs (attRespond_responds htamper hslot hkey halg),
      fun h p s s1 hs hpart htamper hseq hquiet hsigned hdrbg hpfw => cmd_answers hs (tamperClear_clears hpart htamper hseq hquiet hsigned hdrbg hpfw),
      fun h p s s1 out res hs hlog hobserves hbuf hout hres => ?_⟩,
    fun t n s sel res hsel hres => ⟨fun hopen hnor => ?_, fun hnone => event_next (State.keyCommitted_waits (s := s.at t) hnone)⟩,
    fun t s => ⟨fun hdue hwrite => event_next (if_pos ?_), fun hnone => event_next (if_neg ?_)⟩, fun t s s1 hs1 => ?_,
    fun t since s ch hch => ?_, fun t code s => ?_, fun t s hstart hpor hperst => event_next (if_neg ?_)⟩
  · subst hs2
    exact cmd_answers hs rfl
  · subst hres
    have hbody := logRead_copies hlog hobserves hbuf hout
    exact ⟨fun hnone => cmd_answers hs (hbody.trans (by rw [hnone, copyOut_length]; rfl)),
      fun hsome => cmd_waits hs (hbody.trans (copyOut_waits hsome _ _ _ _))⟩
  · rw [Waiting.updates_eq hsel, Waiting.keyResult_eq hres]
    exact event_next (State.keyCommitted_commits (s := s.at t) hopen hnor)
  · simp [State.at, hdue, hwrite]
  · rcases hnone with hdue | hwrite
    · simp [State.at, hdue]
    · simp [State.at, Option.isSome_iff_ne_none.mp hwrite]
  · subst hs1
    exact event_next rfl
  · have hage := State.challengeOld_eq (s := s.at t) hch
    simp only [exec, execTestChallengeExpiry]
    exact ⟨fun hold => event_next (if_pos (by rw [hage]; exact decide_eq_true hold)),
      fun hyoung => event_next (if_neg (by rw [hage, decide_eq_true_iff]; exact Nat.not_le.mpr hyoung))⟩
  · simp only [exec, execTamperSourceCleared]
    exact event_next rfl
  · simp [State.at, hstart, hpor, hperst]

end Sys2Proof.Proofs
end

section
/-!
PROOFS. The clock of the model after FLT_SET: what the command sets takes effect at its completion stamp, and the clock goes on from its receipt
(16_safety R473).
-/
namespace Sys2Proof.Machine

/-- The clock of the state that an outcome leads to. -/
def clockAfter : Host.Outcome State Fault Refusal → Option Stamp
  | .next s => some s.now
  | _ => none

end Sys2Proof.Machine

namespace Sys2Proof.Proofs
open Sys2Proof.Machine

/-- Refutes O31: an FLT_SET that is received at 8 ns and completes at 12 ns leaves the clock at 8 ns for the rows that follow, where the statement has it at
12 ns. -/
theorem not_faultCommandsComplete : ¬ Obligations.FaultCommandsComplete := by
  intro h
  obtain ⟨-, -, -, -, hset, -⟩ := h
  have hout := congrArg clockAfter
    (hset (Tests.pk 8) { errMin := 1, ceLimit := 5 } Tests.calm Tests.calm.go (Tests.starts rfl rfl rfl) rfl (by decide))
  exact absurd hout (by decide)

end Sys2Proof.Proofs
end

section
/-!
PROOFS. Conditions, stalls, memory errors, scrub, the ERR pair and self-test (16_safety R470 to R472, R479, R480, R484 to R487).
-/
namespace Sys2Proof.Machine

/-! ## What a checker meets -/

theorem State.judge_now {s : State} {part : Nat} {inSlice : Bool} (e : HeldError)
    (hslice : (inSlice && s.flt.selftest.any (fun q => q.parts.testBit part)) = false) : s.judge part inSlice e = s.evaluateError e := by
  rw [State.judge, hslice]
  rfl

theorem State.judge_held {s : State} {part : Nat} {inSlice : Bool} (e : HeldError)
    (hslice : (inSlice && s.flt.selftest.any (fun q => q.parts.testBit part)) = true) :
    s.judge part inSlice e = { s with flt := { s.flt with heldErrors := s.flt.heldErrors ++ [e] } } := if_pos hslice

/-- A part of a test in progress is in its slice. -/
theorem State.inSlice_of_test {s : State} {q : SelfTest} {part : Nat} (hq : s.flt.selftest = some q) (hpart : q.parts.testBit part = true) :
    (true && s.flt.selftest.any (fun q => q.parts.testBit part)) = true := by
  rw [Bool.true_and, hq, Option.any_some, hpart]

theorem State.rangeEnds_now {s : State} {src : Nat} (hnone : s.flt.heldErrors.any (HeldError.ofRange src) = false) :
    s.rangeEnds src = s.inRange src := by
  have hany : s.flt.heldErrors.any (·.ofRange src) = false := hnone
  rw [State.rangeEnds, hany, State.judge_now _ (Bool.false_and _)]
  rfl

theorem State.rangeEnds_held {s : State} {src : Nat} {q : SelfTest} (hq : s.flt.selftest = some q) (hpart : q.parts.testBit 3 = true)
    (hheld : s.flt.heldErrors.any (HeldError.ofRange src) = true) :
    s.rangeEnds src = { s with flt := { s.flt with heldErrors := s.flt.heldErrors ++ [.range src none] } } := by
  have hany : s.flt.heldErrors.any (·.ofRange src) = true := hheld
  rw [State.rangeEnds, hany, State.judge_held _ (State.inSlice_of_test hq hpart)]

/-! ## Conditions -/

/-- A monitored condition that holds is listed once. -/
def State.rangeLost (s : State) (src : Nat) (low : Bool) : State :=
  { s with flt := { s.flt with outOfRange := (src, low) :: s.flt.outOfRange.filter (fun e => e.1 != src) } }

theorem State.outOfRange_quiet {s : State} {src : Nat} {low : Bool} (hquiet : (s.rangeLost src low).quietLow src low = true) :
    s.outOfRange src low = s.rangeLost src low := if_pos hquiet

theorem State.outOfRange_faults {s : State} {src : Nat} {low : Bool} (hloud : (s.rangeLost src low).quietLow src low = false) :
    s.outOfRange src low = (s.rangeLost src low).free.2.fault src (s.rangeLost src low).free.1 0xFF :=
  if_neg (by rw [State.rangeLost] at hloud; rw [hloud]; exact Bool.false_ne_true)

/-- Only a supply falls quietly. -/
theorem State.quietLow_temperature {s : State} {src : Nat} {low : Bool} (hsrc : src = 6 ∨ src = 7) : s.quietLow src low = false := by
  rcases hsrc with rfl | rfl <;> rfl

theorem isTemperature {src : Nat} (hsrc : src = 6 ∨ src = 7) : (src == 6 || src == 7) = true := by simpa using hsrc

theorem exec_supplyOutOfRange {t src : Nat} {low : Bool} {v : Reading} {s : State} (hsrc : src < 6) :
    exec (.supplyOutOfRange t src low v) s = .next ((s.at t).judge 3 v.inSlice (.range src (some low))) := event_next (if_pos hsrc)

theorem exec_supplyBackInRange {t src : Nat} {s : State} (hsrc : src < 6) :
    exec (.supplyBackInRange t src) s = .next ((s.at t).rangeEnds src) := event_next (if_pos hsrc)

theorem exec_temperatureLimit_exceeded {t src : Nat} {v : Reading} {s : State} (hsrc : src = 6 ∨ src = 7) :
    exec (.temperatureLimit t src true v) s = .next ((s.at t).judge 3 v.inSlice (.range src (some false))) :=
  event_next (if_pos (isTemperature hsrc))

theorem exec_temperatureLimit_back {t src : Nat} {v : Reading} {s : State} (hsrc : src = 6 ∨ src = 7) :
    exec (.temperatureLimit t src false v) s = .next ((s.at t).rangeEnds src) := event_next (if_pos (isTemperature hsrc))

/-! ## Stalls -/

theorem exec_handshakeStall {t : Nat} {x : Stall} {s : State} (hup : (s.at t).fabricUp = true) :
    exec (.handshakeStall t x) s = .next ((s.at t).judge 2 x.inSlice (.stall x.block)) := event_next (if_pos hup)

/-- A block whose stall is a fault of its own source. -/
theorem State.stalled_block {s : State} {b : StalledBlock} {src : Nat}
    (hb : b = .ingest ∧ src = 32 ∨ b = .platform ∧ src = 33 ∨ b = .engines ∧ src = 34 ∨ b = .logicOutput ∧ src = 35 ∨ b = .management ∧ src = 36 ∨
      b = .dma ∧ src = 37) : s.stalled b = (s.free.2.fault src s.free.1 0xFF).stallReset src := by
  rcases hb with ⟨rfl, rfl⟩ | ⟨rfl, rfl⟩ | ⟨rfl, rfl⟩ | ⟨rfl, rfl⟩ | ⟨rfl, rfl⟩ | ⟨rfl, rfl⟩ <;> rfl

theorem State.stalled_cluster {s : State} {k : Nat} (hk : k < 16) : s.stalled (.cluster k) = (s.fault 64 k 0xFF).clusterFaulted k := if_pos hk

theorem State.stalled_port {s : State} {p : Nat} (hp : p < 24) : s.stalled (.port p) = s.portFault p 0 := if_pos hp

/-! ## Scrub -/

theorem exec_scrubStep {t : Nat} {x : ScrubStep} {s : State} (hup : (s.at t).watched = true) :
    exec (.scrubStep t x) s = .next ((s.at t).scrubStep x) := event_next (if_pos hup)

theorem exec_scrubOverdue {t : Nat} {dram : Bool} {s : State} (hup : (s.at t).watched = true) :
    exec (.scrubOverdue t dram) s = .next ((s.at t).scrubOverdue dram) := event_next (if_pos hup)

/-- The bit of a pass, and when it is overdue. -/
def State.passDue (s : State) (dram : Bool) : Nat := if dram then s.flt.dramAt + 90000000000 else s.flt.sramAt + 3000000000

def passBit (dram : Bool) : Nat := if dram then 1 else 0

theorem State.scrubOverdue_faults {s : State} {dram : Bool} (hdue : s.passDue dram ≤ s.now) (hbit : s.flt.scrubOver.testBit (passBit dram) = false) :
    s.scrubOverdue dram = (({ s with flt := { s.flt with scrubOver := s.flt.scrubOver + 2 ^ passBit dram } } : State).free.2.fault 93
      ({ s with flt := { s.flt with scrubOver := s.flt.scrubOver + 2 ^ passBit dram } } : State).free.1 0xFF) := by
  refine if_neg ?_
  rw [Bool.or_eq_true, not_or, decide_eq_true_iff]
  exact ⟨Nat.not_lt.mpr hdue, by rw [passBit] at hbit; rw [hbit]; exact Bool.false_ne_true⟩

theorem State.scrubOverdue_early {s : State} {dram : Bool} (hearly : s.now < s.passDue dram) : s.scrubOverdue dram = s :=
  if_pos ((Bool.or_eq_true _ _).mpr (.inl (decide_eq_true hearly)))

end Sys2Proof.Machine

namespace Sys2Proof.Proofs
open Sys2Proof.Machine

/-- Settles O32: a checker judges what it meets at once, or holds it in its own slice, and the judgement is that of the kind of error. -/
theorem conditionAndScrubRowsComplete : Obligations.ConditionAndScrubRowsComplete := by
  unfold Obligations.ConditionAndScrubRowsComplete
  refine ⟨⟨fun t src v low s s1 hslice hs1 => ?_, fun t src v s s1 hnone hs1 => ?_, fun t src x s hup hslice => ?_,
      fun t src low b s q hold hq hhold => ?_, fun t s hup => event_next (if_pos hup), fun t code value s => event_next rfl⟩,
    fun t x s s1 slice hup hslice hin hout => ?_, fun t bit due dram s s1 hup hdram hs1 => ?_, fun t r s hup => event_next (if_pos hup)⟩
  · have hjudge : ∀ l, (s.at t).judge 3 v.inSlice (.range src (some l)) = (s.at t).outOfRange src l := fun l => State.judge_now _ hslice
    subst hs1
    refine ⟨fun hsrc hquiet => ?_, fun hsrc hloud => ?_, fun hsrc hlow => ?_⟩
    · rw [exec_supplyOutOfRange hsrc, hjudge, State.outOfRange_quiet hquiet]
      rfl
    · rw [exec_supplyOutOfRange hsrc, hjudge, State.outOfRange_faults hloud]
      rfl
    · rw [exec_temperatureLimit_exceeded hsrc, hjudge, State.outOfRange_faults (State.quietLow_temperature hsrc), hlow]
      rfl
  · have hends : (s.at t).rangeEnds src = (s.at t).inRange src := State.rangeEnds_now hnone
    subst hs1
    refine ⟨fun hsrc => ?_, fun hsrc => ?_⟩
    · rw [exec_supplyBackInRange hsrc, hends]
      rfl
    · rw [exec_temperatureLimit_back hsrc, hends]
      rfl
  · have hjudge : (s.at t).judge 2 x.inSlice (.stall x.block) = (s.at t).stalled x.block := State.judge_now _ hslice
    rw [exec_handshakeStall hup, hjudge]
    exact ⟨fun hb => congrArg _ (State.stalled_block hb), fun k hb hk => by rw [hb, State.stalled_cluster hk],
      fun p hb hp => by rw [hb, State.stalled_port hp]⟩
  · have hjudge : ∀ part e, q.parts.testBit part = true → (s.at t).judge part true e = hold e := fun part e hpart =>
      (State.judge_held (s := s.at t) e (State.inSlice_of_test hq hpart)).trans (hhold e).symm
    refine ⟨fun hpart v => ⟨fun hsrc => ?_, fun hsrc => ?_⟩, fun hpart hheld v => ?_, fun hpart hup => ?_⟩
    · rw [exec_supplyOutOfRange hsrc, hjudge 3 _ hpart]
    · rw [exec_temperatureLimit_exceeded hsrc, hjudge 3 _ hpart]
    · have hends : (s.at t).rangeEnds src = hold (.range src none) :=
        (State.rangeEnds_held (s := s.at t) hq hpart hheld).trans (hhold _).symm
      exact ⟨fun hsrc => by rw [exec_supplyBackInRange hsrc, hends], fun hsrc => by rw [exec_temperatureLimit_back hsrc, hends]⟩
    · rw [exec_handshakeStall hup, hjudge 2 _ hpart]
  · have hjudge : (s.at t).judge 0 x.inSlice (.word x) = s1 := by
      cases hb : slice with
      | true => exact (State.judge_held (s := s.at t) _ (hslice.symm.trans hb)).trans (hin hb).symm
      | false => exact (State.judge_now (s := s.at t) _ (hslice.symm.trans hb)).trans (hout hb).symm
    rw [exec_scrubStep hup, State.scrubStep, hjudge]
    exact ⟨fun hend hscrub => by simp only [hend, hscrub, Bool.and_self, if_true],
      fun hnot => by rw [if_neg (by rcases hnot with h | h <;> simp [h])]⟩
  · have hfacts : bit = passBit dram ∧ due = (s.at t).passDue dram := by
      rcases hdram with ⟨rfl, rfl, rfl⟩ | ⟨rfl, rfl, rfl⟩ <;> exact ⟨rfl, rfl⟩
    obtain ⟨rfl, rfl⟩ := hfacts
    subst hs1
    rw [exec_scrubOverdue hup]
    exact ⟨fun hdue hbit => congrArg _ (State.scrubOverdue_faults hdue hbit), fun hearly => congrArg _ (State.scrubOverdue_early hearly)⟩

end Sys2Proof.Proofs
end

section
/-!
PROOFS. The ERR pair and the self-tests (16_safety R479, R480, R486).
-/
namespace Sys2Proof.Machine

/-! ## The ERR pair -/

theorem State.errToggle_toggles {s : State} (hhealth : s.flt.errFault = false) (hat : s.now % 500000 = 0) (hdue : s.flt.nextToggle ≤ s.now) :
    s.errToggle = { s with flt := { s.flt with errP := !s.flt.errP, errN := s.flt.errP, nextToggle := s.now + 500000 } } :=
  if_neg (by simp [hhealth, hat, hdue])

theorem exec_errChannelCompare {t : Nat} {x : ErrCompare} {good : Bool} {s : State} (hpor : s.pwr.porHeld = false) (hperst : s.pwr.perstHeld = false) :
    exec (.errChannelCompare t x good) s = .next ((s.at t).judge 4 x.inSlice (.pins x.agree good)) :=
  event_next (f := fun s => if s.pwr.porHeld || s.pwr.perstHeld then s else s.judge 4 x.inSlice (.pins x.agree good))
    (if_neg (by simp [State.at, hpor, hperst]))

/-- The pair once the channels have been compared. -/
def State.channelsCompared (s : State) (agree : Bool) : State := if agree then s else s.free.2.fault 9 s.free.1 0xFF

theorem State.errCompare_eq (s : State) (agree good : Bool) : s.errCompare agree good =
    if good then (s.channelsCompared agree).faultClear 10
    else (s.channelsCompared agree).free.2.fault 10 (s.channelsCompared agree).free.1 0xFF := rfl

/-! ## Self-test -/

theorem State.hourlyTest_begins {s : State} (hup : s.watched = true) (hnone : s.flt.selftest = none) (hafter : s.pwr.startupAt < s.now)
    (hhour : (s.now - s.pwr.startupAt) % hourNs = 0) :
    s.hourlyTest = { s with flt := { s.flt with selftest := some { parts := allTests, requested := false, start := s.now } } } :=
  if_pos (by simp [hup, hnone, hafter, hhour])

/-- A command that waits for a self-test. -/
def Waiting.forTest (w : Waiting) : Bool :=
  match w.what with
  | .selftest _ => true
  | _ => false

/-- The state at a test's end, its outcome judged. -/
def State.testJudged (s : State) (q : SelfTest) (f : Nat) : State :=
  let s1 := ({ s.sliceEnd with flt := { s.sliceEnd.flt with
    selftest := none, lastTest := s.now, lastPeriodic := if q.requested then s.sliceEnd.flt.lastPeriodic else s.now } } : State).testOutcome q.parts f
  if q.requested then s1 else s1.faultClear 94

theorem State.selftestDone_ends {s : State} {q : SelfTest} {failed : Nat} (hq : s.flt.selftest = some q) :
    s.selftestDone failed = ((s.testJudged q (failed &&& q.parts)).evt [0] 0x1FF (b2n q.requested + 256 * (failed &&& q.parts))).finishAll Waiting.forTest
      (if failed &&& q.parts == 0 then stOk else stFaulted) (if failed &&& q.parts == 0 then 0 else failedSource (failed &&& q.parts))
      (fun _ => le 1 (failed &&& q.parts) ++ zeros 3) := by
  simp only [State.selftestDone, hq]
  rfl

theorem State.selftestOverdue_faults {s : State} (hdue : s.flt.lastPeriodic + 4200000000000 ≤ s.now) :
    s.selftestOverdue = s.free.2.fault 94 s.free.1 0xFF := if_neg (Nat.not_lt.mpr hdue)

theorem State.selftestOverdue_early {s : State} (hearly : s.now < s.flt.lastPeriodic + 4200000000000) : s.selftestOverdue = s := if_pos hearly

end Sys2Proof.Machine

namespace Sys2Proof.Proofs
open Sys2Proof.Machine

/-- Settles O33: each row takes the branch of its condition; a test's end judges what its slices held and then its parts. -/
theorem selftestRowsComplete : Obligations.SelftestRowsComplete := by
  unfold Obligations.SelftestRowsComplete
  refine ⟨fun t s hhealth hat hdue => event_next (State.errToggle_toggles (s := s.at t) hhealth hat hdue),
    fun t x good s s1 hpor hperst => ⟨fun hslice => ?_, fun hslice hagree hdiffer => ?_⟩,
    fun t s hup hnone hafter hhour => event_next (State.hourlyTest_begins (s := s.at t) hup hnone hafter hhour),
    fun t s hup => event_next (if_pos hup), fun t failed f s s1 s2 q hup hq hf hs1 hreq hper => ?_,
    fun t s hup => ⟨fun hdue => event_next ((if_pos hup).trans (State.selftestOverdue_faults (s := s.at t) hdue)),
      fun hearly => event_next ((if_pos hup).trans (State.selftestOverdue_early (s := s.at t) hearly))⟩⟩
  · rw [exec_errChannelCompare hpor hperst]
    exact congrArg _ (State.judge_held (s := s.at t) _ hslice)
  · have hs1 : (s.at t).channelsCompared x.agree = s1 := by
      cases hb : x.agree with
      | true => exact (hagree hb).symm
      | false => exact (hdiffer hb).symm
    have hjudge : (s.at t).judge 4 x.inSlice (.pins x.agree good) = (s.at t).errCompare x.agree good := State.judge_now (s := s.at t) _ hslice
    rw [exec_errChannelCompare hpor hperst, hjudge, State.errCompare_eq, hs1]
    exact ⟨fun hgood => by rw [if_pos hgood], fun hbad => by rw [hbad]; rfl⟩
  · have hs2 : (s.at t).testJudged q f = s2 := by
      subst hs1
      cases hb : q.requested with
      | true => exact (if_pos hb).trans (hreq hb).symm
      | false => exact (if_neg (by rw [hb]; exact Bool.false_ne_true)).trans (hper hb).symm
    have hdone : exec (.selftestDone t failed) s = .next ((s.at t).selftestDone failed) := event_next (if_pos hup)
    rw [hdone, State.selftestDone_ends (s := s.at t) hq, ← hf, hs2]
    exact ⟨Waiting.forTest, fun w => rfl, fun hpass => by rw [hpass]; rfl,
      fun hfail => by rw [if_neg (by simpa using hfail), if_neg (by simpa using hfail)]⟩

end Sys2Proof.Proofs
end

section
/-!
PROOFS. Resets by command and life-cycle transitions (15_security R461 to R464, 17_power_states R497).
-/
namespace Sys2Proof.Machine

/-! ## A device reset -/

/-- The device starts up anew for a cause, with no command held or waiting; the replies already written stay. -/
structure State.StartsUp (t : State) (cause : Nat) (replies : List Reply) : Prop where
  cause : t.pwr.cause = cause
  starting : t.pwr.startupDone = false
  held : t.held = []
  waiting : t.hst.waiting = []
  replies : t.hst.replies = replies

section
variable {s : State} {cause : Nat} {replies : List Reply}

theorem State.StartsUp.refreshErr (h : s.StartsUp cause replies) : s.refreshErr.StartsUp cause replies := by
  obtain ⟨hcause, hstart, hheld, hwait, hrep⟩ := h
  unfold State.refreshErr
  split
  · exact ⟨hcause, hstart, hheld, hwait, hrep⟩
  · split <;> exact ⟨hcause, hstart, hheld, hwait, hrep⟩

theorem State.StartsUp.measure (h : s.StartsUp cause replies) (reg stage : Nat) (ver : Option (Nat × Nat)) (m : BitVec 512) :
    (s.measure reg stage ver m).StartsUp cause replies := by
  obtain ⟨hcause, hstart, hheld, hwait, hrep⟩ := h
  cases ver <;> exact ⟨hcause, hstart, hheld, hwait, hrep⟩

theorem State.StartsUp.measureFuses (h : s.StartsUp cause replies) : s.measureFuses.StartsUp cause replies := h.measure _ _ _ _

theorem State.StartsUp.startBoot (h : s.StartsUp cause replies) : s.startBoot.StartsUp cause replies := by
  obtain ⟨hcause, hstart, hheld, hwait, hrep⟩ := h
  refine State.StartsUp.refreshErr ?_
  split
  · exact State.StartsUp.measureFuses ⟨hcause, hstart, hheld, hwait, hrep⟩
  · exact ⟨hcause, hstart, hheld, hwait, hrep⟩

end

/-- What a reset strips, its event included, and what it leaves of the replies. -/
theorem State.stripped_startsUp (s : State) (cold : Bool) : (s.stripped cold).StartsUp s.pwr.cause s.hst.replies := by
  unfold State.stripped
  dsimp only
  split
  · exact ⟨rfl, rfl, rfl, rfl, rfl⟩
  · constructor <;> simp [State.strip, HostSt.stripped]

theorem State.deviceReset_startsUp (s : State) (cause : Nat) : (s.deviceReset cause).StartsUp cause s.hst.replies := by
  obtain ⟨-, hstart, hheld, hwait, hrep⟩ := s.stripped_startsUp false
  unfold State.deviceReset
  dsimp only
  split
  · exact State.StartsUp.refreshErr ⟨rfl, hstart, hheld, hwait, hrep⟩
  · exact State.StartsUp.startBoot ⟨rfl, hstart, hheld, hwait, hrep⟩

theorem State.lcApply_resets (s : State) (p : LcTransition) (signer : Nat) :
    (s.lcApply p signer).pwr.cause = 4 ∧ (s.lcApply p signer).pwr.startupDone = false :=
  let h := State.deviceReset_startsUp _ 4
  ⟨h.cause, h.starting⟩

/-! ## LC_TRANSITION -/

theorem lcSigner_of_table {old : LifeCycle} {dest signer : Nat}
    (htable : (old, dest, signer) ∈ [(LifeCycle.blank, 1, 0), (.personalised, 2, 1), (.deployed, 3, 1), (.deployed, 4, 1), (.returned, 4, 0)]) :
    lcSigner old dest = some signer := by
  simp only [List.mem_cons, Prod.mk.injEq, List.not_mem_nil, or_false] at htable
  rcases htable with ⟨rfl, rfl, rfl⟩ | ⟨rfl, rfl, rfl⟩ | ⟨rfl, rfl, rfl⟩ | ⟨rfl, rfl, rfl⟩ | ⟨rfl, rfl, rfl⟩ <;> rfl

/-- A transition of Table 15-9a that is signed. -/
structure State.MoveFits (s : State) (h : Pkt) (p : LcTransition) (signer : Nat) : Prop where
  owner : h.part = 0
  untampered : s.sec.tamperLatched = false
  op : p.op = 1
  plain : p.ownerBoot = false
  seq : p.lcSeq = s.sec.lifeLog.length
  signed : s.moveSigned p signer = true
  random : p.dest = 1 → s.sec.drbgFailed = false
  power : s.pwr.pfwLow = false
  table : lcSigner s.sec.life p.dest = some signer

theorem State.MoveFits.moves {s : State} {h : Pkt} {p : LcTransition} {signer : Nat} (hf : s.MoveFits h p signer) :
    lcTransition s h p = .silent (((s.at h.done).putReply h 0x0D08 stOk 0 (s.at h.done).now (zeros 32)).lcApply p signer) := by
  obtain ⟨hpart, htamper, hop, hboot, hseq, hsigned, hrandom, hpfw, htable⟩ := hf
  have hdrbg : (if p.dest == 1 then drbgNeeded s else none) = none := by
    split
    next hone => simp [drbgNeeded, hrandom (by simpa using hone)]
    · rfl
  have hmove : lcMove s h p = .silent (((s.at h.done).putReply h 0x0D08 stOk 0 (s.at h.done).now (zeros 32)).lcApply p signer) := by
    simp only [lcMove, htable]
    refine (check_none (by simp [firstBad_cons_none, hboot, hseq])).trans ?_
    simp only [hsigned, Bool.not_true, Bool.false_eq_true, if_false]
    refine check_none ?_
    simp only [firstBad_cons_none, hdrbg, norIdle_none, hpfw, firstBad_nil, and_self]
  unfold lcTransition
  refine (check_none (by simp [firstBad_cons_none, hpart, tamperNeeded, htamper, hop])).trans ?_
  rw [hop]
  exact hmove

theorem lcTransition_challenges {s : State} {h : Pkt} {p : LcTransition} (hpart : h.part = 0) (htamper : s.sec.tamperLatched = false)
    (hdest : p.dest = 0) (hboot : p.ownerBoot = false) (hlife : s.sec.life = .returned) (hop : p.op = 2) (hdrbg : s.sec.drbgFailed = false) :
    lcTransition s h p = ok { s with sec := { s.sec with
      drbgCount := s.sec.drbgCount + 1, challenge := some (Config.random s.sec.drbgCount 32, s.now) } } (Config.random s.sec.drbgCount 32) := by
  unfold lcTransition
  refine (check_none (by simp [firstBad_cons_none, hpart, tamperNeeded, htamper, hop, hdest, hboot])).trans ?_
  rw [hop]
  change lcChallenge s = _
  exact check_none (by simp [firstBad_cons_none, hlife, drbgNeeded, hdrbg])

theorem lcTransition_unlocks {s : State} {h : Pkt} {p : LcTransition} (hpart : h.part = 0) (htamper : s.sec.tamperLatched = false)
    (hdest : p.dest = 0) (hboot : p.ownerBoot = false) (hlife : s.sec.life = .returned) (hop : p.op = 3) (hsigned : s.testSigned p = true)
    (hpfw : s.pwr.pfwLow = false) (hsome : s.sec.challenge.isSome = true) (hyoung : s.challengeOld = false) :
    lcTransition s h p = ok ((lcUnlocked s h).evt [0] 0x1FB 4) (zeros 32) := by
  unfold lcTransition
  refine (check_none (by simp [firstBad_cons_none, hpart, tamperNeeded, htamper, hop, hdest, hboot])).trans ?_
  rw [hop]
  change lcUnlock s h p = _
  refine (check_none (by simp [firstBad_cons_none, hlife, hpfw])).trans ?_
  simp only [hsome, hyoung, hsigned]
  rfl

end Sys2Proof.Machine

namespace Sys2Proof.Proofs
open Sys2Proof.Machine

/-- Settles O34: a reset leaves what a start-up begins with, and a transition that the table gives and the signer signs passes every check. -/
theorem resetAndLifeComplete : Obligations.ResetAndLifeComplete := by
  unfold Obligations.ResetAndLifeComplete
  refine ⟨fun h kind s s1 t hs hpart ht => ⟨fun hkind => ?_, fun hkind => cmd_answers hs ?_⟩,
    fun h p s s1 s2 t old signer hs hpart htamper hop hboot hseq hsigned hrandom hpfw hold htable hs2 ht => ?_,
    fun h p s s1 s2 hs hpart htamper hdest hboot hlife => ⟨fun hop hdrbg => ?_, fun hop hsigned hpfw hsome hyoung hs2 => ?_⟩⟩
  · obtain ⟨hcause, hstart, hheld, hwait, hrep⟩ := (s1.at h.done).deviceReset_startsUp 3
    subst ht
    exact ⟨cmd_silent hs (check_none (by simp [firstBad_cons_none, hpart, hkind])), hcause, hstart, hheld, hwait, hrep⟩
  · simp [devReset, check, ownerOnly_none.mpr hpart, hkind, badIf, refuse]
  · subst hold ht hs2
    have hreply : Settled ((s1.at h.done).putReply h 0x0D08 stOk 0 (s1.at h.done).now (zeros 32)) s1 :=
      .trans (State.putReply_settled _ h _ _ _ _ _) (.of_eq rfl rfl)
    have hfits : s1.MoveFits h p signer := ⟨hpart, htamper, hop, hboot, hseq, hsigned, hrandom, hpfw, lcSigner_of_table htable⟩
    obtain ⟨hcause, hstart⟩ := State.lcApply_resets ((s1.at h.done).putReply h 0x0D08 stOk 0 (s1.at h.done).now (zeros 32)) p signer
    refine ⟨cmd_silent hs hfits.moves, State.lcApply_life _ p signer, ?_, hcause, hstart⟩
    rw [State.lcApply_lifeLog, hreply.lifeLog, hreply.life, hseq]
  · exact cmd_answers hs (lcTransition_challenges hpart htamper hdest hboot hlife hop hdrbg)
  · subst hs2
    refine cmd_answers hs ((lcTransition_unlocks hpart htamper hdest hboot hlife hop hsigned hpfw hsome hyoung).trans ?_)
    simp only [lcUnlocked, State.lifeEntry, State.at, hlife]
    rfl

end Sys2Proof.Proofs
end

section
/-!
PROOFS. In-service update and configuration bundles (17_power_states R501, R509 to R513).
-/
namespace Sys2Proof.Machine

/-! ## FW_LOAD -/

/-- A load that FW_LOAD takes for the bank that does not run. -/
structure State.LoadFits (s : State) (h : Pkt) (p : FwLoad) : Prop where
  owner : h.part = 0
  booted : s.sec.bootHold = false
  service : p.recovery = false
  image : 1 ≤ p.imageLen
  fits : p.imageLen ≤ 16777216
  bank : p.bank = 0
  addr : addrFit h p.imageAddr
  committed : s.fw.running = s.fw.boot
  noLoad : s.fw.loadInFlight = none
  noBundle : s.cfg.loading = none
  power : s.pwr.pfwLow = false

theorem State.loadRunning_none {s : State} (hload : s.fw.loadInFlight = none) (hcfg : s.cfg.loading = none) : s.loadRunning = false := by
  simp [State.loadRunning, hload, hcfg]

theorem State.LoadFits.waits {s : State} {h : Pkt} {p : FwLoad} (hf : s.LoadFits h p) :
    fwLoad s h p = .wait (({ s with fw := { s.fw with loadInFlight := some p } } : State).setBank (1 - s.fw.running) {}) .fwLoad := by
  obtain ⟨hpart, hboot, hrec, hlen, hlen', hbank, haddr, hcommit, hload, hcfg, hpfw⟩ := hf
  have hpending : s.commitPending = false := by simp [State.commitPending, hcommit]
  unfold fwLoad
  refine (check_none ?_).trans (by simp only [hrec, Bool.false_eq_true, if_false, State.fwTarget])
  simp only [firstBad_cons_none, State.loadRunning_none hload hcfg, hpending, stagingOnly_none, norIdle_none]
  simp [hpart, hboot, hrec, hlen', hbank, haddr, hpfw, Nat.ne_of_gt hlen]

/-- The state after a good package: its bank is a verified one, and the command is answered. -/
def State.packageStored (s : State) (v : FwVerify) : State :=
  ((({ s with fw := { s.fw with loadInFlight := none } } : State).setBank (1 - s.fw.running)
    { verified := true, version := v.version, svn := v.svn, raiseSvn := v.raiseSvn, digest := v.digest, nolivik := v.nolivik, owner := v.owner }).evtFree [0] 0x01B).finishAll
      (fun w => w.what == .fwLoad) stOk 0 (fun _ => le 1 (1 - s.fw.running) ++ zeros 3 ++ le 4 v.version ++ le 4 v.svn ++ zeros 4)

theorem State.fwVerified_stores {s : State} {v : FwVerify} {p : FwLoad} (hload : s.fw.loadInFlight = some p) (hrec : p.recovery = false)
    (hformat : v.formatOk = true) (hsigned : s.sec.imageSigned v.nolivik v.owner = true) (hsvn : s.fw.minSvn ≤ v.svn) (hwrite : v.writeOk = true) :
    s.fwVerified v = s.packageStored v := by
  have hst : s.fwStatus v = stOk := by simp [State.fwStatus, hformat, hsigned, Nat.not_lt.mpr hsvn]
  simp only [State.fwVerified, hload, hrec, hst, hwrite, State.fwTarget]
  rfl

theorem exec_fwLoadVerified {t : Nat} {v : FwVerify} {s : State} (hfree : s.alcx.write = none) :
    exec (.fwLoadVerified t v) s = .next ((s.at t).fwVerified v) :=
  event_next (if_pos (by rw [show (s.at t).alcx.write = none from hfree]; rfl))

/-! ## Clusters -/

theorem exec_fwClusterLoadDone {t k : Nat} {good : Bool} {s : State} (hk : k < 16) (hup : (s.at t).fabricUp = true)
    (hstate : (s.cluster k).state = .updating) : exec (.fwClusterLoadDone t k good) s = .next ((s.at t).clusterLoaded k good) :=
  event_next (if_pos (by rw [hup, show ((s.at t).cluster k).state = .updating from hstate, decide_eq_true hk]; rfl))

/-! ## FW_SWITCH -/

/-- OP 1, whose checks pass. -/
theorem fwRestart_waits {s : State} (hbank : (s.bank (1 - s.fw.running)).verified = true) (hsvn : s.fw.minSvn ≤ (s.bank (1 - s.fw.running)).svn)
    (hwait : s.hst.waiting = []) (hclusters : ∀ k ∈ allClusters, (s.cluster k).state ≠ .updating) :
    fwRestart s = .wait { s with fw := { s.fw with mgmtRestart := true, mgmtTo := 1 - s.fw.running } } (.mgmtRestart s.fw.running) := by
  have hidle : allClusters.any (fun k => (s.cluster k).state == .updating) = false := List.any_eq_false.mpr (by simpa using hclusters)
  unfold fwRestart
  refine check_none ?_
  simp only [firstBad_cons_none, hidle, hwait]
  simp [hbank, hsvn]

theorem fwSwitch_restarts {s : State} {h : Pkt} (hpart : h.part = 0) : fwSwitch s h 1 = fwRestart s :=
  check_none (by simp [firstBad_cons_none, hpart])

theorem fwSwitch_moves {s : State} {h : Pkt} (hpart : h.part = 0) : fwSwitch s h 3 = fwLogic s h :=
  check_none (by simp [firstBad_cons_none, hpart])

theorem fwLogic_idle {s : State} {h : Pkt} (hidle : s.alc.state = .stop ∨ s.alc.state = .noProgram) :
    fwLogic s h = ok s.alcSwitch (s.alcSwitch.fwReply s.fw.alc s.alcSwitch.fw.alc) := by
  rcases hidle with hstate | hstate <;> simp only [fwLogic, hstate]

theorem fwLogic_run {s : State} {h : Pkt} (hrun : s.alc.state = .run) :
    fwLogic s h = .wait { s with fw := { s.fw with alcSwitchAt := some h.recv } } (.alcSwitch s.fw.alc) := by
  simp only [fwLogic, hrun]

theorem State.allSwitched_of {s : State} (halc : s.fw.alc = s.fw.running)
    (hclusters : ∀ k ∈ allClusters, (s.cluster k).state = .retired ∨ (s.cluster k).bank = s.fw.running) : s.allSwitched = true :=
  s.allSwitched_iff.mpr ⟨halc, fun k hk => hclusters k (List.mem_range.mpr hk)⟩

/-- An event leaves the firmware as it was. -/
theorem State.evt_fw (s : State) (parts : List Nat) (src detail : Nat) : (s.evt parts src detail).fw = s.fw := by simp

/-! ## The restart of the management cores -/

theorem State.mgmtRestarted_own {s : State} (hrestart : s.fw.mgmtRestart = true) (hto : s.fw.mgmtTo = s.fw.running) :
    s.mgmtRestarted = { s with fw := { s.fw with mgmtRestart := false } } := by
  simp only [State.mgmtRestarted, hrestart, hto, Bool.not_true, Bool.false_eq_true, if_false, BEq.rfl, if_true]

theorem State.mgmtResumed_own {s : State} (hrestart : s.fw.mgmtRestart = true) (hto : s.fw.mgmtTo = s.fw.running) :
    s.mgmtResumed = { s with fw := { s.fw with mgmtRestart := false } } := by
  simp only [State.mgmtResumed, hrestart, hto, Bool.not_true, Bool.false_eq_true, if_false, bne_self_eq_false]

theorem State.mgmtRestarted_other {s s1 s2 : State} (hrestart : s.fw.mgmtRestart = true) (hto : s.fw.mgmtTo ≠ s.fw.running)
    (hs1 : s1 = { s with fw := { s.fw with mgmtRestart := false, running := s.fw.mgmtTo } })
    (hs2 : s2 = (s1.remeasure s.fw.mgmtTo).evt s1.everyone 0x01D 1) : s.mgmtRestarted =
      s2.finishAll (fun w => w.what == .mgmtRestart s.fw.running) stOk 0 (fun _ => s2.fwReply s.fw.running s2.fw.running) := by
  subst hs2 hs1
  have hne : (s.fw.mgmtTo == s.fw.running) = false := beq_eq_false_iff_ne.mpr hto
  simp only [State.mgmtRestarted, hrestart, hne, Bool.not_true, Bool.false_eq_true, if_false]

theorem State.mgmtResumed_other {s s1 : State} (hrestart : s.fw.mgmtRestart = true) (hto : s.fw.mgmtTo ≠ s.fw.running)
    (hs1 : s1 = { s with fw := { s.fw with mgmtRestart := false, mgmtTo := s.fw.running } }) : s.mgmtResumed =
      (s1.free.2.fault 100 s1.free.1 0xFF).finishAll (fun w => w.what == .mgmtRestart s.fw.running) stFaulted 100 (fun _ => []) := by
  subst hs1
  have hne : (s.fw.mgmtTo != s.fw.running) = true := bne_iff_ne.mpr hto
  simp only [State.mgmtResumed, hrestart, hne, Bool.not_true, Bool.false_eq_true, if_false, if_true]

/-! ## Bundles -/

theorem cfgLoad_waits {s : State} {h : Pkt} {p : CfgLoad} (hpart : h.part = 0) (hlen : 1 ≤ p.len) (hlen' : p.len ≤ 4194304) (haddr : addrFit h p.addr)
    (hload : s.fw.loadInFlight = none) (hcfg : s.cfg.loading = none) (hpfw : s.pwr.pfwLow = false) :
    cfgLoad s h p = .wait { s with cfg := { s.cfg with loading := some p } } .cfgLoad := by
  refine check_none ?_
  simp only [firstBad_cons_none, State.loadRunning_none hload hcfg, stagingOnly_none, norIdle_none]
  simp [hpart, hlen', haddr, hpfw, Nat.ne_of_gt hlen]

/-- The state after a good bundle: it is stored in its copy, and the command is answered. -/
def State.bundleStored (s : State) (v : CfgVerify) (toB : Bool) : State :=
  (({ s with cfg := if toB then { s.cfg with copyB := some v.bundle, loading := none, latestIsB := true }
      else { s.cfg with copyA := some v.bundle, loading := none, latestIsB := false } } : State).evtFree [0] 0x01E).finishAll
    (fun w => w.what == .cfgLoad) stOk 0 (fun _ => le 4 v.bundle.seq ++ le 1 (if toB then 1 else 0) ++ zeros 3)

theorem State.cfgVerified_stores {s : State} {v : CfgVerify} (hload : s.cfg.loading.isSome = true)
    (hst : s.cfg.status v (s.cfgOwner v.bundle) = stOk) : s.cfgVerified v = s.bundleStored v s.cfg.targetB := by
  have hnone : s.cfg.loading.isNone = false := by simpa using hload
  simp only [State.cfgVerified, hnone, hst, Bool.false_eq_true, if_false, bne_self_eq_false]
  rfl

theorem exec_cfgLoadVerified {t : Nat} {v : CfgVerify} {s : State} (hfree : s.alcx.write = none) :
    exec (.cfgLoadVerified t v) s = .next ((s.at t).cfgVerified v) :=
  event_next (if_pos (by rw [show (s.at t).alcx.write = none from hfree]; rfl))

theorem cfgRead_checks {s : State} {h : Pkt} {p : CfgRead} (hobserves : s.observes h.part = true) (hwhich : p.which ≤ 1)
    (hbuf : p.bufLen = 0 ∨ addrFit h p.bufAddr) : firstBad
      [ failIf (!s.observes h.part) stNotGranted 0xF1, badIf (1 < p.which) 0, if p.bufLen == 0 then none else stagingOnly h p.bufAddr ] = none := by
  simpa [firstBad_cons_none, hobserves, hwhich, or_iff_not_imp_left] using hbuf

theorem cfgRead_none {s : State} {h : Pkt} {p : CfgRead} (hobserves : s.observes h.part = true) (hwhich : p.which ≤ 1)
    (hbuf : p.bufLen = 0 ∨ addrFit h p.bufAddr) (hnone : s.cfg.which p.which = none) : cfgRead s h p = ok s (zeros 16) :=
  (check_none (cfgRead_checks hobserves hwhich hbuf)).trans (by simp only [hnone])

theorem cfgRead_some {s : State} {h : Pkt} {p : CfgRead} {b : Bundle} (hobserves : s.observes h.part = true) (hwhich : p.which ≤ 1)
    (hbuf : p.bufLen = 0 ∨ addrFit h p.bufAddr) (hsome : s.cfg.which p.which = some b) :
    cfgRead s h p = copyOut s p.bufAddr p.bufLen (Config.bundleBytes b) (le 4 b.len ++ le 4 b.seq ++ zeros 8) :=
  (check_none (cfgRead_checks hobserves hwhich hbuf)).trans (by simp only [hsome])

end Sys2Proof.Machine

namespace Sys2Proof.Proofs
open Sys2Proof.Machine

/-- Settles O35: each row passes its checks; what a restart does turns on whether the cores go to the other bank. -/
theorem firmwareRowsComplete : Obligations.FirmwareRowsComplete := by
  unfold Obligations.FirmwareRowsComplete
  refine ⟨fun h p s s1 hs hpart hboot hrec hlen hlen' hbank haddr hcommit hload hcfg hpfw =>
      cmd_waits hs (State.LoadFits.waits ⟨hpart, hboot, hrec, hlen, hlen', hbank, haddr, hcommit, hload, hcfg, hpfw⟩),
    fun t v s p hload hrec hformat hsigned hsvn hwrite hfree => ?_,
    fun h k s s1 hs hpart hk hstate => cmd_waits hs (check_none ?_),
    fun t k s hk hup hstate => ?_,
    fun h s s1 hs hpart => ⟨fun hbank hsvn hwait hclusters =>
        cmd_waits hs ((fwSwitch_restarts hpart).trans (fwRestart_waits hbank hsvn hwait hclusters)),
      fun halc hclusters hpfw => ?_, fun hidle => ⟨_, cmd_answers hs ((fwSwitch_moves hpart).trans (fwLogic_idle hidle))⟩,
      fun hrun => cmd_waits hs ((fwSwitch_moves hpart).trans (fwLogic_run hrun))⟩,
    fun t s hrestart hto => ⟨event_next (State.mgmtRestarted_own (s := s.at t) hrestart hto), event_next (State.mgmtResumed_own (s := s.at t) hrestart hto)⟩,
    fun t s s1 s2 hrestart hto hs1 hs2 => event_next (State.mgmtRestarted_other (s := s.at t) hrestart hto hs1 hs2),
    fun t s s1 hrestart hto hs1 => event_next (State.mgmtResumed_other (s := s.at t) hrestart hto hs1)⟩
  · rw [exec_fwLoadVerified hfree, State.fwVerified_stores (s := s.at t) hload hrec hformat hsigned hsvn hwrite]
    rfl
  · simp [firstBad_cons_none, hpart, hstate]
    omega
  · rw [exec_fwClusterLoadDone hk hup hstate]
    rfl
  · have hcommit := (fwSwitch_commit hpart s1).trans (fwCommit_commits (State.allSwitched_of halc hclusters) hpfw)
    exact ⟨_, _, cmd_answers hs hcommit, congrArg FirmwareSt.boot (State.evt_fw ..), congrArg FirmwareSt.minSvn (State.evt_fw ..)⟩

/-- Settles O36: a good bundle goes to the copy that does not hold the one in force, and CFG_READ gives what there is. -/
theorem bundleRowsComplete : Obligations.BundleRowsComplete := by
  unfold Obligations.BundleRowsComplete
  refine ⟨fun h p s s1 hs hpart hlen hlen' haddr hload hcfg hpfw => cmd_waits hs (cfgLoad_waits hpart hlen hlen' haddr hload hcfg hpfw),
    fun t v s hload hst htarget hfree => ?_, fun t v s hload hst htarget hfree => ?_,
    fun h p s s1 hs hobserves hwhich hbuf => ⟨fun hnone => cmd_answers hs (cfgRead_none hobserves hwhich hbuf hnone),
      fun b hsome hlen => cmd_answers hs ((cfgRead_some hobserves hwhich hbuf hsome).trans ?_),
      fun b hsome hlen => cmd_waits hs ((cfgRead_some hobserves hwhich hbuf hsome).trans (copyOut_waits hlen _ _ _ _))⟩⟩
  · rw [exec_cfgLoadVerified hfree, State.cfgVerified_stores (s := s.at t) hload hst, show (s.at t).cfg.targetB = false from htarget]
    rfl
  · rw [exec_cfgLoadVerified hfree, State.cfgVerified_stores (s := s.at t) hload hst, show (s.at t).cfg.targetB = true from htarget]
    rfl
  · rw [hlen, copyOut_length]
    rfl

end Sys2Proof.Proofs
end

section
/-!
PROOFS. The power warning and its end (09_alarm_logic R282, 17_power_states R494, R495).
-/
namespace Sys2Proof.Machine

/-! ## The fall of PFW_N -/

/-- PFW_N is seen low, and POWER_WARN raised. -/
def State.pfwWarned (s : State) : State :=
  let u : State := { s with pwr := { s.pwr with pfwLow := true, pfwSeen := true } }
  u.evtFree u.everyone 0x016

/-- Raising POWER_WARN leaves the pair, its checkpoints and the signal box. -/
theorem State.pfwWarned_hosts (s : State) :
    HostsOnly s.pfwWarned { s with pwr := { s.pwr with pfwLow := true, pfwSeen := true } } := State.evtFree_hosts _ _ _

theorem State.pfwWarned_pair (s : State) : s.pfwWarned.alc = s.alc ∧ s.pfwWarned.alcx = s.alcx ∧ s.pfwWarned.flt = s.flt ∧
    s.pfwWarned.pwr = { s.pwr with pfwLow := true, pfwSeen := true } := by
  have h := s.pfwWarned_hosts
  simp only [HostsOnly] at h
  simp [h]

theorem State.pfwFall_eq {s : State} (hhigh : s.pwr.pfwLow = false) : s.pfwFall =
    let s2 := s.pfwWarned.alcStopNow (some stWrongState)
    let s3 : State := { s2 with alcx := { s2.alcx with
      powerFailStop := s2.alcx.powerFailStop || ((s.alc.state == .run || s.alc.state == .hold) && s.flt.haltSource.isNone) } }
    if s3.fabricUp then s3.pfwCheckpoint else s3 := by
  unfold State.pfwFall
  exact if_neg (by rw [hhigh]; exact Bool.false_ne_true)

/-- A pair that has no program, or that a halt has stopped, does nothing more at a stop. -/
theorem State.alcStopNow_stays {s : State} {status : Option Nat} (hoff : s.alc.state = .noProgram ∨ s.flt.haltSource.isSome = true) :
    s.alcStopNow status = s :=
  if_pos (by rcases hoff with h | h <;> simp [h])

/-- Nor does the fabric of a halted device write a checkpoint. -/
theorem State.pfwCheckpoint_stays {s : State} (hoff : s.alc.state = .noProgram ∨ s.flt.haltSource.isSome = true) :
    (if s.fabricUp then s.pfwCheckpoint else s) = s := by
  rcases hoff with h | h
  · have hckpt : s.pfwCheckpoint = s := if_pos (by rw [h]; rfl)
    rw [hckpt, ite_self]
  · exact if_neg (by simp [State.fabricUp, Option.isSome_iff_ne_none.mp h])

theorem State.pfwFall_warns {s : State} (hhigh : s.pwr.pfwLow = false) (hoff : s.alc.state = .noProgram ∨ s.flt.haltSource.isSome = true) :
    s.pfwFall = s.pfwWarned := by
  obtain ⟨halc, -, hflt, -⟩ := s.pfwWarned_pair
  have hoff' : s.pfwWarned.alc.state = .noProgram ∨ s.pfwWarned.flt.haltSource.isSome = true := by rwa [halc, hflt]
  have hran : ((s.alc.state == .run || s.alc.state == .hold) && s.flt.haltSource.isNone) = false := by
    rcases hoff with h | h
    · simp [h]
    · rw [show s.flt.haltSource.isNone = false by simpa using h, Bool.and_false]
  simp only [State.pfwFall_eq hhigh, State.alcStopNow_stays hoff', hran, Bool.or_false]
  exact State.pfwCheckpoint_stays hoff'

/-- The last completed scan of an active image is written for the power fail. -/
theorem State.pfwCheckpoint_writes {s : State} {im : AlcImage} (hstate : s.alc.state = .stop) (him : s.alc.active = some im) :
    ∃ w, s.pfwCheckpoint.alcx.write = some w ∧ w.cause = .powerFail ∧ w.ckpt.programId = im.programId ∧ w.ckpt.image = s.alc.retained := by
  have hsteady : (s.ckptReply stBusy []).alc = s.alc := (State.finishAll_steady s _ stBusy 0 _).2.2.2.2.1
  have hne : (s.alc.state == .noProgram) = false := by rw [hstate]; rfl
  simp only [State.pfwCheckpoint, hne, Bool.false_eq_true, if_false, State.ckptStart, hsteady, him]
  exact ⟨_, rfl, rfl, rfl, rfl⟩

/-- A checkpoint leaves the power state, the pair's state and the mark of its stop. -/
theorem State.pfwCheckpoint_steady (s : State) : s.pfwCheckpoint.pwr = s.pwr ∧ s.pfwCheckpoint.alc = s.alc ∧
    s.pfwCheckpoint.alcx.powerFailStop = s.alcx.powerFailStop := by
  obtain ⟨-, hpwr, -, -, halc, halcx, -⟩ := State.finishAll_steady s (fun w => w.what == .checkpoint) stBusy 0 (fun _ => [])
  have hmark : (s.ckptReply stBusy []).alcx.powerFailStop = s.alcx.powerFailStop := congrArg AlcAux.powerFailStop halcx
  unfold State.pfwCheckpoint
  dsimp only
  split
  · exact ⟨rfl, rfl, rfl⟩
  · unfold State.ckptStart
    split <;> exact ⟨hpwr, halc, hmark⟩

/-- The pair at the fall of PFW_N, stopped by it and marked. -/
def State.pfwStopped (s : State) : State :=
  let s2 := s.pfwWarned.alcStopNow (some stWrongState)
  { s2 with alcx := { s2.alcx with powerFailStop := true } }

theorem State.pfwStopped_pair {s : State} (hran : s.alc.state = .run ∨ s.alc.state = .hold) (hrun : s.flt.haltSource = none) :
    s.pfwStopped.pwr = { s.pwr with pfwLow := true, pfwSeen := true } ∧ s.pfwStopped.alc.state = .stop ∧
    s.pfwStopped.alc.active = s.alc.active ∧ s.pfwStopped.alc.retained = s.alc.retained ∧ s.pfwStopped.flt = s.flt := by
  obtain ⟨halc, -, hflt, hpwr⟩ := s.pfwWarned_pair
  obtain ⟨-, hpwr', hflt', hstate, hactive, hretained⟩ :=
    State.alcStopNow_pair s.pfwWarned (some stWrongState) (by rw [hflt, hrun])
  dsimp only at hstate hactive hretained
  rw [halc] at hstate hactive hretained
  rw [hpwr] at hpwr'
  rw [hflt] at hflt'
  rw [if_pos (by simpa using hran)] at hstate
  simp only [State.pfwStopped]
  exact ⟨hpwr', hstate, hactive, hretained, hflt'⟩

theorem State.pfwFall_stops {s : State} (hhigh : s.pwr.pfwLow = false) (hran : s.alc.state = .run ∨ s.alc.state = .hold)
    (hrun : s.flt.haltSource = none) : s.pfwFall = if s.pfwStopped.fabricUp then s.pfwStopped.pfwCheckpoint else s.pfwStopped := by
  have hmark : ((s.alc.state == .run || s.alc.state == .hold) && s.flt.haltSource.isNone) = true := by
    rw [hrun]
    simpa using hran
  simp only [State.pfwFall_eq hhigh, hmark, Bool.or_true]
  rfl

theorem State.pfwStopped_fabricUp {s : State} (hran : s.alc.state = .run ∨ s.alc.state = .hold) (hrun : s.flt.haltSource = none) :
    s.pfwStopped.fabricUp = s.fabricUp := by
  obtain ⟨hpwr, -, -, -, hflt⟩ := State.pfwStopped_pair hran hrun
  simp only [State.fabricUp, hpwr, hflt]

theorem State.pfwFall_pair {s : State} (hhigh : s.pwr.pfwLow = false) (hran : s.alc.state = .run ∨ s.alc.state = .hold)
    (hrun : s.flt.haltSource = none) :
    s.pfwFall.pwr = { s.pwr with pfwLow := true, pfwSeen := true } ∧ s.pfwFall.alc.state = .stop ∧ s.pfwFall.alcx.powerFailStop = true ∧
    (s.fabricUp = true → ∀ im, s.alc.active = some im →
      ∃ w, s.pfwFall.alcx.write = some w ∧ w.cause = .powerFail ∧ w.ckpt.programId = im.programId ∧ w.ckpt.image = s.alc.retained) := by
  obtain ⟨hpwr, hstate, hactive, hretained, -⟩ := State.pfwStopped_pair hran hrun
  rw [State.pfwFall_stops hhigh hran hrun]
  cases hup : s.fabricUp with
  | false =>
    rw [if_neg (by rw [State.pfwStopped_fabricUp hran hrun, hup]; exact Bool.false_ne_true)]
    exact ⟨hpwr, hstate, rfl, fun hup => absurd hup Bool.false_ne_true⟩
  | true =>
    rw [if_pos (by rw [State.pfwStopped_fabricUp hran hrun, hup])]
    obtain ⟨hpwr', halc', hmark⟩ := s.pfwStopped.pfwCheckpoint_steady
    refine ⟨hpwr'.trans hpwr, by rw [halc', hstate], hmark, fun _ im him => ?_⟩
    rw [← hretained]
    exact State.pfwCheckpoint_writes hstate (hactive.trans him)

/-! ## The rise of PFW_N -/

/-- PFW_N is high again, and POWER_RESTORED raised. -/
def State.pfwRestored (s : State) : State :=
  let u : State := { s with pwr := { s.pwr with pfwLow := false } }
  u.evtFree u.everyone 0x017

theorem State.evtFree_alcx (s : State) (parts : List Nat) (src : Nat) : (s.evtFree parts src).alcx = s.alcx := by simp

theorem State.pfwRise_eq {s : State} (hlow : s.pwr.pfwLow = true) : s.pfwRise =
    (if s.alcx.powerFailStop then
      ({ s.pfwRestored with alcx := { s.alcx with powerFailStop := false } } : State).evtFree s.pfwRestored.logicReaders 0x18F
      else s.pfwRestored).ckptNext.recheckRange := by
  simp only [State.pfwRise, hlow, Bool.not_true, Bool.false_eq_true, if_false, State.pfwRestored, State.evtFree_alcx]

end Sys2Proof.Machine

namespace Sys2Proof.Proofs
open Sys2Proof.Machine

/-- Settles O37: a fall stops a pair that runs and writes its last scan; else only the warning is left of it. -/
theorem powerWarningRowsComplete : Obligations.PowerWarningRowsComplete := by
  unfold Obligations.PowerWarningRowsComplete
  refine ⟨fun t s u hhigh hu => ⟨fun hoff => ?_, fun hran hrun => ?_⟩, fun t s u hlow hu => ⟨fun hown => ?_, fun hmark v hv => ?_⟩⟩
  · subst hu
    exact event_next (State.pfwFall_warns (s := s.at t) hhigh hoff)
  · subst hu
    exact ⟨_, event_next rfl, State.pfwFall_pair (s := s.at t) hhigh hran hrun⟩
  · subst hu
    have hown' : (s.at t).alcx.powerFailStop = false := hown
    have hrise := State.pfwRise_eq (s := s.at t) hlow
    rw [hown', if_neg Bool.false_ne_true] at hrise
    exact event_next hrise
  · subst hv hu
    have hmark' : (s.at t).alcx.powerFailStop = true := hmark
    have hrise := State.pfwRise_eq (s := s.at t) hlow
    rw [hmark', if_pos rfl] at hrise
    exact event_next hrise

end Sys2Proof.Proofs
end

section
/-!
PROOFS. Stabled and wake (17_power_states R502 to R508).
-/
namespace Sys2Proof.Machine

/-! ## PWR_STABLED -/

theorem pwrStabled_enters {s : State} {h : Pkt} {force : Bool} (hpart : h.part = 0) (hstate : s.pwr.state = .running) (hmgmt : s.fw.mgmtRestart = false)
    (hclusters : ∀ k ∈ allClusters, (s.cluster k).state ≠ .updating) (hpair : force = true ∨ (s.alc.state ≠ .run ∧ s.alc.state ≠ .hold))
    (hload : s.fw.loadInFlight = none) (hcfg : s.cfg.loading = none) : pwrStabled s h force = ok (s.enterStabled h.recv) (le 8 h.recv) := by
  have hidle : allClusters.any (fun k => (s.cluster k).state == .updating) = false := List.any_eq_false.mpr (by simpa using hclusters)
  have hstop : ((s.alc.state == .run || s.alc.state == .hold) && !force) = false := by
    rcases hpair with hforce | ⟨hrun, hhold⟩
    · simp [hforce]
    · simp [hrun, hhold]
  refine check_none ?_
  simp only [firstBad_cons_none, hidle, hstop, hmgmt]
  simp [hpart, hstate, State.loadRunning, hload, hcfg]

/-! ## The strip on entry -/

theorem State.clustersAsleep_steady (s : State) : Steady s.clustersAsleep s := by
  have hfold := fold_steady (fun (s : State) k => if (s.cluster k).state == .draining then s.clusterTo k .drained 2 else s)
    (fun b k => by
      split
      · exact State.clusterTo_steady b k .drained 2 rfl
      · simp [Steady]) allClusters
  unfold State.clustersAsleep
  exact (hfold _).trans (by simp [Steady])

theorem State.portsAsleep_steady (s : State) : Steady s.portsAsleep s := by
  have hfold := fold_steady (fun (s : State) p => (s.linkDownOp p 2).modPort p (fun x => { x with rxq := [], txq := [], side := 0, pubWaits := [] }))
    (fun b p => Steady.trans (by simp [Steady]) (State.linkDownOp_steady b p 2))
  unfold State.portsAsleep
  dsimp only
  exact (hfold _ _).trans ⟨rfl, rfl, rfl, rfl, rfl, rfl, rfl⟩

/-- The power state and the tamper latch are as they were. -/
@[reducible] def PowerKept (t s : State) : Prop := t.pwr = s.pwr ∧ t.sec.tamperLatched = s.sec.tamperLatched

theorem State.refreshErr_power (s : State) : PowerKept s.refreshErr s := by
  unfold State.refreshErr
  (repeat' split) <;> exact ⟨rfl, rfl⟩

theorem State.faultClear_power (s : State) (src : Nat) : PowerKept (s.faultClear src) s := State.refreshErr_power _

theorem State.sourcesAsleep_power (s : State) : PowerKept s.sourcesAsleep s := by
  unfold State.sourcesAsleep
  generalize s.flt.active.filter (fun src => !stabledSource src) = l
  induction l generalizing s with
  | nil => exact ⟨rfl, rfl⟩
  | cons src l ih =>
    obtain ⟨hpwr, hsec⟩ := ih (s.faultClear src)
    obtain ⟨hpwr', hsec'⟩ := s.faultClear_power src
    exact ⟨hpwr.trans hpwr', hsec.trans hsec'⟩

/-- The blocks asleep, before their memories are stripped. -/
def State.blocksAsleep (s : State) : State := s.waitersAsleep.clustersAsleep.portsAsleep.sourcesAsleep

theorem State.blocksAsleep_power (s : State) : PowerKept s.blocksAsleep s := by
  obtain ⟨hpwr, hsec⟩ := s.waitersAsleep.clustersAsleep.portsAsleep.sourcesAsleep_power
  have hwait : Steady s.waitersAsleep s := State.finishAll_steady _ _ _ _ _
  obtain ⟨-, hpwr', -, -, -, -, hsec'⟩ := (State.portsAsleep_steady _).trans ((State.clustersAsleep_steady _).trans hwait)
  exact ⟨hpwr.trans hpwr', hsec.trans hsec'⟩

/-- What stands when the entry has stripped SRAM, of a state whose blocks are asleep. -/
def State.sramLost (s1 : State) : State :=
  let s2 : State := { s1 with
    plt := s1.plt.asleep, ing := s1.ing.asleep, wch := s1.wch.asleep, nrg := s1.nrg.asleep, osc := s1.osc.asleep, coh := s1.coh.asleep, rcd := s1.rcd.asleep
    hst := { s1.hst with loads := [], placed := tmap (fun _ (p : PlacedStream) => { p with active := false, seen := false, work := [] }) s1.hst.placed }
    tt := { s1.tt with ratios := [], pairs := [], readings := [], ratedSince := none, basisLost := false }
    alc := { s1.alc with scan := none, heldTrig := none, holdSite := none, stopAt := false, readbackBad := 0 }
    pwr := { s1.pwr with state := .stabled, lastEntry := s1.pwr.entryAt } }
  ((s2.stripKeys s2.stabledSlot).driveAl 0).refreshErr

theorem State.stabledDone_eq {s : State} (hstate : s.pwr.state = .entering) : s.stabledDone =
    if s.blocksAsleep.sramLost.pwr.wakeKept then s.blocksAsleep.sramLost.wakeStart else s.blocksAsleep.sramLost := by
  have hon : (s.pwr.state != .entering) = false := by rw [hstate]; rfl
  unfold State.stabledDone State.sramLost State.blocksAsleep
  rw [hon, if_neg Bool.false_ne_true]

/-- What the strip leaves: memories empty, and the pins released. -/
structure State.Stripped (e : State) : Prop where
  level : e.alc.level = 0
  scan : e.alc.scan = none
  slots : e.plt.slots = []
  sidings : e.plt.sidings = []
  history : e.plt.history = []
  dup : e.ing.dup = []
  modes : e.osc.modes = []
  eval : e.coh.eval = {}
  readings : e.tt.readings = []

theorem State.Stripped.refreshErr {e : State} (h : e.Stripped) : e.refreshErr.Stripped := by
  obtain ⟨hlevel, hscan, hslots, hsid, hhist, hdup, hmodes, heval, hread⟩ := h
  unfold State.refreshErr
  (repeat' split) <;> exact ⟨hlevel, hscan, hslots, hsid, hhist, hdup, hmodes, heval, hread⟩

theorem State.sramLost_stripped (s : State) : s.sramLost.Stripped :=
  State.Stripped.refreshErr ⟨ite_self 0, rfl, rfl, rfl, rfl, rfl, rfl, rfl, rfl⟩

theorem State.sramLost_power (s : State) : s.sramLost.pwr = { s.pwr with state := .stabled, lastEntry := s.pwr.entryAt } ∧
    s.sramLost.sec.tamperLatched = s.sec.tamperLatched := State.refreshErr_power _

/-! ## Requests for a wake -/

/-- The device on its way out of Stabled. -/
def State.wakes (s : State) : State :=
  { s with pwr := { s.pwr with state := .waking, wake := true, wakeKept := false, wakeStamp := some s.now } }

theorem State.wakes_power (s : State) : s.wakes.pwr.state = .waking ∧ s.wakes.pwr.wake = true ∧ s.wakes.pwr.lastEntry = s.pwr.lastEntry :=
  ⟨rfl, rfl, rfl⟩

theorem State.wakeStart_wakes {s : State} (htamper : s.sec.tamperLatched = false) : s.wakeStart = s.wakes :=
  if_neg (by rw [htamper]; exact Bool.false_ne_true)

theorem State.wakeRequest_kept {s : State} (hstate : s.pwr.state = .entering) :
    s.wakeRequest = { s with pwr := { s.pwr with wakeKept := true } } := if_pos (by rw [hstate]; rfl)

theorem State.wakeRequest_wakes {s : State} (hstate : s.pwr.state = .stabled) (htamper : s.sec.tamperLatched = false) : s.wakeRequest = s.wakes := by
  rw [State.wakeRequest, if_neg (by rw [hstate]; decide), if_pos (by rw [hstate]; rfl), State.wakeStart_wakes htamper]

theorem exec_wakeNFall {t lowNs : Nat} {s : State} (hlow : 10000 ≤ lowNs) : exec (.wakeNFall t lowNs) s = .next (s.at t).wakeRequest :=
  event_next (f := fun s => if lowNs < 10000 then s else s.wakeRequest) (if_neg (Nat.not_lt.mpr hlow))

theorem pwrWake_awake {s : State} {h : Pkt} (hpart : h.part = 0) (hstate : s.pwr.state = .running ∨ s.pwr.state = .halted ∨ s.pwr.state = .starting) :
    pwrWake s h = ok s (s.wakeReply 0) := by
  refine (check_none (by simp [firstBad_cons_none, hpart])).trans (if_neg ?_)
  rcases hstate with h | h | h <;> simp [h]

theorem pwrWake_stabled {s : State} {h : Pkt} (hpart : h.part = 0) (hstate : s.pwr.state = .stabled) (htamper : s.sec.tamperLatched = false) :
    pwrWake s h = .wait s.wakes .wake := by
  refine (check_none (by simp [firstBad_cons_none, hpart])).trans ((if_pos (by simp [hstate])).trans ?_)
  rw [State.wakeRequest_wakes hstate htamper]
  rfl

/-! ## The end of a wake -/

theorem State.wakeDone_ends {s : State} {found : WakeFound} {clusters : Nat} (hstate : s.pwr.state = .waking) :
    s.wakeDone true found clusters = s.wakeEnd found clusters ∧
    s.wakeDone false found clusters = (s.free.2.fault 103 s.free.1 0xFF).deviceReset 5 := by
  have hwaking : (s.pwr.state != .waking) = false := by rw [hstate]; rfl
  simp only [State.wakeDone, hwaking, Bool.false_eq_true, if_false, if_true, and_self]

end Sys2Proof.Machine

namespace Sys2Proof.Proofs
open Sys2Proof.Machine

/-- Settles O38: going to sleep keeps the power state up to what the strip sets, and a request wakes what is not tampered with. -/
theorem stabledRowsComplete : Obligations.StabledRowsComplete := by
  unfold Obligations.StabledRowsComplete
  refine ⟨fun h force s s1 hs hpart hstate hmgmt hclusters hpair hload hcfg =>
      cmd_answers hs (pwrStabled_enters hpart hstate hmgmt hclusters hpair hload hcfg),
    fun t s hstate hkept => ?_, fun t s hstate hkept htamper => ?_,
    fun t lowNs s hlow => ⟨fun hstate => ?_, fun hstate htamper => ?_⟩, fun t value s hbit hstate htamper => ?_,
    fun h s s1 hs hpart => ⟨fun hstate => cmd_answers hs (pwrWake_awake hpart hstate),
      fun hstate htamper => cmd_waits hs (pwrWake_stabled hpart hstate htamper)⟩,
    fun t clusters found s hstate => ?_, fun h s s1 hs => cmd_answers hs rfl⟩
  · obtain ⟨hpwr, -⟩ := (s.at t).blocksAsleep.sramLost_power
    rw [(s.at t).blocksAsleep_power.1] at hpwr
    obtain ⟨hlevel, hscan, hslots, hsid, hhist, hdup, hmodes, heval, hread⟩ := (s.at t).blocksAsleep.sramLost_stripped
    have hdone := State.stabledDone_eq (s := s.at t) hstate
    rw [hpwr, if_neg (by rw [show (s.at t).pwr.wakeKept = false from hkept]; exact Bool.false_ne_true)] at hdone
    exact ⟨_, event_next hdone, hpwr, hlevel, hscan, hslots, hsid, hhist, hdup, hmodes, heval, hread⟩
  · obtain ⟨hpwr, hlatch⟩ := (s.at t).blocksAsleep.sramLost_power
    rw [(s.at t).blocksAsleep_power.1] at hpwr
    rw [(s.at t).blocksAsleep_power.2] at hlatch
    have hdone := State.stabledDone_eq (s := s.at t) hstate
    rw [hpwr, if_pos (show (s.at t).pwr.wakeKept = true from hkept), State.wakeStart_wakes (hlatch.trans htamper)] at hdone
    obtain ⟨hstate', hwake, hentry⟩ := (s.at t).blocksAsleep.sramLost.wakes_power
    rw [hpwr] at hentry
    exact ⟨_, event_next hdone, hstate', hwake, hentry⟩
  · rw [exec_wakeNFall hlow, State.wakeRequest_kept (s := s.at t) hstate]
    rfl
  · rw [exec_wakeNFall hlow, State.wakeRequest_wakes (s := s.at t) hstate htamper]
    rfl
  · exact event_next ((if_pos (by simp [State.at, hbit, hstate])).trans (State.wakeStart_wakes (s := s.at t) htamper))
  · obtain ⟨hgood, hbad⟩ := State.wakeDone_ends (s := s.at t) (found := found) (clusters := clusters) hstate
    simp only [exec, execWakeDone]
    exact ⟨event_next hgood, event_next hbad⟩

end Sys2Proof.Proofs
end

section
/-!
PROOFS. Errors, timers and messages of the host channels (14_hosts R403, R404, R414 to R426).
-/
namespace Sys2Proof.Machine

/-! ## Malformed and unknown packets, interim replies -/

/-- Whether a malformed packet was posted to a queue that runs, with room for its reply. -/
def State.malformedDue (s : State) (h : Pkt) : Bool :=
  h.chan == .queue && h.part < 8 && (s.part h.part).queueRuns && 32 ≤ ((s.part h.part).q.sqTail - (s.part h.part).q.sqHead).toNat
    && (s.part h.part).q.malformed h.paramLen && s.replyRoom h

theorem State.malformedPacket_eq (s : State) (h : Pkt) (op : Nat) : s.malformedPacket h op =
    if s.malformedDue h then
      ((s.putReply h op stBadLength (opcodeLength op) s.now []).modPart h.part
        (fun p => { p with q := { p.q with cmdqErr := true, stopped := true } })).evt [h.part] 0x002 1
    else s := rfl

theorem exec_malformedPacket (h : Pkt) (op : Nat) (s : State) :
    exec (.malformedPacket h op) s = .next ((s.at h.recv).malformedPacket h op) :=
  event_next (f := fun s => s.malformedPacket h op) rfl

theorem exec_pendingReply_waiting {t part tag : Nat} {s : State} {w : Waiting} (hw : s.pendingDue part tag = some w) :
    exec (.pendingReply t part tag) s = .next ((s.at t).pendingReply w) := by
  have hw' : (s.at t).pendingDue part tag = some w := hw
  simp only [exec, execPendingReply]
  refine event_next ?_
  simp only [hw']

theorem exec_pendingReply_held {t part tag : Nat} {s : State} {x : HeldCmd} (hnone : s.pendingDue part tag = none)
    (hx : (s.at t).pendingHeldDue part tag = some x) : exec (.pendingReply t part tag) s = .next ((s.at t).pendingHeld x) := by
  have hnone' : (s.at t).pendingDue part tag = none := hnone
  simp only [exec, execPendingReply]
  refine event_next ?_
  simp only [hnone', hx]

theorem exec_pendingReply_none {t part tag : Nat} {s : State} (hnone : s.pendingDue part tag = none)
    (hheld : (s.at t).pendingHeldDue part tag = none) : exec (.pendingReply t part tag) s = .next (s.at t) := by
  have hnone' : (s.at t).pendingDue part tag = none := hnone
  simp only [exec, execPendingReply]
  refine event_next ?_
  simp only [hnone', hheld]

/-! ## Latches -/

theorem exec_eventHoldoffEnd {t n src : Nat} {s : State} (hn : n < 8) :
    exec (.eventHoldoffEnd t n src) s = .next ((s.at t).latchEnd n src) :=
  event_next (f := fun s => if n < 8 then s.latchEnd n src else s) (if_pos hn)

theorem State.latchEnd_idle {s : State} {n src : Nat} {l : Latch} (hl : tget src (s.part n).ev.latches = some l) (hend : l.holdEnd ≤ s.now)
    (hnone : l.pending = none) :
    s.latchEnd n src = s.setPart n { s.part n with ev := { (s.part n).ev with latches := tdel src (s.part n).ev.latches } } := by
  simp only [State.latchEnd, hl, Nat.not_lt.mpr hend, if_false, hnone]

theorem State.latchEnd_writes {s : State} {n src : Nat} {l : Latch} {r : EvRec} (hl : tget src (s.part n).ev.latches = some l)
    (hend : l.holdEnd ≤ s.now) (hsome : l.pending = some r) :
    s.latchEnd n src = (s.setPart n { s.part n with ev := { (s.part n).ev with
      latches := tset src { holdEnd := s.now + 1000 * (s.part n).ev.holdoffUs, pending := none } (s.part n).ev.latches } }).writeOrHold n r := by
  simp only [State.latchEnd, hl, Nat.not_lt.mpr hend, if_false, hsome]

theorem State.latchEnd_waits {s : State} {n src : Nat}
    (hwait : tget src (s.part n).ev.latches = none ∨ ∃ l, tget src (s.part n).ev.latches = some l ∧ s.now < l.holdEnd) : s.latchEnd n src = s := by
  rcases hwait with hnone | ⟨l, hl, hearly⟩
  · simp only [State.latchEnd, hnone]
  · simp only [State.latchEnd, hl, hearly, if_true]

/-! ## DMA -/

/-- A DMA error concerns a partition that is there. -/
theorem dmaReaches_iff {s : State} {n : Nat} :
    (decide (n < 8) && s.created n && s.pwr.startupDone) = true ↔ n < 8 ∧ s.created n = true ∧ s.pwr.startupDone = true := by
  simp [and_assoc]

theorem exec_dmaCompletionError {t n : Nat} {x : DmaTarget} {s : State} (hn : n < 8) (hcreated : s.created n = true)
    (hup : s.pwr.startupDone = true) : exec (.dmaCompletionError t n x) s = .next ((s.at t).dmaError n x) :=
  event_next (f := fun s => if n < 8 && s.created n && s.pwr.startupDone then s.dmaError n x else s)
    (if_pos (dmaReaches_iff (s := s.at t).mpr ⟨hn, hcreated, hup⟩))

theorem exec_dmaCompletionError_none {t n : Nat} {x : DmaTarget} {s : State}
    (hout : 8 ≤ n ∨ s.created n = false ∨ s.pwr.startupDone = false) : exec (.dmaCompletionError t n x) s = .next (s.at t) := by
  refine event_next (f := fun s => if n < 8 && s.created n && s.pwr.startupDone then s.dmaError n x else s)
    (if_neg (fun h => ?_))
  obtain ⟨hn, hcreated, hup⟩ := (dmaReaches_iff (s := s.at t)).mp h
  have hcreated' : s.created n = true := hcreated
  have hup' : s.pwr.startupDone = true := hup
  rcases hout with h | h | h
  · omega
  · simp [h] at hcreated'
  · simp [h] at hup'

theorem exec_dmaCopyDone {t n tag : Nat} {s : State} {w : Waiting} (hw : s.hst.waiting.find? (fun w => w.copies n tag) = some w) :
    exec (.dmaCopyDone t n tag) s = .next ((s.at t).copyDone w) := by
  have hw' : (s.at t).hst.waiting.find? (fun w => w.copies n tag) = some w := hw
  simp only [exec, execDmaCopyDone]
  refine event_next ?_
  simp only [hw']

theorem exec_dmaCopyDone_none {t n tag : Nat} {s : State} (hnone : s.hst.waiting.find? (fun w => w.copies n tag) = none) :
    exec (.dmaCopyDone t n tag) s = .next (s.at t) := by
  have hnone' : (s.at t).hst.waiting.find? (fun w => w.copies n tag) = none := hnone
  simp only [exec, execDmaCopyDone]
  refine event_next ?_
  simp only [hnone']

theorem State.copyDone_copies {s : State} {w : Waiting} {addr : Nat} {data res : List Byte} (hw : w.what = .dmaCopy addr data res) :
    s.copyDone w = (s.copyTo w.pkt addr data).finish w stOk 0 res := by
  simp only [State.copyDone, hw]

/-! ## In-band messages -/

theorem State.part_modPart (s : State) (n : Nat) (f : Part → Part) : (s.modPart n f).part n = f (s.part n) := by
  simp [State.modPart, State.setPart, State.part, tgetD, tget_tset_same]

/-- A message that fits, by what its window makes of its number. -/
def State.inbandTaken (u : State) (m : ChannelMsg) : Option Replay → State
  | none => u.messageDropped m.partition
  | some r =>
    let s2 := u.modPart m.partition (fun p => { p with ib := { p.ib with replay := r } })
    { s2 with hst := { s2.hst with inbox := s2.hst.inbox ++ [u.requestOf m m.partition] } }

theorem State.inbandMessage_open {s : State} {m : ChannelMsg} (hboot : s.sec.bootHold = false) (htamper : s.sec.tamperHold = false) :
    s.inbandMessage m =
      if !(s.sideTake m.port).inbandFits m then (s.sideTake m.port).messageDropped m.partition
      else (s.sideTake m.port).inbandTaken m (((s.sideTake m.port).part m.partition).ib.replay.accept 64 m.seq) := by
  simp only [State.inbandMessage, hboot, htamper, Bool.or_self, Bool.false_eq_true, if_false]
  rfl

theorem State.inbandTaken_waits (u : State) (m : ChannelMsg) (r : Replay) :
    ((u.inbandTaken m (some r)).part m.partition).ib.replay = r ∧
    (u.inbandTaken m (some r)).hst.inbox = u.hst.inbox ++ [u.requestOf m m.partition] := by
  have hpart : (u.inbandTaken m (some r)).part m.partition = { u.part m.partition with ib := { (u.part m.partition).ib with replay := r } } :=
    u.part_modPart m.partition (fun p => { p with ib := { p.ib with replay := r } })
  rw [hpart]
  exact ⟨rfl, rfl⟩

/-- A message that its window accepts waits to be taken. -/
theorem State.inbandMessage_waits {s : State} {m : ChannelMsg} {r : Replay} (hboot : s.sec.bootHold = false) (htamper : s.sec.tamperHold = false)
    (hfits : (s.sideTake m.port).inbandFits m = true) (haccept : ((s.sideTake m.port).part m.partition).ib.replay.accept 64 m.seq = some r) :
    ((s.inbandMessage m).part m.partition).ib.replay = r ∧
    (s.inbandMessage m).hst.inbox = (s.sideTake m.port).hst.inbox ++ [s.requestOf m m.partition] := by
  rw [State.inbandMessage_open hboot htamper, hfits, haccept]
  exact (s.sideTake m.port).inbandTaken_waits m r

theorem State.inbandMessage_drops {s : State} {m : ChannelMsg} (hboot : s.sec.bootHold = false) (htamper : s.sec.tamperHold = false)
    (hbad : (s.sideTake m.port).inbandFits m = false ∨
      (s.sideTake m.port).inbandFits m = true ∧ ((s.sideTake m.port).part m.partition).ib.replay.accept 64 m.seq = none) :
    s.inbandMessage m = (s.sideTake m.port).messageDropped m.partition := by
  rw [State.inbandMessage_open hboot htamper]
  rcases hbad with hfits | ⟨hfits, hnone⟩
  · simp only [hfits, Bool.not_false, if_true]
  · rw [hfits, hnone]
    rfl

theorem exec_inbandMessage {t : Nat} {m : ChannelMsg} {s : State} (hreach : (s.at t).inbandReaches m = true) :
    exec (.inbandMessage t m) s = .next ((s.at t).inbandMessage m) :=
  event_next (f := fun s => if s.inbandReaches m then s.inbandMessage m else s) (if_pos hreach)

/-! ## The service port -/

/-- A whole message that may be written: no reset holds the port, and none waits there. -/
structure State.SpiFits (s : State) (m : ChannelMsg) : Prop where
  on : s.pwr.porHeld = false
  free : s.hst.spiInbox = []
  frame : m.frameOk = true
  sel : m.keySel ≤ 1

section
variable {s : State} {m : ChannelMsg}

/-- A message that is verified, by what its window makes of its number. -/
def State.spiVerifiedTaken (s : State) (m : ChannelMsg) : Option Replay → State
  | none => s.messageDropped 0
  | some r => (s.modPart 0 (fun p => { p with ib := { p.ib with replay := r } })).spiTake m

theorem State.SpiFits.open (hf : s.SpiFits m) : s.spiMessage m =
    if !s.spiChecked then s.spiTake m
    else if !s.spiVerified m then s.messageDropped 0 else s.spiVerifiedTaken m ((s.part 0).ib.replay.accept 64 m.seq) := by
  obtain ⟨hpor, hfree, hframe, hsel⟩ := hf
  have hsel' : ¬ 1 < m.keySel := Nat.not_lt.mpr hsel
  simp only [State.spiMessage, hpor, hfree, hframe, hsel', List.isEmpty_nil, Bool.not_true, Bool.or_self, Bool.false_eq_true, if_false, decide_false]
  rfl

theorem State.SpiFits.unchecked (hf : s.SpiFits m) (hcheck : s.spiChecked = false) : s.spiMessage m = s.spiTake m := by
  rw [hf.open, if_pos (by rw [hcheck]; rfl)]

theorem State.SpiFits.accepted {r : Replay} (hf : s.SpiFits m) (hcheck : s.spiChecked = true) (hverified : s.spiVerified m = true)
    (haccept : (s.part 0).ib.replay.accept 64 m.seq = some r) :
    s.spiMessage m = (s.modPart 0 (fun p => { p with ib := { p.ib with replay := r } })).spiTake m := by
  rw [hf.open, hcheck, hverified, haccept]
  rfl

theorem State.SpiFits.dropped (hf : s.SpiFits m) (hcheck : s.spiChecked = true) (hbad : s.spiVerified m = false) :
    s.spiMessage m = s.messageDropped 0 := by
  rw [hf.open]
  simp only [hcheck, hbad, Bool.not_true, Bool.not_false, Bool.false_eq_true, if_false, if_true]

end

theorem exec_spiWriteMessage (t : Nat) (m : ChannelMsg) (s : State) : exec (.spiWriteMessage t m) s = .next ((s.at t).spiMessage m) :=
  event_next (f := fun s => s.spiMessage m) rfl

theorem State.sessionTimeout_ends {s : State} {x : Nat} (hsession : s.hst.spiSession = some x) (hdue : x + 60000000000 ≤ s.now) :
    s.sessionTimeout = { s with hst := { s.hst with spiSession := none } } := if_pos (any_due hsession hdue)

end Sys2Proof.Machine

namespace Sys2Proof.Proofs
open Sys2Proof.Machine

/-- Settles O39: each row does what its condition says, and only passes time where it finds nothing. -/
theorem channelErrorRowsComplete : Obligations.ChannelErrorRowsComplete := by
  unfold Obligations.ChannelErrorRowsComplete
  refine ⟨fun h op s u due hdue hu => ⟨fun hon => ?_, fun hoff => ?_⟩,
    fun h op s s1 hs hop => (exec_unknownOpcode h s hop).trans (cmd_answers hs rfl),
    fun t part tag s => ⟨fun w hw => exec_pendingReply_waiting hw, fun x hnone hx => exec_pendingReply_held hnone hx,
      fun hnone hheld => exec_pendingReply_none hnone hheld⟩,
    fun t n src s => ⟨fun l hn hl hend hnone => ?_, fun l r hn hl hend hsome => ?_, fun hwait => ?_⟩,
    fun t s => event_next rfl,
    fun t n x s u v hcmd hev hdep htrace hrx htx hrec hbuf hv => ⟨fun hn hcreated hup => ?_, fun hout => exec_dmaCompletionError_none hout⟩,
    fun t n tag s => ⟨fun w addr data res hw hwhat => ?_, fun hnone => exec_dmaCopyDone_none hnone⟩⟩
  · subst hu
    have hon' : (s.at h.recv).malformedDue h = true := hdue.symm.trans hon
    rw [exec_malformedPacket, State.malformedPacket_eq, if_pos hon']
  · have hoff' : (s.at h.recv).malformedDue h = false := hdue.symm.trans hoff
    rw [exec_malformedPacket, State.malformedPacket_eq, if_neg (by rw [hoff']; exact Bool.false_ne_true)]
  · rw [exec_eventHoldoffEnd hn, State.latchEnd_idle (s := s.at t) hl hend hnone]
    rfl
  · rw [exec_eventHoldoffEnd hn, State.latchEnd_writes (s := s.at t) hl hend hsome]
    rfl
  · rcases Nat.lt_or_ge n 8 with hn | hn
    · rw [exec_eventHoldoffEnd hn, State.latchEnd_waits (s := s.at t) (hwait.resolve_left (Nat.not_le.mpr hn))]
    · exact event_next (f := fun s => if n < 8 then s.latchEnd n src else s) (if_neg (Nat.not_lt.mpr hn))
  · have hu : (s.at t).dmaDisable n x = u := by
      cases x with
      | cmdQueue => exact (hcmd rfl).symm
      | eventRing => exact (hev rfl).symm
      | departureRing i => exact (hdep i rfl).symm
      | traceRing => exact (htrace rfl).symm
      | portRx p => exact (hrx p rfl).symm
      | portTx p => exact (htx p rfl).symm
      | recStream i => exact (hrec i rfl).symm
      | buffer tag => exact (hbuf tag rfl).symm
    rw [exec_dmaCompletionError hn hcreated hup, State.dmaError, hu, hv]
  · rw [exec_dmaCopyDone hw, State.copyDone_copies hwhat]

/-- Settles O40: a message that its checks pass waits in its inbox, and another is dropped. -/
theorem messageRowsComplete : Obligations.MessageRowsComplete := by
  unfold Obligations.MessageRowsComplete
  refine ⟨fun t m s u hreach hboot htamper hu => ⟨fun r hfits haccept => ?_, fun hbad => ?_, fun hfits hnone => ?_⟩,
    fun t m s hpor hfree hframe hsel => ?_, fun t s hpor => ⟨?_, ?_⟩,
    fun t x s hsession hdue => event_next (State.sessionTimeout_ends (s := s.at t) hsession hdue)⟩
  · subst hu
    obtain ⟨hreplay, hinbox⟩ := State.inbandMessage_waits (s := s.at t) hboot htamper hfits haccept
    exact ⟨_, exec_inbandMessage hreach, hreplay, hinbox⟩
  · subst hu
    rw [exec_inbandMessage hreach, State.inbandMessage_drops (s := s.at t) hboot htamper (.inl hbad)]
  · subst hu
    rw [exec_inbandMessage hreach, State.inbandMessage_drops (s := s.at t) hboot htamper (.inr ⟨hfits, hnone⟩)]
  · have hfits : (s.at t).SpiFits m := ⟨hpor, hfree, hframe, hsel⟩
    have htake : (s.at t).spiTake m = { s.at t with hst := { s.hst with
        spiSession := if m.session then some (s.at t).now else none
        spiInbox := [{ part := 0, port := m.port, ip := m.srcIp, udpPort := m.srcPort, seq := m.seq, opcode := m.opcode, tag := m.tag }] } } := by
      simp only [State.spiTake, State.spiSessionSet, State.at, hfree, List.nil_append, State.requestOf]
    rw [exec_spiWriteMessage]
    exact ⟨fun hcheck => by rw [hfits.unchecked hcheck, htake], fun r hcheck hverified haccept => by rw [hfits.accepted hcheck hverified haccept],
      fun hcheck hbad => by rw [hfits.dropped hcheck hbad]⟩
  · exact event_next (if_neg (by simp [State.at, hpor]))
  · exact event_next (if_neg (by simp [State.at, hpor]))

end Sys2Proof.Proofs
end

section
/-!
PROOFS. The queue registers and the reads and writes of BAR0 (01_architecture R39, R40, 11_clusters R337, 12_time R367, 14_hosts R401, R402, R411 to R413).
-/
namespace Sys2Proof.Machine

/-! ## Rows of a partition that has its BAR0 -/

section
variable {s : State} {t n : Nat} {f : State → State}

theorem event_barOpen (hopen : s.barOpen n = true) : event t s (fun s => if s.barOpen n then f s else s) = .next (f (s.at t)) :=
  event_next (if_pos ((s.barOpen_at t n).trans hopen))

theorem exec_hstSqTailWrite_open (hopen : s.barOpen n = true) (v : Nat) : exec (.hstSqTailWrite t n v) s = .next ((s.at t).sqTailWrite n (BitVec.ofNat 32 v)) :=
  event_barOpen (f := fun s => s.sqTailWrite n (BitVec.ofNat 32 v)) hopen

theorem exec_hstRqHeadWrite_open (hopen : s.barOpen n = true) (v : Nat) : exec (.hstRqHeadWrite t n v) s = .next ((s.at t).rqHeadWrite n (BitVec.ofNat 32 v)) :=
  event_barOpen (f := fun s => s.rqHeadWrite n (BitVec.ofNat 32 v)) hopen

theorem exec_hstEvtConsWrite_open (hopen : s.barOpen n = true) (v : Nat) : exec (.hstEvtConsWrite t n v) s = .next ((s.at t).evtConsWrite n (BitVec.ofNat 32 v)) :=
  event_barOpen (f := fun s => s.evtConsWrite n (BitVec.ofNat 32 v)) hopen

theorem exec_hstQueueEnable_open (hopen : s.barOpen n = true) : exec (.hstQueueEnable t n) s = .next ((s.at t).queueEnable n) :=
  event_barOpen (f := fun s => s.queueEnable n) hopen

theorem exec_hstQueueDisable_open (hopen : s.barOpen n = true) : exec (.hstQueueDisable t n) s = .next ((s.at t).queueDisable n) :=
  event_barOpen (f := fun s => s.queueDisable n) hopen

end

/-! ## Queue registers -/

section
variable {s : State} {n : Nat} {v : W32}

theorem State.sqTailWrite_taken (halign : v.toNat % 32 = 0) (hfit : (v - (s.part n).q.sqHead).toNat ≤ (s.part n).q.sqSize.toNat) :
    s.sqTailWrite n v = s.modPart n (fun p => { p with q := { p.q with sqTail := v } }) :=
  if_pos (by rw [halign, decide_eq_true hfit]; rfl)

theorem State.sqTailWrite_ignored (hbad : v.toNat % 32 ≠ 0 ∨ (s.part n).q.sqSize.toNat < (v - (s.part n).q.sqHead).toNat) : s.sqTailWrite n v = s := by
  refine if_neg (fun h => ?_)
  obtain ⟨halign, hfit⟩ := (Bool.and_eq_true _ _).mp h
  rcases hbad with hbad | hbad
  · exact hbad (beq_iff_eq.mp halign)
  · exact Nat.not_le.mpr hbad (of_decide_eq_true hfit)

theorem State.rqHeadWrite_taken (hfit : ((s.part n).q.rqTail - v).toNat ≤ (s.part n).q.rqSize.toNat) :
    s.rqHeadWrite n v = s.modPart n (fun p => { p with q := { p.q with rqHead := v } }) := if_pos hfit

theorem State.rqHeadWrite_ignored (hbad : (s.part n).q.rqSize.toNat < ((s.part n).q.rqTail - v).toNat) : s.rqHeadWrite n v = s :=
  if_neg (Nat.not_le.mpr hbad)

theorem State.evtConsWrite_taken (hfit : ((s.part n).ev.prod - v).toNat ≤ (s.part n).ev.size) :
    s.evtConsWrite n v = (s.modPart n (fun p => { p with ev := { p.ev with cons := v } })).drainRing n := if_pos hfit

theorem State.evtConsWrite_ignored (hbad : (s.part n).ev.size < ((s.part n).ev.prod - v).toNat) : s.evtConsWrite n v = s :=
  if_neg (Nat.not_le.mpr hbad)

theorem State.queueEnable_starts (hoff : (s.part n).q.enable = false) (hfits : (s.part n).q.fits = true) :
    s.queueEnable n = s.modPart n (fun p => { p with q := { p.q with
      enable := true, stopped := false, linkStop := false, sqTail := 0, sqHead := 0, rqTail := 0, rqHead := 0 } }) := by
  rw [State.queueEnable, hoff, if_neg Bool.false_ne_true, if_pos hfits]

theorem State.queueEnable_errs (hoff : (s.part n).q.enable = false) (hfits : (s.part n).q.fits = false) :
    s.queueEnable n = s.modPart n (fun p => { p with q := { p.q with cmdqErr := true } }) := by
  rw [State.queueEnable, hoff, if_neg Bool.false_ne_true, hfits, if_neg Bool.false_ne_true]

end

/-! ## Reads of TB_NOW -/

/-- An aligned 32-bit read is one read of its word. -/
theorem State.barRead_word {s : State} {n off : Nat} (halign : off % 4 = 0) :
    s.barRead n off 32 = ((s.readWord n off).1 % 4294967296, (s.readWord n off).2) := by
  have hoff : off / 4 * 4 = off := Nat.div_mul_cancel (Nat.dvd_of_mod_eq_zero halign)
  simp [State.barRead, halign, hoff]

theorem State.shadowSeen_now (s : State) (n : Nat) {tb : Nat} (htb : tb < 4) : s.shadowSeen n (0xB000 + 8 * tb) = true := by
  have hwin : (0xB000 + 8 * tb) / 4096 = 0x0B := by omega
  have hlow : 0xB000 + 8 * tb < 0xB020 := by omega
  simp only [State.shadowSeen, hwin, hlow, decide_true, Bool.true_or]

theorem State.readWord_snapshot {s : State} {n tb v : Nat} (htb : tb < 4) (hv : tget (shadowKey n (0xB000 + 8 * tb)) s.hst.shadow = some v) :
    s.readWord n (0xB000 + 8 * tb) =
      (v, { s with hst := { s.hst with shadow := tdel (shadowKey n (0xB000 + 8 * tb)) s.hst.shadow } }) := by
  rw [State.readWord_of_captured hv, s.shadowSeen_now n htb, if_pos rfl]

theorem State.readWord_nowLive {s : State} {n tb : Nat} (htb : tb < 4) (hnone : tget (shadowKey n (0xB000 + 8 * tb)) s.hst.shadow = none)
    (hcreated : s.created n = true) (hup : s.pwr.startupDone = true) : s.readWord n (0xB000 + 8 * tb) =
      (s.liveReg n (0xB000 + 8 * tb), { s with hst := { s.hst with
        shadow := tset (shadowKey n (0xB000 + 8 * tb + 4)) (s.liveReg n (0xB000 + 8 * tb + 4)) s.hst.shadow } }) := by
  have hstate : (s.part n).state = .created := by simpa [State.created] using hcreated
  have hcond : (0xB000 ≤ 0xB000 + 8 * tb && 0xB000 + 8 * tb < 0xB020 && (0xB000 + 8 * tb) % 8 == 0 && (s.part n).state != .absent
      && s.pwr.startupDone) = true := by
    simp [hstate, hup]
    omega
  simp only [State.readWord, hnone, hcond, if_true]

theorem exec_tbNowLoRead {t n tb : Nat} {s : State} (hn : n < 8) (htb : tb < 4) :
    exec (.tbNowLoRead t n tb) s = .next { ((s.at t).readWord n (0xB000 + 8 * tb)).2 with
      hst := { ((s.at t).readWord n (0xB000 + 8 * tb)).2.hst with barValue := ((s.at t).readWord n (0xB000 + 8 * tb)).1 % 4294967296 } } := by
  have hrange : (decide (n < 8) && decide (tb < 4)) = true := by rw [decide_eq_true hn, decide_eq_true htb]; rfl
  refine event_next (f := fun s => s.nowRead n tb) ?_
  rw [State.nowRead, hrange, if_pos rfl, State.barRead_word (by omega)]

/-! ## The monitors and the trace ring -/

theorem State.latmonWrite_owner {s : State} (hopen : s.barOpen 0 = true) (v : Nat) : s.latmonWrite 0 v =
    { s with lat := { s.lat with
      enable := v.testBit 0
      max := if v.testBit 1 then (if s.lat.tick = s.now then s.lat.tickMax else []) else s.lat.max
      excess := maskOf ((List.range 6).map (fun i => s.lat.excess.testBit i
        && (!v.testBit (8 + i) || (s.lat.tick == s.now && s.lat.tickOver.testBit i)))) } } := by
  simp only [State.latmonWrite, hopen, BEq.rfl, Bool.and_self, if_true, beq_iff_eq]

theorem State.traceConsWrite_taken {s : State} {n v : Nat} {r : TraceRing} (hopen : s.barOpen n = true) (hr : tget n s.sch.traces = some r)
    (hfit : (r.prod - BitVec.ofNat 32 v).toNat ≤ r.set.ringSize) :
    s.traceConsWrite n v = { s with sch := { s.sch with traces := tset n { r with cons := BitVec.ofNat 32 v } s.sch.traces } } := by
  simp only [State.traceConsWrite, hr, hopen, decide_eq_true hfit, Bool.and_self, if_true]

theorem State.traceConsWrite_ignored {s : State} {n v : Nat} {r : TraceRing} (hr : tget n s.sch.traces = some r)
    (hbad : s.barOpen n = false ∨ r.set.ringSize < (r.prod - BitVec.ofNat 32 v).toNat) : s.traceConsWrite n v = s := by
  rcases hbad with hshut | hbad
  · simp only [State.traceConsWrite, hr, hshut, Bool.false_and, Bool.false_eq_true, if_false]
  · simp only [State.traceConsWrite, hr, decide_eq_false (Nat.not_le.mpr hbad), Bool.and_false, Bool.false_eq_true, if_false]

theorem State.traceConsWrite_shut {s : State} {n : Nat} (hshut : s.barOpen n = false) (v : Nat) : s.traceConsWrite n v = s := by
  cases hr : tget n s.sch.traces with
  | none => simp only [State.traceConsWrite, hr]
  | some r => exact State.traceConsWrite_ignored hr (.inl hshut)

/-! ## Writes of BAR0 -/

theorem State.barWrite_shut {s : State} {n : Nat} (hshut : s.barOpen n = false) (off w v : Nat) : s.barWrite n off w v = s :=
  if_pos (by rw [hshut]; rfl)

theorem State.barWrite_32 {s : State} {n off : Nat} (hopen : s.barOpen n = true) (halign : off % 4 = 0) (v : Nat) :
    s.barWrite n off 32 v = s.writeWord n off (v % 4294967296) := by
  simp [State.barWrite, hopen, halign, lowWord]

theorem State.barWrite_64 {s : State} {n off : Nat} (hopen : s.barOpen n = true) (halign : off % 8 = 0) (v : Nat) :
    s.barWrite n off 64 v = (s.writeWord n off (v % 4294967296)).writeWord n (off + 4) (v / 4294967296 % 4294967296) := by
  simp [State.barWrite, hopen, halign, lowWord, highWord]

theorem State.barWrite_unaligned {s : State} {n off : Nat} (halign : off % 4 ≠ 0) (v : Nat) :
    s.barWrite n off 32 v = s ∧ s.barWrite n off 64 v = s := by
  have halign8 : off % 8 ≠ 0 := by omega
  simp [State.barWrite, halign, halign8]

/-- A register that has a row of its own is written as by it: the word is the row's write, and the row does nothing for a partition without its BAR0. -/
theorem exec_registerWrite_row {s : State} {t n off v : Nat} {row : Instr} {f : State → State} (halign : off % 4 = 0) (hv : v < 4294967296)
    (hrow : exec row s = event t s f) (hword : (s.at t).writeWord n off v = f (s.at t))
    (hshut : (s.at t).barOpen n = false → f (s.at t) = s.at t) : exec (.registerWrite t n off 32 v) s = exec row s := by
  rw [exec_registerWrite_eq, hrow, event]
  cases hopen : (s.at t).barOpen n with
  | true => rw [State.barWrite_word hopen halign hv, hword]
  | false => rw [State.barWrite_shut hopen, hshut hopen]

/-- The queue registers are written by rows of a partition that has its BAR0. -/
theorem exec_registerWrite_open {s : State} {t n off v : Nat} {row : Instr} {f : State → State} (halign : off % 4 = 0) (hv : v < 4294967296)
    (hrow : exec row s = event t s (fun s => if s.barOpen n then f s else s)) (hword : (s.at t).writeWord n off v = f (s.at t)) :
    exec (.registerWrite t n off 32 v) s = exec row s := by
  rw [exec_registerWrite_eq, hrow, event]
  cases hopen : (s.at t).barOpen n with
  | true => rw [State.barWrite_word hopen halign hv, hword, if_pos rfl]
  | false => rw [State.barWrite_shut hopen, if_neg Bool.false_ne_true]

theorem State.writeWord_queue (s : State) {n v : Nat} :
    s.writeWord n 0x0C060 v = if v.testBit 0 then s.queueEnable n else s.queueDisable n := rfl

end Sys2Proof.Machine

namespace Sys2Proof.Proofs
open Sys2Proof.Machine

/-- Settles O41: the rows of a partition that has its BAR0 take what fits and leave what does not. -/
theorem queueRegisterRowsComplete : Obligations.QueueRegisterRowsComplete := by
  unfold Obligations.QueueRegisterRowsComplete
  refine ⟨fun t n v s hopen => ⟨fun halign hfit => ?_, fun hbad => ?_, fun hfit => ?_, fun hbad => ?_, fun hfit => ?_, fun hbad => ?_⟩,
    fun t n s hopen hoff => ⟨fun hfits => ?_, fun hfits => ?_⟩, fun t n s hopen => exec_hstQueueDisable_open hopen⟩
  · exact (exec_hstSqTailWrite_open hopen v).trans (congrArg _ (State.sqTailWrite_taken (s := s.at t) (by rwa [BitVec.toNat_ofNat]) hfit))
  · exact (exec_hstSqTailWrite_open hopen v).trans (congrArg _ (State.sqTailWrite_ignored (s := s.at t) (by rwa [BitVec.toNat_ofNat])))
  · exact (exec_hstRqHeadWrite_open hopen v).trans (congrArg _ (State.rqHeadWrite_taken (s := s.at t) hfit))
  · exact (exec_hstRqHeadWrite_open hopen v).trans (congrArg _ (State.rqHeadWrite_ignored (s := s.at t) hbad))
  · exact (exec_hstEvtConsWrite_open hopen v).trans (congrArg _ (State.evtConsWrite_taken (s := s.at t) hfit))
  · exact (exec_hstEvtConsWrite_open hopen v).trans (congrArg _ (State.evtConsWrite_ignored (s := s.at t) hbad))
  · exact (exec_hstQueueEnable_open hopen).trans (congrArg _ (State.queueEnable_starts (s := s.at t) hoff hfits))
  · exact (exec_hstQueueEnable_open hopen).trans (congrArg _ (State.queueEnable_errs (s := s.at t) hoff hfits))

/-- Settles O42: a word written is the write of its window, which for a register with a row of its own is that row's. -/
theorem registerRowsComplete : Obligations.RegisterRowsComplete := by
  unfold Obligations.RegisterRowsComplete
  refine ⟨fun t n tb s hn htb => ⟨fun v hv => ?_, fun hnone hcreated hup => ?_⟩,
    fun t v s hopen => event_next (f := fun s => s.latmonWrite 0 v) (State.latmonWrite_owner (s := s.at t) hopen v),
    fun t n v s r hopen hr => ⟨fun hfit => event_next (f := fun s => s.traceConsWrite n v) (State.traceConsWrite_taken (s := s.at t) hopen hr hfit),
      fun hbad => event_next (f := fun s => s.traceConsWrite n v) (State.traceConsWrite_ignored (s := s.at t) hr (.inr hbad))⟩,
    fun t n off v s hopen => ⟨fun halign => ?_, fun halign => ?_, fun halign => ?_⟩,
    fun t n v s hv => ⟨?_, ?_, ?_, fun hbit => ?_, fun hbit => ?_, ?_, ?_, ?_⟩⟩
  · rw [exec_tbNowLoRead hn htb, State.readWord_snapshot (s := s.at t) htb hv]
    rfl
  · rw [exec_tbNowLoRead hn htb, State.readWord_nowLive (s := s.at t) htb hnone hcreated hup]
    rfl
  · rw [exec_registerWrite_eq, State.barWrite_32 (s := s.at t) hopen halign]
  · rw [exec_registerWrite_eq, State.barWrite_64 (s := s.at t) hopen halign]
  · obtain ⟨h32, h64⟩ := State.barWrite_unaligned (s := s.at t) (n := n) halign v
    exact ⟨by rw [exec_registerWrite_eq, h32], by rw [exec_registerWrite_eq, h64]⟩
  · exact exec_registerWrite_open (f := fun s => s.sqTailWrite n (BitVec.ofNat 32 v)) rfl hv rfl rfl
  · exact exec_registerWrite_open (f := fun s => s.rqHeadWrite n (BitVec.ofNat 32 v)) rfl hv rfl rfl
  · exact exec_registerWrite_open (f := fun s => s.evtConsWrite n (BitVec.ofNat 32 v)) rfl hv rfl rfl
  · exact exec_registerWrite_open (f := fun s => s.queueEnable n) rfl hv rfl ((State.writeWord_queue _).trans (if_pos hbit))
  · exact exec_registerWrite_open (f := fun s => s.queueDisable n) rfl hv rfl ((State.writeWord_queue _).trans (if_neg (by rw [hbit]; exact Bool.false_ne_true)))
  · exact exec_registerWrite_row (f := fun s => s.traceConsWrite n v) rfl hv rfl rfl (fun hshut => State.traceConsWrite_shut hshut v)
  · exact exec_registerWrite_row (f := fun s => s.latmonWrite n v) rfl hv rfl rfl (fun hshut => if_neg (by rw [hshut, Bool.and_false]; exact Bool.false_ne_true))
  · exact exec_registerWrite_row (f := fun s => s.wchSnap n v) rfl hv rfl rfl (fun hshut => if_neg (by rw [hshut, Bool.and_false]; exact Bool.false_ne_true))

end Sys2Proof.Proofs
end

section
/-!
PROOFS. The commands of the owner partition alone (14_hosts), the snapshot registers (R532), the test port (18_package R518) and the cold values.
-/
namespace Sys2Proof.Machine

/-! ## The owner partition -/

theorem ownerOnly_of_other {h : Pkt} (hpart : h.part ≠ 0) : ownerOnly h = some (stNotGranted, 0xF0) := if_neg (by simpa using hpart)

/-- The check that heads each command of the owner partition turns away every other. -/
theorem check_refuses_others {h : Pkt} (hpart : h.part ≠ 0) (s : State) (cs : List (Option (Nat × Nat))) (k : Unit → CmdOut) :
    check s (ownerOnly h :: cs) k = refuse s stNotGranted 0xF0 := by
  rw [ownerOnly_of_other hpart]
  rfl

theorem groupSet_refuses_others {h : Pkt} (hpart : h.part ≠ 0) (s : State) (p : PltGroupSet) : groupSet s h p = refuse s stNotGranted 0xF0 := by
  unfold groupSet
  split
  · exact check_refuses_others hpart _ _ _
  · exact check_refuses_others hpart _ _ _

/-! ## Snapshots -/

section
variable {t n v : Nat} {s : State} {allowed : Bool} {offs : List Nat}

theorem event_snapIf_written (hopen : s.barOpen n = true) (hv : v.testBit 0 = true) (ha : allowed = true) :
    event t s (fun s => s.snapIf n v allowed offs) = .next ((s.at t).snap n offs) :=
  event_next ((s.at t).snapIf_of_written offs hv ha ((s.barOpen_at t n).trans hopen))

theorem event_snapIf_ignored (h : s.barOpen n = false ∨ v.testBit 0 = false) :
    event t s (fun s => s.snapIf n v allowed offs) = .next (s.at t) := by
  refine event_next (if_neg ?_)
  rcases h with hshut | hv
  · simp [s.barOpen_at, hshut]
  · simp [hv]

end

/-! ## The test port -/

/-- The rising edge touches the shift registers and the count of free values only. -/
theorem State.tapRise_frame (s : State) (tdi : Bool) :
    s.tapRise tdi = { s with tap := (s.tapRise tdi).tap, freeCount := (s.tapRise tdi).freeCount } := by
  unfold State.tapRise
  split <;> rfl

theorem State.tapFall_frame (s : State) : s.tapFall = { s with tap := s.tapFall.tap } := by
  unfold State.tapFall
  split <;> try rfl
  split <;> rfl

/-- The falling edge leaves the controller's state and the shift registers. -/
theorem State.tapFall_shifts (s : State) :
    s.tapFall.tap.state = s.tap.state ∧ s.tapFall.tap.drShift = s.tap.drShift ∧ s.tapFall.tap.irShift = s.tap.irShift := by
  unfold State.tapFall
  split <;> try exact ⟨rfl, rfl, rfl⟩
  split <;> exact ⟨rfl, rfl, rfl⟩

theorem State.tapRise_shiftDr {s : State} (hstate : s.tap.state = .shiftDr) (tdi : Bool) : (s.tapRise tdi).tap.drShift = s.tap.drShift.drop 1 ++ [tdi] := by
  simp only [State.tapRise, hstate, tapShift]

theorem State.tapRise_shiftIr {s : State} (hstate : s.tap.state = .shiftIr) (tdi : Bool) : (s.tapRise tdi).tap.irShift = s.tap.irShift.drop 1 ++ [tdi] := by
  simp only [State.tapRise, hstate, tapShift]

theorem State.tapFall_updateIr {s : State} (hstate : s.tap.state = .updateIr) : s.tapFall.tap.instr = s.tapDecode s.tap.irShift := by
  simp only [State.tapFall, hstate]

/-- R518: with no boundary scan offered, a code is IDCODE or BYPASS. -/
theorem State.tapDecode_closed {s : State} (hclosed : s.boundaryScan = false) (ir : List Bool) : s.tapDecode ir = .idcode ∨ s.tapDecode ir = .bypass := by
  unfold State.tapDecode
  rw [hclosed, Bool.and_false]
  split
  · exact .inr rfl
  split
  · exact .inl rfl
  · exact .inr rfl

theorem State.boundaryScan_closed {s : State} (h : s.sec.life = .deployed ∨ s.sec.life = .retired) : s.boundaryScan = false := by
  rcases h with h | h <;> simp [State.boundaryScan, h]

/-- The state between the edges of a cycle of TCK. -/
def State.tapRisen (s : State) (tms tdi : Bool) : State :=
  { s.tapRise tdi with tap := { (s.tapRise tdi).tap with state := tapNext s.tap.state tms } }

theorem State.tapCycle_risen (s : State) (tms tdi : Bool) : s.tapCycle false tms tdi = (s.tapRisen tms tdi).tapFall := rfl

theorem State.tapCycle_frame (s : State) (tms tdi : Bool) :
    s.tapCycle false tms tdi = { s with tap := (s.tapCycle false tms tdi).tap, freeCount := (s.tapCycle false tms tdi).freeCount } := by
  rw [State.tapCycle_risen, State.tapFall_frame, State.tapRisen, State.tapRise_frame]

theorem State.tapRisen_life (s : State) (tms tdi : Bool) : (s.tapRisen tms tdi).sec = s.sec := by
  rw [State.tapRisen, State.tapRise_frame]

/-! ## The cold values -/

theorem State.reset_created (n : Nat) : State.reset.created n = true ↔ n = 0 := by
  have hparts : State.reset.hst.parts = [(0, ownerPart)] := rfl
  by_cases hn : n = 0
  · subst hn
    exact iff_of_true rfl rfl
  · refine iff_of_false ?_ hn
    simp [State.created, State.part, hparts, tgetD, tget, hn]

end Sys2Proof.Machine

namespace Sys2Proof.Proofs
open Sys2Proof.Machine

/-- Settles O45: the caller is the first check of each of these commands. -/
theorem ownerCommandsRefuseOthers : Obligations.OwnerCommandsRefuseOthers := by
  unfold Obligations.OwnerCommandsRefuseOthers
  intro h s s1 hpart
  have hother := check_refuses_others hpart s1
  exact ⟨fun p hs => cmd_answers hs (hother _ _), fun p hs => cmd_answers hs (hother _ _), fun p hs => cmd_answers hs (hother _ _),
    fun kind hs => cmd_answers hs (hother _ _), fun p hs => cmd_answers hs (hother _ _), fun p hs => cmd_answers hs (hother _ _),
    fun cluster hs => cmd_answers hs (hother _ _), fun op hs => cmd_answers hs (hother _ _), fun p hs => cmd_answers hs (hother _ _),
    fun p hs => cmd_answers hs (hother _ _), fun p hs => cmd_answers hs (hother _ _), fun p hs => cmd_answers hs (hother _ _),
    fun p hs => cmd_answers hs (hother _ _), fun p hs => cmd_answers hs (by unfold hstPrivSet; exact hother _ _), fun force hs => cmd_answers hs (hother _ _),
    fun hs => cmd_answers hs (hother _ _), fun p hs => cmd_answers hs (by unfold tamperClear; exact hother _ _), fun p hs => cmd_answers hs (hother _ _),
    fun p hs => cmd_answers hs (hother _ _), fun parts hs => cmd_answers hs (hother _ _), fun p hs => cmd_answers hs (hother _ _),
    fun p hs => cmd_answers hs (hother _ _), fun p hs => cmd_answers hs (hother _ _), fun cluster hs => cmd_answers hs (hother _ _),
    fun p hs => cmd_answers hs (groupSet_refuses_others hpart s1 _)⟩

/-- Settles O60: each row is the capture of its registers, under bit 0, the partition's BAR0 and the row's own condition. -/
theorem snapshotRowsComplete : Obligations.SnapshotRowsComplete := by
  unfold Obligations.SnapshotRowsComplete
  refine fun t n v s => ⟨fun hopen hv => ?_, fun hbad => ?_⟩
  · have hcap : ∀ offs, event t s (fun s => s.snapIf n v true offs) = .next ((s.at t).snap n offs) := fun _ => event_snapIf_written hopen hv rfl
    refine ⟨hcap _, hcap _, hcap _, hcap _, hcap _, hcap _, hcap _, hcap _, hcap _, hcap _, hcap _, ?_, fun p hp => ?_⟩
    · rw [exec_ingCntSnapWrite]
      by_cases hn : n = 0
      · subst hn
        exact event_snapIf_written hopen hv rfl
      · rw [if_neg hn]
        exact event_next ((s.at t).snapIf_of_ignored n _ (.inr (beq_false_of_ne hn)))
    · exact event_snapIf_written hopen hv (decide_eq_true hp)
  · have hnone : ∀ allowed offs, event t s (fun s => s.snapIf n v allowed offs) = .next (s.at t) := fun _ _ => event_snapIf_ignored hbad
    exact ⟨hnone _ _, hnone _ _, hnone _ _, hnone _ _, hnone _ _, hnone _ _, hnone _ _, hnone _ _, hnone _ _, hnone _ _, hnone _ _, hnone _ _,
      fun p => hnone _ _⟩

/-- Settles O44: the two edges of a cycle touch the test port and the count of free values only, and the instruction is decoded at the falling edge. -/
theorem testPortRowCompletes : Obligations.TestPortRowCompletes := by
  unfold Obligations.TestPortRowCompletes
  refine ⟨fun t tms tdi s => rfl, fun t tms tdi s => ?_⟩
  obtain ⟨hstate, hdr, hir⟩ := ((s.at t).tapRisen tms tdi).tapFall_shifts
  refine ⟨(s.at t).tapCycle false tms tdi, rfl, hstate, (s.at t).tapCycle_frame tms tdi, fun hshift => ?_, fun hshift => ?_, fun hupdate hlife => ?_⟩
  · exact hdr.trans (State.tapRise_shiftDr (s := s.at t) hshift tdi)
  · exact hir.trans (State.tapRise_shiftIr (s := s.at t) hshift tdi)
  · have hclosed : ((s.at t).tapRisen tms tdi).boundaryScan = false := by
      refine State.boundaryScan_closed ?_
      rw [State.tapRisen_life]
      exact hlife
    rw [State.tapCycle_risen, State.tapFall_updateIr (hstate.symm.trans hupdate)]
    exact State.tapDecode_closed hclosed _

/-- Settles O59: each value is the one that `State.reset` writes. -/
theorem resetValues : Obligations.ResetValues := by
  unfold Obligations.ResetValues
  exact ⟨State.reset_created, fun _ _ => rfl, rfl, rfl, rfl, rfl, rfl, rfl, rfl, rfl, rfl, rfl, rfl, rfl, fun _ => ⟨rfl, rfl⟩, rfl, rfl, rfl, rfl, rfl, rfl, rfl, rfl, rfl,
    rfl, rfl, rfl⟩

end Sys2Proof.Proofs
end

section
/-!
PROOFS. The cold reset, its release, PERST_N and the end of start-up (17_power_states R496 to R500, 15_security R444).
-/
namespace Sys2Proof.Machine

/-! ## The cold reset -/

theorem State.refreshErr_holding {s : State} (hholds : s.errHolds = true) :
    s.refreshErr = { s with flt := { s.flt with errFault := true, errP := false, errN := false } } := if_pos hholds

/-- What a reset strips stays stripped under its event. -/
theorem State.stripped_hosts (s : State) (cold : Bool) : HostsOnly (s.stripped cold) (s.strip cold) := by
  unfold State.stripped
  dsimp only
  split
  · simp [HostsOnly]
  · exact State.evt_hosts _ _ _ _

/-- The state in which a cold reset judges the ERR pair. -/
def State.coldHeld (s : State) : State :=
  { s.stripped true with pwr := { (s.stripped true).pwr with cause := 1, porHeld := true, perstHeld := s.pwr.perstHeld } }

theorem State.coldHeld_errHolds (s : State) : s.coldHeld.errHolds = true := by
  simp [State.errHolds, State.coldHeld]

theorem State.coldReset_held (s : State) :
    s.coldReset = { s.coldHeld with flt := { s.coldHeld.flt with errFault := true, errP := false, errN := false } } :=
  State.refreshErr_holding s.coldHeld_errHolds

/-- No key is left in the slots of a stripped security core. -/
theorem tmap_keyless {l : Table KeySlot} {n : Nat} {k : KeySlot} (hk : tget n (tmap (fun _ (k : KeySlot) => { k with key := none }) l) = some k) :
    k.key = none := by
  induction l with
  | nil => cases hk
  | cons e l ih =>
    simp only [tmap, List.map_cons, tget] at hk
    split at hk
    · exact (Option.some.inj hk) ▸ rfl
    · exact ih hk

theorem CfgSt.abandon_idle {c : CfgSt} (hidle : c.loading = none) : c.abandon = c := if_pos (by rw [hidle]; rfl)

/-! ## Start-up -/

theorem State.startUp_boots {s : State} {r : StartupReport} {b : Nat} {fallback : Bool} (hcan : s.canStartUp = true) (hbank : s.bootBank r = some (b, fallback)) :
    s.startUp r = s.startupEnd r b fallback := by
  simp only [State.startUp, hcan, hbank, Bool.not_true, Bool.false_eq_true, if_false]

theorem State.startUp_held {s : State} {r : StartupReport} (hcan : s.canStartUp = true) (hbank : s.bootBank r = none) :
    s.startUp r = s.enterBootHold := by
  simp only [State.startUp, hcan, hbank, Bool.not_true, Bool.false_eq_true, if_false]

theorem State.startUp_waits {s : State} (r : StartupReport) (hcan : s.canStartUp = false) : s.startUp r = s := if_pos (by rw [hcan]; rfl)

/-- A start-up that may end is held with the ERR pair at fault. -/
theorem State.enterBootHold_holds {s : State} (hcan : s.canStartUp = true) : s.enterBootHold =
    { s with sec := { s.sec with bootHold := true }, flt := { s.flt with errFault := true, errP := false, errN := false } } := by
  simp only [State.canStartUp, Bool.and_eq_true, Bool.not_eq_true'] at hcan
  obtain ⟨⟨⟨⟨⟨hstart, hpor⟩, hperst⟩, -⟩, -⟩, -⟩ := hcan
  have hholds : ({ s with sec := { s.sec with bootHold := true } } : State).errHolds = true := by simp [State.errHolds]
  rw [State.enterBootHold, hstart, hpor, hperst]
  exact State.refreshErr_holding hholds

/-! ## The reset pins -/

theorem State.porRelease_high {s : State} (hheld : s.pwr.porHeld = true) (hperst : s.pwr.perstHeld = false) :
    s.porRelease = ({ s with now := 0, cap := 0, pwr := { s.pwr with porHeld := false } } : State).startBoot := by
  simp only [State.porRelease, hheld, hperst, Bool.not_true, Bool.false_eq_true, if_false]

theorem State.porRelease_perst {s : State} (hheld : s.pwr.porHeld = true) (hperst : s.pwr.perstHeld = true) :
    s.porRelease = ({ s with now := 0, cap := 0, pwr := { s.pwr with porHeld := false } } : State).refreshErr := by
  simp only [State.porRelease, hheld, hperst, Bool.not_true, Bool.false_eq_true, if_false, if_true]

theorem State.perstAssert_resets {s : State} (hpor : s.pwr.porHeld = false) (hperst : s.pwr.perstHeld = false) :
    s.perstAssert = ({ s with pwr := { s.pwr with perstHeld := true } } : State).deviceReset 2 := if_neg (by simp [hpor, hperst])

theorem State.perstAssert_notes {s : State} (hheld : s.pwr.porHeld = true ∨ s.pwr.perstHeld = true) :
    s.perstAssert = { s with pwr := { s.pwr with perstHeld := true } } := if_pos (by simpa [or_comm] using hheld)

theorem State.perstRelease_boots {s : State} (hpor : s.pwr.porHeld = false) (hperst : s.pwr.perstHeld = true) :
    s.perstRelease = ({ s with pwr := { s.pwr with perstHeld := false } } : State).startBoot := if_neg (by simp [hpor, hperst])

theorem State.perstRelease_notes {s : State} (hheld : s.pwr.porHeld = true ∨ s.pwr.perstHeld = false) :
    s.perstRelease = { s with pwr := { s.pwr with perstHeld := false } } := if_pos (by simpa [or_comm] using hheld)

end Sys2Proof.Machine

namespace Sys2Proof.Proofs
open Sys2Proof.Machine

/-- Settles O43: a cold reset is the strip, then the ERR pair held at fault by POR_N; the other rows are the cases of the two pins and of the two banks. -/
theorem startupRowsComplete : Obligations.StartupRowsComplete := by
  unfold Obligations.StartupRowsComplete
  refine ⟨fun t s e he => ⟨?_, ?_⟩, fun t s u hu => ⟨fun hpor hperst => ?_, fun hpor hperst => ?_, fun hpor => ?_⟩,
    fun t s u hu => ⟨fun hpor hperst => ?_, fun hheld => ?_⟩, fun t s u hu => ⟨fun hpor hperst => ?_, fun hheld => ?_⟩,
    fun t r s => ⟨fun b fallback hcan hbank => ?_, fun hcan hbank => ⟨?_, ?_⟩, fun hcan => ?_⟩⟩
  · exact event_next (f := fun s => s.coldReset) he.symm
  · rw [State.coldReset_held] at he
    obtain ⟨-, hstart, hheld, hwait, -⟩ := (s.at t).stripped_startsUp true
    obtain ⟨-, -, -, -, -, htt, hflt, hpwr, -, -, hsec, hcfg, -, halcx, hing, -, -, -, -, hwch, -, hosc, hcoh, -, htap⟩ := (s.at t).stripped_hosts true
    subst he
    refine ⟨congrArg (·.state) hpwr, rfl, rfl, hstart, rfl, rfl, rfl, congrArg (·.history) hflt, htt, hing, hwch, hosc, hcoh, htap, hheld, hwait,
      fun n k hk => ?_, congrArg (·.life) hsec, congrArg (·.tamperLatched) hsec, congrArg (·.slots) halcx, fun hidle => ?_⟩
    · exact tmap_keyless ((congrArg (fun x => tget n x.slots) hsec).symm.trans hk)
    · have hkept : s.cfg.abandon = s.cfg := CfgSt.abandon_idle hidle
      exact ⟨(congrArg (·.copyA) hcfg).trans (congrArg (·.copyA) hkept), (congrArg (·.copyB) hcfg).trans (congrArg (·.copyB) hkept)⟩
  · exact hu ▸ congrArg Host.Outcome.next (State.porRelease_high hpor hperst)
  · exact hu ▸ congrArg Host.Outcome.next (State.porRelease_perst hpor hperst)
  · exact congrArg Host.Outcome.next (if_pos (by rw [hpor]; rfl))
  · exact hu ▸ event_next (f := fun s => s.perstAssert) (State.perstAssert_resets (s := s.at t) hpor hperst)
  · exact hu ▸ event_next (f := fun s => s.perstAssert) (State.perstAssert_notes (s := s.at t) hheld)
  · exact hu ▸ event_next (f := fun s => s.perstRelease) (State.perstRelease_boots (s := s.at t) hpor hperst)
  · exact hu ▸ event_next (f := fun s => s.perstRelease) (State.perstRelease_notes (s := s.at t) hheld)
  · exact event_next (f := fun s => s.startUp r) (State.startUp_boots (s := s.at t) hcan hbank)
  · exact event_next (f := fun s => s.startUp r) (State.startUp_held (s := s.at t) hcan hbank)
  · rw [State.enterBootHold_holds (s := s.at t) hcan]
    exact ⟨rfl, rfl, rfl, rfl⟩
  · exact event_next (f := fun s => s.startUp r) (State.startUp_waits (s := s.at t) r hcan)

end Sys2Proof.Proofs
end
